-- ==== Sys2Proof/Word.lean ====
section
/-! DEFINITION. The word types of the e200z446n3 model (spec/00_scope.md R20, spec/10_state.md R50).

All widths are fixed. Bit 0 is the most significant bit in the spec; helpers that follow this numbering are in
Sys2Proof/Machine/Bits.lean. -/

namespace Sys2Proof

/-- One byte of memory. -/
abbrev Byte := BitVec 8

/-- A half word. -/
abbrev Half := BitVec 16

/-- A word: the 32 bits base instructions, addresses and special-purpose registers use. -/
abbrev Word := BitVec 32

/-- A double word: a general-purpose register or the accumulator. -/
abbrev Dword := BitVec 64

/-- The number of a general-purpose register. -/
abbrev Reg := BitVec 5

/-- The number of a condition-register field. -/
abbrev CrField := BitVec 3

/-- The number of a condition-register bit. -/
abbrev CrBit := BitVec 5

end Sys2Proof
end

