-- ==== Sys2Proof/Machine/Bits.lean ====
section
/-! DEFINITION. Bit fields in the spec's numbering (bit 0 the most significant, spec/00_scope.md R20), and byte order
(spec/20_memory.md R405). -/

namespace Sys2Proof.Machine

/-- Bit i of a word, bit 0 the most significant. -/
def bit (w : Word) (i : Nat) : Bool := w.getMsbD i

/-- The word whose only 1 is bit i. -/
def oneBit (i : Nat) : Word := 0x80000000#32 >>> i

/-- The field of n bits that starts at bit a. -/
def bits (a n : Nat) (w : Word) : BitVec n := w.extractLsb' (32 - a - n) n

/-- The word with bit i replaced. -/
def setBit (w : Word) (i : Nat) (v : Bool) : Word := if v then w ||| oneBit i else w &&& ~~~(oneBit i)

/-- The word with the field of n bits at bit a replaced. -/
def putBits (a n : Nat) (v : BitVec n) (w : Word) : Word :=
  (w &&& ~~~((BitVec.allOnes n).setWidth 32 <<< (32 - a - n))) ||| (v.setWidth 32 <<< (32 - a - n))

/-- A word that is m where the condition holds, else 0. -/
def when (c : Bool) (m : Word) : Word := if c then m else 0

/-- The word with its k low-order bits cleared (lo of spec/61_debug.md R2210). -/
def clearLow (w : Word) (k : Nat) : Word := (w >>> k) <<< k

/-- The upper half of a double word (spec/10_state.md R50). -/
def hi (d : Dword) : Word := d.extractLsb' 32 32

/-- The lower half of a double word. -/
def lo (d : Dword) : Word := d.extractLsb' 0 32

/-- Half word n (0 to 3, 0 the most significant) of a double word (spec/13_state_spe.md R1051). -/
def halfOf (d : Dword) (n : Nat) : Half := d.extractLsb' (48 - 16 * n) 16

/-- Byte n (0 to 7, 0 the most significant) of a double word. -/
def byteOf (d : Dword) (n : Nat) : Byte := d.extractLsb' (56 - 8 * n) 8

/-- The number a list of bytes stands for, the first byte the most significant. -/
def ofBytes (bs : List Byte) : Dword := bs.foldl (fun a b => (a <<< 8) ||| b.setWidth 64) 0

/-- The n low-order bytes of a value, the most significant first. -/
def toBytes : Nat → Dword → List Byte
  | 0, _ => []
  | n + 1, v => (v >>> (8 * n)).setWidth 8 :: toBytes n v

/-- Bytes at ascending addresses from bytes most significant first, or back, in the page's byte order: E = 1 is little-endian
(spec/20_memory.md R405). -/
def inOrder (e : Bool) (bs : List Byte) : List Byte := if e then bs.reverse else bs

/-- The bytes in reverse order, as a number of the same width (the byte-reversing loads and stores). -/
def reverseBytes (n : Nat) (v : Dword) : Dword := ofBytes (toBytes n v).reverse

/-- Sign extension of a Boolean-carrying field to a word. -/
def sext {n : Nat} (v : BitVec n) : Word := v.signExtend 32

/-- Zero extension to a word. -/
def zext {n : Nat} (v : BitVec n) : Word := v.setWidth 32

/-- One if the condition holds. -/
def ofBool (b : Bool) : Word := if b then 1 else 0

/-- The exclusive or of all bits of a word. -/
def parity {n : Nat} (v : BitVec n) : Bool := (List.range n).foldl (fun a i => xor a (v.getLsbD i)) false

end Sys2Proof.Machine
end

