-- ==== Sys2Proof/Config.lean ====
section
/-! DEFINITION. What the spec leaves to an implementation or leaves without a value.

Every constant here is opaque: it has no body, so no proof can learn a value of it, and a claim that mentions one holds
whatever it is. A free value is one of these constants applied to the counter Sys2Proof.Machine.State.freeCtr, which the
step advances, so that two executions may see two different values (assumption log entry 4). -/

namespace Sys2Proof.Config

/-- GPR[RT] after a divide that the spec calls undefined (spec/93_implementation_defined.md U50). DESIGN CHOICE, entry 4. -/
opaque freeQuotient : Nat → Word

/-- CR0[LT, GT, EQ] after the record form of such a divide (U50). DESIGN CHOICE, entry 4. -/
opaque freeDivCr : Nat → BitVec 3

/-- The LT, EQ and SO positions of the CR field a scalar floating-point compare or test writes (U30), in this order.
DESIGN CHOICE, entry 4. -/
opaque freeCompareBits : Nat → BitVec 3

/-- MAS1[TID] at a TLB miss with a reserved MAS4[TIDSELD] (U43). DESIGN CHOICE, entry 4. -/
opaque freeTid : Nat → BitVec 8

/-- The real address given by a lookup that hits more than one TLB entry (U42 (a)). DESIGN CHOICE, entry 4. -/
opaque freeMultiHitAddress : Nat → Word

/-- The attributes such a lookup gives: VLE, W, I, M, G, E from the most significant bit (U42 (a)). DESIGN CHOICE,
entry 4. -/
opaque freeMultiHitAttributes : Nat → BitVec 6

/-- Check bits a cache fill writes while L1CSR1[ICEDT] holds a reserved code (spec/11_state_mmu_cache.md R243). DESIGN
CHOICE, entry 4. -/
opaque freeCheckBits : Nat → Byte

/-- The entry number `tlbsx` reports when more than one entry matches (U42 (a)). DESIGN CHOICE, entry 4. -/
opaque freeMultiHitEntry : Nat → BitVec 4

/-- DEAR after the data storage interrupt of a cache-locking instruction in user mode (spec/60_exceptions.md R2022 (c),
U12). DESIGN CHOICE, entry 4. -/
opaque freeDear : Nat → Word

/-- The time base after a change of HID0[SEL_TBCLK] while HID0[TBEN] = 1 (U54). DESIGN CHOICE, entry 4. -/
opaque freeTimeBase : Nat → Dword

/-- What a reset event that the host delivers leaves without a value: the content of the register with the given index, called
unaffected by the reset tables, after a power-on reset (U1), and the fields of an invalidated TLB entry after either reset (U41).
First argument the free-value counter, second the index. DESIGN CHOICE, entry 1. -/
opaque powerOnValue : Nat → Nat → Dword

/-- The parameter L1CFG0_VALUE (spec/11_state_mmu_cache.md R240, spec/92_eei_decisions.md D53). DESIGN CHOICE, entry 5. -/
opaque l1cfg0Value : Word

/-- The eight bits of the JTAG identification that are strapped inside the core (spec/12_state_debug.md R328,
spec/91_not_in_source.md N70). DESIGN CHOICE, entry 7. -/
opaque jtagStrap : Byte

/-- The effective address a `tlbre` or `tlbwe`, which has none, drives on the data port; the argument is MAS0
(spec/62_timers_power_platform.md R2185). DESIGN CHOICE, entry 32. -/
opaque tlbCommandAddress : Word → Word

end Sys2Proof.Config
end

