-- ==== Sys2Proof/Machine/State.lean ====
section
/-! DEFINITION. The state of the machine: every register, array, pin and pending condition the spec names, as plain data,
and the state right after reset. INVENTORY.md lists every field with the rule that names it and its reset value. -/

namespace Sys2Proof.Machine

/-- Why the machine stops although the bytes are an instruction. -/
inductive Fault where
  /-- An mtspr L1FINV1 or mtdcr CDACNTL that names a command, way or set the spec calls an undefined command operation
  (spec/93_implementation_defined.md U44). Raised by the cache command operations. Safe: the spec gives no effect. -/
  | undefinedCacheCommand
  /-- A cache lookup that needs check bits while L1CSR1[ICEDT] or L1CSR1[ICEA] holds a reserved code
  (spec/11_state_mmu_cache.md R243). Raised by instruction fetch and the cache instructions. Safe: no effect is given. -/
  | reservedCacheMode
  deriving DecidableEq, Repr

/-- Why the machine answers with no meaning. -/
inductive Refusal where
  /-- The instruction has no meaning in this model yet. Raised by exec only. Safe. -/
  | notModelled (mnemonic : String)
  /-- The fetched bytes are a VLE instruction the spec does not define (spec/44_vle.md R951, spec/92_eei_decisions.md D81).
  Raised by step. Safe. -/
  | vleOutsideSpecification
  /-- A debug control register in use holds a reserved code (spec/93_implementation_defined.md U52,
  spec/61_debug.md R2210, R2211). Raised by step. Safe. -/
  | reservedDebugConfiguration
  deriving DecidableEq, Repr

/-- Memory: the bytes that differ from what an unlisted address reads as, addresses strictly rising
(spec/20_memory.md R400 (b); assumption log entry 3). -/
abbrev Memory := List Host.Cell

/-- The interrupt registers (spec/10_state.md R72 to R77, R110). `ivor` holds IVOR0 to IVOR15 at 0 to 15 and IVOR32 to
IVOR34 at 16 to 18. -/
structure IntRegs where
  srr0 : Word
  srr1 : Word
  csrr0 : Word
  csrr1 : Word
  dsrr0 : Word
  dsrr1 : Word
  mcsrr0 : Word
  mcsrr1 : Word
  esr : Word
  mcsr : Word
  mcar : Word
  dear : Word
  ivpr : Word
  ivor : Vector Word 19
  deriving DecidableEq, Repr

/-- The identification, process and software-use registers (spec/10_state.md R80, R83, R84). -/
structure SoftRegs where
  pir : Word
  pid0 : Word
  sprg : Vector Word 10
  usprg0 : Word
  deriving DecidableEq, Repr

/-- The timers (spec/10_state.md R85 to R88). -/
structure TimerRegs where
  tb : Dword
  dec : Word
  decar : Word
  tcr : Word
  tsr : Word
  deriving DecidableEq, Repr

/-- The hardware implementation dependent registers (spec/10_state.md R122 to R124). HID1[ATS] is State.reserve. -/
structure HidRegs where
  hid0 : Word
  hid1 : Word
  bucsr : Word
  deriving DecidableEq, Repr

/-- One entry of TLB1 (spec/11_state_mmu_cache.md R201). -/
structure TlbEntry where
  v : Bool
  ts : Bool
  tid : BitVec 8
  epn : BitVec 22
  rpn : BitVec 22
  size : BitVec 5
  ux : Bool
  sx : Bool
  uw : Bool
  sw : Bool
  ur : Bool
  sr : Bool
  w : Bool
  i : Bool
  m : Bool
  g : Bool
  e : Bool
  u : BitVec 4
  iprot : Bool
  vle : Bool
  deriving DecidableEq, Repr

/-- The memory management unit (spec/11_state_mmu_cache.md R200, R210 to R215, R223). -/
structure MmuRegs where
  tlb : Vector TlbEntry 16
  mas0 : Word
  mas1 : Word
  mas2 : Word
  mas3 : Word
  mas4 : Word
  mas6 : Word
  mmucsr0 : Word
  deriving DecidableEq, Repr

/-- One line of the instruction cache (spec/11_state_mmu_cache.md R230, R234): 22 tag bits, V, L, six tag check bits, four
double words (byte 0 most significant) and eight check bits for each. -/
structure CacheLine where
  tag : BitVec 22
  v : Bool
  l : Bool
  tchk : BitVec 6
  data : Vector Dword 4
  dchk : Vector Byte 4
  deriving DecidableEq, Repr

/-- The instruction cache (spec/11_state_mmu_cache.md R230 to R251). Line (way, set) is entry way * 64 + set of `lines`
with two ways and way * 32 + set with four. -/
structure ICache where
  lines : Vector CacheLine 128
  replace : BitVec 2
  l1csr0 : Word
  l1csr1 : Word
  l1finv1 : Word
  hdbcr0 : Word
  cdacntl : Word
  cdadata : Word
  deriving DecidableEq, Repr

/-- The debug registers software reaches (spec/12_state_debug.md R281 to R300). `iac` holds IAC1 to IAC8 at 0 to 7. -/
structure DebugRegs where
  dbcr0 : Word
  dbcr1 : Word
  dbcr2 : Word
  dbcr3 : Word
  dbcr4 : Word
  dbcr5 : Word
  dbcr6 : Word
  dbsr : Word
  dberc0 : Word
  iac : Vector Word 8
  dac1 : Word
  dac2 : Word
  dvc1 : Dword
  dvc2 : Dword
  dbcnt : Word
  devent : Word
  ddam : Word
  deriving DecidableEq, Repr

/-- The parallel signature unit (spec/12_state_debug.md R310). -/
structure PsuRegs where
  pscr : Word
  pssr : Word
  pshr : Word
  pslr : Word
  psctr : Word
  deriving DecidableEq, Repr

/-- The registers reachable only from the OnCE port (spec/12_state_debug.md R320 to R328). -/
structure OnceRegs where
  edbcr0 : Word
  edbsr0 : Word
  ocmd : BitVec 10
  ocr : Word
  cpuIr : Word
  cpuCtl : Word
  cpuPc : Word
  cpuMsr : Word
  wbbrLow : Word
  wbbrHigh : Word
  pcFifo : Vector Word 8
  pcFifoPtr : BitVec 3
  deriving DecidableEq, Repr

/-- The registers of the Nexus unit (spec/12_state_debug.md R335), numbered there with bit 0 the least significant. -/
structure NexusRegs where
  csc : Word
  dc1 : Word
  dc2 : Word
  dc3 : Word
  dc4 : Word
  rwcs : Word
  rwa : Word
  rwd : Word
  wt : Word
  dtc : Word
  dtsa : Vector Word 4
  dtea : Vector Word 4
  ds : Word
  ovcr : Word
  wmsk : Word
  ptstc : Word
  ptetc : Word
  dtstc : Word
  dtetc : Word
  deriving DecidableEq, Repr

/-- The levels of the input pins, true for asserted (spec/62_timers_power_platform.md R2160, R2198, spec/00_scope.md R7).
From `rstbase` on they are static configuration. p_tbclk is the clock of HostEvent.tick; p_vle_present counts as asserted
(spec/92_eei_decisions.md D51) and p_lkstep_en as negated (D91). -/
structure Pins where
  extint : Bool
  critint : Bool
  avec : Bool
  voffset : BitVec 16
  nmi : Bool
  mcp : Bool
  ude : Bool
  devt1 : Bool
  devt2 : Bool
  tbdisable : Bool
  halt : Bool
  stop : Bool
  rsrvClr : Bool
  xfail : Bool
  extpidEn : Bool
  extpid : BitVec 2
  rstbase : BitVec 30
  rstEndmode : Bool
  rstVlemode : Bool
  cpuid : BitVec 8
  pvrin : BitVec 16
  sysvers : Word
  /-- p_masterid[3:0], the bus master number of the core's own transfers. -/
  masterid : BitVec 4
  /-- nex_masterid[3:0], the number of the Nexus unit's transfers, which spec/92_eei_decisions.md D60 leaves out. -/
  nexMasterid : BitVec 4
  /-- jd_mclk_on (spec/12_state_debug.md R323): the processor clock m_clk runs (assumption log entry 43). -/
  mclkOn : Bool
  /-- jd_en_once: enables the OnCE unit, whose tool D60 leaves out. -/
  enOnce : Bool
  /-- j_id_version[0:3] and j_id_sequence[0:1] (spec/12_state_debug.md R328). -/
  jIdVersion : BitVec 4
  jIdSequence : BitVec 2
  deriving DecidableEq, Repr

/-- The kind of a bus transfer, for the bus-error regions (spec/20_memory.md R412). -/
inductive BusKind where
  | fetch
  | load
  | store
  deriving DecidableEq, Repr

/-- Real addresses at which the platform answers transfers of one kind with ERROR (spec/20_memory.md R412). -/
structure BusErrorRegion where
  kind : BusKind
  first : Word
  last : Word
  deriving DecidableEq, Repr

/-- Real addresses at which a write by the core does not land in a byte store: read-only memory, or a device, whose effects
the host gives (spec/20_memory.md R480, spec/92_eei_decisions.md D70). -/
structure PlatformRegion where
  first : Word
  last : Word
  deriving DecidableEq, Repr

/-- The two clocks that can drive the time base (spec/62_timers_power_platform.md R2140). -/
inductive TimeBaseClock where
  | mclk
  | tbclk
  deriving DecidableEq, Repr

/-- Inputs that arrive inside a load or store multiple, when it has done `after` transfers: ticks of the selected time-base
clock, then new pin levels (spec/60_exceptions.md R2011, spec/70_reset_and_hazards.md R2347). -/
structure MidwayInput where
  after : Nat
  ticks : Nat
  pins : Pins
  deriving DecidableEq, Repr

/-- What the outside world does to the core between two steps (spec/62_timers_power_platform.md R2198). -/
inductive HostEvent where
  /-- One period of a clock; a tick of the time base if HID0[SEL_TBCLK] selects that clock (R2140). -/
  | tick (c : TimeBaseClock)
  /-- New levels of the input pins; a negated-to-asserted change of NMI, MCP, UDE, DEVT1, DEVT2 is an edge (R2160). -/
  | pins (p : Pins)
  /-- p_reset_b (spec/60_exceptions.md R2037). -/
  | reset
  /-- m_por (R2037). -/
  | powerOn
  /-- Another bus master writes bytes at ascending real addresses (spec/20_memory.md R400). -/
  | write (address : Word) (bytes : List Byte)
  /-- The platform's bus-error regions change (R412). -/
  | busErrors (regions : List BusErrorRegion)
  /-- A cache line changes, as by a soft error (spec/92_eei_decisions.md D20). -/
  | cacheLine (index : BitVec 7) (line : CacheLine)
  /-- The platform's read-only and device regions change (D70). -/
  | platform (regions : List PlatformRegion)
  /-- Inputs that will arrive inside the next instruction if it is an interruptible multiple, else at the boundary after
  it (spec/60_exceptions.md R2011). -/
  | during (m : MidwayInput)
  deriving DecidableEq, Repr

/-- The two bus master ports (spec/62_timers_power_platform.md R2180). -/
inductive BusPort where
  | instruction
  | data
  deriving DecidableEq, Repr

/-- A bus request with the attributes driven with its address (spec/62_timers_power_platform.md R2180, R2181, R2185). -/
structure BusRequest where
  port : BusPort
  write : Bool
  address : Word
  /-- hsize: 0 byte, 1 half word, 2 word, 3 double word. -/
  size : BitVec 2
  /-- hbstrb: bit k (least significant 0) for byte lane Bk. -/
  lanes : Byte
  /-- hunalign: the strobes are not the full aligned container. -/
  unaligned : Bool
  /-- A WRAP4 burst, the line fill of the instruction cache; else SINGLE. -/
  burst : Bool
  /-- hprot[5:0], bit 0 least significant. -/
  hprot : BitVec 6
  /-- The M attribute of the page, which spec/20_memory.md R433 drives to the bus and R2185 gives no signal name. -/
  coherent : Bool
  ttype : BitVec 5
  /-- hmaster[3:0]. -/
  master : BitVec 4
  /-- p_i_wayrep[0:1], the way a line fill goes to. -/
  way : BitVec 2
  /-- The bytes written, at ascending addresses. -/
  data : List Byte
  deriving DecidableEq, Repr

/-- A pulse on an output pin (spec/62_timers_power_platform.md R2161, R2166, spec/61_debug.md R2240). -/
inductive OutputEvent where
  /-- p_iack, with the vector used (R2161). -/
  | iack (vector : Word)
  | rfi
  | rfci
  | rfdi
  | rfmci
  /-- jd_watchpt[n] (R2240). -/
  | watchpoint (n : Nat)
  /-- p_devnt_out, as written to DEVENT[DEVNT] (spec/12_state_debug.md R299). -/
  | devnt (value : Byte)
  /-- A data acquisition value handed to Nexus (R300). -/
  | ddam (dqtag : Byte) (value : Word)
  /-- p_pid0_updt (R2166). -/
  | pidUpdate (pid : Byte)
  /-- The dui field of a dnh that halted the core (spec/43_system.md R890). -/
  | dnh (dui : BitVec 5)
  /-- A request on one of the two buses (spec/62_timers_power_platform.md R2198). -/
  | request (r : BusRequest)
  /-- p_cache_tagerr_out (tag = true) or p_cache_dataerr_out, with p_cerraddr_out and p_cerrway_out, bit k of `ways` (least
  significant 0) for way k (R2168). -/
  | cacheError (tag : Bool) (address : Word) (ways : BitVec 4)
  deriving DecidableEq, Repr

/-- One data access the current instruction has made: effective address, kind, and the bytes transferred at ascending
addresses (spec/61_debug.md R2211). -/
structure DataAccess where
  ea : Word
  store : Bool
  bytes : List Byte
  deriving DecidableEq, Repr

/-- The levels of p_nmi_b and p_mcp_b the core saw when m_clk last ran (spec/62_timers_power_platform.md R2160, R2170):
the core sees an edge as a change from these. -/
structure PinSamples where
  nmi : Bool
  mcp : Bool
  deriving DecidableEq, Repr

/-- What the current step must remember about its instruction (the model's own; each step begins with it cleared). -/
structure Current where
  /-- The instruction's page has the VLE attribute (spec/60_exceptions.md R2046). -/
  vle : Bool
  /-- Instruction address compare hits of IAC1 (bit 0, least significant) to IAC8 (spec/61_debug.md R2210). -/
  iacHits : BitVec 8
  /-- The data accesses made, oldest first. -/
  accesses : List DataAccess
  /-- The access that faulted, for the counters (R2230). -/
  faulted : List DataAccess
  /-- An instruction was executed (not only fetched or preempted). -/
  executed : Bool
  /-- Execution was suppressed by an exception (R2212). -/
  suppressed : Bool
  /-- The instruction completed and raised the EFP round interrupt (R2212). -/
  efpRound : Bool
  /-- A non-critical interrupt was taken (R2214). -/
  irpt : Bool
  /-- A critical interrupt was taken (R2216). -/
  cirpt : Bool
  /-- rfi was attempted (R2220). -/
  ret : Bool
  /-- rfci was attempted (R2221). -/
  cret : Bool
  /-- The instruction wrote DBCNT (R2225 item 5). -/
  wroteDbcnt : Bool
  /-- A multiple was abandoned for an asynchronous interrupt (R2225 item 3). -/
  abandoned : Bool
  /-- Bus requests and cache error outputs, oldest first; the end of the step hands them to the outputs. -/
  signals : List OutputEvent
  deriving DecidableEq, Repr

/-- The machine. -/
structure State where
  /-- GPR0 to GPR31 (spec/10_state.md R50). -/
  gpr : Vector Dword 32
  /-- The program counter (R52). -/
  pc : Word
  cr : Word
  xer : Word
  lr : Word
  ctr : Word
  msr : Word
  /-- The SPE accumulator (spec/13_state_spe.md R1050). -/
  acc : Dword
  spefscr : Word
  /-- The reservation bit, HID1[ATS] (spec/20_memory.md R450). -/
  reserve : Bool
  int : IntRegs
  soft : SoftRegs
  tim : TimerRegs
  hid : HidRegs
  mmu : MmuRegs
  ic : ICache
  dbg : DebugRegs
  psu : PsuRegs
  once : OnceRegs
  nexus : NexusRegs
  pins : Pins
  mem : Memory
  busErrors : List BusErrorRegion
  /-- The platform's regions that hold no byte store (spec/92_eei_decisions.md D70). -/
  platform : List PlatformRegion
  /-- The waiting state (spec/62_timers_power_platform.md R2170). -/
  waiting : Bool
  /-- The halted debug mode (spec/61_debug.md R2245). -/
  debugHalt : Bool
  /-- A latched edge of p_nmi_b (spec/60_exceptions.md R2051). -/
  nmiPending : Bool
  /-- The edge-sensitive inputs as last sampled (spec/62_timers_power_platform.md R2160, R2170). -/
  sampled : PinSamples
  /-- The next fetch is the first of an interrupt handler (R2055). -/
  firstFetch : Bool
  /-- The model's own: what the current step remembers. -/
  cur : Current
  /-- The model's own: output pulses of the last step. -/
  outputs : List OutputEvent
  /-- The model's own: index of the next free value (assumption log entry 4). -/
  freeCtr : Nat
  /-- The model's own: host events, one list for each of the next steps (assumption log entry 6). -/
  hostQueue : List (List HostEvent)
  /-- The model's own: inputs that arrive inside the next interruptible multiple (assumption log entry 6). -/
  midway : List MidwayInput
  deriving DecidableEq, Repr

/-- The reset mapping of TLB entry 0 (spec/11_state_mmu_cache.md R205). -/
def resetTlbEntry0 (p : Pins) : TlbEntry :=
  { v := true, ts := false, tid := 0, epn := p.rstbase.extractLsb' 8 22, rpn := p.rstbase.extractLsb' 8 22, size := 2,
    ux := true, sx := true, uw := true, sw := true, ur := true, sr := true,
    w := false, i := true, m := false, g := false, e := p.rstEndmode, u := 0, iprot := true, vle := p.rstVlemode }

/-- A TLB entry with every field 0: what entries 1 to 15 hold in State.reset (V = 0 is R205's; the other fields are a
DESIGN CHOICE, assumption log entry 1). -/
def zeroTlbEntry : TlbEntry :=
  { v := false, ts := false, tid := 0, epn := 0, rpn := 0, size := 0,
    ux := false, sx := false, uw := false, sw := false, ur := false, sr := false,
    w := false, i := false, m := false, g := false, e := false, u := 0, iprot := false, vle := false }

/-- The TLB right after reset (R205). -/
def resetTlb (p : Pins) : Vector TlbEntry 16 := (Vector.replicate 16 zeroTlbEntry).set 0 (resetTlbEntry0 p)

/-- The address execution starts at (spec/70_reset_and_hazards.md R2300). -/
def resetPc (p : Pins) : Word := p.rstbase ++ 0#2

/-- The pins in State.reset: all negated or 0, but for jd_mclk_on, since the processor clock runs (DESIGN CHOICE, assumption
log entry 2). -/
def Pins.idle : Pins :=
  { extint := false, critint := false, avec := false, voffset := 0, nmi := false, mcp := false, ude := false,
    devt1 := false, devt2 := false, tbdisable := false, halt := false, stop := false, rsrvClr := false, xfail := false,
    extpidEn := false, extpid := 0, rstbase := 0, rstEndmode := false, rstVlemode := false, cpuid := 0, pvrin := 0,
    sysvers := 0, masterid := 0, nexMasterid := 0, mclkOn := true, enOnce := false, jIdVersion := 0, jIdSequence := 0 }

/-- A cleared record of the current instruction. -/
def Current.idle : Current :=
  { vle := false, iacHits := 0, accesses := [], faulted := [], executed := false, suppressed := false, efpRound := false,
    irpt := false, cirpt := false, ret := false, cret := false, wroteDbcnt := false, abandoned := false, signals := [] }

/-- A cache line of zeros (DESIGN CHOICE, assumption log entry 1). -/
def zeroLine : CacheLine :=
  { tag := 0, v := false, l := false, tchk := 0, data := Vector.replicate 4 0, dchk := Vector.replicate 4 0 }

/-- The machine right after reset (spec/10_state.md R190, spec/70_reset_and_hazards.md R2300). A register the spec calls
unaffected or undefined holds 0 here (DESIGN CHOICE, assumption log entry 1); the pins are idle (entry 2); memory lists
nothing (entry 3). -/
def State.reset : State where
  gpr := Vector.replicate 32 0
  pc := resetPc Pins.idle
  cr := 0
  xer := 0
  lr := 0
  ctr := 0
  msr := 0
  acc := 0
  spefscr := 0
  reserve := false
  int := { srr0 := 0, srr1 := 0, csrr0 := 0, csrr1 := 0, dsrr0 := 0, dsrr1 := 0, mcsrr0 := 0, mcsrr1 := 0, esr := 0,
           mcsr := 0, mcar := 0, dear := 0, ivpr := 0, ivor := Vector.replicate 19 0 }
  soft := { pir := 0, pid0 := 0, sprg := Vector.replicate 10 0, usprg0 := 0 }
  tim := { tb := 0, dec := 0, decar := 0, tcr := 0, tsr := 0 }
  hid := { hid0 := 0, hid1 := 0, bucsr := 0 }
  mmu := { tlb := resetTlb Pins.idle, mas0 := 0, mas1 := 0, mas2 := 0, mas3 := 0, mas4 := 0, mas6 := 0, mmucsr0 := 0 }
  ic := { lines := Vector.replicate 128 zeroLine, replace := 0, l1csr0 := 0, l1csr1 := 0, l1finv1 := 0, hdbcr0 := 0,
          cdacntl := 0, cdadata := 0 }
  dbg := { dbcr0 := 0, dbcr1 := 0, dbcr2 := 0, dbcr3 := 0, dbcr4 := 0, dbcr5 := 0, dbcr6 := 0, dbsr := 0x10000000,
           dberc0 := 0, iac := Vector.replicate 8 0, dac1 := 0, dac2 := 0, dvc1 := 0, dvc2 := 0, dbcnt := 0,
           devent := 0, ddam := 0 }
  psu := { pscr := 0, pssr := 0, pshr := 0, pslr := 0, psctr := 0 }
  once := { edbcr0 := 0, edbsr0 := 0, ocmd := 0b1000000010, ocr := 0, cpuIr := 0, cpuCtl := 0, cpuPc := 0, cpuMsr := 0,
            wbbrLow := 0, wbbrHigh := 0, pcFifo := Vector.replicate 8 0, pcFifoPtr := 0 }
  nexus := { csc := 0, dc1 := 0, dc2 := 0, dc3 := 0, dc4 := 0, rwcs := 0, rwa := 0, rwd := 0, wt := 0, dtc := 0,
             dtsa := Vector.replicate 4 0, dtea := Vector.replicate 4 0, ds := 0, ovcr := 0, wmsk := 0, ptstc := 0,
             ptetc := 0, dtstc := 0, dtetc := 0 }
  pins := Pins.idle
  mem := []
  busErrors := []
  platform := []
  waiting := false
  debugHalt := false
  nmiPending := false
  sampled := { nmi := false, mcp := false }
  firstFetch := false
  cur := Current.idle
  outputs := []
  freeCtr := 0
  hostQueue := []
  midway := []

end Sys2Proof.Machine
end

