-- ==== Sys2Proof/Machine/Bus.lean ====
section
/-! DEFINITION. The requests the core drives on its two buses, with their attributes, and the cache error outputs
(spec/62_timers_power_platform.md R2168, R2180 to R2185). -/

namespace Sys2Proof.Machine

/-- What kind of instruction makes a data access: for ESR[SPE], for the transfer type, and for how a store treats a bus
error (spec/60_exceptions.md R2046, R2050, spec/62_timers_power_platform.md R2185). -/
inductive AccessKind where
  | base
  | spe
  | atomic
  | multiple
  deriving DecidableEq, Repr

/-- p_d_ttype of a load or store. The code of `lmw` and `stmw` serves every multiple (R2185; for the VLE multiples, which the
table does not list, DEDUCED, assumption log entry 32, safe). -/
def AccessKind.ttype : AccessKind → BitVec 5
  | .base => 0
  | .spe => 0
  | .atomic => 1
  | .multiple => 7

/-- The instruction drives an output or a request. -/
def State.signal (s : State) (o : OutputEvent) : State := { s with cur.signals := s.cur.signals ++ [o] }

/-- The number of the bytes of an access that its first bus transfer moves: those below the next multiple of 8 (R2181). -/
def firstTransfer (ea : Word) (n : Nat) : Nat := min n (8 - ea.toNat % 8)

/-- hsize of the smallest aligned container of the lanes from a to b (R2181). -/
def containerSize (a b : Nat) : Nat := if a = b then 0 else if a / 2 = b / 2 then 1 else if a / 4 = b / 4 then 2 else 3

/-- The strobes of n lanes from lane a. -/
def laneMask (a n : Nat) : Byte := ((1#8 <<< n) - 1) <<< a

/-- p_d_hprot[5:0]: exclusive, allocate, cacheable and bufferable from W, I and G, supervisor, data (R2185). The M attribute,
which spec/20_memory.md R433 and spec/11_state_mmu_cache.md R208 drive to the bus too, has no code in R2185 and goes beside
hprot, in BusRequest.coherent, on both ports (DESIGN CHOICE, assumption log entry 32, unsafe). -/
def dataProt (e : TlbEntry) (user exclusive : Bool) : BitVec 6 :=
  BitVec.ofBool exclusive ++ (if e.i then 0#3 else if e.g then 1#3 else if e.w then 6#3 else 7#3) ++ BitVec.ofBool (!user) ++
    1#1

/-- p_i_hprot[5:0] (R2185). -/
def fetchProt (inhibited user : Bool) : BitVec 6 :=
  0#1 ++ (if inhibited then 0#3 else 6#3) ++ BitVec.ofBool (!user) ++ 0#1

/-- One data transfer of n bytes from lane a, with the size code given, in a page with the attributes of e (R2181, R2185). -/
def State.dataRequest (s : State) (store : Bool) (kind : AccessKind) (e : TlbEntry) (real : Word) (size a n : Nat)
    (data : List Byte) : OutputEvent :=
  .request
    { port := .data, write := store, address := real, size := BitVec.ofNat 2 size, lanes := laneMask a n,
      unaligned := n != 2 ^ size, burst := false, hprot := dataProt e (bit s.msr 17) (kind == .atomic),
      coherent := e.m, ttype := kind.ttype, master := s.pins.masterid, way := 0, data := if store then data else [] }

/-- The transfers of an access at ea to the real addresses given: one, or two when it crosses a multiple of 8, the second
aborted when the first ends in an error (R2181, R2187). e1 and e2 map the first and the second. -/
def State.dataRequests (s : State) (store : Bool) (kind : AccessKind) (e1 e2 : TlbEntry) (ea : Word) (real : List Word)
    (bytes : List Byte) (aborted : Bool) : List OutputEvent :=
  let n := real.length
  let a := ea.toNat % 8
  let k := firstTransfer ea n
  if k = n then [s.dataRequest store kind e1 (real.getD 0 0) (containerSize a (a + n - 1)) a n bytes]
  else
    s.dataRequest store kind e1 (real.getD 0 0) n.log2 a k (bytes.take k) ::
      if aborted then []
      else [s.dataRequest store kind e2 (real.getD k 0) (containerSize 0 (n - k - 1)) 0 (n - k) (bytes.drop k)]

/-- A cache or TLB instruction as the data port shows it: a supervisor data word-size write without data (R2185; hprot[4:2],
the strobes and the M attribute are not stated: 0 here, DESIGN CHOICE, assumption log entry 32, unsafe). The signature unit accumulates
nothing for it: spec/62_timers_power_platform.md R2190 does not say whether a write that carries no data counts (DESIGN
CHOICE, assumption log entry 29, unsafe). -/
def State.command (s : State) (ttype : BitVec 5) (ea : Word) : State :=
  s.signal (.request
    { port := .data, write := true, address := ea, size := 2, lanes := 0, unaligned := false, burst := false, hprot := 3,
      coherent := false, ttype := ttype, master := s.pins.masterid, way := 0, data := [] })

/-- A fetch of n bytes from memory in a page with the attributes of e, or the burst of a line fill into a way, critical double
word first (R2181, R2185). -/
def State.fetchRequest (s : State) (real : Word) (n : Nat) (e : TlbEntry) (fill : Option Nat) : State :=
  let r : BusRequest :=
    { port := .instruction, write := false, address := real, size := BitVec.ofNat 2 n.log2,
      lanes := laneMask (real.toNat % 8) n, unaligned := false, burst := false,
      hprot := fetchProt e.i (bit s.msr 17), coherent := e.m, ttype := 0, master := s.pins.masterid, way := 0, data := [] }
  s.signal (.request (match fill with
    | none => r
    | some w => { r with address := clearLow real 3, size := 3, lanes := 0xFF, burst := true, way := BitVec.ofNat 2 w }))

end Sys2Proof.Machine
end

