-- ==== Sys2Proof/Machine/Debug.lean ====
section
/-! DEFINITION. The debug unit: address and data compares, recording an event in DBSR, the counters and the watchpoints
(spec/61_debug.md R2200 to R2240, spec/12_state_debug.md R281 to R298). -/

namespace Sys2Proof.Machine

/-- Internal debug mode, DBCR0[IDM] (spec/61_debug.md R2202). -/
def State.idm (s : State) : Bool := bit s.dbg.dbcr0 1

/-- MSR[DE]. -/
def State.de (s : State) : Bool := bit s.msr 22

/-- Record events in DBSR if internal debug mode is on: the bits given, IDE with them while MSR[DE] = 0, and VLES if asked
and the instruction is a VLE instruction (spec/61_debug.md R2202, R2205). -/
def State.record (s : State) (events : Word) (vles : Bool) : State :=
  if s.idm && events != 0 then
    { s with dbg.dbsr := s.dbg.dbsr ||| events ||| when (!s.de) (oneBit 0) ||| when (vles && s.cur.vle) (oneBit 27) }
  else s

/-- The DBSR bits that make a debug interrupt pending: all but MRR, VLES, DAC_OFST and CNT1TRG
(spec/12_state_debug.md R290, spec/61_debug.md R2205). -/
def dbsrEventMask : Word := 0xCFFF87E0

/-- A debug interrupt is pending and enabled (spec/60_exceptions.md R2035). -/
def State.debugPending (s : State) : Bool := s.idm && s.de && (s.dbg.dbsr &&& dbsrEventMask) != 0

/-- US and ER qualifiers of a compare against the mode bit and the address-space bit (spec/12_state_debug.md R282). -/
def qualifies (us er : BitVec 2) (pr space : Bool) : Bool :=
  (us == 0 || (us == 2 && !pr) || (us == 3 && pr)) && (er == 0 || (er == 2 && !space) || (er == 3 && space))

/-- The control word of IAC n + 1: DBCR1 for IAC1 to IAC4, DBCR5 for IAC5 to IAC8 (R282, R286). -/
def iacControl (d : DebugRegs) (n : Nat) : Word := if n < 4 then d.dbcr1 else d.dbcr5

/-- The first bit of the US field of IAC n + 1 in its control word. -/
def iacUsPos (n : Nat) : Nat := match n % 4 with | 0 => 0 | 1 => 4 | 2 => 16 | _ => 20

/-- The pair mode field of IAC n + 1 (IAC12M, IAC34M, IAC56M, IAC78M). -/
def iacMode (d : DebugRegs) (n : Nat) : BitVec 2 := bits (if n % 4 < 2 then 8 else 24) 2 (iacControl d n)

/-- DBCR6[IACnXM] of IAC n + 1 (R287). -/
def iacMaskBits (d : DebugRegs) (n : Nat) : BitVec 4 := bits (4 * n) 4 d.dbcr6

/-- The IAC register n + 1. -/
def iacReg (d : DebugRegs) (n : Nat) : Word := d.iac.toList.getD n 0

/-- The instruction at address a hits IAC n + 1; vlePage says the page of the instruction is a VLE page
(spec/61_debug.md R2210). -/
def iacHit (d : DebugRegs) (msr a : Word) (vlePage : Bool) (n : Nat) : Bool :=
  let g := if vlePage then 1 else 2
  let p := n - n % 2
  let c := iacControl d n
  let mode := iacMode d n
  let own := iacReg d n
  let other := iacReg d (p + 1)
  let pr := bit msr 17
  let is := bit msr 26
  let q := qualifies (bits (iacUsPos n) 2 c) (bits (iacUsPos n + 2) 2 c) pr is
  if mode == 0 then
    let k := max g (iacMaskBits d n).toNat
    q && clearLow a k == clearLow own k
  else if n % 2 == 1 then false
  else if mode == 1 then q && clearLow (a &&& other) g == clearLow (own &&& other) g
  else
    let inside := (clearLow own g).ule (clearLow a g) && (clearLow a g).ult (clearLow other g)
    if n ≥ 4 then false else q && (if mode == 2 then inside else !inside)

/-- The hits of IAC1 (bit 0, least significant) to IAC8 for the instruction at address a. -/
def iacHits (d : DebugRegs) (msr a : Word) (vlePage : Bool) : BitVec 8 :=
  (List.range 8).foldl (fun h n => if iacHit d msr a vlePage n then h ||| (1#8 <<< n) else h) 0

/-- DACn + 1 is linked to its instruction address compare: DBCR2[DAC1LNK] (n = 0), or DBCR2[DAC2LNK] with exact address compare
(n = 1) (spec/61_debug.md R2217). -/
def dacLinked (d : DebugRegs) (n : Nat) : Bool := if n = 0 then bit d.dbcr2 10 else bit d.dbcr2 11 && bits 8 2 d.dbcr2 == 0

/-- A link bit of DBCR2 keeps the hits of IAC n + 1 out of DBSR: DAC1LNK those of IAC1, DAC2LNK those of IAC3, whatever DAC12M is
(R2210, spec/12_state_debug.md R283). -/
def iacUnrecorded (d : DebugRegs) (n : Nat) : Bool := (n == 0 && bit d.dbcr2 10) || (n == 2 && bit d.dbcr2 11)

/-- The event of IAC n + 1 among the hits of an instruction: enabled in DBCR0 (bits 8 to 11 and 17 to 20), and no link bit keeps
it out of DBSR (R2210, R2217, spec/12_state_debug.md R281). -/
def iacEvent (d : DebugRegs) (hits : BitVec 8) (n : Nat) : Bool :=
  hits.getLsbD n && bit d.dbcr0 (if n < 4 then 8 + n else 13 + n) && !iacUnrecorded d n

/-- The DBSR bits of a set of IAC hits: IAC1 to IAC3 have one each, IAC4 to IAC8 share one (R2210). -/
def iacEvents (d : DebugRegs) (hits : BitVec 8) : Word :=
  when (iacEvent d hits 0) (oneBit 8) ||| when (iacEvent d hits 1) (oneBit 9) ||| when (iacEvent d hits 2) (oneBit 10) |||
  when (iacEvent d hits 3 || iacEvent d hits 4 || iacEvent d hits 5 || iacEvent d hits 6 || iacEvent d hits 7) (oneBit 11)

/-- The address part of DAC n + 1 for an access at effective address ea (spec/61_debug.md R2211). -/
def dacAddressHit (d : DebugRegs) (msr ea : Word) (n : Nat) : Bool :=
  let mode := bits 8 2 d.dbcr2
  let q := qualifies (bits (4 * n) 2 d.dbcr2) (bits (4 * n + 2) 2 d.dbcr2) (bit msr 17) (bit msr 27)
  let own := if n = 0 then d.dac1 else d.dac2
  let inside := d.dac1.ule ea && ea.ult d.dac2
  if mode == 0 then
    let k := (bits (16 + 4 * n) 4 d.dbcr4).toNat
    q && clearLow ea k == clearLow own k
  else if n = 1 then false
  else if mode == 1 then q && (ea &&& d.dac2) == (d.dac1 &&& d.dac2)
  else if mode == 2 then q && inside
  else q && !inside

/-- DBCR2[DVCnM] of DAC n + 1. -/
def dvcMode (d : DebugRegs) (n : Nat) : BitVec 2 := bits (12 + 2 * n) 2 d.dbcr2

/-- DBCR4[DVCnC] of DAC n + 1. -/
def dvcInverted (d : DebugRegs) (n : Nat) : Bool := bit d.dbcr4 (1 + 2 * n)

/-- For each byte lane 0 to 7: none if it takes no part in the data value compare, else whether the byte transferred equals
the byte of DVC n + 1 (spec/61_debug.md R2211; only the first transfer of a split access takes part). -/
def dvcLanes (d : DebugRegs) (n : Nat) (x : DataAccess) : List (Option Bool) :=
  let first := x.ea.toNat % 8
  (List.range 8).map fun k =>
    if k < first then none
    else match x.bytes[k - first]? with
      | none => none
      | some b =>
        if bit d.dbcr2 (16 + 8 * n + k) then some (b == byteOf (if n = 0 then d.dvc1 else d.dvc2) k) else none

/-- The value part of DAC n + 1 (R2211, spec/12_state_debug.md R283). Two points the spec leaves open (DESIGN CHOICE, assumption
log entry 33, unsafe): a half-word lane pair none of whose lanes takes part counts as no match in mode 11; and with DVCnBE all
clear the "match regardless of the data" is a hit in both polarities, for DVCnC = 1 too, where mode 01 asks for a participating
lane that does not match. -/
def dacValueHit (d : DebugRegs) (n : Nat) (x : DataAccess) : Bool :=
  let mode := dvcMode d n
  let lanes := dvcLanes d n x
  let part := lanes.filterMap id
  if mode == 0 then true
  else if bits (16 + 8 * n) 8 d.dbcr2 == 0 then true
  else if dvcInverted d n then
    if mode == 1 then part.any (fun m => !m) else part.all (fun m => !m)
  else if mode == 1 then part.all id
  else if mode == 2 then part.any id
  else
    (List.range 4).any fun h =>
      let pair := [lanes.getD (2 * h) none, lanes.getD (2 * h + 1) none].filterMap id
      !pair.isEmpty && pair.all id

/-- DBCR0[DACn] of DAC n + 1: 01 stores only, 10 loads only, 11 both (spec/12_state_debug.md R281). -/
def dacEnable (d : DebugRegs) (n : Nat) : BitVec 2 := bits (12 + 2 * n) 2 d.dbcr0

/-- The compare of DAC n + 1 hits the access, linking included; byValue = false leaves the value part out (an access that
faulted, R2211). -/
def dacCompare (d : DebugRegs) (msr : Word) (iac : BitVec 8) (n : Nat) (byValue : Bool) (x : DataAccess) : Bool :=
  dacAddressHit d msr x.ea n && (!dacLinked d n || iac.getLsbD (2 * n)) &&
    (if byValue then dacValueHit d n x else dvcMode d n == 0)

/-- The DBSR bits DAC1R, DAC1W, DAC2R, DAC2W of one access (R2211). -/
def dacEvents (d : DebugRegs) (msr : Word) (iac : BitVec 8) (byValue : Bool) (x : DataAccess) : Word :=
  let one (n : Nat) : Word :=
    if dacCompare d msr iac n byValue x then
      if x.store then when ((dacEnable d n).getLsbD 0) (oneBit (13 + 2 * n))
      else when ((dacEnable d n).getLsbD 1) (oneBit (12 + 2 * n))
    else 0
  one 0 ||| one 1

/-- The DBSR bits of all accesses. -/
def dacEventsAll (d : DebugRegs) (msr : Word) (iac : BitVec 8) (xs : List DataAccess) : Word :=
  xs.foldl (fun w x => w ||| dacEvents d msr iac true x) 0

/-- A DAC hit for counting and watchpoints: DBCR0[DACn] = 00 or 11 admits both kinds of access, 01 and 10 only one
(R2225 item 2, R2240). An access that faulted counts by its address (R2230). -/
def dacObserved (d : DebugRegs) (msr : Word) (c : Current) (n : Nat) (store : Bool) : Bool :=
  let e := dacEnable d n
  let admitted (x : DataAccess) : Bool := x.store == store && (e == 0 || e == 3 || e == (if store then 1 else 2))
  c.accesses.any (fun x => admitted x && dacCompare d msr c.iacHits n true x) ||
    c.faulted.any (fun x => admitted x && dacCompare d msr c.iacHits n false x)

/-- The events of one instruction, or of one asynchronous event, that the counters look at (R2225 item 2). -/
structure CountEvents where
  devt1 : Bool
  devt2 : Bool
  icmp : Bool
  iac : BitVec 8
  dac1r : Bool
  dac1w : Bool
  dac2r : Bool
  dac2w : Bool
  irpt : Bool
  ret : Bool
  deriving DecidableEq, Repr

/-- No event. -/
def noCountEvents : CountEvents :=
  { devt1 := false, devt2 := false, icmp := false, iac := 0, dac1r := false, dac1w := false, dac2r := false,
    dac2w := false, irpt := false, ret := false }

/-- Some event that counter 1 counts occurred (spec/12_state_debug.md R284). -/
def counts1 (c : Word) (e : CountEvents) : Bool :=
  (bit c 0 && e.devt1) || (bit c 1 && e.devt2) || (bit c 2 && e.icmp) || (bit c 3 && e.iac.getLsbD 0) ||
  (bit c 4 && e.iac.getLsbD 1) || (bit c 5 && e.iac.getLsbD 2) || (bit c 6 && e.iac.getLsbD 3) || (bit c 7 && e.dac1r) ||
  (bit c 8 && e.dac1w) || (bit c 9 && e.dac2r) || (bit c 10 && e.dac2w) || (bit c 11 && e.irpt) || (bit c 12 && e.ret)

/-- Some event that counter 2 counts occurred. -/
def counts2 (c : Word) (e : CountEvents) : Bool :=
  (bit c 13 && e.devt1) || (bit c 14 && e.devt2) || (bit c 15 && e.icmp) || (bit c 16 && e.iac.getLsbD 0) ||
  (bit c 17 && e.iac.getLsbD 1) || (bit c 18 && e.iac.getLsbD 2) || (bit c 19 && e.iac.getLsbD 3) || (bit c 20 && e.dac1r) ||
  (bit c 21 && e.dac1w) || (bit c 22 && e.dac2r) || (bit c 23 && e.dac2w)

/-- Some event that triggers counter 1 occurred; zero2 says counter 2 just reached zero (R2225 item 4). -/
def triggers1 (c : Word) (e : CountEvents) (zero2 : Bool) : Bool :=
  (bit c 24 && e.devt1) || (bit c 25 && e.devt2) || (bit c 26 && e.iac.getLsbD 0) || (bit c 27 && e.iac.getLsbD 2) ||
  (bit c 28 && e.dac1r) || (bit c 29 && e.dac1w) || (bit c 30 && zero2)

/-- What one step of the counters does: the new DBCNT, and the DBSR bits DCNT1, DCNT2, CNT1TRG that occur, before the
enables of DBCR0 (R2225, R2230). -/
def counterStep (dbcr3 dbcnt : Word) (triggered : Bool) (e : CountEvents) : Word × Bool × Bool × Bool :=
  let joined := bit dbcr3 31
  let c1 : BitVec 16 := bits 0 16 dbcnt
  let c2 : BitVec 16 := bits 16 16 dbcnt
  let dec2 := !joined && counts2 dbcr3 e && c2 != 0
  let c2' := if dec2 then c2 - 1 else c2
  let zero2 := dec2 && c2' == 0
  let needsTrigger := bits 24 7 dbcr3 != 0
  let trig := triggers1 dbcr3 e zero2
  let free := !needsTrigger || triggered || trig
  if joined then
    let dec := counts1 dbcr3 e && free && dbcnt != 0
    let n := if dec then dbcnt - 1 else dbcnt
    (n, dec && n == 0, false, trig)
  else
    let dec1 := counts1 dbcr3 e && free && c1 != 0
    let c1' := if dec1 then c1 - 1 else c1
    (c1' ++ c2', dec1 && c1' == 0, zero2, trig)

/-- The data address compare events of the current instruction that the counters look at; `old` and `msr` are the debug
registers and the MSR it ran with (R2225 item 2). -/
def dacCountEvents (old : DebugRegs) (msr : Word) (c : Current) : CountEvents :=
  { noCountEvents with
    dac1r := dacObserved old msr c 0 false, dac1w := dacObserved old msr c 0 true,
    dac2r := dacObserved old msr c 1 false, dac2w := dacObserved old msr c 1 true }

/-- The events of the current instruction that the counters look at; a multiple abandoned for an interrupt counts none of
its own (R2225 items 2 and 3). -/
def instructionEvents (old : DebugRegs) (msr : Word) (c : Current) : CountEvents :=
  { dacCountEvents old msr c with
    icmp := c.executed && !c.suppressed && bit msr 22, iac := if c.abandoned then 0 else c.iacHits, irpt := c.irpt,
    ret := c.ret }

/-- A data address compare of the current instruction, whose execution is suppressed, is counted and makes a counter whose
event is enabled in DBCR0 reach zero (R2230). -/
def counterFires (d : DebugRegs) (msr : Word) (c : Current) : Bool :=
  let r := counterStep d.dbcr3 d.dbcnt (bit d.dbsr 31) { instructionEvents d msr c with icmp := false }
  let dac := dacCountEvents d msr c
  (r.2.1 && counts1 d.dbcr3 dac && bit d.dbcr0 23) || (r.2.2.1 && counts2 d.dbcr3 dac && bit d.dbcr0 24)

/-- The counter values that the events of the current instruction are counted from: what it wrote to DBCNT does not count
(R2225 item 5), what an edge that arrived inside it counted stays counted (R2225 item 3). -/
def State.countBase (s : State) (old : DebugRegs) : Word := if s.cur.wroteDbcnt then old.dbcnt else s.dbg.dbcnt

/-- Counter 1 was triggered before the events of the current instruction: DBSR[CNT1TRG] when it began, or set since by an
edge that arrived inside it (R2225 item 4). -/
def State.countTriggered (s : State) (old : DebugRegs) : Bool := bit old.dbsr 31 || bit s.dbg.dbsr 31

/-- The counters see the events of one instruction or asynchronous event. `old` and `de` hold the debug registers and MSR[DE]
before it; an instruction that wrote DBCNT is judged on the old value and its write stands (R2225 item 5,
spec/92_eei_decisions.md D84). -/
def State.countEvents (s : State) (old : DebugRegs) (de : Bool) (e : CountEvents) : State :=
  if bit old.dbcr0 1 then
    let r := counterStep old.dbcr3 (s.countBase old) (s.countTriggered old) e
    let n := r.1
    let z1 := r.2.1
    let z2 := r.2.2.1
    let trig := r.2.2.2
    let s1 := { s with
      dbg.dbcnt := if s.cur.wroteDbcnt then s.dbg.dbcnt else n
      dbg.dbsr := s.dbg.dbsr ||| when trig (oneBit 31)
      outputs := s.outputs ++ (if z1 then [.watchpoint 6] else []) ++ (if z2 then [.watchpoint 7] else []) }
    let ev := when (z1 && bit old.dbcr0 23) (oneBit 23) ||| when (z2 && bit old.dbcr0 24) (oneBit 24)
    if ev != 0 then { s1 with dbg.dbsr := s1.dbg.dbsr ||| ev ||| when (!de) (oneBit 0) } else s1
  else s

/-- The watchpoint outputs of the instruction just attempted (R2240). Watchpoints 17 and 19 pulse for an rfi or rfci also when
the RET or CRET debug interrupt replaces the return: R2240 says executed, R2220 and R2221 make the attempt the event (DESIGN
CHOICE, assumption log entry 42, unsafe). -/
def State.watchpoints (s : State) (old : DebugRegs) (msr : Word) : List OutputEvent :=
  if bit old.dbcr0 1 then
    let h := s.cur.iacHits
    let dac (n : Nat) : Bool := dacObserved old msr s.cur n true || dacObserved old msr s.cur n false
    [(h.getLsbD 0, 0), (h.getLsbD 1, 1), (h.getLsbD 2, 2), (h.getLsbD 3, 3), (dac 0, 4), (dac 1, 5), (h.getLsbD 4, 8),
     (h.getLsbD 5, 9), (h.getLsbD 6, 14), (h.getLsbD 7, 15), (s.cur.irpt, 16), (s.cur.ret, 17), (s.cur.cirpt, 18),
     (s.cur.cret, 19)].filterMap fun p => if p.1 then some (.watchpoint p.2) else none
  else []

/-- Compare register n + 1 is in use: enabled, counted, a trigger, or linked to a data compare in use. -/
def iacInUse (d : DebugRegs) (n : Nat) : Bool :=
  let enable := if n < 4 then bit d.dbcr0 (8 + n) else bit d.dbcr0 (13 + n)
  let counted := n < 4 && (bit d.dbcr3 (3 + n) || bit d.dbcr3 (16 + n))
  let trigger := (n == 0 && bit d.dbcr3 26) || (n == 2 && bit d.dbcr3 27)
  let linked := (n == 0 && dacLinked d 0) || (n == 2 && dacLinked d 1)
  enable || counted || trigger || linked

/-- DAC n + 1 is in use. -/
def dacInUse (d : DebugRegs) (n : Nat) : Bool :=
  dacEnable d n != 0 || bit d.dbcr3 (7 + 2 * n) || bit d.dbcr3 (8 + 2 * n) || bit d.dbcr3 (20 + 2 * n) ||
    bit d.dbcr3 (21 + 2 * n) || (n == 0 && (bit d.dbcr3 28 || bit d.dbcr3 29))

/-- A debug control register in use holds a reserved code (spec/93_implementation_defined.md U52): US = 01, XM above 12,
IAC56M or IAC78M above 01, DVCnC = 1 with DVCnM = 00 or 11. Only while internal debug mode is on, since otherwise no
compare is made (spec/61_debug.md R2202). -/
def State.debugReserved (s : State) : Bool :=
  let d := s.dbg
  s.idm &&
    ((List.range 8).any (fun n =>
      iacInUse d n && (bits (iacUsPos n) 2 (iacControl d n) == 1#2 || (iacMaskBits d n).ult 13 == false ||
        (n ≥ 4 && (iacMode d n).getLsbD 1))) ||
    (List.range 2).any (fun n =>
      dacInUse d n && (bits (4 * n) 2 d.dbcr2 == 1#2 || (bits (16 + 4 * n) 4 d.dbcr4).ult 13 == false ||
        (dvcInverted d n && (dvcMode d n == 0#2 || dvcMode d n == 3#2)))))

end Sys2Proof.Machine
end

