-- ==== Sys2Proof/Machine/Ops.lean ====
section
/-! DEFINITION. The named operations every meaning is written over: registers, taking an interrupt and returning from one
(spec/60_exceptions.md R2001 to R2081), memory, address translation and data accesses (spec/20_memory.md R400 to R452). -/

namespace Sys2Proof.Machine

/-! ## Registers -/

/-- GPR[r], all 64 bits (spec/10_state.md R50). -/
def State.r64 (s : State) (r : Reg) : Dword := s.gpr[r.toNat]'(r.isLt)

/-- GPR[r][32:63], what base instructions read (R51). -/
def State.r (s : State) (r : Reg) : Word := lo (s.r64 r)

/-- GPR[r] with all 64 bits written. -/
def State.setR64 (s : State) (r : Reg) (v : Dword) : State := { s with gpr := s.gpr.set r.toNat v r.isLt }

/-- GPR[r][32:63] written and GPR[r][0:31] kept (R51). -/
def State.setR (s : State) (r : Reg) (v : Word) : State := s.setR64 r (hi (s.r64 r) ++ v)

/-- (RA|0): the register, or 0 when the field is 0 (spec/00_scope.md R24). -/
def State.base (s : State) (r : Reg) : Word := if r = 0 then 0 else s.r r

/-- pc <- pc + len (spec/10_state.md R53). -/
def State.advance (s : State) (len : Word) : State := { s with pc := s.pc + len }

/-- An address loaded into pc has its low bit forced to 0 (R53). -/
def codeAddress (w : Word) : Word := w &&& 0xFFFFFFFE

/-- pc <- target. -/
def State.jump (s : State) (target : Word) : State := { s with pc := codeAddress target }

def State.setCr (s : State) (v : Word) : State := { s with cr := v }
def State.setXer (s : State) (v : Word) : State := { s with xer := v }
def State.setLr (s : State) (v : Word) : State := { s with lr := v }
def State.setCtr (s : State) (v : Word) : State := { s with ctr := v }
def State.setAcc (s : State) (v : Dword) : State := { s with acc := v }
def State.setSpefscr (s : State) (v : Word) : State := { s with spefscr := v }
def State.setReserve (s : State) (v : Bool) : State := { s with reserve := v }

/-- The MSR bits with storage (spec/10_state.md R70, spec/92_eei_decisions.md D5). -/
def msrMask : Word := 0x0606FB32

/-- MSR <- v, implemented bits only (R70). -/
def State.setMsr (s : State) (v : Word) : State := { s with msr := v &&& msrMask }

/-- MSR[PR] = 1: user mode (spec/60_exceptions.md R2080). -/
def State.userMode (s : State) : Bool := bit s.msr 17

/-- MSR[SPE] (spec/13_state_spe.md R1055). -/
def State.speOn (s : State) : Bool := bit s.msr 6

/-- HID0[DAPUEN] (spec/10_state.md R122). -/
def State.dapuen (s : State) : Bool := bit s.hid.hid0 23

/-- Take the next free value index. -/
def State.spendFree (s : State) : State := { s with freeCtr := s.freeCtr + 1 }

/-- An output pulse. -/
def State.pulse (s : State) (o : OutputEvent) : State := { s with outputs := s.outputs ++ [o] }

/-! ## Taking an interrupt -/

/-- The four interrupt classes (spec/60_exceptions.md R2001). -/
inductive IntClass where
  | nonCritical
  | critical
  | debug
  | machineCheck
  deriving DecidableEq, Repr

/-- A HID0 control bit that clears an MSR bit on interrupt entry; it counts as 1 while DAPUEN = 0 (R2009). -/
def clears (hid0 : Word) (i : Nat) : Bool := !bit hid0 23 || bit hid0 i

/-- The MSR bits an interrupt of a class keeps (R2009). RI is one of them for every class but machine check, as R2009, R2054
and spec/10_state.md R70 say, also for the floating-point interrupts, of which spec/45_efpu_scalar.md R1115 and R1117 say
that all bits but CE, ME and DE are cleared (DESIGN CHOICE, assumption log entry 37, unsafe). -/
def keptMsr (hid0 : Word) : IntClass → Word
  | .nonCritical => oneBit 14 ||| oneBit 19 ||| oneBit 22 ||| oneBit 30
  | .critical => oneBit 19 ||| oneBit 30 ||| when (!clears hid0 21) (oneBit 22)
  | .debug => oneBit 19 ||| oneBit 30 ||| when (!clears hid0 20) (oneBit 14) ||| when (!clears hid0 19) (oneBit 16)
  | .machineCheck => when (!clears hid0 22) (oneBit 22)

/-- The MSR after an interrupt of a class is taken (R2009). -/
def newMsr (hid0 : Word) (c : IntClass) (m : Word) : Word := m &&& keptMsr hid0 c

/-- IVPR[0:15] || offset || 0000 (R2005, R2006). -/
def vectorAt (s : State) (offset : BitVec 12) : Word := bits 0 16 s.int.ivpr ++ offset ++ 0#4

/-- The vector of the IVOR held at index n of `ivor` (R2005). -/
def vectorOf (s : State) (n : Nat) : Word := vectorAt s (bits 16 12 (s.int.ivor.toList.getD n 0))

/-- Write the save and restore pair of a class (R2001, R2008). -/
def saveContext (c : IntClass) (address msr : Word) (dapuen : Bool) (i : IntRegs) : IntRegs :=
  match c with
  | .nonCritical => { i with srr0 := address, srr1 := msr }
  | .critical => { i with csrr0 := address, csrr1 := msr }
  | .debug => if dapuen then { i with dsrr0 := address, dsrr1 := msr } else { i with csrr0 := address, csrr1 := msr }
  | .machineCheck => { i with mcsrr0 := address, mcsrr1 := msr }

/-- Interrupt entry without its debug event (R2008): save, new MSR, pc at the vector. The waiting state ends
(spec/62_timers_power_platform.md R2170). -/
def State.enter (s : State) (c : IntClass) (vector address : Word) : State :=
  { s with
    int := saveContext c address s.msr s.dapuen s.int
    msr := newMsr s.hid.hid0 c s.msr
    pc := codeAddress vector
    waiting := false
    firstFetch := true }

/-- The interrupt-taken events: IRPT for a non-critical and CIRPT for a critical interrupt (spec/61_debug.md R2214, R2216). -/
def State.takenEvent (s : State) (c : IntClass) : State :=
  match c with
  | .nonCritical => { s with cur.irpt := true }.record (when (bit s.dbg.dbcr0 6) (oneBit 6)) false
  | .critical => { s with cur.cirpt := true }.record (when (bit s.dbg.dbcr0 25) (oneBit 25)) false
  | .debug => s
  | .machineCheck => s

/-- TakeInterrupt (R2008). -/
def State.takeInterrupt (s : State) (c : IntClass) (vector address : Word) : State := (s.enter c vector address).takenEvent c

def State.setEsr (s : State) (v : Word) : State := { s with int.esr := v }
def State.setDear (s : State) (v : Word) : State := { s with int.dear := v }

/-- ESR[VLEMI] for the current instruction (R2046). -/
def State.vlemi (s : State) : Word := when s.cur.vle (oneBit 26)

/-- The current instruction is suppressed by an exception (spec/61_debug.md R2212). -/
def State.suppress (s : State) : State := { s with cur.suppressed := true }

/-- A non-critical interrupt raised by the instruction at pc, vector at index n of `ivor` (R2022 to R2045). -/
def State.raise (s : State) (n : Nat) : State := (s.takeInterrupt .nonCritical (vectorOf s n) s.pc).suppress

/-- Program interrupt with the ESR cause bits given (R2026). -/
def State.program (s : State) (cause : Word) : State := (s.setEsr (cause ||| s.vlemi)).raise 6

/-- Illegal instruction (R2026). -/
def State.illegal (s : State) : State := s.program (oneBit 4)

/-- Privileged instruction (R2026). -/
def State.privileged (s : State) : State := s.program (oneBit 5)

/-- Unimplemented operation, with ESR[FP] for a floating-point instruction (R2026). -/
def State.unimplemented (s : State) (fp : Bool) : State := s.program (oneBit 13 ||| when fp (oneBit 7))

/-- Floating-point unavailable (R2027). -/
def State.fpUnavailable (s : State) : State := s.raise 7

/-- SPE unavailable (R2043). -/
def State.speUnavailable (s : State) : State := (s.setEsr (oneBit 24 ||| s.vlemi)).raise 16

/-- EFP floating-point data (R2044). -/
def State.efpData (s : State) : State := (s.setEsr (oneBit 24 ||| s.vlemi)).raise 17

/-- EFP floating-point round, after the instruction has completed: `next` is the address of the following instruction
(R2045). -/
def State.efpRoundAt (s : State) (next : Word) : State :=
  { (s.setEsr (oneBit 24 ||| s.vlemi)).takeInterrupt .nonCritical (vectorOf s 18) next with cur.efpRound := true }

/-- System call: `next` is the address of the following instruction (R2028). -/
def State.systemCall (s : State) (next : Word) : State :=
  (s.setEsr s.vlemi).takeInterrupt .nonCritical (vectorOf s 8) next

/-- ESR[ST], [SPE], [VLEMI] of a data access (R2046). -/
def State.accessEsr (s : State) (store spe : Bool) : Word := when store (oneBit 8) ||| when spe (oneBit 24) ||| s.vlemi

/-- Alignment interrupt (R2025). -/
def State.alignment (s : State) (ea : Word) (store spe : Bool) : State :=
  ((s.setEsr (s.accessEsr store spe)).setDear ea).raise 5

/-- Take the debug interrupt with the saved address given (R2035). -/
def State.takeDebug (s : State) (address : Word) : State := s.takeInterrupt .debug (vectorOf s 15) address

/-- An instruction-based debug event of the instruction at pc that suppresses it (BRT, TRAP, RET, CRET, IAC): record it and
take the interrupt (R2035, spec/61_debug.md R2210 to R2221). -/
def State.debugInstead (s : State) (event : Word) : State := ((s.record event true).takeDebug s.pc).suppress

/-- A debug event of the instruction at pc that is enabled in DBCR0 at the bit given and would be taken at once. -/
def State.debugNow (s : State) (enable : Nat) : Bool := s.idm && s.de && bit s.dbg.dbcr0 enable

/-! ## Machine check -/

/-- The async mchk bits of MCSR that raise an interrupt while MSR[ME] = 1 (spec/60_exceptions.md R2052). -/
def mcsrAsyncMask : Word :=
  oneBit 0 ||| oneBit 1 ||| oneBit 4 ||| oneBit 5 ||| oneBit 27 ||| oneBit 28 ||| oneBit 29

/-- An async mchk condition with an address: set the bits, and load MCAR unless MCSR[MAV] = 1; `effective` says the address
is an effective one (R2052, R2053). -/
def State.asyncCheck (s : State) (bitsSet address : Word) (effective : Bool) : State :=
  let i := s.int
  if bit i.mcsr 12 then { s with int.mcsr := i.mcsr ||| bitsSet }
  else { s with int := { i with mcsr := setBit (i.mcsr ||| bitsSet ||| oneBit 12) 13 effective, mcar := address } }

/-- Take a machine check interrupt that sets the MCSR bits given (R2021). -/
def State.machineCheck (s : State) (report address : Word) : State :=
  ({ s with int.mcsr := s.int.mcsr ||| report }).takeInterrupt .machineCheck (vectorOf s 1) address

/-- The error report machine check of the instruction at pc (R2050). -/
def State.errorReport (s : State) (report : Word) : State := (s.machineCheck report s.pc).suppress

/-! ## Return from interrupt -/

/-- MSR <- x1, pc <- x0[0:30] || 0 (spec/43_system.md R854, spec/60_exceptions.md R2070). -/
def State.returnFrom (s : State) (x0 x1 : Word) : State := (s.setMsr x1).jump x0

/-! ## Memory -/

/-- What an address that memory does not list reads as (DESIGN CHOICE, assumption log entry 3). -/
def unlistedByte : Byte := 0

/-- The byte at a real address. -/
def Memory.read : Memory → Nat → Byte
  | [], _ => unlistedByte
  | c :: m, a => if c.1 = a then c.2 else Memory.read m a

/-- Put a cell before the first cell with a greater address. -/
def Memory.insert : Memory → Host.Cell → Memory
  | [], x => [x]
  | c :: m, x => if x.1 < c.1 then x :: c :: m else c :: Memory.insert m x

/-- Write the byte at a real address, keeping the canonical form. -/
def Memory.write (m : Memory) (a : Nat) (v : Byte) : Memory :=
  let rest := m.filter fun c => c.1 != a
  if v = unlistedByte then rest else Memory.insert rest (a, v)

/-- The canonical form: addresses strictly rising and below 2^32, no byte that an unlisted address reads as. -/
def Memory.wf : Memory → Bool
  | [] => true
  | c :: m => decide (c.1 < 4294967296) && c.2 != unlistedByte && m.all (fun d => decide (c.1 < d.1)) && Memory.wf m

/-- Write bytes at the real addresses given. -/
def Memory.writeAll (m : Memory) : List (Word × Byte) → Memory
  | [] => m
  | (a, b) :: t => Memory.writeAll (m.write a.toNat b) t

/-- The byte at a real address of the machine. -/
def State.byteAt (s : State) (a : Word) : Byte := s.mem.read a.toNat

/-! ## Translation -/

/-- The number of low-order address bits a page of a size code covers, up to 4 Gbytes (spec/11_state_mmu_cache.md R202; the
sizes above 256 Mbytes are assumption log entry 8, DESIGN CHOICE). -/
def pageBits (size : BitVec 5) : Nat := 10 + size.toNat

/-- The page-number compare of an entry; a size code above 22 never matches (R202, spec/93_implementation_defined.md U40,
assumption log entry 8). All 23 sizes of R202 match, as C41 and C52 of spec/90_conflicts.md read its table; section 1.3 of
spec/93_implementation_defined.md calls those above 256 Mbytes not implemented, and no ruling names that line (DESIGN CHOICE,
assumption log entry 8, unsafe). -/
def TlbEntry.pageMatches (e : TlbEntry) (ea : Word) : Bool :=
  decide (e.size.toNat ≤ 22) && ((e.epn ++ 0#10 : Word) >>> pageBits e.size) == (ea >>> pageBits e.size)

/-- The process compare of an entry, with the external alteration (R203, R204). -/
def TlbEntry.pidMatches (e : TlbEntry) (pid : BitVec 8) (p : Pins) : Bool :=
  e.tid == 0 ||
  (if p.extpidEn && e.tid.extractLsb' 4 4 == 0xF#4 then
    e.tid.extractLsb' 2 6 == pid.extractLsb' 2 6 && (e.tid.extractLsb' 0 2 == 3 || e.tid.extractLsb' 0 2 == p.extpid)
  else e.tid == pid)

/-- The entry matches (spec/20_memory.md R430). -/
def TlbEntry.hit (e : TlbEntry) (as : Bool) (pid : BitVec 8) (p : Pins) (ea : Word) : Bool :=
  e.v && e.ts == as && e.pidMatches pid p && e.pageMatches ea

/-- What a lookup gives: the entry that maps the page, and, for a lookup that hits more than one entry, a free value folded
into the real address (spec/11_state_mmu_cache.md R206, U42 (a)). -/
structure Mapping where
  entry : TlbEntry
  flip : Word
  multi : Bool
  deriving DecidableEq, Repr

/-- The mapping of a lookup that hits more than one entry: all permissions, free attributes and a free address (U42 (a)). -/
def multiHitMapping (n : Nat) (ea : Word) : Mapping :=
  let a := Config.freeMultiHitAttributes n
  { entry := { v := true, ts := false, tid := 0, epn := bits 0 22 ea, rpn := bits 0 22 ea, size := 0,
               ux := true, sx := true, uw := true, sw := true, ur := true, sr := true,
               w := a.getMsbD 1, i := a.getMsbD 2, m := a.getMsbD 3, g := a.getMsbD 4, e := a.getMsbD 5, u := 0,
               iprot := false, vle := a.getMsbD 0 }
    flip := Config.freeMultiHitAddress n
    multi := true }

/-- Translate an effective address in address space `as` with process id `pid` (spec/20_memory.md R430). -/
def State.lookupPid (s : State) (as : Bool) (pid : BitVec 8) (ea : Word) : Option Mapping :=
  match s.mmu.tlb.toList.filter (fun e => e.hit as pid s.pins ea) with
  | [] => none
  | [e] => some { entry := e, flip := 0, multi := false }
  | _ => some (multiHitMapping s.freeCtr ea)

/-- Translate with the current process id (R203). -/
def State.lookup (s : State) (as : Bool) (ea : Word) : Option Mapping := s.lookupPid as (bits 24 8 s.soft.pid0) ea

/-- The real address of an effective address in the mapped page (R202, R430). -/
def Mapping.real (m : Mapping) (ea : Word) : Word :=
  let k := pageBits m.entry.size
  (((m.entry.rpn ++ 0#10 : Word) >>> k) <<< k ||| (ea &&& ~~~(0xFFFFFFFF#32 <<< k))) ^^^ m.flip

/-- Two addresses lie in one page of the mapping's size. -/
def Mapping.samePage (m : Mapping) (a b : Word) : Bool := a >>> pageBits m.entry.size == b >>> pageBits m.entry.size

/-- The first address after the page of a (modulo 2^32). -/
def Mapping.nextPage (m : Mapping) (a : Word) : Word := clearLow a (pageBits m.entry.size) + (1#32 <<< pageBits m.entry.size)

/-- Read, write and execute permission for the privilege of the access (R432). -/
def Mapping.mayRead (m : Mapping) (user : Bool) : Bool := if user then m.entry.ur else m.entry.sr
def Mapping.mayWrite (m : Mapping) (user : Bool) : Bool := if user then m.entry.uw else m.entry.sw
def Mapping.mayExecute (m : Mapping) (user : Bool) : Bool := if user then m.entry.ux else m.entry.sx

/-- The permission a data access needs (R432). -/
def Mapping.permits (m : Mapping) (store user : Bool) : Bool := if store then m.mayWrite user else m.mayRead user

/-- A lookup that hits more than one entry spends a free value. -/
def State.usedMapping (s : State) (m : Mapping) : State := if m.multi then s.spendFree else s

/-- MAS1[TID] on a TLB miss (R440, U43). -/
def State.missTid (s : State) : BitVec 8 :=
  match (bits 14 2 s.mmu.mas4).toNat with
  | 0 => bits 24 8 s.soft.pid0
  | 3 => 0
  | _ => Config.freeTid s.freeCtr

/-- The MAS registers loaded on a TLB miss of effective address ea in address space `as` (R440). -/
def State.loadMissMas (s : State) (as : Bool) (ea : Word) : State :=
  let m := s.mmu
  let m' : MmuRegs := { m with
    mas0 := putBits 12 4 (bits 28 4 m.mas0) (putBits 2 2 (bits 2 2 m.mas4) m.mas0)
    mas1 := oneBit 0 ||| zext s.missTid <<< 16 ||| when as (oneBit 19) ||| zext (bits 20 5 m.mas4) <<< 7
    mas2 := clearLow ea 10 ||| zext (bits 26 6 m.mas4)
    mas3 := 0
    mas6 := zext (bits 24 8 s.soft.pid0) <<< 16 ||| when as (oneBit 31) }
  { (if bits 14 2 m.mas4 == 1 || bits 14 2 m.mas4 == 2 then s.spendFree else s) with mmu := m' }

/-! ## Data accesses -/

/-- The result of an operation that may end in an interrupt instead: a value and the state after it, or the state after the
interrupt was taken. -/
inductive Access (α : Type) where
  | done (v : α) (s : State)
  | raised (s : State)

/-- Go on with the value, or stay in the state after the interrupt. -/
def Access.next {φ ρ α : Type} (x : Access α) (f : α → State → State) : Host.Outcome State φ ρ :=
  match x with
  | .done v s => .next (f v s)
  | .raised s => .next s

/-- Chain two operations. -/
def Access.bind {α β : Type} (x : Access α) (f : α → State → Access β) : Access β :=
  match x with
  | .done v s => f v s
  | .raised s => .raised s

/-- One scalar data access: effective address, number of bytes, store or load, and the kind of instruction that makes it. -/
structure Request where
  ea : Word
  size : Nat
  store : Bool
  kind : AccessKind
  deriving DecidableEq, Repr

/-- A data access at ea faults: with a data address compare hit of the access (address part only) or of a transfer the same
instruction has made, or with a counted hit that makes an enabled counter reach zero, and MSR[DE] = 1, the debug interrupt is
taken instead of the fault; with DE = 0 the event is recorded and the fault is taken (spec/61_debug.md R2211, R2230). VLES is
recorded for the compare hit only (R2205, spec/92_eei_decisions.md D85). `fault` takes the fault. -/
def State.dataFault (s : State) (q : Request) (fault : State → State) : State :=
  let x : DataAccess := { ea := q.ea, store := q.store, bytes := [] }
  let hits := dacEventsAll s.dbg s.msr s.cur.iacHits s.cur.accesses ||| dacEvents s.dbg s.msr s.cur.iacHits false x
  let t := { s with cur.faulted := [x] }
  if s.idm && (hits != 0 || counterFires t.dbg t.msr t.cur) then
    let u := t.record (hits ||| oneBit 0) (hits != 0)
    if s.de then (u.takeDebug s.pc).suppress else fault u
  else fault t

/-- Data TLB error for address ea (spec/60_exceptions.md R2033, spec/20_memory.md R440). -/
def State.dataTlbError (s : State) (store spe : Bool) (ea : Word) : State :=
  (((s.setEsr (s.accessEsr store spe)).setDear ea).loadMissMas (bit s.msr 27) ea).raise 13

/-- Data storage interrupt for address ea, with extra ESR bits (R2022). -/
def State.dataStorage (s : State) (store spe : Bool) (extra ea : Word) : State :=
  ((s.setEsr (s.accessEsr store spe ||| extra)).setDear ea).raise 2

/-- Steps 2 to 4 of the data access procedure: the mappings of the first and of the last byte (spec/20_memory.md R410,
R418, R419). -/
def State.translateData (s : State) (q : Request) : Access (Mapping × Mapping) :=
  match s.lookup (bit s.msr 27) q.ea with
  | none => .raised (s.dataFault q fun t => t.dataTlbError q.store (q.kind == .spe) q.ea)
  | some m =>
    if !m.permits q.store s.userMode then .raised (s.dataFault q fun t => t.dataStorage q.store (q.kind == .spe) 0 q.ea)
    else if m.samePage q.ea (q.ea + BitVec.ofNat 32 (q.size - 1)) then .done (m, m) (s.usedMapping m)
    else
      let second := m.nextPage q.ea
      match s.lookup (bit s.msr 27) second with
      | none => .raised (s.dataFault q fun t => t.dataTlbError q.store (q.kind == .spe) second)
      | some m2 =>
        if !m2.permits q.store s.userMode then .raised (s.dataFault q fun t => t.dataStorage q.store (q.kind == .spe) 0 second)
        else if m.entry.e != m2.entry.e && !m.multi && !m2.multi then
          .raised (s.dataFault q fun t => t.dataStorage q.store (q.kind == .spe) (oneBit 14) second)
        else .done (m, m2) ((s.usedMapping m).usedMapping m2)

/-- The real addresses of the n bytes at ea. -/
def realAddresses (m m2 : Mapping) (ea : Word) (n : Nat) : List Word :=
  (List.range n).map fun k =>
    let a := ea + BitVec.ofNat 32 k
    if m.samePage ea a then m.real a else m2.real a

/-- The platform answers a transfer of the kind at some of the addresses with ERROR (spec/20_memory.md R412). -/
def State.busError (s : State) (kind : BusKind) (addresses : List Word) : Bool :=
  addresses.any fun a => s.busErrors.any fun r => r.kind == kind && r.first.ule a && a.ule r.last

/-- One step of a signature register: psuStep of spec/62_timers_power_platform.md R2190 (spec/92_eei_decisions.md D89). -/
def psuStep (x d : Word) : Word := (x <<< 1) ^^^ when (bit x 0) 0xC0000401 ^^^ d

/-- The two words a transfer of bytes at ea feeds to the signature unit: high word first; inactive lanes are 0 (R2190). -/
def psuWords (ea : Word) (bytes : List Byte) : Word × Word :=
  let first := ea.toNat % 8
  let lane (k : Nat) : Byte := if k < first then 0 else bytes.getD (k - first) 0
  (lane 7 ++ lane 6 ++ lane 5 ++ lane 4, lane 3 ++ lane 2 ++ lane 1 ++ lane 0)

/-- The signature unit accumulates one transfer (R2190); `error` is a read that the platform answered with ERROR. -/
def PsuRegs.accumulate (p : PsuRegs) (store error : Bool) (ea : Word) (bytes : List Byte) : PsuRegs :=
  if bit p.pscr (if store then 30 else 29) then
    let failed := error && !store
    let w := if failed then (0, 0) else psuWords ea bytes
    { p with
      pshr := psuStep p.pshr w.1
      pslr := psuStep p.pslr w.2
      psctr := if bit p.pscr 26 then p.psctr + 1 else p.psctr
      pssr := if failed then p.pssr ||| oneBit 31 else p.pssr }
  else p

/-- The transfers of an access as the signature unit sees them; the second transfer of a split access is aborted when the
first ends in an error (R2187, R2190). -/
def PsuRegs.accumulateAccess (p : PsuRegs) (store err1 err2 : Bool) (ea : Word) (bytes : List Byte) : PsuRegs :=
  let n := firstTransfer ea bytes.length
  let p1 := p.accumulate store err1 ea (bytes.take n)
  if err1 || n == bytes.length then p1 else p1.accumulate store err2 (ea + BitVec.ofNat 32 n) (bytes.drop n)

/-- The instruction has made a data access (spec/61_debug.md R2211). -/
def State.noteAccess (s : State) (x : DataAccess) : State := { s with cur.accesses := s.cur.accesses ++ [x] }

/-- A write by the core lands in a byte store at a real address: no region of the platform says otherwise (R480,
spec/92_eei_decisions.md D70). -/
def State.holds (s : State) (a : Word) : Bool := !s.platform.any fun r => r.first.ule a && a.ule r.last

/-- Memory after the core writes bytes at the real addresses given. -/
def State.writeCells (s : State) (cells : List (Word × Byte)) : Memory := s.mem.writeAll (cells.filter fun c => s.holds c.1)

/-- The bus sees the transfers of an access: requests (R2185) and the signature unit (R2190). -/
def State.transfer (s : State) (q : Request) (m m2 : Mapping) (real : List Word) (bytes : List Byte) (err1 err2 : Bool) :
    State :=
  { s with
    psu := s.psu.accumulateAccess q.store err1 err2 q.ea bytes
    cur.signals := s.cur.signals ++ s.dataRequests q.store q.kind m.entry m2.entry q.ea real bytes err1 }

/-- MemRead (R410): the bytes at ascending addresses, and the mapping of the first byte. -/
def State.loadBytes (s : State) (ea : Word) (n : Nat) (kind : AccessKind) : Access (List Byte × Mapping) :=
  let q : Request := { ea := ea, size := n, store := false, kind := kind }
  (s.translateData q).bind fun mm t =>
    let real := realAddresses mm.1 mm.2 ea n
    let k := firstTransfer ea n
    let err1 := t.busError .load (real.take k)
    let err2 := !err1 && t.busError .load (real.drop k)
    let bytes := real.map t.byteAt
    let u := t.transfer q mm.1 mm.2 real bytes err1 err2
    if err1 || err2 then
      let g := if err1 then mm.1.entry.g else mm.2.entry.g
      let u' := u.asyncCheck (oneBit 28) (real.getD (if err1 then 0 else k) 0) false
      .raised (u'.dataFault q fun v => v.errorReport (oneBit 16 ||| when g (oneBit 18)))
    else .done (bytes, mm.1) (u.noteAccess { ea := ea, store := false, bytes := bytes })

/-- MemRead of an n-byte scalar, zero-extended (R405, R410). -/
def State.load (s : State) (ea : Word) (n : Nat) (kind : AccessKind) : Access Dword :=
  (s.loadBytes ea n kind).bind fun r t => .done (ofBytes (inOrder r.2.entry.e r.1)) t

/-- MemWrite (R410, R412) of n bytes at ea: `image e` is what ascending addresses receive in a page of byte order e.
The answer is false when external reservation logic refused the write (R451). A bus error on a store is reported
asynchronously, and the bytes of the transfer before it are kept; on a guarded page it is an error report as well for a store
conditional, and for an ordinary store if the page is cache-inhibited too, and then nothing is written (the table of
spec/60_exceptions.md R2050, spec/49_spe_loadstore.md R1806). That R412 names the store conditional without a condition on the
page, and what an unreported error leaves of one, is assumption log entry 20 (DEDUCED, unsafe). -/
def State.storeImage (s : State) (ea : Word) (n : Nat) (image : Bool → List Byte) (kind : AccessKind) : Access Bool :=
  let q : Request := { ea := ea, size := n, store := true, kind := kind }
  (s.translateData q).bind fun mm t =>
    let real := realAddresses mm.1 mm.2 ea n
    let bytes := image mm.1.entry.e
    let k := firstTransfer ea n
    let err1 := t.busError .store (real.take k)
    let err2 := !err1 && t.busError .store (real.drop k)
    let e := if err1 then mm.1.entry else mm.2.entry
    let precise := (err1 || err2) && e.g && (kind == .atomic || e.i)
    let refused := kind == .atomic && t.pins.xfail && !err1 && !err2
    let cells := real.zip bytes
    let kept := if err1 || refused || precise then [] else if err2 then cells.take k else cells
    let u := { t.transfer q mm.1 mm.2 real bytes err1 err2 with mem := t.writeCells kept }
    if err1 || err2 then
      let u' := u.asyncCheck (oneBit 29) (real.getD (if err1 then 0 else k) 0) false
      if precise then .raised (u'.dataFault q fun w => w.errorReport (oneBit 17 ||| when e.g (oneBit 18)))
      else .done true (u'.noteAccess { ea := ea, store := true, bytes := bytes })
    else .done (!refused) (u.noteAccess { ea := ea, store := true, bytes := bytes })

/-- MemWrite of an n-byte scalar (R405, R410). -/
def State.store (s : State) (ea : Word) (n : Nat) (v : Dword) (kind : AccessKind) : Access Bool :=
  s.storeImage ea n (fun e => inOrder e (toBytes n v)) kind

/-- The effective address is not a multiple of the size given (spec/20_memory.md R415). -/
def misaligned (ea : Word) (n : Nat) : Bool := ea.toNat % n != 0

end Sys2Proof.Machine
end

