-- ==== Sys2Proof/Machine/ICache.lean ====
section
/-! DEFINITION. The instruction cache: lookup and line fill on a fetch, check bits, the cache instructions, and the commands
of L1CSR1, L1FINV1 and CDACNTL (spec/20_memory.md R470 to R478, spec/11_state_mmu_cache.md R230 to R252). -/

namespace Sys2Proof.Machine

/-! ## Organisation -/

/-- L1CSR1[ICE]: the cache is enabled (spec/11_state_mmu_cache.md R243). -/
def ICache.enabled (c : ICache) : Bool := bit c.l1csr1 31

/-- L1CSR1[ICECE]: check-bit errors are signalled. -/
def ICache.checking (c : ICache) : Bool := bit c.l1csr1 15

/-- L1CSR1[ICEDT]: 0 parity, 1 EDC, 2 and 3 reserved. -/
def ICache.edt (c : ICache) : Nat := (bits 18 2 c.l1csr1).toNat

/-- L1CSR1[ICEA]: 0 machine check, 1 correct or invalidate, 2 and 3 reserved. -/
def ICache.action (c : ICache) : Nat := (bits 25 2 c.l1csr1).toNat

/-- The number of ways: 2, or 4 with L1CSR1[ICORG] (R230). -/
def ICache.ways (c : ICache) : Nat := if bit c.l1csr1 27 then 4 else 2

/-- The number of sets. -/
def ICache.sets (c : ICache) : Nat := if bit c.l1csr1 27 then 32 else 64

/-- The set of an effective address: A[21:26], or A[22:26] with four ways (R230). -/
def ICache.setOf (c : ICache) (ea : Word) : Nat := (ea >>> 5).toNat % c.sets

/-- The line in a way of a set. -/
def ICache.line (c : ICache) (set way : Nat) : CacheLine := c.lines.toList.getD (way * c.sets + set) zeroLine

/-- The cache with the line in a way of a set replaced. -/
def ICache.setLine (c : ICache) (set way : Nat) (l : CacheLine) : ICache :=
  { c with lines := c.lines.setIfInBounds (way * c.sets + set) l }

/-- The tag compare: 21 tag bits with two ways, 22 with four (R230, R231). -/
def ICache.tagMatches (c : ICache) (l : CacheLine) (real : Word) : Bool :=
  l.v && (if bit c.l1csr1 27 then l.tag == bits 0 22 real else l.tag >>> 1 == bits 0 22 real >>> 1)

/-- The way that holds the line of a real address, if any (R231). Where two ways of a set hold the same line, which only
CDACNTL writes and host changes can bring about, the spec does not say which supplies the bytes: the lowest-numbered does here
(DESIGN CHOICE, assumption log entry 33, unsafe). -/
def ICache.hitWay (c : ICache) (ea real : Word) : Option Nat :=
  (List.range c.ways).find? fun w => c.tagMatches (c.line (c.setOf ea) w) real

/-! ## Check bits -/

/-- EDC tag check bits over the 22 tag bits and V (R235, Table 9-5). -/
def edcTag (t : BitVec 23) : BitVec 6 :=
  BitVec.ofBool (parity (t &&& 0x7E7680#23)) ++ BitVec.ofBool (parity (t &&& 0x31BC63#23)) ++
  BitVec.ofBool (parity (t &&& 0x0CE1F5#23)) ++ BitVec.ofBool (parity (t &&& 0x0A1FCF#23)) ++
  BitVec.ofBool (parity (t &&& 0x6D921F#23)) ++ BitVec.ofBool (parity (t &&& 0x5B5939#23))

/-- Parity tag check bits: bit 0 over tag[0:11], bit 1 over tag[12:21] and V, odd; the other four unused (R234). -/
def parityTag (t : BitVec 23) : BitVec 6 :=
  BitVec.ofBool (!parity (t &&& 0x7FF800#23)) ++ BitVec.ofBool (!parity (t &&& 0x0007FF#23)) ++ 0#4

/-- EDC data check bits over a double word (R235, Table 9-6). -/
def edcData (d : Dword) : Byte :=
  BitVec.ofBool (parity (d &&& 0xFF26499010131CE0#64)) ++ BitVec.ofBool (parity (d &&& 0xE0FF26499010131C#64)) ++
  BitVec.ofBool (parity (d &&& 0x1CE0FF2649901013#64)) ++ BitVec.ofBool (parity (d &&& 0x131CE0FF26499010#64)) ++
  BitVec.ofBool (parity (d &&& 0x10131CE0FF264990#64)) ++ BitVec.ofBool (parity (d &&& 0x9010131CE0FF2649#64)) ++
  BitVec.ofBool (parity (d &&& 0x499010131CE0FF26#64)) ++ BitVec.ofBool (parity (d &&& 0x26499010131CE0FF#64))

/-- Parity data check bits: check bit k is the odd parity of byte k (R234). -/
def parityData (d : Dword) : Byte :=
  BitVec.ofBool (!parity (byteOf d 0)) ++ BitVec.ofBool (!parity (byteOf d 1)) ++ BitVec.ofBool (!parity (byteOf d 2)) ++
  BitVec.ofBool (!parity (byteOf d 3)) ++ BitVec.ofBool (!parity (byteOf d 4)) ++ BitVec.ofBool (!parity (byteOf d 5)) ++
  BitVec.ofBool (!parity (byteOf d 6)) ++ BitVec.ofBool (!parity (byteOf d 7))

/-- The tag check bits the cache writes; `free` is the free-value index for a reserved ICEDT code (assumption log
entry 4). -/
def tagCheck (edt free : Nat) (tag : BitVec 22) (v : Bool) : BitVec 6 :=
  let t : BitVec 23 := tag ++ BitVec.ofBool v
  match edt with
  | 0 => parityTag t
  | 1 => edcTag t
  | _ => (Config.freeCheckBits free).setWidth 6

/-- The data check bits the cache writes. -/
def dataCheck (edt free : Nat) (d : Dword) : Byte :=
  match edt with
  | 0 => parityData d
  | 1 => edcData d
  | _ => Config.freeCheckBits free

/-- The result of checking a tag: no error, a line with a single-bit error corrected (EDC), or an uncorrectable error. -/
inductive TagState where
  | good
  | corrected (l : CacheLine)
  | bad
  deriving DecidableEq, Repr

/-- Correct a single-bit error: the flipped bit is the one whose check-bit column is the syndrome; a syndrome with one bit is
an error in a check bit (R235, spec/20_memory.md R476). -/
def correctTag (l : CacheLine) : TagState :=
  let t : BitVec 23 := l.tag ++ BitVec.ofBool l.v
  let syndrome := l.tchk ^^^ edcTag t
  if syndrome == 0 then .good
  else if (List.range 6).any (fun k => syndrome == 1#6 <<< k) then .corrected { l with tchk := edcTag t }
  else match (List.range 23).find? fun j => edcTag (1#23 <<< j) == syndrome with
    | some j =>
      let t' := t ^^^ (1#23 <<< j)
      .corrected { l with tag := t'.extractLsb' 1 22, v := t'.getLsbD 0, tchk := edcTag t' }
    | none => .bad

/-- Check the tag of a line (R234, R476). -/
def checkTag (edt : Nat) (l : CacheLine) : TagState :=
  if edt = 1 then correctTag l
  else if (l.tchk ^^^ parityTag (l.tag ++ BitVec.ofBool l.v)) &&& 0x30#6 == 0 then .good else .bad

/-- The tag has an error. -/
def tagError (edt : Nat) (l : CacheLine) : Bool := checkTag edt l != .good

/-- Some way of the set has a tag error. -/
def ICache.setHasError (c : ICache) (set : Nat) : Bool := (List.range c.ways).any fun w => tagError c.edt (c.line set w)

/-- The ways of a set whose tags have an error, bit k (least significant 0) for way k. -/
def ICache.errorWays (c : ICache) (set : Nat) : BitVec 4 :=
  (List.range c.ways).foldl (fun m w => if tagError c.edt (c.line set w) then m ||| (1#4 <<< w) else m) 0

/-- The way that holds the line of a real address without a tag error, if any (R476). -/
def ICache.cleanWay (c : ICache) (ea real : Word) : Option Nat :=
  (List.range c.ways).find? fun w =>
    c.tagMatches (c.line (c.setOf ea) w) real && !(c.checking && tagError c.edt (c.line (c.setOf ea) w))

/-- The cache error outputs report the tag errors a lookup of the set of ea found
(spec/62_timers_power_platform.md R2168). -/
def State.reportTags (s : State) (ea real : Word) : State :=
  if s.ic.checking && s.ic.setHasError (s.ic.setOf ea) then
    s.signal (.cacheError true real (s.ic.errorWays (s.ic.setOf ea)))
  else s

/-- An uncorrectable line after auto-invalidation: V cleared, the tag check bits rewritten, L kept (R476). -/
def invalidated (edt free : Nat) (l : CacheLine) : CacheLine := { l with v := false, tchk := tagCheck edt free l.tag false }

/-- The correction and invalidation cycle over one set: `spareLocked` leaves locked lines with uncorrectable errors alone.
The answer says whether a locked line was invalidated (R476). -/
def ICache.correctSet (c : ICache) (set : Nat) (spareLocked : Bool) : ICache × Bool :=
  (List.range c.ways).foldl (fun (r : ICache × Bool) w =>
    let l := r.1.line set w
    match checkTag c.edt l with
    | .good => r
    | .corrected l' => (r.1.setLine set w l', r.2)
    | .bad => if spareLocked && l.l then r else (r.1.setLine set w (invalidated c.edt 0 l), r.2 || l.l)) (c, false)

/-! ## Line fill -/

/-- The ways a fill may take, in the order the replacement counter gives: not disabled by L1CSR0[WID] and, unless locked lines
may be replaced, not locked in this set (spec/20_memory.md R472). A counter that holds 2 or 3 while the cache has two ways,
which L1FINV1, or four ways before a change of L1CSR1[ICORG], can leave, counts modulo the number of ways; R232 does not say
what it names then (DESIGN CHOICE, assumption log entry 15, unsafe). -/
def ICache.candidates (c : ICache) (set : Nat) (overLocked : Bool) : List Nat :=
  ((List.range c.ways).map fun k => (c.replace.toNat + k) % c.ways).filter fun w =>
    !bit c.l1csr0 w && (overLocked || !(c.line set w).l)

/-- The 32 bytes of memory that hold a real address. -/
def State.lineBytes (s : State) (real : Word) : List Byte :=
  (List.range 32).map fun k => s.byteAt (clearLow real 5 + BitVec.ofNat 32 k)

/-- Some byte of the line of a real address answers with a bus error. -/
def State.lineError (s : State) (real : Word) : Bool :=
  s.busError .fetch ((List.range 32).map fun k => clearLow real 5 + BitVec.ofNat 32 k)

/-- The check bits a fill writes for a double word, with the errors of L1CSR1[ICEI] (spec/11_state_mmu_cache.md R243). -/
def ICache.fillCheck (c : ICache) (free : Nat) (d : Dword) : Byte :=
  let k := dataCheck c.edt free d
  if bit c.l1csr1 16 then (match c.edt with | 0 => ~~~k | 1 => k ^^^ 0xC0 | _ => k) else k

/-- Fill the line of a real address into a way of the set of ea: tag, V = 1, the lock bit given, data and check bits (R472). -/
def State.fillLine (s : State) (ea real : Word) (way : Nat) (lock : Bool) : State :=
  let c := s.ic
  let bs := s.lineBytes real
  let dw (k : Nat) : Dword := ofBytes ((bs.drop (8 * k)).take 8)
  let data : Vector Dword 4 := #v[dw 0, dw 1, dw 2, dw 3]
  let l : CacheLine :=
    { tag := bits 0 22 real, v := true, l := lock, tchk := tagCheck c.edt s.freeCtr (bits 0 22 real) true,
      data := data, dchk := data.map (c.fillCheck s.freeCtr) }
  { (if c.edt ≥ 2 then s.spendFree else s) with ic := c.setLine (c.setOf ea) way l }

/-- The replacement counter moves past the way just filled (R472). When ways were skipped the spec does not say whether the
counter steps from its old value or from the way chosen: from the way chosen here (DESIGN CHOICE, assumption log entry 33,
unsafe). -/
def State.stepReplace (s : State) (way : Nat) : State :=
  { s with ic.replace := BitVec.ofNat 2 ((way + 1) % s.ic.ways) }

/-- V cleared in a way of the set of ea, tag check bits rewritten. -/
def State.dropLine (s : State) (ea : Word) (way : Nat) : State :=
  let set := s.ic.setOf ea
  { s with ic := s.ic.setLine set way (invalidated s.ic.edt s.freeCtr (s.ic.line set way)) }

/-! ## Instruction fetch -/

/-- The result of fetching bytes: the bytes; an error whose async bits and address are given and which is reported as a
machine check with MCSR[IF] (spec/60_exceptions.md R2050); or a stop. -/
inductive Fetch where
  | bytes (bs : List Byte) (s : State)
  | check (async address : Word) (s : State)
  | stop (f : Fault)

/-- The n bytes at a real address as the instruction bus answers them (R412). -/
def State.fetchRead (s : State) (real : Word) (n : Nat) : Fetch :=
  let addresses := (List.range n).map fun k => real + BitVec.ofNat 32 k
  if s.busError .fetch addresses then .check (oneBit 27) real s else .bytes (addresses.map s.byteAt) s

/-- Fetch n bytes from memory, in a page with the attributes of e, by a single-beat transfer (R470, R412). -/
def State.fetchMemory (s : State) (real : Word) (n : Nat) (e : TlbEntry) : Fetch :=
  (s.fetchRequest real n e none).fetchRead real n

/-- A beat of the line fill of a fetch answers ERROR: the line is left invalid (R472) and MCSR[BUS_IRERR] is set at once,
whichever beat it is (R412, spec/10_state.md R74, spec/62_timers_power_platform.md R2187). MCAR gets the real address the fetch
wants, not that of the beat (DESIGN CHOICE, assumption log entry 46, unsafe). -/
def State.refuseLine (s : State) (ea real : Word) (way : Nat) : State := (s.dropLine ea way).asyncCheck (oneBit 27) real false

/-- Fetch n bytes by a line fill. A bus error on a beat drops the line (State.refuseLine); the error report belongs to the fetch
only if its own bytes met the error (R411 step 4), else it goes on with them (assumption log entry 46). -/
def State.fetchFill (s : State) (ea real : Word) (n : Nat) (e : TlbEntry) (way : Nat) : Fetch :=
  let t := s.fetchRequest real 32 e (some way)
  if s.lineError real then (t.refuseLine ea real way).fetchRead real n
  else ((t.fillLine ea real way false).stepReplace way).fetchRead real n

/-- The double word of a line that holds an address has a data error (R476). -/
def ICache.dataError (c : ICache) (l : CacheLine) (ea : Word) : Bool :=
  let k := (bits 27 2 ea).toNat
  l.dchk.toList.getD k 0 != dataCheck c.edt 0 (l.data.toList.getD k 0)

/-- The n bytes of a line at an address. -/
def lineData (l : CacheLine) (ea : Word) (n : Nat) : List Byte :=
  let d := l.data.toList.getD (bits 27 2 ea).toNat 0
  (List.range n).map fun k => byteOf d (ea.toNat % 8 + k)

/-- Lookup with the tags of the set known to be good (R470, R472, R476). -/
def State.fetchClean (s : State) (ea real : Word) (n : Nat) (e : TlbEntry) : Fetch :=
  let c := s.ic
  let set := c.setOf ea
  match c.hitWay ea real with
  | some w =>
    let l := c.line set w
    let t := s.signal (.cacheError false real (1#4 <<< w))
    let refill := t.fetchRequest real 32 e (some w)
    if !(c.checking && c.dataError l ea) then .bytes (lineData l ea n) s
    else if e.i then t.fetchMemory real n e
    else if c.action = 0 then .check (oneBit 1) real t
    else if c.action = 1 then
      if s.lineError real then
        if l.l then .check (oneBit 27 ||| oneBit 7) real (refill.dropLine ea w) else (refill.refuseLine ea real w).fetchRead real n
      else (refill.fillLine ea real w l.l).fetchRead real n
    else .stop .reservedCacheMode
  | none =>
    if e.i then s.fetchMemory real n e
    else match c.candidates set false with
      | [] => s.fetchMemory real n e
      | w :: _ => s.fetchFill ea real n e w

/-- Fetch n bytes, all in one double word, at effective address ea and real address real, in a page with the attributes of e
(R470, R476). For a cache-inhibited page with ICEA = 01, "if no line is locked" is read as: no locked way in the set looked up
(DESIGN CHOICE, assumption log entry 33, unsafe). -/
def State.fetchBytes (s : State) (ea real : Word) (n : Nat) (e : TlbEntry) : Fetch :=
  let c := s.ic
  let set := c.setOf ea
  if !c.enabled then s.fetchMemory real n e
  else if c.checking && c.edt ≥ 2 then .stop .reservedCacheMode
  else if c.checking && c.setHasError set then
    let t := s.reportTags ea real
    if c.action ≥ 2 then .stop .reservedCacheMode
    else if e.i then
      let anyLocked := (List.range c.ways).any fun w => (c.line set w).l
      (if c.action = 1 && !anyLocked then { t with ic := (c.correctSet set false).1 } else t).fetchMemory real n e
    else if c.action = 0 then .check (oneBit 5) real t
    else
      let r := c.correctSet set false
      let u := { t with ic := r.1 }
      if r.2 then .check (oneBit 5 ||| oneBit 7) real u else u.fetchClean ea real n e
  else s.fetchClean ea real n e

/-! ## The cache instructions -/

/-- The permission icbtls and icblc need: read or execute (R434). icbt is checked with the same one, in space MSR[DS]; for it
R434, R478 and R901 name neither (DESIGN CHOICE, assumption log entry 33, unsafe). -/
def Mapping.mayTouch (m : Mapping) (user : Bool) : Bool := m.mayRead user || m.mayExecute user

/-- Set L1CSR1[ICUL] (R243). -/
def State.setIcul (s : State) : State := { s with ic.l1csr1 := s.ic.l1csr1 ||| oneBit 21 }

/-- Set L1CSR1[ICLO]. -/
def State.setIclo (s : State) : State := { s with ic.l1csr1 := s.ic.l1csr1 ||| oneBit 22 }

/-- MSR[PR] = 1 and MSR[UCLE] = 0: cache locking is not allowed (R478 condition 4). -/
def State.lockDenied (s : State) : Bool := s.userMode && !bit s.msr 5

/-- DSI of a cache-locking instruction: ESR[ILK], DEAR a free value (spec/60_exceptions.md R2022 (c), U12). -/
def State.lockStorage (s : State) : State := (s.spendFree.dataStorage false false (oneBit 11) (Config.freeDear s.freeCtr))

/-- Lock bit of a way of a set written. -/
def State.setLock (s : State) (set way : Nat) (v : Bool) : State :=
  { s with ic := s.ic.setLine set way { s.ic.line set way with l := v } }

/-- The machine check of a cache instruction: async bits with the real address, and the error report IF (R2050, R2052). -/
def State.cacheCheck (s : State) (async real : Word) : State := (s.asyncCheck async real false).errorReport (oneBit 15)

/-- A machine answer: go on with the next instruction after len bytes. -/
def State.done (s : State) (len : Word) : Host.Outcome State Fault Refusal := .next (s.advance len)

/-- icbi (R900, R478): invalidate and unlock the line of ea. With ICEA = 01 a correctable tag error is corrected first and the
line is then looked up, a locked one too, so a locked line whose corrected tag matches is invalidated; R476 does not say
whether the correction precedes the lookup or the line is left (DESIGN CHOICE, assumption log entry 33, unsafe). -/
def State.cacheInvalidate (s0 : State) (ea : Word) : Host.Outcome State Fault Refusal :=
  let s := s0.command 6 ea
  if !s.ic.enabled then s.done 4
  else match s.lookup (bit s.msr 27) ea with
    | none => .next (s.dataTlbError false false ea)
    | some m =>
      if !m.mayRead s.userMode then .next (s.dataStorage false false 0 ea)
      else if s.ic.checking && s.ic.edt ≥ 2 then .fault .reservedCacheMode
      else
        let t := (s.usedMapping m).reportTags ea (m.real ea)
        let set := t.ic.setOf ea
        let c := if t.ic.checking && t.ic.action = 1 then (t.ic.correctSet set true).1 else t.ic
        let c' := (List.range c.ways).foldl (fun (k : ICache) w =>
          let l := k.line set w
          if k.tagMatches l (m.real ea) && !(k.checking && tagError k.edt l && l.l) then
            k.setLine set w { invalidated k.edt t.freeCtr l with l := false }
          else k) c
        { t with ic := c' }.done 4

/-- icbt (R901, R478): fill the line of ea if nothing makes it a no-op. A bus error on the fill leaves the line invalid and is
not reported (R478 condition 9: "no-op (line left invalid)"; R901: no exceptions, ever). -/
def State.cacheTouch (s0 : State) (ct : BitVec 5) (ea : Word) : Host.Outcome State Fault Refusal :=
  let s := s0.command 12 ea
  if ct != 0 || !s.ic.enabled || bit s.hid.hid0 31 then s.done 4
  else match s.lookup (bit s.msr 27) ea with
    | none => s.done 4
    | some m =>
      let set := s.ic.setOf ea
      let real := m.real ea
      let t := s.usedMapping m
      if !m.mayTouch s.userMode then t.done 4
      else if s.ic.checking && s.ic.edt ≥ 2 then .fault .reservedCacheMode
      else if s.ic.checking && s.ic.setHasError set then t.done 4
      else match s.ic.hitWay ea real with
        | some _ => t.done 4
        | none =>
          if m.entry.i then t.done 4
          else match s.ic.candidates set false with
            | [] => t.done 4
            | w :: _ =>
              let u := t.fetchRequest real 32 m.entry (some w)
              if t.lineError real then (u.dropLine ea w).done 4
              else ((u.fillLine ea real w false).stepReplace w).done 4

/-- icbtls on a set whose tags have been dealt with: conditions 7 to 9 of R478 and the normal case (R902). -/
def State.lockLine (s : State) (ea : Word) (m : Mapping) : Host.Outcome State Fault Refusal :=
  let set := s.ic.setOf ea
  let real := m.real ea
  match s.ic.cleanWay ea real with
  | some w => (s.setLock set w true).done 4
  | none =>
    if m.entry.i then s.setIcul.done 4
    else
      let fill (t0 : State) (w : Nat) : Host.Outcome State Fault Refusal :=
        let t := t0.fetchRequest real 32 m.entry (some w)
        if t.lineError real then .next ((t.dropLine ea w).cacheCheck (oneBit 27) real)
        else ((t.fillLine ea real w true).stepReplace w).done 4
      match s.ic.candidates set false with
      | w :: _ => fill s w
      | [] =>
        match s.ic.candidates set true with
        | [] => s.setIcul.done 4
        | w :: _ => if bit s.ic.l1csr1 24 then fill s.setIclo w else s.setIclo.done 4

/-- icbtls (R902, R478, R476). Of ICEA = 01 R476 says only that lines with uncorrectable tags are invalidated; here single-bit
errors of the set are corrected too, and a line whose corrected tag matches is a hit and is locked (DESIGN CHOICE, assumption
log entry 33, unsafe). -/
def State.cacheLock (s0 : State) (ct : BitVec 5) (ea : Word) : Host.Outcome State Fault Refusal :=
  let s := s0.command 14 ea
  if ct != 0 || !s.ic.enabled then s.setIcul.done 4
  else match s.lookup (bit s.msr 27) ea with
    | none => .next (s.dataTlbError false false ea)
    | some m =>
      let t := (s.usedMapping m).reportTags ea (m.real ea)
      let set := t.ic.setOf ea
      if s.lockDenied then .next s.lockStorage
      else if !m.mayTouch s.userMode then .next (s.dataStorage false false 0 ea)
      else if t.ic.checking && t.ic.edt ≥ 2 then .fault .reservedCacheMode
      else if t.ic.checking && t.ic.setHasError set then
        if t.ic.action ≥ 2 then .fault .reservedCacheMode
        else
          let cleanHit := (t.ic.cleanWay ea (m.real ea)).isSome
          if t.ic.action = 0 then
            if cleanHit then t.lockLine ea m else .next (t.cacheCheck (oneBit 5) (m.real ea))
          else
            let r := t.ic.correctSet set cleanHit
            let u := { t with ic := r.1 }
            if r.2 then .next (u.cacheCheck (oneBit 5 ||| oneBit 7) (m.real ea)) else u.lockLine ea m
      else t.lockLine ea m

/-- icblc on a set whose tags have been dealt with: the lock bit of the line of ea is cleared if it is present (R904). -/
def State.unlockLine (s : State) (ea : Word) (m : Mapping) : Host.Outcome State Fault Refusal :=
  match s.ic.cleanWay ea (m.real ea) with
  | some w => (s.setLock (s.ic.setOf ea) w false).done 4
  | none => s.done 4

/-- icblc (R904, R478, R476). With ICEA = 01 single-bit errors of the set are corrected as by icbtls, and a line whose corrected
tag matches is unlocked (DESIGN CHOICE, assumption log entry 33, unsafe). -/
def State.cacheUnlock (s0 : State) (ct : BitVec 5) (ea : Word) : Host.Outcome State Fault Refusal :=
  let s := s0.command 13 ea
  if ct != 0 || !s.ic.enabled then s.done 4
  else match s.lookup (bit s.msr 27) ea with
    | none => .next (s.dataTlbError false false ea)
    | some m =>
      let t := (s.usedMapping m).reportTags ea (m.real ea)
      let set := t.ic.setOf ea
      if s.lockDenied then .next s.lockStorage
      else if !m.mayTouch s.userMode then .next (s.dataStorage false false 0 ea)
      else if t.ic.checking && t.ic.edt ≥ 2 then .fault .reservedCacheMode
      else if t.ic.checking && t.ic.setHasError set then
        if t.ic.action ≥ 2 then .fault .reservedCacheMode
        else
          let cleanHit := (t.ic.cleanWay ea (m.real ea)).isSome
          let lockedError := (List.range t.ic.ways).any fun w =>
            tagError t.ic.edt (t.ic.line set w) && (t.ic.line set w).l
          if t.ic.action = 0 then
            if cleanHit || !lockedError then t.unlockLine ea m else .next (t.cacheCheck (oneBit 5) (m.real ea))
          else
            let r := t.ic.correctSet set cleanHit
            let u := { t with ic := r.1 }
            if r.2 then .next (u.cacheCheck (oneBit 5 ||| oneBit 7) (m.real ea)) else u.unlockLine ea m
      else t.unlockLine ea m

/-! ## Cache commands of the control registers -/

/-- Every line of the cache changed. -/
def ICache.mapLines (c : ICache) (f : CacheLine → CacheLine) : ICache := { c with lines := c.lines.map f }

/-- The bits of L1CSR1 that keep what is written: all implemented ones but ICLFC and ICINV, whose operations are complete when
the mtspr is (spec/92_eei_decisions.md D52). -/
def l1csr1Mask : Word := 0x0001B6F5

/-- mtspr L1CSR1 (spec/11_state_mmu_cache.md R243, spec/20_memory.md R474, R475). -/
def ICache.writeL1csr1 (c : ICache) (free : Nat) (v : Word) : ICache :=
  let c1 := { c with l1csr1 := v &&& l1csr1Mask }
  let c2 := if bit v 23 then c1.mapLines fun l => { l with l := false } else c1
  if bit v 30 then { c2.mapLines (invalidated c2.edt free) with replace := 0 } else c2

/-- mtspr L1FINV1: none is an undefined command operation (R244, U44). -/
def ICache.writeL1finv1 (c : ICache) (free : Nat) (v : Word) : Option ICache :=
  let way := (bits 6 2 v).toNat
  let set := (bits 21 6 v).toNat
  let c1 := { c with l1finv1 := v &&& 0x030007E3 }
  if way ≥ c.ways || set ≥ c.sets then none
  else match (bits 30 2 v).toNat with
    | 0 => some (c1.setLine set way (invalidated c.edt free (c.line set way)))
    | 3 => some { c1 with replace := BitVec.ofNat 2 way }
    | _ => none

/-- One word of a double word replaced. -/
def putWord (d : Dword) (n : Nat) (w : Word) : Dword := if n = 0 then w ++ lo d else hi d ++ w

/-- mtdcr CDACNTL: store the register and, with GO = 01 and CACHE = 1, do the access and leave GO = 00 (R250 to R252, D52);
none is an undefined command operation (U44). A tag write while L1CSR1[ICEDT] holds a reserved code stores all six check bits
as in EDC mode: R250 gives the parity and the EDC layout only. Bits 16:23 are stored and read back as written in every mode,
also those that R250 calls reserved for a tag access, 18:23 with parity and 22:23 with EDC (both DESIGN CHOICE, assumption log
entry 33, unsafe). -/
def ICache.writeCdacntl (c : ICache) (v : Word) : Option ICache :=
  let kept := v &&& 0xB1FFFF0C
  let way := (bits 2 2 v).toNat
  let set := (bits 7 6 v).toNat
  let word := (bits 13 3 v).toNat
  let go := (bits 30 2 v).toNat
  let c1 := { c with cdacntl := kept }
  if go ≥ 2 then none
  else if go = 0 || !bit v 28 then some c1
  else if way ≥ c.ways || set ≥ c.sets then none
  else
    let l := c.line set way
    if bit v 0 then
      if bit v 29 then
        some { c1 with cdadata := zext l.tag <<< 10 ||| when l.v (oneBit 23) ||| when l.l (oneBit 24) }
      else
        let k : BitVec 6 := bits 16 6 v
        some (c1.setLine set way
          { l with tag := bits 0 22 c.cdadata, v := bit c.cdadata 23, l := bit c.cdadata 24,
                   tchk := if c.edt = 0 then k &&& 0x30 else k })
    else
      let d := l.data.toList.getD (word / 2) 0
      if bit v 29 then
        some { c1 with
          cdadata := if word % 2 = 0 then hi d else lo d
          cdacntl := putBits 16 8 (l.dchk.toList.getD (word / 2) 0) kept }
      else
        some (c1.setLine set way
          { l with data := l.data.setIfInBounds (word / 2) (putWord d (word % 2) c.cdadata),
                   dchk := l.dchk.setIfInBounds (word / 2) (bits 16 8 v) })

end Sys2Proof.Machine
end

