-- ==== Sys2Proof/Machine/Flags.lean ====
section
/-! DEFINITION. The condition register, the flags of XER, and the shared integer results: sums, compares, masks and shifts
(spec/10_state.md R54 to R56, spec/40_integer.md R601 to R604, R659). -/

namespace Sys2Proof.Machine

/-! ## Condition register -/

/-- CR[b], bit 0 the most significant (spec/10_state.md R54). -/
def State.crBit (s : State) (b : CrBit) : Bool := bit s.cr b.toNat

/-- CR[b] written. -/
def State.setCrBit (s : State) (b : CrBit) (v : Bool) : State := s.setCr (setBit s.cr b.toNat v)

/-- CR field f, its LT position the most significant bit (R55). -/
def State.crField (s : State) (f : CrField) : BitVec 4 := bits (4 * f.toNat) 4 s.cr

/-- CR field f written. -/
def State.setCrField (s : State) (f : CrField) (v : BitVec 4) : State := s.setCr (putBits (4 * f.toNat) 4 v s.cr)

/-- Four Booleans as a CR field: LT, GT, EQ, SO. -/
def crBits (lt gt eq so : Bool) : BitVec 4 :=
  BitVec.ofBool lt ++ BitVec.ofBool gt ++ BitVec.ofBool eq ++ BitVec.ofBool so

/-! ## XER -/

/-- XER[SO] (R56). -/
def State.so (s : State) : Bool := bit s.xer 0

/-- XER[CA] (R56). -/
def State.ca (s : State) : Bool := bit s.xer 2

/-- XER[CA] written (spec/40_integer.md R603). -/
def State.setCa (s : State) (v : Bool) : State := s.setXer (setBit s.xer 2 v)

/-- XER[OV] written and XER[SO] made sticky (R602). -/
def State.setOv (s : State) (v : Bool) : State := s.setXer (setBit (s.xer ||| when v (oneBit 0)) 1 v)

/-- A signed compare as a CR field (R670). -/
def compareSigned (a b : Word) (so : Bool) : BitVec 4 := crBits (a.slt b) (b.slt a) (a == b) so

/-- An unsigned compare as a CR field (R672). -/
def compareUnsigned (a b : Word) (so : Bool) : BitVec 4 := crBits (a.ult b) (b.ult a) (a == b) so

/-- CR0 after a record form with result v (R601). -/
def State.recordCr0 (s : State) (v : Word) : State := s.setCrField 0 (compareSigned v 0 s.so)

/-! ## Results of the integer instructions -/

/-- Which of CA, OV with SO, and CR0 an instruction writes (R601 to R603). -/
structure Form where
  ca : Bool
  ov : Bool
  rc : Bool
  deriving DecidableEq, Repr

def Form.plain : Form := ⟨false, false, false⟩
def Form.record : Form := ⟨false, false, true⟩
def Form.overflow : Form := ⟨false, true, false⟩
def Form.overflowRecord : Form := ⟨false, true, true⟩
def Form.carry : Form := ⟨true, false, false⟩
def Form.carryRecord : Form := ⟨true, false, true⟩
def Form.carryOverflow : Form := ⟨true, true, false⟩
def Form.carryOverflowRecord : Form := ⟨true, true, true⟩

/-- Write a result to a register, then CA, then OV and SO, then CR0 from the result and the new SO, each as the form says
(R601 to R603). -/
def State.result (s : State) (f : Form) (rt : Reg) (v : Word) (ca ov : Bool) : State :=
  let s1 := s.setR rt v
  let s2 := if f.ca then s1.setCa ca else s1
  let s3 := if f.ov then s2.setOv ov else s2
  if f.rc then s3.recordCr0 v else s3

/-- ADD(a, b, c): the sum, its carry out of bit 0 and its signed overflow (R602 to R604). -/
def addWord (a b : Word) (c : Bool) : Word × Bool × Bool :=
  let n := a.toNat + b.toNat + c.toNat
  let z := a.toInt + b.toInt + c.toNat
  (BitVec.ofNat 32 n, decide (4294967296 ≤ n), decide (z < -2147483648) || decide (2147483647 < z))

/-- The result of an addition written by a form. -/
def State.sum (s : State) (f : Form) (rt : Reg) (a b : Word) (c : Bool) : State :=
  let r := addWord a b c
  s.result f rt r.1 r.2.1 r.2.2

/-- MASK(mb, me) (R659). -/
def mask (mb me : BitVec 5) : Word :=
  let from' := 0xFFFFFFFF#32 >>> mb.toNat
  let upTo := 0xFFFFFFFF#32 <<< (31 - me.toNat)
  if mb.ule me then from' &&& upTo else from' ||| upTo

/-- The shift count of slw, srw and sraw: the six low-order bits of a register (R663). -/
def shiftCount (w : Word) : Nat := (bits 26 6 w).toNat

/-- sraw and srawi: the shifted word and CA (R665, R666). -/
def shiftAlgebraic (w : Word) (n : Nat) : Word × Bool :=
  (w.sshiftRight n, bit w 0 && (w.sshiftRight n <<< n != w || decide (32 ≤ n)))

/-- The number of zero bits before the first one, counting from bit 0 (R656). -/
def leadingZeros (w : Word) : Nat := ((List.range 32).find? fun i => bit w i).getD 32

/-- The trap condition of tw and twi; TO[0] is the most significant bit (R680). -/
def trapCondition (tcond : BitVec 5) (a b : Word) : Bool :=
  (tcond.getMsbD 0 && a.slt b) || (tcond.getMsbD 1 && b.slt a) || (tcond.getMsbD 2 && a == b) ||
    (tcond.getMsbD 3 && a.ult b) || (tcond.getMsbD 4 && b.ult a)

end Sys2Proof.Machine
end

