-- ==== Sys2Proof/Machine/Operands.lean ====
section
/-! DEFINITION. The operand forms: how an effective address or an immediate operand is made from the fields of an instruction
(spec/00_scope.md R24, spec/20_memory.md R401, spec/44_vle.md R960, spec/49_spe_loadstore.md R1803). -/

namespace Sys2Proof.Machine

/-- The 16-bit immediate in the upper half word (spec/40_integer.md R618). -/
def upperImmediate (si : BitVec 16) : Word := si ++ 0#16

/-- (RA|0) + EXTS(D): the D-form address (spec/42_load_store.md R750). -/
def State.eaD (s : State) (ra : Reg) (d : BitVec 16) : Word := s.base ra + sext d

/-- (RA|0) + RB: the X-form address (R750). -/
def State.eaX (s : State) (ra rb : Reg) : Word := s.base ra + s.r rb

/-- (RA|0) + EXTS(D8): the D8-form address of the VLE multiple instructions (spec/44_vle.md R960). -/
def State.eaD8 (s : State) (ra : Reg) (d8 : BitVec 8) : Word := s.base ra + sext d8

/-- (RA|0) + UIMM * scale: the address of an SPE load or store with a scaled offset (spec/49_spe_loadstore.md R1803). -/
def State.eaScaled (s : State) (ra : Reg) (uimm : BitVec 5) (scale : Nat) : Word :=
  s.base ra + BitVec.ofNat 32 (uimm.toNat * scale)

/-- The word displacement of a branch (spec/41_branch_cr.md R701). -/
def displacement {n : Nat} (d : BitVec n) : Word := ((d ++ 0#2).signExtend 32)

end Sys2Proof.Machine
end

