-- ==== Sys2Proof/Machine/Integer.lean ====
section
/-! DEFINITION. The integer instructions: add, subtract, multiply, divide, logical, rotate, shift, compare and trap
(spec/40_integer.md R600 to R681). -/

namespace Sys2Proof.Machine

/-- The answer of an instruction. -/
abbrev Answer := Host.Outcome State Fault Refusal

/-! ## Shared shapes -/

/-- (RT) <- a + b + c, pc past the instruction (R604, R610). -/
def State.addForm (s : State) (f : Form) (rt : Reg) (a b : Word) (c : Bool) : Answer := .next ((s.sum f rt a b c).advance 4)

/-- A result without carry or overflow, pc past the instruction. -/
def State.plainResult (s : State) (f : Form) (rt : Reg) (v : Word) : Answer :=
  .next ((s.result f rt v false false).advance 4)

/-- The signed product of two words (R630). -/
def productSigned (a b : Word) : Dword := a.signExtend 64 * b.signExtend 64

/-- The unsigned product of two words (R633). -/
def productUnsigned (a b : Word) : Dword := a.setWidth 64 * b.setWidth 64

/-- The signed product does not fit in a word (R602). -/
def productOverflows (a b : Word) : Bool := (lo (productSigned a b)).signExtend 64 != productSigned a b

/-- A product written to a register. -/
def State.multiplyLow (s : State) (f : Form) (rt : Reg) (a b : Word) : Answer :=
  .next ((s.result f rt (lo (productSigned a b)) false (productOverflows a b)).advance 4)

/-- A divide whose result the spec calls undefined: the quotient and CR0[LT, GT, EQ] are free values, OV and SO are set by an
o form and CR0[SO] follows SO (R634, spec/93_implementation_defined.md U50). DESIGN CHOICE, assumption log entry 4, safe. -/
def State.divideUndefined (s : State) (f : Form) (rt : Reg) : State :=
  let t := (s.result { f with rc := false } rt (Config.freeQuotient s.freeCtr) false true).spendFree
  if f.rc then t.setCrField 0 (Config.freeDivCr s.freeCtr ++ BitVec.ofBool t.so) else t

/-- divw (R634). -/
def State.divideSigned (s : State) (f : Form) (rt : Reg) (a b : Word) : Answer :=
  if b = 0 ∨ (a = 0x80000000 ∧ b = 0xFFFFFFFF) then .next ((s.divideUndefined f rt).advance 4)
  else s.plainResult f rt (a.sdiv b)

/-- divwu (R635). -/
def State.divideUnsigned (s : State) (f : Form) (rt : Reg) (a b : Word) : Answer :=
  if b = 0 then .next ((s.divideUndefined f rt).advance 4) else s.plainResult f rt (a.udiv b)

/-- A shift right algebraic (R665, R666). -/
def State.shiftRightAlgebraic (s : State) (f : Form) (ra : Reg) (v : Word) (n : Nat) : Answer :=
  let r := shiftAlgebraic v n
  .next ((s.result f ra r.1 r.2 false).advance 4)

/-- A CR field written by a compare (R670). -/
def State.compareResult (s : State) (bf : CrField) (v : BitVec 4) : Answer := .next ((s.setCrField bf v).advance 4)

/-- tw and twi: the trap exception when the condition is met, unless the TRAP debug event is taken instead
(R680, spec/60_exceptions.md R2026, R2036, spec/61_debug.md R2215). -/
def State.trap (s : State) (met : Bool) : Answer :=
  if !met then .next (s.advance 4)
  else if s.debugNow 7 then .next (s.debugInstead (oneBit 7))
  else .next ((s.record (when (bit s.dbg.dbcr0 7) (oneBit 7)) true).program (oneBit 6))

/-! ## Meanings -/

/-- `add` (R610). -/
def execAdd (rt ra rb : Reg) (s : State) : Answer := s.addForm .plain rt (s.r ra) (s.r rb) false

/-- `add.` (R610). -/
def execAddRc (rt ra rb : Reg) (s : State) : Answer := s.addForm .record rt (s.r ra) (s.r rb) false

/-- `addo` (R610). -/
def execAddo (rt ra rb : Reg) (s : State) : Answer := s.addForm .overflow rt (s.r ra) (s.r rb) false

/-- `addo.` (R610). -/
def execAddoRc (rt ra rb : Reg) (s : State) : Answer := s.addForm .overflowRecord rt (s.r ra) (s.r rb) false

/-- `addc` (R611). -/
def execAddc (rt ra rb : Reg) (s : State) : Answer := s.addForm .carry rt (s.r ra) (s.r rb) false

/-- `addc.` (R611). -/
def execAddcRc (rt ra rb : Reg) (s : State) : Answer := s.addForm .carryRecord rt (s.r ra) (s.r rb) false

/-- `addco` (R611). -/
def execAddco (rt ra rb : Reg) (s : State) : Answer := s.addForm .carryOverflow rt (s.r ra) (s.r rb) false

/-- `addco.` (R611). -/
def execAddcoRc (rt ra rb : Reg) (s : State) : Answer := s.addForm .carryOverflowRecord rt (s.r ra) (s.r rb) false

/-- `adde` (R612). -/
def execAdde (rt ra rb : Reg) (s : State) : Answer := s.addForm .carry rt (s.r ra) (s.r rb) s.ca

/-- `adde.` (R612). -/
def execAddeRc (rt ra rb : Reg) (s : State) : Answer := s.addForm .carryRecord rt (s.r ra) (s.r rb) s.ca

/-- `addeo` (R612). -/
def execAddeo (rt ra rb : Reg) (s : State) : Answer := s.addForm .carryOverflow rt (s.r ra) (s.r rb) s.ca

/-- `addeo.` (R612). -/
def execAddeoRc (rt ra rb : Reg) (s : State) : Answer := s.addForm .carryOverflowRecord rt (s.r ra) (s.r rb) s.ca

/-- `addme` (R613). -/
def execAddme (rt ra : Reg) (s : State) : Answer := s.addForm .carry rt (s.r ra) 0xFFFFFFFF s.ca

/-- `addme.` (R613). -/
def execAddmeRc (rt ra : Reg) (s : State) : Answer := s.addForm .carryRecord rt (s.r ra) 0xFFFFFFFF s.ca

/-- `addmeo` (R613). -/
def execAddmeo (rt ra : Reg) (s : State) : Answer := s.addForm .carryOverflow rt (s.r ra) 0xFFFFFFFF s.ca

/-- `addmeo.` (R613). -/
def execAddmeoRc (rt ra : Reg) (s : State) : Answer := s.addForm .carryOverflowRecord rt (s.r ra) 0xFFFFFFFF s.ca

/-- `addze` (R614). -/
def execAddze (rt ra : Reg) (s : State) : Answer := s.addForm .carry rt (s.r ra) 0 s.ca

/-- `addze.` (R614). -/
def execAddzeRc (rt ra : Reg) (s : State) : Answer := s.addForm .carryRecord rt (s.r ra) 0 s.ca

/-- `addzeo` (R614). -/
def execAddzeo (rt ra : Reg) (s : State) : Answer := s.addForm .carryOverflow rt (s.r ra) 0 s.ca

/-- `addzeo.` (R614). -/
def execAddzeoRc (rt ra : Reg) (s : State) : Answer := s.addForm .carryOverflowRecord rt (s.r ra) 0 s.ca

/-- `addi` (R615). -/
def execAddi (rt ra : Reg) (si : BitVec 16) (s : State) : Answer := s.addForm .plain rt (s.base ra) (sext si) false

/-- `addic` (R616). -/
def execAddic (rt ra : Reg) (si : BitVec 16) (s : State) : Answer := s.addForm .carry rt (s.r ra) (sext si) false

/-- `addic.` (R617). -/
def execAddicRc (rt ra : Reg) (si : BitVec 16) (s : State) : Answer := s.addForm .carryRecord rt (s.r ra) (sext si) false

/-- `addis` (R618). -/
def execAddis (rt ra : Reg) (si : BitVec 16) (s : State) : Answer :=
  s.addForm .plain rt (s.base ra) (upperImmediate si) false

/-- `subf` (R620). -/
def execSubf (rt ra rb : Reg) (s : State) : Answer := s.addForm .plain rt (~~~(s.r ra)) (s.r rb) true

/-- `subf.` (R620). -/
def execSubfRc (rt ra rb : Reg) (s : State) : Answer := s.addForm .record rt (~~~(s.r ra)) (s.r rb) true

/-- `subfo` (R620). -/
def execSubfo (rt ra rb : Reg) (s : State) : Answer := s.addForm .overflow rt (~~~(s.r ra)) (s.r rb) true

/-- `subfo.` (R620). -/
def execSubfoRc (rt ra rb : Reg) (s : State) : Answer := s.addForm .overflowRecord rt (~~~(s.r ra)) (s.r rb) true

/-- `subfc` (R621). -/
def execSubfc (rt ra rb : Reg) (s : State) : Answer := s.addForm .carry rt (~~~(s.r ra)) (s.r rb) true

/-- `subfc.` (R621). -/
def execSubfcRc (rt ra rb : Reg) (s : State) : Answer := s.addForm .carryRecord rt (~~~(s.r ra)) (s.r rb) true

/-- `subfco` (R621). -/
def execSubfco (rt ra rb : Reg) (s : State) : Answer := s.addForm .carryOverflow rt (~~~(s.r ra)) (s.r rb) true

/-- `subfco.` (R621). -/
def execSubfcoRc (rt ra rb : Reg) (s : State) : Answer := s.addForm .carryOverflowRecord rt (~~~(s.r ra)) (s.r rb) true

/-- `subfe` (R622). -/
def execSubfe (rt ra rb : Reg) (s : State) : Answer := s.addForm .carry rt (~~~(s.r ra)) (s.r rb) s.ca

/-- `subfe.` (R622). -/
def execSubfeRc (rt ra rb : Reg) (s : State) : Answer := s.addForm .carryRecord rt (~~~(s.r ra)) (s.r rb) s.ca

/-- `subfeo` (R622). -/
def execSubfeo (rt ra rb : Reg) (s : State) : Answer := s.addForm .carryOverflow rt (~~~(s.r ra)) (s.r rb) s.ca

/-- `subfeo.` (R622). -/
def execSubfeoRc (rt ra rb : Reg) (s : State) : Answer := s.addForm .carryOverflowRecord rt (~~~(s.r ra)) (s.r rb) s.ca

/-- `subfme` (R623). -/
def execSubfme (rt ra : Reg) (s : State) : Answer := s.addForm .carry rt (~~~(s.r ra)) 0xFFFFFFFF s.ca

/-- `subfme.` (R623). -/
def execSubfmeRc (rt ra : Reg) (s : State) : Answer := s.addForm .carryRecord rt (~~~(s.r ra)) 0xFFFFFFFF s.ca

/-- `subfmeo` (R623). -/
def execSubfmeo (rt ra : Reg) (s : State) : Answer := s.addForm .carryOverflow rt (~~~(s.r ra)) 0xFFFFFFFF s.ca

/-- `subfmeo.` (R623). -/
def execSubfmeoRc (rt ra : Reg) (s : State) : Answer := s.addForm .carryOverflowRecord rt (~~~(s.r ra)) 0xFFFFFFFF s.ca

/-- `subfze` (R624). -/
def execSubfze (rt ra : Reg) (s : State) : Answer := s.addForm .carry rt (~~~(s.r ra)) 0 s.ca

/-- `subfze.` (R624). -/
def execSubfzeRc (rt ra : Reg) (s : State) : Answer := s.addForm .carryRecord rt (~~~(s.r ra)) 0 s.ca

/-- `subfzeo` (R624). -/
def execSubfzeo (rt ra : Reg) (s : State) : Answer := s.addForm .carryOverflow rt (~~~(s.r ra)) 0 s.ca

/-- `subfzeo.` (R624). -/
def execSubfzeoRc (rt ra : Reg) (s : State) : Answer := s.addForm .carryOverflowRecord rt (~~~(s.r ra)) 0 s.ca

/-- `subfic` (R625). -/
def execSubfic (rt ra : Reg) (si : BitVec 16) (s : State) : Answer := s.addForm .carry rt (~~~(s.r ra)) (sext si) true

/-- `neg` (R626). -/
def execNeg (rt ra : Reg) (s : State) : Answer := s.addForm .plain rt (~~~(s.r ra)) 0 true

/-- `neg.` (R626). -/
def execNegRc (rt ra : Reg) (s : State) : Answer := s.addForm .record rt (~~~(s.r ra)) 0 true

/-- `nego` (R626). -/
def execNego (rt ra : Reg) (s : State) : Answer := s.addForm .overflow rt (~~~(s.r ra)) 0 true

/-- `nego.` (R626). -/
def execNegoRc (rt ra : Reg) (s : State) : Answer := s.addForm .overflowRecord rt (~~~(s.r ra)) 0 true

/-- `mullw` (R630). -/
def execMullw (rt ra rb : Reg) (s : State) : Answer := s.multiplyLow .plain rt (s.r ra) (s.r rb)

/-- `mullw.` (R630). -/
def execMullwRc (rt ra rb : Reg) (s : State) : Answer := s.multiplyLow .record rt (s.r ra) (s.r rb)

/-- `mullwo` (R630). -/
def execMullwo (rt ra rb : Reg) (s : State) : Answer := s.multiplyLow .overflow rt (s.r ra) (s.r rb)

/-- `mullwo.` (R630). -/
def execMullwoRc (rt ra rb : Reg) (s : State) : Answer := s.multiplyLow .overflowRecord rt (s.r ra) (s.r rb)

/-- `mulli` (R631). -/
def execMulli (rt ra : Reg) (si : BitVec 16) (s : State) : Answer := s.multiplyLow .plain rt (s.r ra) (sext si)

/-- `mulhw` (R632). -/
def execMulhw (rt ra rb : Reg) (s : State) : Answer := s.plainResult .plain rt (hi (productSigned (s.r ra) (s.r rb)))

/-- `mulhw.` (R632). -/
def execMulhwRc (rt ra rb : Reg) (s : State) : Answer := s.plainResult .record rt (hi (productSigned (s.r ra) (s.r rb)))

/-- `mulhwu` (R633). -/
def execMulhwu (rt ra rb : Reg) (s : State) : Answer := s.plainResult .plain rt (hi (productUnsigned (s.r ra) (s.r rb)))

/-- `mulhwu.` (R633). -/
def execMulhwuRc (rt ra rb : Reg) (s : State) : Answer := s.plainResult .record rt (hi (productUnsigned (s.r ra) (s.r rb)))

/-- `divw` (R634). -/
def execDivw (rt ra rb : Reg) (s : State) : Answer := s.divideSigned .plain rt (s.r ra) (s.r rb)

/-- `divw.` (R634). -/
def execDivwRc (rt ra rb : Reg) (s : State) : Answer := s.divideSigned .record rt (s.r ra) (s.r rb)

/-- `divwo` (R634). -/
def execDivwo (rt ra rb : Reg) (s : State) : Answer := s.divideSigned .overflow rt (s.r ra) (s.r rb)

/-- `divwo.` (R634). -/
def execDivwoRc (rt ra rb : Reg) (s : State) : Answer := s.divideSigned .overflowRecord rt (s.r ra) (s.r rb)

/-- `divwu` (R635). -/
def execDivwu (rt ra rb : Reg) (s : State) : Answer := s.divideUnsigned .plain rt (s.r ra) (s.r rb)

/-- `divwu.` (R635). -/
def execDivwuRc (rt ra rb : Reg) (s : State) : Answer := s.divideUnsigned .record rt (s.r ra) (s.r rb)

/-- `divwuo` (R635). -/
def execDivwuo (rt ra rb : Reg) (s : State) : Answer := s.divideUnsigned .overflow rt (s.r ra) (s.r rb)

/-- `divwuo.` (R635). -/
def execDivwuoRc (rt ra rb : Reg) (s : State) : Answer := s.divideUnsigned .overflowRecord rt (s.r ra) (s.r rb)

/-- `and` (R640). -/
def execAnd (rs ra rb : Reg) (s : State) : Answer := s.plainResult .plain ra (s.r rs &&& s.r rb)

/-- `and.` (R640). -/
def execAndRc (rs ra rb : Reg) (s : State) : Answer := s.plainResult .record ra (s.r rs &&& s.r rb)

/-- `andc` (R641). -/
def execAndc (rs ra rb : Reg) (s : State) : Answer := s.plainResult .plain ra (s.r rs &&& ~~~(s.r rb))

/-- `andc.` (R641). -/
def execAndcRc (rs ra rb : Reg) (s : State) : Answer := s.plainResult .record ra (s.r rs &&& ~~~(s.r rb))

/-- `or` (R642). -/
def execOr (rs ra rb : Reg) (s : State) : Answer := s.plainResult .plain ra (s.r rs ||| s.r rb)

/-- `or.` (R642). -/
def execOrRc (rs ra rb : Reg) (s : State) : Answer := s.plainResult .record ra (s.r rs ||| s.r rb)

/-- `orc` (R643). -/
def execOrc (rs ra rb : Reg) (s : State) : Answer := s.plainResult .plain ra (s.r rs ||| ~~~(s.r rb))

/-- `orc.` (R643). -/
def execOrcRc (rs ra rb : Reg) (s : State) : Answer := s.plainResult .record ra (s.r rs ||| ~~~(s.r rb))

/-- `xor` (R644). -/
def execXor (rs ra rb : Reg) (s : State) : Answer := s.plainResult .plain ra (s.r rs ^^^ s.r rb)

/-- `xor.` (R644). -/
def execXorRc (rs ra rb : Reg) (s : State) : Answer := s.plainResult .record ra (s.r rs ^^^ s.r rb)

/-- `nand` (R645). -/
def execNand (rs ra rb : Reg) (s : State) : Answer := s.plainResult .plain ra (~~~(s.r rs &&& s.r rb))

/-- `nand.` (R645). -/
def execNandRc (rs ra rb : Reg) (s : State) : Answer := s.plainResult .record ra (~~~(s.r rs &&& s.r rb))

/-- `nor` (R646). -/
def execNor (rs ra rb : Reg) (s : State) : Answer := s.plainResult .plain ra (~~~(s.r rs ||| s.r rb))

/-- `nor.` (R646). -/
def execNorRc (rs ra rb : Reg) (s : State) : Answer := s.plainResult .record ra (~~~(s.r rs ||| s.r rb))

/-- `eqv` (R647). -/
def execEqv (rs ra rb : Reg) (s : State) : Answer := s.plainResult .plain ra (~~~(s.r rs ^^^ s.r rb))

/-- `eqv.` (R647). -/
def execEqvRc (rs ra rb : Reg) (s : State) : Answer := s.plainResult .record ra (~~~(s.r rs ^^^ s.r rb))

/-- `andi.` (R648). -/
def execAndiRc (rs ra : Reg) (ui : BitVec 16) (s : State) : Answer := s.plainResult .record ra (s.r rs &&& zext ui)

/-- `andis.` (R649). -/
def execAndisRc (rs ra : Reg) (ui : BitVec 16) (s : State) : Answer :=
  s.plainResult .record ra (s.r rs &&& upperImmediate ui)

/-- `ori` (R650). -/
def execOri (rs ra : Reg) (ui : BitVec 16) (s : State) : Answer := s.plainResult .plain ra (s.r rs ||| zext ui)

/-- `oris` (R651). -/
def execOris (rs ra : Reg) (ui : BitVec 16) (s : State) : Answer := s.plainResult .plain ra (s.r rs ||| upperImmediate ui)

/-- `xori` (R652). -/
def execXori (rs ra : Reg) (ui : BitVec 16) (s : State) : Answer := s.plainResult .plain ra (s.r rs ^^^ zext ui)

/-- `xoris` (R653). -/
def execXoris (rs ra : Reg) (ui : BitVec 16) (s : State) : Answer := s.plainResult .plain ra (s.r rs ^^^ upperImmediate ui)

/-- `extsb` (R654). -/
def execExtsb (rs ra : Reg) (s : State) : Answer := s.plainResult .plain ra (sext (bits 24 8 (s.r rs)))

/-- `extsb.` (R654). -/
def execExtsbRc (rs ra : Reg) (s : State) : Answer := s.plainResult .record ra (sext (bits 24 8 (s.r rs)))

/-- `extsh` (R655). -/
def execExtsh (rs ra : Reg) (s : State) : Answer := s.plainResult .plain ra (sext (bits 16 16 (s.r rs)))

/-- `extsh.` (R655). -/
def execExtshRc (rs ra : Reg) (s : State) : Answer := s.plainResult .record ra (sext (bits 16 16 (s.r rs)))

/-- `cntlzw` (R656). -/
def execCntlzw (rs ra : Reg) (s : State) : Answer := s.plainResult .plain ra (BitVec.ofNat 32 (leadingZeros (s.r rs)))

/-- `cntlzw.` (R656). -/
def execCntlzwRc (rs ra : Reg) (s : State) : Answer := s.plainResult .record ra (BitVec.ofNat 32 (leadingZeros (s.r rs)))

/-- `rlwimi` (R660). -/
def execRlwimi (rs ra : Reg) (sh mb me : BitVec 5) (s : State) : Answer :=
  s.plainResult .plain ra (((s.r rs).rotateLeft sh.toNat &&& mask mb me) ||| (s.r ra &&& ~~~(mask mb me)))

/-- `rlwimi.` (R660). -/
def execRlwimiRc (rs ra : Reg) (sh mb me : BitVec 5) (s : State) : Answer :=
  s.plainResult .record ra (((s.r rs).rotateLeft sh.toNat &&& mask mb me) ||| (s.r ra &&& ~~~(mask mb me)))

/-- `rlwinm` (R661). -/
def execRlwinm (rs ra : Reg) (sh mb me : BitVec 5) (s : State) : Answer :=
  s.plainResult .plain ra ((s.r rs).rotateLeft sh.toNat &&& mask mb me)

/-- `rlwinm.` (R661). -/
def execRlwinmRc (rs ra : Reg) (sh mb me : BitVec 5) (s : State) : Answer :=
  s.plainResult .record ra ((s.r rs).rotateLeft sh.toNat &&& mask mb me)

/-- `rlwnm` (R662). -/
def execRlwnm (rs ra rb : Reg) (mb me : BitVec 5) (s : State) : Answer :=
  s.plainResult .plain ra ((s.r rs).rotateLeft (bits 27 5 (s.r rb)).toNat &&& mask mb me)

/-- `rlwnm.` (R662). -/
def execRlwnmRc (rs ra rb : Reg) (mb me : BitVec 5) (s : State) : Answer :=
  s.plainResult .record ra ((s.r rs).rotateLeft (bits 27 5 (s.r rb)).toNat &&& mask mb me)

/-- `slw` (R663). -/
def execSlw (rs ra rb : Reg) (s : State) : Answer := s.plainResult .plain ra (s.r rs <<< shiftCount (s.r rb))

/-- `slw.` (R663). -/
def execSlwRc (rs ra rb : Reg) (s : State) : Answer := s.plainResult .record ra (s.r rs <<< shiftCount (s.r rb))

/-- `srw` (R664). -/
def execSrw (rs ra rb : Reg) (s : State) : Answer := s.plainResult .plain ra (s.r rs >>> shiftCount (s.r rb))

/-- `srw.` (R664). -/
def execSrwRc (rs ra rb : Reg) (s : State) : Answer := s.plainResult .record ra (s.r rs >>> shiftCount (s.r rb))

/-- `sraw` (R665). -/
def execSraw (rs ra rb : Reg) (s : State) : Answer := s.shiftRightAlgebraic .carry ra (s.r rs) (shiftCount (s.r rb))

/-- `sraw.` (R665). -/
def execSrawRc (rs ra rb : Reg) (s : State) : Answer := s.shiftRightAlgebraic .carryRecord ra (s.r rs) (shiftCount (s.r rb))

/-- `srawi` (R666). -/
def execSrawi (rs ra : Reg) (sh : BitVec 5) (s : State) : Answer := s.shiftRightAlgebraic .carry ra (s.r rs) sh.toNat

/-- `srawi.` (R666). -/
def execSrawiRc (rs ra : Reg) (sh : BitVec 5) (s : State) : Answer := s.shiftRightAlgebraic .carryRecord ra (s.r rs) sh.toNat

/-- `cmp` (R670). -/
def execCmp (bf : CrField) (ra rb : Reg) (s : State) : Answer := s.compareResult bf (compareSigned (s.r ra) (s.r rb) s.so)

/-- `cmpi` (R671). -/
def execCmpi (bf : CrField) (ra : Reg) (si : BitVec 16) (s : State) : Answer :=
  s.compareResult bf (compareSigned (s.r ra) (sext si) s.so)

/-- `cmpl` (R672). -/
def execCmpl (bf : CrField) (ra rb : Reg) (s : State) : Answer := s.compareResult bf (compareUnsigned (s.r ra) (s.r rb) s.so)

/-- `cmpli` (R673). -/
def execCmpli (bf : CrField) (ra : Reg) (ui : BitVec 16) (s : State) : Answer :=
  s.compareResult bf (compareUnsigned (s.r ra) (zext ui) s.so)

/-- `tw` (R680). -/
def execTw (tcond : BitVec 5) (ra rb : Reg) (s : State) : Answer := s.trap (trapCondition tcond (s.r ra) (s.r rb))

/-- `twi` (R681). -/
def execTwi (tcond : BitVec 5) (ra : Reg) (si : BitVec 16) (s : State) : Answer :=
  s.trap (trapCondition tcond (s.r ra) (sext si))

end Sys2Proof.Machine
end

