-- ==== Sys2Proof/Machine/Branch.lean ====
section
/-! DEFINITION. The branches, the condition register instructions and isel (spec/41_branch_cr.md R700 to R725). -/

namespace Sys2Proof.Machine

/-! ## Shared shapes -/

/-- Step (1) of R700: CTR after a conditional branch. -/
def branchCtr (bo : BitVec 5) (ctr : Word) : Word := if bo.getMsbD 2 then ctr else ctr - 1

/-- Steps (2) to (4) of R700: the branch is taken. -/
def State.branchTaken (s : State) (bo : BitVec 5) (bi : CrBit) : Bool :=
  (bo.getMsbD 2 || ((branchCtr bo s.ctr != 0) ^^ bo.getMsbD 3)) && (bo.getMsbD 0 || s.crBit bi == bo.getMsbD 1)

/-- The end of every branch: with LK the link register takes pc + 4, CTR its new value, and pc the target or the next
instruction. A branch taken debug event is reported before the branch executes, and only while MSR[DE] = 1 (R701, R706,
spec/61_debug.md R2213). -/
def State.branch (s : State) (taken link : Bool) (ctr target : Word) : Answer :=
  if taken && s.debugNow 5 then .next (s.debugInstead (oneBit 5))
  else
    let t := { s with ctr := ctr, lr := if link then s.pc + 4 else s.lr }
    .next (if taken then t.jump target else t.advance 4)

/-- b and its forms (R702). -/
def State.branchAlways (s : State) (absolute link : Bool) (li : BitVec 24) : Answer :=
  s.branch true link s.ctr (if absolute then displacement li else s.pc + displacement li)

/-- bc and its forms (R703). -/
def State.branchIf (s : State) (absolute link : Bool) (bo : BitVec 5) (bi : CrBit) (bd : BitVec 14) : Answer :=
  s.branch (s.branchTaken bo bi) link (branchCtr bo s.ctr)
    (if absolute then displacement bd else s.pc + displacement bd)

/-- bclr and bcctr: the target comes from a register read before anything is written (R704, R705). -/
def State.branchRegister (s : State) (link : Bool) (bo : BitVec 5) (bi : CrBit) (target : Word) : Answer :=
  s.branch (s.branchTaken bo bi) link (branchCtr bo s.ctr) target

/-- A CR bit from two CR bits (R709). -/
def State.crLogical (s : State) (bt : CrBit) (v : Bool) : Answer := .next ((s.setCrBit bt v).advance 4)

/-- The CR with the fields an FXM mask selects taken from a word (R722). -/
def selectFields (fxm : BitVec 8) (cr v : Word) : Word :=
  (List.range 8).foldl (fun c i => if fxm.getMsbD i then putBits (4 * i) 4 (bits (4 * i) 4 v) c else c) cr

/-! ## Meanings -/

/-- `b` (R702). -/
def execB (li : BitVec 24) (s : State) : Answer := s.branchAlways false false li

/-- `ba` (R702). -/
def execBa (li : BitVec 24) (s : State) : Answer := s.branchAlways true false li

/-- `bl` (R702). -/
def execBl (li : BitVec 24) (s : State) : Answer := s.branchAlways false true li

/-- `bla` (R702). -/
def execBla (li : BitVec 24) (s : State) : Answer := s.branchAlways true true li

/-- `bc` (R703). -/
def execBc (bo bi : BitVec 5) (bd : BitVec 14) (s : State) : Answer := s.branchIf false false bo bi bd

/-- `bca` (R703). -/
def execBca (bo bi : BitVec 5) (bd : BitVec 14) (s : State) : Answer := s.branchIf true false bo bi bd

/-- `bcl` (R703). -/
def execBcl (bo bi : BitVec 5) (bd : BitVec 14) (s : State) : Answer := s.branchIf false true bo bi bd

/-- `bcla` (R703). -/
def execBcla (bo bi : BitVec 5) (bd : BitVec 14) (s : State) : Answer := s.branchIf true true bo bi bd

/-- `bclr` (R704). -/
def execBclr (bo bi : BitVec 5) (s : State) : Answer := s.branchRegister false bo bi s.lr

/-- `bclrl` (R704). -/
def execBclrl (bo bi : BitVec 5) (s : State) : Answer := s.branchRegister true bo bi s.lr

/-- `bcctr` (R705). -/
def execBcctr (bo bi : BitVec 5) (s : State) : Answer := s.branchRegister false bo bi s.ctr

/-- `bcctrl` (R705). -/
def execBcctrl (bo bi : BitVec 5) (s : State) : Answer := s.branchRegister true bo bi s.ctr

/-- `crand` (R710). -/
def execCrand (bt ba bb : CrBit) (s : State) : Answer := s.crLogical bt (s.crBit ba && s.crBit bb)

/-- `crandc` (R711). -/
def execCrandc (bt ba bb : CrBit) (s : State) : Answer := s.crLogical bt (s.crBit ba && !s.crBit bb)

/-- `creqv` (R712). -/
def execCreqv (bt ba bb : CrBit) (s : State) : Answer := s.crLogical bt (s.crBit ba == s.crBit bb)

/-- `crnand` (R713). -/
def execCrnand (bt ba bb : CrBit) (s : State) : Answer := s.crLogical bt (!(s.crBit ba && s.crBit bb))

/-- `crnor` (R714). -/
def execCrnor (bt ba bb : CrBit) (s : State) : Answer := s.crLogical bt (!(s.crBit ba || s.crBit bb))

/-- `cror` (R715). -/
def execCror (bt ba bb : CrBit) (s : State) : Answer := s.crLogical bt (s.crBit ba || s.crBit bb)

/-- `crorc` (R716). -/
def execCrorc (bt ba bb : CrBit) (s : State) : Answer := s.crLogical bt (s.crBit ba || !s.crBit bb)

/-- `crxor` (R717). -/
def execCrxor (bt ba bb : CrBit) (s : State) : Answer := s.crLogical bt (s.crBit ba != s.crBit bb)

/-- `mcrf` (R720). -/
def execMcrf (bf bfa : CrField) (s : State) : Answer := .next ((s.setCrField bf (s.crField bfa)).advance 4)

/-- `mcrxr` (R721). -/
def execMcrxr (bf : CrField) (s : State) : Answer :=
  .next (((s.setCrField bf (bits 0 4 s.xer)).setXer (s.xer &&& 0x0FFFFFFF)).advance 4)

/-- `mtcrf` (R722). -/
def execMtcrf (rs : Reg) (fxm : BitVec 8) (s : State) : Answer :=
  .next ((s.setCr (selectFields fxm s.cr (s.r rs))).advance 4)

/-- `mfcr` (R723). -/
def execMfcr (rt : Reg) (s : State) : Answer := .next ((s.setR rt s.cr).advance 4)

/-- `isel` (R725). -/
def execIsel (rt ra rb : Reg) (bc : CrBit) (s : State) : Answer :=
  .next ((s.setR rt (if s.crBit bc then s.base ra else s.r rb)).advance 4)

end Sys2Proof.Machine
end

