-- ==== Sys2Proof/Machine/System.lean ====
section
/-! DEFINITION. System call, return from interrupt, the machine state register, isync, wait and the debugger notify halts
(spec/43_system.md R850 to R863, R880, R885, R890, spec/60_exceptions.md R2070). -/

namespace Sys2Proof.Machine

/-! ## Shared shapes -/

/-- A privileged instruction: in user mode the privileged-instruction exception and nothing else (spec/60_exceptions.md R2026,
R2080). -/
def State.supervisor (s : State) (f : State → Answer) : Answer := if s.userMode then .next s.privileged else f s

/-- A return with no debug event of its own (spec/43_system.md R854). -/
def State.returnPlain (s : State) (x0 x1 : Word) (o : OutputEvent) : Answer :=
  s.supervisor fun t => .next ((t.returnFrom x0 x1).pulse o)

/-- rfi: subject to the return debug event, DBCR0 and DBSR bit 16 (R855, spec/61_debug.md R2220). The attempt is noted before
that, so watchpoint 17 pulses either way (State.watchpoints, assumption log entry 42). -/
def State.returnNonCritical (s : State) : Answer :=
  s.supervisor fun u =>
    let t := { u with cur.ret := true }
    if t.debugNow 16 then .next (t.debugInstead (oneBit 16))
    else .next (((t.record (when (bit t.dbg.dbcr0 16) (oneBit 16)) true).returnFrom t.int.srr0 t.int.srr1).pulse .rfi)

/-- rfci: subject to the critical return debug event, DBCR0 and DBSR bit 26 (R856, spec/61_debug.md R2221). Watchpoint 19 pulses
either way (State.watchpoints, assumption log entry 42). -/
def State.returnCritical (s : State) : Answer :=
  s.supervisor fun u =>
    let t := { u with cur.cret := true }
    if t.debugNow 26 then .next (t.debugInstead (oneBit 26))
    else .next (((t.record (when (bit t.dbg.dbcr0 26) (oneBit 26)) true).returnFrom t.int.csrr0 t.int.csrr1).pulse .rfci)

/-- rfdi: an illegal instruction while HID0[DAPUEN] = 0, tested before privilege (R857). -/
def State.returnDebug (s : State) : Answer :=
  if !s.dapuen then .next s.illegal else s.returnPlain s.int.dsrr0 s.int.dsrr1 .rfdi

/-- rfmci (R858). -/
def State.returnMachineCheck (s : State) : Answer := s.returnPlain s.int.mcsrr0 s.int.mcsrr1 .rfmci

/-- MSR[EE] written (R862). -/
def State.setEe (s : State) (v : Bool) : State := s.setMsr (setBit s.msr 16 v)

/-- CPUSCR[CTL] of a core that dnh halts (spec/12_state_debug.md R326): IRStat2 to IRStat5 (bits 24 to 27) and IRStat10 to
IRStat13 (bits 11 to 14) for the events of IAC1 to IAC8 on the fetch of the instruction in IR, IRStat8 (bit 30) for a VLE
instruction, the rest 0. An event is a hit that is enabled and that no link bit of DBCR2 keeps out of DBSR, with DBCR0[IDM] = 1,
since with IDM = 0 "no debug events occur" (spec/61_debug.md R2202); R326 does not say whether a linked hit counts, nor whether a check-bit error that the
fetch corrected sets IRStat6: neither does here (DESIGN CHOICE, assumption log entry 26, unsafe). -/
def State.haltControl (s : State) : Word :=
  let event (n : Nat) : Bool := s.idm && iacEvent s.dbg s.cur.iacHits n
  ((List.range 4).foldl (fun w n => w ||| when (event n) (oneBit (24 + n)) ||| when (event (4 + n)) (oneBit (11 + n)))
    (when s.cur.vle (oneBit 30)))

/-- dnh and its VLE forms: with EDBCR0[DNH_EN] = 1 the core halts in debug mode, else an illegal instruction. `ir` is the
instruction as CPUSCR[IR] holds it (R890, spec/12_state_debug.md R320, R325, R326). Two points the rules leave open
(DESIGN CHOICE, assumption log entry 26, unsafe): EDBSR0[DNH] is set whatever EDBCR0[EDM] is, as R890 says, though
spec/12_state_debug.md R321 calls EDBSR0 reset while EDM = 0; and an instruction that halts the core is not completed, since
CPUSCR[PC] stays at it and no architectural register changes, so it records and counts no instruction complete event
(spec/61_debug.md R2212). -/
def State.notifyHalt (s : State) (ir : Word) (dui : BitVec 5) : Answer :=
  if !bit s.once.edbcr0 1 then .next s.illegal
  else
    .next ({ s with
      debugHalt := true
      once := { s.once with edbsr0 := s.once.edbsr0 ||| oneBit 2, cpuPc := s.pc, cpuIr := ir, cpuMsr := s.msr,
                            cpuCtl := s.haltControl } }.pulse (.dnh dui)).suppress

/-! ## Meanings -/

/-- `sc` (R850). -/
def execSc (s : State) : Answer := .next (s.systemCall (s.pc + 4))

/-- `rfi` (R855). -/
def execRfi (s : State) : Answer := s.returnNonCritical

/-- `rfci` (R856). -/
def execRfci (s : State) : Answer := s.returnCritical

/-- `rfdi` (R857). -/
def execRfdi (s : State) : Answer := s.returnDebug

/-- `rfmci` (R858). -/
def execRfmci (s : State) : Answer := s.returnMachineCheck

/-- `mtmsr` (R860). -/
def execMtmsr (rs : Reg) (s : State) : Answer := s.supervisor fun t => .next ((t.setMsr (t.r rs)).advance 4)

/-- `mfmsr` (R861). -/
def execMfmsr (rt : Reg) (s : State) : Answer := s.supervisor fun t => .next ((t.setR rt t.msr).advance 4)

/-- `wrtee` (R862). -/
def execWrtee (rs : Reg) (s : State) : Answer := s.supervisor fun t => .next ((t.setEe (bit (t.r rs) 16)).advance 4)

/-- `wrteei` (R863). -/
def execWrteei (e : BitVec 1) (s : State) : Answer := s.supervisor fun t => .next ((t.setEe (e == 1)).advance 4)

/-- `isync` (R880): every change has already taken effect in this sequential model. -/
def execIsync (s : State) : Answer := .next (s.advance 4)

/-- `wait` (R885). -/
def execWait (s : State) : Answer := .next { s.advance 4 with waiting := true }

/-- `dnh` (R890). -/
def execDnh (dui : BitVec 5) (duis : BitVec 10) (s : State) : Answer :=
  s.notifyHalt (putBits 6 5 dui (putBits 11 10 duis 0x4C00018C)) dui

end Sys2Proof.Machine
end

