-- ==== Sys2Proof/Machine/CacheTlb.lean ====
section
/-! DEFINITION. The cache management, cache locking and TLB instructions (spec/43_system.md R899 to R914,
spec/20_memory.md R442 to R445, R478). -/

namespace Sys2Proof.Machine

/-! ## Shared shapes -/

/-- An instruction that only advances the pc. -/
def State.noOperation (s : State) : Answer := .next (s.advance 4)

/-- MAS1, MAS2 and MAS3 from a TLB entry (spec/20_memory.md R442, spec/11_state_mmu_cache.md R211 to R213). -/
def TlbEntry.toMas (e : TlbEntry) : Word × Word × Word :=
  (when e.v (oneBit 0) ||| when e.iprot (oneBit 1) ||| zext e.tid <<< 16 ||| when e.ts (oneBit 19) ||| zext e.size <<< 7,
   zext e.epn <<< 10 ||| when e.vle (oneBit 26) ||| when e.w (oneBit 27) ||| when e.i (oneBit 28) |||
     when e.m (oneBit 29) ||| when e.g (oneBit 30) ||| when e.e (oneBit 31),
   zext e.rpn <<< 10 ||| zext e.u <<< 6 ||| when e.ux (oneBit 26) ||| when e.sx (oneBit 27) ||| when e.uw (oneBit 28) |||
     when e.sw (oneBit 29) ||| when e.ur (oneBit 30) ||| when e.sr (oneBit 31))

/-- A TLB entry from MAS1, MAS2 and MAS3 (spec/20_memory.md R443). -/
def TlbEntry.ofMas (mas1 mas2 mas3 : Word) : TlbEntry :=
  { v := bit mas1 0, iprot := bit mas1 1, tid := bits 8 8 mas1, ts := bit mas1 19, size := bits 20 5 mas1,
    epn := bits 0 22 mas2, vle := bit mas2 26, w := bit mas2 27, i := bit mas2 28, m := bit mas2 29, g := bit mas2 30,
    e := bit mas2 31, rpn := bits 0 22 mas3, u := bits 22 4 mas3, ux := bit mas3 26, sx := bit mas3 27,
    uw := bit mas3 28, sw := bit mas3 29, ur := bit mas3 30, sr := bit mas3 31 }

/-- Entry k of the TLB. -/
def MmuRegs.entry (m : MmuRegs) (k : BitVec 4) : TlbEntry := m.tlb[k.toNat]'(k.isLt)

/-- MAS0[ESEL]. MAS0[TLBSEL] selects nothing else: there is one TLB (spec/93_implementation_defined.md U47). -/
def MmuRegs.esel (m : MmuRegs) : BitVec 4 := bits 12 4 m.mas0

/-- MAS1, MAS2, MAS3 loaded from an entry. -/
def MmuRegs.loadMas (m : MmuRegs) (e : TlbEntry) : MmuRegs :=
  { m with mas1 := e.toMas.1, mas2 := e.toMas.2.1, mas3 := e.toMas.2.2 }

/-- tlbwe (R443). -/
def MmuRegs.writeEntry (m : MmuRegs) : MmuRegs :=
  { m with tlb := m.tlb.set m.esel.toNat (TlbEntry.ofMas m.mas1 m.mas2 m.mas3) m.esel.isLt }

/-- tlbsx that found entry k (R444). -/
def MmuRegs.searchHit (m : MmuRegs) (k : BitVec 4) : MmuRegs :=
  let n := m.loadMas (m.entry k)
  { n with mas0 := putBits 12 4 k (putBits 2 2 1#2 m.mas0), mas1 := n.mas1 ||| oneBit 0 }

/-- tlbsx that found none (R444). -/
def MmuRegs.searchMiss (m : MmuRegs) (ea : Word) : MmuRegs :=
  { m with
    mas0 := putBits 12 4 (bits 28 4 m.mas0) (putBits 2 2 (bits 2 2 m.mas4) m.mas0)
    mas1 := zext (bits 8 8 m.mas6) <<< 16 ||| when (bit m.mas6 31) (oneBit 19) ||| zext (bits 20 5 m.mas4) <<< 7
    mas2 := clearLow ea 10 ||| zext (bits 26 6 m.mas4)
    mas3 := 0 }

/-- The numbers of the entries that match ea with MAS6[SAS] and MAS6[SPID]. -/
def State.searchTlb (s : State) (ea : Word) : List (BitVec 4) :=
  ((List.range 16).map (BitVec.ofNat 4)).filter fun k =>
    (s.mmu.entry k).hit (bit s.mmu.mas6 31) (bits 8 8 s.mmu.mas6) s.pins ea

/-- tlbsx (R444); which entry is reported when more than one matches is a free value (spec/93_implementation_defined.md
U42 (a); DESIGN CHOICE, assumption log entry 4, safe). -/
def State.tlbSearch (s : State) (ea : Word) : State :=
  match s.searchTlb ea with
  | [] => { s with mmu := s.mmu.searchMiss ea }
  | [k] => { s with mmu := s.mmu.searchHit k }
  | _ => { s.spendFree with mmu := s.mmu.searchHit (Config.freeMultiHitEntry s.freeCtr) }

/-- tlbivax (R445): INV_ALL, else the entries whose page holds ea; IPROT entries stay. -/
def MmuRegs.invalidate (m : MmuRegs) (ea : Word) : MmuRegs :=
  { m with tlb := m.tlb.map fun e => if !e.iprot && (bit ea 29 || e.pageMatches ea) then { e with v := false } else e }

/-! ## Meanings -/

/-- `icbi` (R900). -/
def execIcbi (ra rb : Reg) (s : State) : Answer := s.cacheInvalidate (s.eaX ra rb)

/-- `icbt` (R901). -/
def execIcbt (ct : BitVec 5) (ra rb : Reg) (s : State) : Answer := s.cacheTouch ct (s.eaX ra rb)

/-- `icbtls` (R902). -/
def execIcbtls (ct : BitVec 5) (ra rb : Reg) (s : State) : Answer := s.cacheLock ct (s.eaX ra rb)

/-- `icblc` (R904). -/
def execIcblc (ct : BitVec 5) (ra rb : Reg) (s : State) : Answer := s.cacheUnlock ct (s.eaX ra rb)

/-- `dcbz` (R903): always the alignment interrupt (spec/60_exceptions.md R2025 (d)). -/
def execDcbz (ra rb : Reg) (s : State) : Answer := .next (s.alignment (s.eaX ra rb) false false)

/-- `dcba` (R906): a no-op. -/
def execDcba (_ra _rb : Reg) (s : State) : Answer := s.noOperation

/-- `dcbf` (R906): a no-op. -/
def execDcbf (_ra _rb : Reg) (s : State) : Answer := s.noOperation

/-- `dcbst` (R906): a no-op. -/
def execDcbst (_ra _rb : Reg) (s : State) : Answer := s.noOperation

/-- `dcbt` (R906): a no-op. -/
def execDcbt (_ct : BitVec 5) (_ra _rb : Reg) (s : State) : Answer := s.noOperation

/-- `dcbtst` (R906): a no-op. -/
def execDcbtst (_ct : BitVec 5) (_ra _rb : Reg) (s : State) : Answer := s.noOperation

/-- `dcbtls` (R905): a no-op. -/
def execDcbtls (_ct : BitVec 5) (_ra _rb : Reg) (s : State) : Answer := s.noOperation

/-- `dcbtstls` (R905): a no-op. -/
def execDcbtstls (_ct : BitVec 5) (_ra _rb : Reg) (s : State) : Answer := s.noOperation

/-- `dcblc` (R905): a no-op. -/
def execDcblc (_ct : BitVec 5) (_ra _rb : Reg) (s : State) : Answer := s.noOperation

/-- `dcbi` (R907): a privileged no-op. -/
def execDcbi (_ra _rb : Reg) (s : State) : Answer := s.supervisor State.noOperation

/-- `tlbre` (R910). -/
def execTlbre (s : State) : Answer :=
  s.supervisor fun t =>
    .next ({ t.command 10 (Config.tlbCommandAddress t.mmu.mas0) with
      mmu := t.mmu.loadMas (t.mmu.entry t.mmu.esel) }.advance 4)

/-- `tlbwe` (R911). -/
def execTlbwe (s : State) : Answer :=
  s.supervisor fun t =>
    .next ({ t.command 11 (Config.tlbCommandAddress t.mmu.mas0) with mmu := t.mmu.writeEntry }.advance 4)

/-- `tlbsx` (R912). -/
def execTlbsx (ra rb : Reg) (s : State) : Answer :=
  s.supervisor fun t => .next (((t.command 9 (t.eaX ra rb)).tlbSearch (t.eaX ra rb)).advance 4)

/-- `tlbivax` (R913). -/
def execTlbivax (ra rb : Reg) (s : State) : Answer :=
  s.supervisor fun t =>
    .next ({ t.command 8 (t.eaX ra rb) with mmu := t.mmu.invalidate (t.eaX ra rb) }.advance 4)

/-- `tlbsync` (R914): a privileged no-op. -/
def execTlbsync (s : State) : Answer := s.supervisor State.noOperation

end Sys2Proof.Machine
end

