-- ==== Sys2Proof/Machine/Efpu.lean ====
section
/-! DEFINITION. The embedded floating-point unit: formats, rounding, the element-level operations, and the last step every
scalar and vector instruction ends with (spec/45_efpu_scalar.md R1101 to R1118, R1160 to R1172, spec/46_efpu_vector.md
R1200, R1203). -/

namespace Sys2Proof.Machine

/-! ## Formats -/

/-- The classes of a single-precision element (R1101). -/
inductive FpClass where
  | zero
  | denorm
  | norm
  | inf
  | nan
  deriving DecidableEq, Repr

/-- The sign of an element. -/
def fpSign (x : Word) : Bool := bit x 0

/-- The biased exponent. -/
def fpExp (x : Word) : Nat := (bits 1 8 x).toNat

/-- The fraction. -/
def fpFrac (x : Word) : Nat := (bits 9 23 x).toNat

/-- The class of an element (R1101). -/
def fpClass (x : Word) : FpClass :=
  if fpExp x = 0 then (if fpFrac x = 0 then .zero else .denorm)
  else if fpExp x = 255 then (if fpFrac x = 0 then .inf else .nan)
  else .norm

/-- Special(x): Inf, NaN or Denorm (R1101). -/
def fpSpecial (x : Word) : Bool := fpClass x == .inf || fpClass x == .nan || fpClass x == .denorm

/-- Max(s): pmax or nmax (R1101). -/
def fpMax (s : Bool) : Word := if s then 0xFF7FFFFF else 0x7F7FFFFF

/-- SZero(s) (R1101). -/
def fpZero (s : Bool) : Word := when s (oneBit 0)

/-- The 24-bit significand of a Norm, hidden bit included: val(x) is this times 2^(e - 150) (R1101). -/
def fpSig (x : Word) : Nat := 8388608 + fpFrac x

/-- The exponent of the last place of a Norm. -/
def fpScale (x : Word) : Int := (fpExp x : Int) - 150

/-- Inf or NaN. -/
def fpHuge (x : Word) : Bool := fpClass x == .inf || fpClass x == .nan

/-- Zero or Denorm. -/
def fpTiny (x : Word) : Bool := fpClass x == .zero || fpClass x == .denorm

/-! ## Rounding -/

/-- The rounding modes of SPEFSCR[FRMC] (R1104). -/
inductive Rounding where
  | nearest
  | towardZero
  | up
  | down
  deriving DecidableEq, Repr

/-- The rounding mode of SPEFSCR (R1104). -/
def State.rounding (s : State) : Rounding :=
  match (bits 30 2 s.spefscr).toNat with
  | 0 => .nearest
  | 1 => .towardZero
  | 2 => .up
  | _ => .down

/-- The increment of the truncated significand (R1105): sign, last bit, guard, sticky. -/
def roundUp (m : Rounding) (s last g x : Bool) : Bool :=
  match m with
  | .nearest => g && (x || last)
  | .towardZero => false
  | .up => !s && (g || x)
  | .down => s && (g || x)

/-- A number cut at bit k: the part above, the bit just below the cut, and whether anything lies below that bit or was lost
before. -/
def cut (n k : Nat) (lost : Bool) : Nat × Bool × Bool :=
  if k = 0 then (n, false, lost) else (n >>> k, n.testBit (k - 1), lost || decide (n % 2 ^ (k - 1) ≠ 0))

/-- A non-zero real number: its magnitude is at least mag * 2^exp and less than (mag + 1) * 2^exp, and equal to the former
exactly when `lost` is false. With `lost`, mag has more than 24 bits. -/
structure Exact where
  neg : Bool
  mag : Nat
  exp : Int
  lost : Bool
  deriving DecidableEq, Repr

/-- The result of RoundSP (R1105): t is the truncated result. -/
structure Rounded where
  v : Word
  t : Word
  g : Bool
  x : Bool
  ovf : Bool
  unf : Bool
  deriving DecidableEq, Repr

/-- A single-precision number from sign, unbiased exponent and significand. -/
def fpPack (s : Bool) (e : Int) (t : Nat) : Word := BitVec.ofBool s ++ BitVec.ofInt 8 (e + 127) ++ BitVec.ofNat 23 t

/-- RoundSP (R1105, spec/92_eei_decisions.md D33). -/
def roundSingle (m : Rounding) (r : Exact) : Rounded :=
  let top := r.mag.log2
  let e : Int := top + r.exp
  let p := if top ≤ 23 then (r.mag <<< (23 - top), false, r.lost) else cut r.mag (top - 23) r.lost
  let t := p.1
  let t1 := t + (roundUp m r.neg (t.testBit 0) p.2.1 p.2.2).toNat
  let carry := t1 == 16777216
  let t2 := if carry then 8388608 else t1
  let e2 := if carry then e + 1 else e
  let v := fpPack r.neg e2 t2
  { v := v, t := if e < -126 then v else fpPack r.neg e t, g := p.2.1, x := p.2.2,
    ovf := decide (127 < e2), unf := decide (e2 < -126) }

/-! ## Element results -/

/-- ER, the result record of an element-level operation (R1107). -/
structure ElementResult where
  v : Word
  t : Word
  inv : Bool
  dbz : Bool
  ovf : Bool
  unf : Bool
  g : Bool
  x : Bool
  deriving DecidableEq, Repr

/-- A result with no flag but possibly FINV. -/
def plainElement (v : Word) (inv : Bool) : ElementResult :=
  { v := v, t := v, inv := inv, dbz := false, ovf := false, unf := false, g := false, x := false }

/-- The families that differ in the sign of an underflow result (R1106). -/
inductive Family where
  /-- Add, subtract, multiply-add, multiply-subtract, square root. -/
  | sum
  /-- The negated multiply-adds. -/
  | negated
  /-- Multiply and divide. -/
  | product
  deriving DecidableEq, Repr

/-- The zero an underflow delivers (R1106). -/
def underflowZero (m : Rounding) (f : Family) (s : Bool) : Word :=
  match f with
  | .sum => fpZero (m == .down)
  | .negated => fpZero (m != .down)
  | .product => fpZero s

/-- ElemCalc (R1107). -/
def elemCalc (m : Rounding) (f : Family) (r : Exact) : ElementResult :=
  let q := roundSingle m r
  if q.ovf then { plainElement (fpMax r.neg) false with ovf := true }
  else if q.unf then { plainElement (underflowZero m f r.neg) false with unf := true }
  else { plainElement q.v false with t := q.t, g := q.g, x := q.x }

/-- ZeroSum (R1108). -/
def zeroSum (m : Rounding) (p q : Bool) : Bool := if p == q then p else m == .down

/-- Sum of two signed numbers a * 2^i and b * 2^j as a signed integer and an exponent. -/
def alignedSum (a : Int) (i : Int) (b : Int) (j : Int) : Int × Int :=
  if i ≤ j then (a + b * (2 ^ (j - i).toNat : Nat), i) else (a * (2 ^ (i - j).toNat : Nat) + b, j)

/-- A number with the sign given. -/
def withSign (s : Bool) (n : Nat) : Int := if s then -(n : Int) else n

/-- The exact real z * 2^e. -/
def exactOf (z : Int) (e : Int) : Exact := { neg := decide (z < 0), mag := z.natAbs, exp := e, lost := false }

/-! ## Element-level operations -/

/-- The sign-manipulation operations (R1160). -/
inductive SignOp where
  | abs
  | nabs
  | neg
  deriving DecidableEq, Repr

/-- ElemSign (R1160). -/
def elemSign (op : SignOp) (a : Word) : ElementResult :=
  plainElement
    (match op with
      | .abs => setBit a 0 false
      | .nabs => setBit a 0 true
      | .neg => a ^^^ oneBit 0) (fpSpecial a)

/-- ElemAdd (R1161). -/
def elemAdd (m : Rounding) (a b : Word) : ElementResult :=
  let inv := fpSpecial a || fpSpecial b
  if fpHuge a then plainElement (fpMax (fpSign a)) inv
  else if fpHuge b then plainElement (fpMax (fpSign b)) inv
  else if fpTiny a && fpTiny b then plainElement (fpZero (zeroSum m (fpSign a) (fpSign b))) inv
  else if fpTiny a then plainElement b inv
  else if fpTiny b then plainElement a inv
  else
    let r := alignedSum (withSign (fpSign a) (fpSig a)) (fpScale a) (withSign (fpSign b) (fpSig b)) (fpScale b)
    if r.1 = 0 then plainElement (fpZero (zeroSum m (fpSign a) (fpSign b))) inv
    else elemCalc m .sum (exactOf r.1 r.2)

/-- ElemSub (R1161). -/
def elemSub (m : Rounding) (a b : Word) : ElementResult := elemAdd m a (b ^^^ oneBit 0)

/-- ElemMul (R1163). -/
def elemMul (m : Rounding) (a b : Word) : ElementResult :=
  let inv := fpSpecial a || fpSpecial b
  let s := fpSign a != fpSign b
  if fpTiny a || fpTiny b then plainElement (fpZero s) inv
  else if fpHuge a || fpHuge b then plainElement (fpMax s) inv
  else elemCalc m .product { neg := s, mag := fpSig a * fpSig b, exp := fpScale a + fpScale b, lost := false }

/-- ElemDiv (R1164). The quotient is taken to 32 more bits, so that guard and sticky are exact. -/
def elemDiv (m : Rounding) (a b : Word) : ElementResult :=
  let s := fpSign a != fpSign b
  if fpHuge b then plainElement (fpZero s) true
  else if fpTiny b then
    if fpClass b = .zero && fpClass a = .norm then { plainElement (fpMax s) false with dbz := true }
    else plainElement (fpMax s) true
  else if fpHuge a then plainElement (fpMax s) true
  else if fpTiny a then plainElement (fpZero s) (fpClass a == .denorm)
  else
    let n := fpSig a <<< 32
    elemCalc m .product
      { neg := s, mag := n / fpSig b, exp := fpScale a - fpScale b - 32, lost := decide (n % fpSig b ≠ 0) }

/-- ElemFMA (R1165). With an operand D that is a Denorm the product alone is calculated and FINV is the only flag
(R1107, R1115; DEDUCED, assumption log entry 12, unsafe). -/
def elemFma (m : Rounding) (a b d : Word) (subD negRes : Bool) : ElementResult :=
  let inv := fpSpecial a || fpSpecial b || fpSpecial d
  let sp := fpSign a != fpSign b
  let sd := fpSign d != subD
  let flip (v : Word) : ElementResult := plainElement (v ^^^ when negRes (oneBit 0)) inv
  if fpTiny a || fpTiny b then
    if fpHuge d then flip (fpMax sd)
    else if fpTiny d then flip (fpZero (zeroSum m sp sd))
    else flip (setBit d 0 sd)
  else if fpHuge a || fpHuge b then flip (fpMax sp)
  else if fpHuge d then flip (fpMax sd)
  else
    let p := withSign sp (fpSig a * fpSig b)
    let i := fpScale a + fpScale b
    let r := if fpTiny d then (p, i) else alignedSum p i (withSign sd (fpSig d)) (fpScale d)
    if r.1 = 0 then flip (fpZero (zeroSum m sp sd))
    else
      let q := elemCalc m (if negRes then .negated else .sum) (exactOf (if negRes then -r.1 else r.1) r.2)
      if inv then plainElement q.v true else q

/-- The integer square root by its bits, from bit k - 1 down. -/
def sqrtBits (n : Nat) : Nat → Nat → Nat
  | 0, r => r
  | k + 1, r => sqrtBits n k (if (r + 2 ^ k) * (r + 2 ^ k) ≤ n then r + 2 ^ k else r)

/-- ElemSqrt (R1166). -/
def elemSqrt (m : Rounding) (a : Word) : ElementResult :=
  match fpClass a with
  | .inf => plainElement (if fpSign a then fpZero true else fpMax false) true
  | .nan => plainElement (if fpSign a then fpZero true else fpMax false) true
  | .denorm => plainElement (fpZero (fpSign a)) true
  | .zero => plainElement (fpZero (fpSign a)) false
  | .norm =>
    if fpSign a then plainElement (fpZero true) true
    else
      let odd := fpScale a % 2 != 0
      let n := (if odd then 2 * fpSig a else fpSig a) <<< 40
      let e := (if odd then fpScale a - 1 else fpScale a) - 40
      let r := sqrtBits n 34 0
      elemCalc m .sum { neg := false, mag := r, exp := e / 2, lost := decide (r * r ≠ n) }

/-- The integer whose order is that of cval: both zeros are 0 (R1109). -/
def compareKey (x : Word) : Int := withSign (fpSign x) (bits 1 31 x).toNat

/-- FLt, FGt, FEq (R1109). -/
def fpLt (a b : Word) : Bool := decide (compareKey a < compareKey b)
def fpGt (a b : Word) : Bool := decide (compareKey b < compareKey a)
def fpEq (a b : Word) : Bool := decide (compareKey a = compareKey b)

/-- What ElemMax and ElemMin deliver for the element selected (R1167). -/
def selected (z : Word) : Word :=
  match fpClass z with
  | .denorm => fpZero (fpSign z)
  | .nan => fpMax (fpSign z)
  | .inf => fpMax (fpSign z)
  | .zero => z
  | .norm => z

/-- ElemMax with `least` = false, ElemMin with true (R1167). -/
def elemExtreme (least : Bool) (a b : Word) : ElementResult :=
  let inv := fpSpecial a || fpSpecial b
  let aNan := fpClass a == .nan
  let bNan := fpClass b == .nan
  let z :=
    if aNan && !bNan then b
    else if bNan && !aNan then a
    else if fpEq a b then (if fpSign a == least then a else b)
    else if fpLt a b == least then a else b
  plainElement (selected z) inv

/-- The kinds of the integer and fraction conversions (R1169). -/
inductive FixedKind where
  | ui
  | si
  | uf
  | sf
  deriving DecidableEq, Repr

/-- The number of fraction bits of a kind. -/
def FixedKind.scale : FixedKind → Nat
  | .ui => 0
  | .si => 0
  | .uf => 32
  | .sf => 31

/-- The kind has a sign. -/
def FixedKind.signed : FixedKind → Bool
  | .ui => false
  | .si => true
  | .uf => false
  | .sf => true

/-- ElemFromInt (R1169). -/
def elemFromInt (m : Rounding) (k : FixedKind) (b : Word) : ElementResult :=
  let n : Int := if k.signed then b.toInt else b.toNat
  if n = 0 then plainElement 0 false
  else
    let q := roundSingle m (exactOf n (-(k.scale : Int)))
    { plainElement q.v false with t := q.t, g := q.g, x := q.x }

/-- ElemToInt (R1170). -/
def elemToInt (m : Rounding) (k : FixedKind) (b : Word) : ElementResult :=
  let inv := fpSpecial b
  let s := fpSign b
  if fpTiny b then plainElement 0 inv
  else if !k.signed && s then plainElement 0 inv
  else
    let limit : Word := if k.signed then (if s then 0x80000000 else 0x7FFFFFFF) else 0xFFFFFFFF
    match fpClass b with
    | .nan => plainElement 0 inv
    | .inf => plainElement limit inv
    | .zero => plainElement 0 inv
    | .denorm => plainElement 0 inv
    | .norm =>
      let e := fpScale b + k.scale
      let p := if 0 ≤ e then (fpSig b <<< e.toNat, false, false) else cut (fpSig b) (-e).toNat false
      let n := p.1 + (roundUp m s (p.1.testBit 0) p.2.1 p.2.2).toNat
      if limit.toNat < n then plainElement limit true
      else
        { plainElement (BitVec.ofInt 32 (withSign s n)) false with
          t := BitVec.ofInt 32 (withSign s p.1), g := p.2.1, x := p.2.2 }

/-- ElemFromHalf (R1171). -/
def elemFromHalf (h : Half) : ElementResult :=
  let s := h.getMsbD 0
  let e := (h.extractLsb' 10 5).toNat
  let f := h.extractLsb' 0 10
  if e = 0 then plainElement (fpZero s) (f != 0)
  else if e = 31 then plainElement (fpMax s) true
  else plainElement (BitVec.ofBool s ++ BitVec.ofNat 8 (e + 112) ++ f ++ 0#13) false

/-- A half-precision number from sign, unbiased exponent and significand, in a word whose upper half is 0. -/
def halfPack (s : Bool) (e : Int) (t : Nat) : Word :=
  0#16 ++ (BitVec.ofBool s ++ BitVec.ofInt 5 (e + 15) ++ BitVec.ofNat 10 t : Half)

/-- The largest half-precision number of a sign (R1102). -/
def halfMax (s : Bool) : Word := if s then 0xFBFF else 0x7BFF

/-- The half-precision zero of a sign. -/
def halfZero (s : Bool) : Word := when s (oneBit 16)

/-- ElemToHalf, with 16 zero bits in front of the result (R1172). Where the value before rounding is below the smallest
normal number and rounds up to it, t is v, as D33 says for single precision (DEDUCED, assumption log entry 13, unsafe). -/
def elemToHalf (m : Rounding) (b : Word) : ElementResult :=
  let s := fpSign b
  match fpClass b with
  | .zero => plainElement (halfZero s) false
  | .nan => plainElement (halfMax s) true
  | .inf => plainElement (halfMax s) true
  | .denorm => plainElement (halfZero s) true
  | .norm =>
    let e : Int := (fpExp b : Int) - 127
    let p := cut (fpSig b) 13 false
    let t1 := p.1 + (roundUp m s (p.1.testBit 0) p.2.1 p.2.2).toNat
    let carry := t1 == 2048
    let t2 := if carry then 1024 else t1
    let e2 := if carry then e + 1 else e
    if 15 < e2 then { plainElement (halfMax s) false with ovf := true }
    else if e2 < -14 then { plainElement (halfZero s) false with unf := true }
    else
      let v := halfPack s e2 t2
      { plainElement v false with t := if e < -14 then v else halfPack s e p.1, g := p.2.1, x := p.2.2 }

/-! ## Committing a result -/

/-- SPEFSCR with the status bits of a high and a low element, guard and sticky cleared (first half of R1110 and R1200). -/
def efpStatus (h l : ElementResult) (w : Word) : Word :=
  (w &&& 0xC0FFC0FF) ||| when h.inv (oneBit 4) ||| when h.dbz (oneBit 5) ||| when h.unf (oneBit 6) |||
    when h.ovf (oneBit 7) ||| when l.inv (oneBit 20) ||| when l.dbz (oneBit 21) ||| when l.unf (oneBit 22) |||
    when l.ovf (oneBit 23) ||| when (h.inv || l.inv) (oneBit 11) ||| when (h.dbz || l.dbz) (oneBit 12) |||
    when (h.unf || l.unf) (oneBit 13) ||| when (h.ovf || l.ovf) (oneBit 14)

/-- An enabled data exception of an element (R1110). -/
def ElementResult.dataException (e : ElementResult) (w : Word) : Bool :=
  (e.inv && bit w 26) || (e.dbz && bit w 27) || (e.unf && bit w 28) || (e.ovf && bit w 29)

/-- The element is inexact, overflowed or underflowed (R1110). -/
def ElementResult.inexact (e : ElementResult) : Bool := e.g || e.x || e.ovf || e.unf

/-- SPEFSCR when no data exception is taken: guard and sticky bits, FINXS (second half of R1110 and R1200). -/
def efpFinal (h l : ElementResult) (w : Word) : Word :=
  efpStatus h l w ||| when h.g (oneBit 2) ||| when h.x (oneBit 3) ||| when l.g (oneBit 18) ||| when l.x (oneBit 19) |||
    when (h.inexact || l.inexact) (oneBit 10)

/-- The common body of ScalarCommit and VectorCommit (R1110, R1200): data exception, round exception with the truncated
result, or the rounded result. `write` writes the result, truncated or not. -/
def State.efpCommit (s : State) (h l : ElementResult) (write : Bool → State → State) : Answer :=
  if h.dataException s.spefscr || l.dataException s.spefscr then
    .next (s.setSpefscr (efpStatus h l s.spefscr)).efpData
  else
    let t := s.setSpefscr (efpFinal h l s.spefscr)
    if (h.inexact || l.inexact) && bit s.spefscr 25 then .next ((write true t).efpRoundAt (s.pc + 4))
    else .next ((write false t).advance 4)

/-- The high element of a scalar instruction: every status bit of it is cleared (R1110). -/
def noElement : ElementResult := plainElement 0 false

/-- ScalarCommit (R1110). -/
def State.scalarCommit (s : State) (rd : Reg) (e : ElementResult) : Answer :=
  s.efpCommit noElement e fun truncated t => t.setR rd (if truncated then e.t else e.v)

/-- VectorCommit (R1200, R1201): MSR[SPE] is tested before anything else. -/
def State.vectorCommit (s : State) (rd : Reg) (h l : ElementResult) : Answer :=
  if !s.speOn then .next s.speUnavailable
  else s.efpCommit h l fun truncated t => t.setR64 rd (if truncated then h.t ++ l.t else h.v ++ l.v)

/-- The CR field of a scalar compare or test: only its second bit is defined, the other three are free
(spec/93_implementation_defined.md U30; DESIGN CHOICE, assumption log entry 4, safe). -/
def State.scalarCompareField (s : State) (crfD : CrField) (c : Bool) : State :=
  let f := Config.freeCompareBits s.freeCtr
  s.spendFree.setCrField crfD (crBits (f.getMsbD 0) c (f.getMsbD 1) (f.getMsbD 2))

/-- The scalar compares (R1134 to R1136). -/
def State.scalarCompare (s : State) (crfD : CrField) (c : Bool) (a b : Word) : Answer :=
  s.efpCommit noElement (plainElement 0 (fpSpecial a || fpSpecial b)) fun _ t => t.scalarCompareField crfD c

/-- The scalar tests (R1137 to R1139). -/
def State.scalarTest (s : State) (crfD : CrField) (c : Bool) : Answer := .next ((s.scalarCompareField crfD c).advance 4)

/-- The CR field of a vector compare or test: all four bits are defined, as spec/46_efpu_vector.md R1203 says, though
spec/93_implementation_defined.md U30 counts the vector compares among those whose LT, EQ and SO bits are any value
(DESIGN CHOICE, assumption log entry 4, unsafe). -/
def vectorCompareField (h l : Bool) : BitVec 4 := crBits h l (h || l) (h && l)

/-- VectorCompare (R1203). -/
def State.vectorCompare (s : State) (crfD : CrField) (rel : Word → Word → Bool) (a b : Dword) : Answer :=
  if !s.speOn then .next s.speUnavailable
  else
    s.efpCommit (plainElement 0 (fpSpecial (hi a) || fpSpecial (hi b))) (plainElement 0 (fpSpecial (lo a) || fpSpecial (lo b)))
      fun _ t => t.setCrField crfD (vectorCompareField (rel (hi a) (hi b)) (rel (lo a) (lo b)))

/-- The vector tests (R1240 to R1242). -/
def State.vectorTest (s : State) (crfD : CrField) (rel : Word → Word → Bool) (a b : Dword) : Answer :=
  if !s.speOn then .next s.speUnavailable
  else .next ((s.setCrField crfD (vectorCompareField (rel (hi a) (hi b)) (rel (lo a) (lo b)))).advance 4)

end Sys2Proof.Machine
end

