-- ==== Sys2Proof/Machine/EfpuScalar.lean ====
section
/-! DEFINITION. The scalar single-precision instructions (spec/45_efpu_scalar.md R1120 to R1151). None tests MSR[SPE]
(R1118). -/

namespace Sys2Proof.Machine

/-- `efsabs` (R1120). -/
def execEfsabs (rd ra : Reg) (s : State) : Answer := s.scalarCommit rd (elemSign .abs (s.r ra))

/-- `efsnabs` (R1121). -/
def execEfsnabs (rd ra : Reg) (s : State) : Answer := s.scalarCommit rd (elemSign .nabs (s.r ra))

/-- `efsneg` (R1122). -/
def execEfsneg (rd ra : Reg) (s : State) : Answer := s.scalarCommit rd (elemSign .neg (s.r ra))

/-- `efsadd` (R1123). -/
def execEfsadd (rd ra rb : Reg) (s : State) : Answer := s.scalarCommit rd (elemAdd s.rounding (s.r ra) (s.r rb))

/-- `efssub` (R1124). -/
def execEfssub (rd ra rb : Reg) (s : State) : Answer := s.scalarCommit rd (elemSub s.rounding (s.r ra) (s.r rb))

/-- `efsmul` (R1125). -/
def execEfsmul (rd ra rb : Reg) (s : State) : Answer := s.scalarCommit rd (elemMul s.rounding (s.r ra) (s.r rb))

/-- `efsdiv` (R1126). -/
def execEfsdiv (rd ra rb : Reg) (s : State) : Answer := s.scalarCommit rd (elemDiv s.rounding (s.r ra) (s.r rb))

/-- `efsmadd` (R1127). -/
def execEfsmadd (rd ra rb : Reg) (s : State) : Answer :=
  s.scalarCommit rd (elemFma s.rounding (s.r ra) (s.r rb) (s.r rd) false false)

/-- `efsmsub` (R1128). -/
def execEfsmsub (rd ra rb : Reg) (s : State) : Answer :=
  s.scalarCommit rd (elemFma s.rounding (s.r ra) (s.r rb) (s.r rd) true false)

/-- `efsnmadd` (R1129). -/
def execEfsnmadd (rd ra rb : Reg) (s : State) : Answer :=
  s.scalarCommit rd (elemFma s.rounding (s.r ra) (s.r rb) (s.r rd) false true)

/-- `efsnmsub` (R1130). -/
def execEfsnmsub (rd ra rb : Reg) (s : State) : Answer :=
  s.scalarCommit rd (elemFma s.rounding (s.r ra) (s.r rb) (s.r rd) true true)

/-- `efssqrt` (R1131). -/
def execEfssqrt (rd ra : Reg) (s : State) : Answer := s.scalarCommit rd (elemSqrt s.rounding (s.r ra))

/-- `efsmax` (R1132). -/
def execEfsmax (rd ra rb : Reg) (s : State) : Answer := s.scalarCommit rd (elemExtreme false (s.r ra) (s.r rb))

/-- `efsmin` (R1133). -/
def execEfsmin (rd ra rb : Reg) (s : State) : Answer := s.scalarCommit rd (elemExtreme true (s.r ra) (s.r rb))

/-- `efscmpgt` (R1134). -/
def execEfscmpgt (crfD : CrField) (ra rb : Reg) (s : State) : Answer :=
  s.scalarCompare crfD (fpGt (s.r ra) (s.r rb)) (s.r ra) (s.r rb)

/-- `efscmplt` (R1135). -/
def execEfscmplt (crfD : CrField) (ra rb : Reg) (s : State) : Answer :=
  s.scalarCompare crfD (fpLt (s.r ra) (s.r rb)) (s.r ra) (s.r rb)

/-- `efscmpeq` (R1136). -/
def execEfscmpeq (crfD : CrField) (ra rb : Reg) (s : State) : Answer :=
  s.scalarCompare crfD (fpEq (s.r ra) (s.r rb)) (s.r ra) (s.r rb)

/-- `efststgt` (R1137). -/
def execEfststgt (crfD : CrField) (ra rb : Reg) (s : State) : Answer := s.scalarTest crfD (fpGt (s.r ra) (s.r rb))

/-- `efststlt` (R1138). -/
def execEfststlt (crfD : CrField) (ra rb : Reg) (s : State) : Answer := s.scalarTest crfD (fpLt (s.r ra) (s.r rb))

/-- `efststeq` (R1139). -/
def execEfststeq (crfD : CrField) (ra rb : Reg) (s : State) : Answer := s.scalarTest crfD (fpEq (s.r ra) (s.r rb))

/-- `efscfui` (R1140). -/
def execEfscfui (rd rb : Reg) (s : State) : Answer := s.scalarCommit rd (elemFromInt s.rounding .ui (s.r rb))

/-- `efscfsi` (R1141). -/
def execEfscfsi (rd rb : Reg) (s : State) : Answer := s.scalarCommit rd (elemFromInt s.rounding .si (s.r rb))

/-- `efscfuf` (R1142). -/
def execEfscfuf (rd rb : Reg) (s : State) : Answer := s.scalarCommit rd (elemFromInt s.rounding .uf (s.r rb))

/-- `efscfsf` (R1143). -/
def execEfscfsf (rd rb : Reg) (s : State) : Answer := s.scalarCommit rd (elemFromInt s.rounding .sf (s.r rb))

/-- `efscfh` (R1144). -/
def execEfscfh (rd rb : Reg) (s : State) : Answer := s.scalarCommit rd (elemFromHalf (bits 16 16 (s.r rb)))

/-- `efsctui` (R1145). -/
def execEfsctui (rd rb : Reg) (s : State) : Answer := s.scalarCommit rd (elemToInt s.rounding .ui (s.r rb))

/-- `efsctsi` (R1146). -/
def execEfsctsi (rd rb : Reg) (s : State) : Answer := s.scalarCommit rd (elemToInt s.rounding .si (s.r rb))

/-- `efsctuiz` (R1147). -/
def execEfsctuiz (rd rb : Reg) (s : State) : Answer := s.scalarCommit rd (elemToInt .towardZero .ui (s.r rb))

/-- `efsctsiz` (R1148). -/
def execEfsctsiz (rd rb : Reg) (s : State) : Answer := s.scalarCommit rd (elemToInt .towardZero .si (s.r rb))

/-- `efsctuf` (R1149). -/
def execEfsctuf (rd rb : Reg) (s : State) : Answer := s.scalarCommit rd (elemToInt s.rounding .uf (s.r rb))

/-- `efsctsf` (R1150). -/
def execEfsctsf (rd rb : Reg) (s : State) : Answer := s.scalarCommit rd (elemToInt s.rounding .sf (s.r rb))

/-- `efscth` (R1151). -/
def execEfscth (rd rb : Reg) (s : State) : Answer := s.scalarCommit rd (elemToHalf s.rounding (s.r rb))

end Sys2Proof.Machine
end

