-- ==== Sys2Proof/Machine/EfpuVector.lean ====
section
/-! DEFINITION. The vector single-precision instructions (spec/46_efpu_vector.md R1210 to R1254). Each tests MSR[SPE] first
(R1201). -/

namespace Sys2Proof.Machine

/-! ## Shared shapes -/

/-- One operation on both elements of one register. -/
def State.vectorMap (s : State) (rd : Reg) (f : Word → ElementResult) (a : Dword) : Answer :=
  s.vectorCommit rd (f (hi a)) (f (lo a))

/-- One operation on the pairs of elements of two registers. -/
def State.vectorZip (s : State) (rd : Reg) (f : Word → Word → ElementResult) (a b : Dword) : Answer :=
  s.vectorCommit rd (f (hi a) (hi b)) (f (lo a) (lo b))

/-! ## Meanings -/

/-- `evfsabs` (R1210). -/
def execEvfsabs (rd ra : Reg) (s : State) : Answer := s.vectorMap rd (elemSign .abs) (s.r64 ra)

/-- `evfsnabs` (R1211). -/
def execEvfsnabs (rd ra : Reg) (s : State) : Answer := s.vectorMap rd (elemSign .nabs) (s.r64 ra)

/-- `evfsneg` (R1212). -/
def execEvfsneg (rd ra : Reg) (s : State) : Answer := s.vectorMap rd (elemSign .neg) (s.r64 ra)

/-- `evfsadd` (R1213). -/
def execEvfsadd (rd ra rb : Reg) (s : State) : Answer := s.vectorZip rd (elemAdd s.rounding) (s.r64 ra) (s.r64 rb)

/-- `evfssub` (R1214). -/
def execEvfssub (rd ra rb : Reg) (s : State) : Answer := s.vectorZip rd (elemSub s.rounding) (s.r64 ra) (s.r64 rb)

/-- `evfsaddsub` (R1215). -/
def execEvfsaddsub (rd ra rb : Reg) (s : State) : Answer :=
  s.vectorCommit rd (elemAdd s.rounding (hi (s.r64 ra)) (hi (s.r64 rb))) (elemSub s.rounding (lo (s.r64 ra)) (lo (s.r64 rb)))

/-- `evfssubadd` (R1216). -/
def execEvfssubadd (rd ra rb : Reg) (s : State) : Answer :=
  s.vectorCommit rd (elemSub s.rounding (hi (s.r64 ra)) (hi (s.r64 rb))) (elemAdd s.rounding (lo (s.r64 ra)) (lo (s.r64 rb)))

/-- `evfsaddx` (R1217). -/
def execEvfsaddx (rd ra rb : Reg) (s : State) : Answer :=
  s.vectorCommit rd (elemAdd s.rounding (lo (s.r64 ra)) (hi (s.r64 rb))) (elemAdd s.rounding (hi (s.r64 ra)) (lo (s.r64 rb)))

/-- `evfssubx` (R1218). -/
def execEvfssubx (rd ra rb : Reg) (s : State) : Answer :=
  s.vectorCommit rd (elemSub s.rounding (lo (s.r64 ra)) (hi (s.r64 rb))) (elemSub s.rounding (hi (s.r64 ra)) (lo (s.r64 rb)))

/-- `evfsaddsubx` (R1219). -/
def execEvfsaddsubx (rd ra rb : Reg) (s : State) : Answer :=
  s.vectorCommit rd (elemAdd s.rounding (lo (s.r64 ra)) (hi (s.r64 rb))) (elemSub s.rounding (hi (s.r64 ra)) (lo (s.r64 rb)))

/-- `evfssubaddx` (R1220). -/
def execEvfssubaddx (rd ra rb : Reg) (s : State) : Answer :=
  s.vectorCommit rd (elemSub s.rounding (lo (s.r64 ra)) (hi (s.r64 rb))) (elemAdd s.rounding (hi (s.r64 ra)) (lo (s.r64 rb)))

/-- `evfssum` (R1221). -/
def execEvfssum (rd ra rb : Reg) (s : State) : Answer :=
  s.vectorCommit rd (elemAdd s.rounding (hi (s.r64 ra)) (lo (s.r64 ra))) (elemAdd s.rounding (hi (s.r64 rb)) (lo (s.r64 rb)))

/-- `evfsdiff` (R1222). -/
def execEvfsdiff (rd ra rb : Reg) (s : State) : Answer :=
  s.vectorCommit rd (elemSub s.rounding (hi (s.r64 ra)) (lo (s.r64 ra))) (elemSub s.rounding (hi (s.r64 rb)) (lo (s.r64 rb)))

/-- `evfssumdiff` (R1223). -/
def execEvfssumdiff (rd ra rb : Reg) (s : State) : Answer :=
  s.vectorCommit rd (elemAdd s.rounding (hi (s.r64 ra)) (lo (s.r64 ra))) (elemSub s.rounding (hi (s.r64 rb)) (lo (s.r64 rb)))

/-- `evfsdiffsum` (R1224). -/
def execEvfsdiffsum (rd ra rb : Reg) (s : State) : Answer :=
  s.vectorCommit rd (elemSub s.rounding (hi (s.r64 ra)) (lo (s.r64 ra))) (elemAdd s.rounding (hi (s.r64 rb)) (lo (s.r64 rb)))

/-- `evfsmul` (R1225). -/
def execEvfsmul (rd ra rb : Reg) (s : State) : Answer := s.vectorZip rd (elemMul s.rounding) (s.r64 ra) (s.r64 rb)

/-- `evfsmule` (R1226). -/
def execEvfsmule (rd ra rb : Reg) (s : State) : Answer :=
  s.vectorCommit rd (elemMul s.rounding (hi (s.r64 ra)) (hi (s.r64 rb))) (elemMul s.rounding (hi (s.r64 ra)) (lo (s.r64 rb)))

/-- `evfsmulo` (R1227). -/
def execEvfsmulo (rd ra rb : Reg) (s : State) : Answer :=
  s.vectorCommit rd (elemMul s.rounding (lo (s.r64 ra)) (hi (s.r64 rb))) (elemMul s.rounding (lo (s.r64 ra)) (lo (s.r64 rb)))

/-- `evfsmulx` (R1228). -/
def execEvfsmulx (rd ra rb : Reg) (s : State) : Answer :=
  s.vectorCommit rd (elemMul s.rounding (lo (s.r64 ra)) (hi (s.r64 rb))) (elemMul s.rounding (hi (s.r64 ra)) (lo (s.r64 rb)))

/-- `evfsdiv` (R1229). -/
def execEvfsdiv (rd ra rb : Reg) (s : State) : Answer := s.vectorZip rd (elemDiv s.rounding) (s.r64 ra) (s.r64 rb)

/-- `evfsmadd` (R1230). -/
def execEvfsmadd (rd ra rb : Reg) (s : State) : Answer :=
  s.vectorCommit rd (elemFma s.rounding (hi (s.r64 ra)) (hi (s.r64 rb)) (hi (s.r64 rd)) false false)
    (elemFma s.rounding (lo (s.r64 ra)) (lo (s.r64 rb)) (lo (s.r64 rd)) false false)

/-- `evfsmsub` (R1231). -/
def execEvfsmsub (rd ra rb : Reg) (s : State) : Answer :=
  s.vectorCommit rd (elemFma s.rounding (hi (s.r64 ra)) (hi (s.r64 rb)) (hi (s.r64 rd)) true false)
    (elemFma s.rounding (lo (s.r64 ra)) (lo (s.r64 rb)) (lo (s.r64 rd)) true false)

/-- `evfsnmadd` (R1232). -/
def execEvfsnmadd (rd ra rb : Reg) (s : State) : Answer :=
  s.vectorCommit rd (elemFma s.rounding (hi (s.r64 ra)) (hi (s.r64 rb)) (hi (s.r64 rd)) false true)
    (elemFma s.rounding (lo (s.r64 ra)) (lo (s.r64 rb)) (lo (s.r64 rd)) false true)

/-- `evfsnmsub` (R1233). -/
def execEvfsnmsub (rd ra rb : Reg) (s : State) : Answer :=
  s.vectorCommit rd (elemFma s.rounding (hi (s.r64 ra)) (hi (s.r64 rb)) (hi (s.r64 rd)) true true)
    (elemFma s.rounding (lo (s.r64 ra)) (lo (s.r64 rb)) (lo (s.r64 rd)) true true)

/-- `evfssqrt` (R1234). -/
def execEvfssqrt (rd ra : Reg) (s : State) : Answer := s.vectorMap rd (elemSqrt s.rounding) (s.r64 ra)

/-- `evfsmax` (R1235). -/
def execEvfsmax (rd ra rb : Reg) (s : State) : Answer := s.vectorZip rd (elemExtreme false) (s.r64 ra) (s.r64 rb)

/-- `evfsmin` (R1236). -/
def execEvfsmin (rd ra rb : Reg) (s : State) : Answer := s.vectorZip rd (elemExtreme true) (s.r64 ra) (s.r64 rb)

/-- `evfscmpgt` (R1237). -/
def execEvfscmpgt (crfD : CrField) (ra rb : Reg) (s : State) : Answer := s.vectorCompare crfD fpGt (s.r64 ra) (s.r64 rb)

/-- `evfscmplt` (R1238). -/
def execEvfscmplt (crfD : CrField) (ra rb : Reg) (s : State) : Answer := s.vectorCompare crfD fpLt (s.r64 ra) (s.r64 rb)

/-- `evfscmpeq` (R1239). -/
def execEvfscmpeq (crfD : CrField) (ra rb : Reg) (s : State) : Answer := s.vectorCompare crfD fpEq (s.r64 ra) (s.r64 rb)

/-- `evfststgt` (R1240). -/
def execEvfststgt (crfD : CrField) (ra rb : Reg) (s : State) : Answer := s.vectorTest crfD fpGt (s.r64 ra) (s.r64 rb)

/-- `evfststlt` (R1241). -/
def execEvfststlt (crfD : CrField) (ra rb : Reg) (s : State) : Answer := s.vectorTest crfD fpLt (s.r64 ra) (s.r64 rb)

/-- `evfststeq` (R1242). -/
def execEvfststeq (crfD : CrField) (ra rb : Reg) (s : State) : Answer := s.vectorTest crfD fpEq (s.r64 ra) (s.r64 rb)

/-- `evfscfui` (R1243). -/
def execEvfscfui (rd rb : Reg) (s : State) : Answer := s.vectorMap rd (elemFromInt s.rounding .ui) (s.r64 rb)

/-- `evfscfsi` (R1244). -/
def execEvfscfsi (rd rb : Reg) (s : State) : Answer := s.vectorMap rd (elemFromInt s.rounding .si) (s.r64 rb)

/-- `evfscfuf` (R1245). -/
def execEvfscfuf (rd rb : Reg) (s : State) : Answer := s.vectorMap rd (elemFromInt s.rounding .uf) (s.r64 rb)

/-- `evfscfsf` (R1246). -/
def execEvfscfsf (rd rb : Reg) (s : State) : Answer := s.vectorMap rd (elemFromInt s.rounding .sf) (s.r64 rb)

/-- `evfscfh` (R1247). -/
def execEvfscfh (rd rb : Reg) (s : State) : Answer := s.vectorMap rd (fun w => elemFromHalf (bits 16 16 w)) (s.r64 rb)

/-- `evfscth` (R1248). -/
def execEvfscth (rd rb : Reg) (s : State) : Answer := s.vectorMap rd (elemToHalf s.rounding) (s.r64 rb)

/-- `evfsctui` (R1249). -/
def execEvfsctui (rd rb : Reg) (s : State) : Answer := s.vectorMap rd (elemToInt s.rounding .ui) (s.r64 rb)

/-- `evfsctsi` (R1250). -/
def execEvfsctsi (rd rb : Reg) (s : State) : Answer := s.vectorMap rd (elemToInt s.rounding .si) (s.r64 rb)

/-- `evfsctuiz` (R1251). -/
def execEvfsctuiz (rd rb : Reg) (s : State) : Answer := s.vectorMap rd (elemToInt .towardZero .ui) (s.r64 rb)

/-- `evfsctsiz` (R1252). -/
def execEvfsctsiz (rd rb : Reg) (s : State) : Answer := s.vectorMap rd (elemToInt .towardZero .si) (s.r64 rb)

/-- `evfsctuf` (R1253). -/
def execEvfsctuf (rd rb : Reg) (s : State) : Answer := s.vectorMap rd (elemToInt s.rounding .uf) (s.r64 rb)

/-- `evfsctsf` (R1254). -/
def execEvfsctsf (rd rb : Reg) (s : State) : Answer := s.vectorMap rd (elemToInt s.rounding .sf) (s.r64 rb)

end Sys2Proof.Machine
end

