-- ==== Sys2Proof/Machine/Platform.lean ====
section
/-! DEFINITION. Everything that reaches the core from outside the instruction stream: reset, the time base and the timers,
the input pins, asynchronous interrupts, the power states; and the output pins as functions of the state
(spec/62_timers_power_platform.md R2140 to R2198, spec/70_reset_and_hazards.md R2300, spec/60_exceptions.md R2020 to R2061). -/

namespace Sys2Proof.Machine

/-! ## Power states -/

/-- The halted or stopped state, or a debug session: no instruction and no interrupt (R2170, spec/61_debug.md R2245). -/
def State.suspended (s : State) : Bool := s.debugHalt || s.pins.halt || s.pins.stop

/-- The processor clock m_clk runs: always in the active state; in the waiting, halted and stopped states and in a debug
session while jd_mclk_on is asserted. Without it no interrupt is sampled, no edge of p_nmi_b or p_mcp_b is seen and the time
base does not count m_clk (R2140 item 5, R2160, R2170). That jd_mclk_on says so is the model's choice (DESIGN CHOICE,
assumption log entry 43, unsafe). -/
def State.clocked (s : State) : Bool := s.pins.mclkOn || !(s.waiting || s.suspended)

/-! ## Timers -/

/-- TCR[FPEXT] || TCR[FP] (R2144). -/
def fitSelector (tcr : Word) : Nat := (bits 15 4 tcr ++ bits 6 2 tcr : BitVec 6).toNat

/-- TCR[WPEXT] || TCR[WP] (R2146). -/
def watchdogSelector (tcr : Word) : Nat := (bits 11 4 tcr ++ bits 0 2 tcr : BitVec 6).toNat

/-- TSR after a watchdog time-out (R2146). -/
def watchdogTimeout (tcr tsr : Word) : Word :=
  if !bit tsr 0 then tsr ||| oneBit 0
  else if !bit tsr 1 then tsr ||| oneBit 1
  else if bits 2 2 tcr != 0 then putBits 2 2 (bits 2 2 tcr) tsr
  else tsr

/-- TSR after the time base changes: a 0-to-1 change of a selected bit sets FIS and is a watchdog time-out (R2144, R2146). -/
def timeBaseChange (tcr tsr : Word) (old new : Dword) : Word :=
  let rose (i : Nat) : Bool := !old.getMsbD i && new.getMsbD i
  let t1 := if rose (fitSelector tcr) then tsr ||| oneBit 5 else tsr
  if rose (watchdogSelector tcr) then watchdogTimeout tcr t1 else t1

/-- The time base takes a new value, by a tick or by software (R2140, R2144). -/
def TimerRegs.setTb (t : TimerRegs) (v : Dword) : TimerRegs := { t with tb := v, tsr := timeBaseChange t.tcr t.tsr t.tb v }

/-- One counting tick of the decrementer (R2142). -/
def TimerRegs.stepDec (t : TimerRegs) : TimerRegs :=
  if t.dec = 0 then t
  else if t.dec = 1 then { t with dec := if bit t.tcr 9 then t.decar else 0, tsr := t.tsr ||| oneBit 4 }
  else { t with dec := t.dec - 1 }

/-- The debug freeze of the timers: DBCR0[FT] with a DBSR bit other than MRR and CNT1TRG set (R2140, R2242). -/
def State.timersFrozen (s : State) : Bool := bit s.dbg.dbcr0 31 && (s.dbg.dbsr &&& 0xCFFFFFFE) != 0

/-- The clock HID0[SEL_TBCLK] selects (R2140). -/
def State.timeBaseClock (s : State) : TimeBaseClock := if bit s.hid.hid0 18 then .tbclk else .mclk

/-- One tick of the selected clock, which does not count unless that clock runs (R2140, R2141). In a debug session
EDBCR0[DFT] may freeze either counter. -/
def State.tick (s : State) : State :=
  if bit s.hid.hid0 17 && !s.pins.tbdisable && !s.timersFrozen && (s.timeBaseClock == .tbclk || s.clocked) then
    let dft := bits 2 2 s.once.edbcr0
    let t1 := if s.debugHalt && (dft == 0 || dft == 2) then s.tim else s.tim.stepDec
    let t2 := if s.debugHalt && (dft == 0 || dft == 1) then t1 else t1.setTb (t1.tb + 1)
    { s with tim := t2 }
  else s

/-! ## Reset -/

/-- The debug registers after reset (spec/12_state_debug.md R289): DBCNT, DVC1, DVC2 unaffected, DBERC0 cleared by m_por only.
IAC1 to IAC8, DAC1 and DAC2 are 0 after m_por too, as R289, R295, R296 and spec/10_state.md R190 say; U1 of
spec/93_implementation_defined.md lists them as any value then, and no ruling chooses (DESIGN CHOICE, assumption log entry 1,
unsafe). -/
def resetDebug (d : DebugRegs) : DebugRegs :=
  { d with
    dbcr0 := 0, dbcr1 := 0, dbcr2 := 0, dbcr3 := 0, dbcr4 := 0, dbcr5 := 0, dbcr6 := 0, dbsr := 0x10000000,
    iac := Vector.replicate 8 0, dac1 := 0, dac2 := 0, devent := 0, ddam := 0 }

/-- A TLB entry with V = 0 whose other fields are the bits of two double words. -/
def invalidTlbEntry (x y : Dword) : TlbEntry :=
  let b (i : Nat) : Bool := y.getLsbD i
  { v := false, ts := x.getLsbD 0, tid := x.extractLsb' 1 8, epn := x.extractLsb' 9 22, rpn := x.extractLsb' 31 22,
    size := x.extractLsb' 53 5, ux := b 0, sx := b 1, uw := b 2, sw := b 3, ur := b 4, sr := b 5, w := b 6, i := b 7, m := b 8,
    g := b 9, e := b 10, u := y.extractLsb' 11 4, iprot := b 15, vle := b 16 }

/-- The TLB after a reset event, either kind (spec/11_state_mmu_cache.md R205): entry 0 maps the reset page, the others are invalid
and their other fields are free values, since U41 of spec/93_implementation_defined.md allows any value (assumption log entry 1).
`n` is the free-value counter. -/
def freshTlb (n : Nat) (p : Pins) : Vector TlbEntry 16 :=
  (Vector.ofFn fun k => invalidTlbEntry (Config.powerOnValue n (200 + k.val)) (Config.powerOnValue n (300 + k.val))).set 0
    (resetTlbEntry0 p)

/-- p_reset_b (spec/10_state.md R190, R2300). Registers called unaffected keep their values. The levels p_nmi_b and p_mcp_b
have when reset is negated count as sampled, so an input that is asserted then makes no edge; R2300 step 3 and R2160 leave
that open (DESIGN CHOICE, assumption log entry 43, unsafe). The first fetch after reset is
not the first fetch of an interrupt handler here, so a bus error or a little-endian VLE page at p_rstbase sets no
MCSR[EXCP_ERR]: R2003, R2005 and R2037 list system reset among the interrupts, while R2000 and R2001 define an interrupt by
its save pair, which reset has not (DESIGN CHOICE, assumption log entry 41, unsafe). -/
def State.hardReset (s : State) : State :=
  { s with
    pc := resetPc s.pins
    xer := 0
    msr := 0
    spefscr := 0
    reserve := false
    int := { s.int with esr := 0, mcsr := 0 }
    soft := { s.soft with pir := zext s.pins.cpuid, pid0 := 0 }
    tim := { s.tim with tcr := 0, tsr := 0 }
    hid := { hid0 := 0, hid1 := 0, bucsr := 0 }
    mmu := { s.mmu with tlb := freshTlb s.freeCtr s.pins, mmucsr0 := 0 }
    ic := { s.ic with replace := 0, l1csr0 := 0, l1csr1 := 0, l1finv1 := 0, hdbcr0 := 0, cdacntl := 0 }
    dbg := if bit s.dbg.dbcr0 0 then s.dbg else resetDebug s.dbg
    psu := { s.psu with pscr := 0 }
    waiting := false
    debugHalt := false
    nmiPending := false
    sampled := { nmi := s.pins.nmi, mcp := s.pins.mcp }
    firstFetch := false
    cur := Current.idle
    outputs := []
    freeCtr := s.freeCtr + 1 }

/-- m_por: reset, every unaffected register any value, and the OnCE and Nexus registers at their reset values
(R2300, spec/93_implementation_defined.md U1, assumption log entry 1). hardReset spends the free value they come from. -/
def State.powerOnReset (s : State) : State :=
  let p (n : Nat) : Dword := Config.powerOnValue s.freeCtr n
  let w (n : Nat) : Word := lo (p n)
  let b (n i : Nat) : Bool := (p n).getLsbD i
  let r := { s with dbg.dbcr0 := 0 }.hardReset
  { r with
    gpr := Vector.ofFn fun k => p k.val
    cr := w 32
    lr := w 33
    ctr := w 34
    acc := p 35
    int := { srr0 := w 36, srr1 := w 37, csrr0 := w 38, csrr1 := w 39, dsrr0 := w 40, dsrr1 := w 41, mcsrr0 := w 42,
             mcsrr1 := w 43, esr := 0, mcsr := 0, mcar := w 44, dear := w 45, ivpr := w 46 &&& 0xFFFF0000,
             ivor := Vector.ofFn fun k => w (47 + k.val) &&& 0xFFF0 }
    soft := { r.soft with sprg := Vector.ofFn fun k => w (66 + k.val), usprg0 := w 76 }
    tim := { r.tim with tb := p 77, dec := w 78, decar := w 79 }
    mmu := { r.mmu with
      mas0 := w 80 &&& 0x300F000F, mas1 := w 81 &&& 0xC0FF1F80, mas2 := w 82 &&& 0xFFFFFC3F, mas3 := w 83,
      mas4 := w 84 &&& 0x30030FBF, mas6 := w 85 &&& 0x00FF0001 }
    ic := { r.ic with
      lines := Vector.ofFn fun k =>
        { tag := (p (1000 + 8 * k.val)).extractLsb' 0 22, v := b (1000 + 8 * k.val) 22, l := b (1000 + 8 * k.val) 23,
          tchk := (p (1000 + 8 * k.val)).extractLsb' 24 6,
          data := #v[p (1001 + 8 * k.val), p (1002 + 8 * k.val), p (1003 + 8 * k.val), p (1004 + 8 * k.val)],
          dchk := #v[(p (1005 + 8 * k.val)).extractLsb' 0 8, (p (1005 + 8 * k.val)).extractLsb' 8 8,
                     (p (1005 + 8 * k.val)).extractLsb' 16 8, (p (1005 + 8 * k.val)).extractLsb' 24 8] }
      cdadata := w 86 }
    dbg := { r.dbg with dvc1 := p 87, dvc2 := p 88, dbcnt := w 89, dberc0 := 0 }
    psu := { pscr := 0, pssr := w 90 &&& 1, pshr := w 91, pslr := w 92, psctr := w 93 }
    once := { State.reset.once with
      cpuIr := w 94, cpuCtl := w 95, cpuPc := w 96, cpuMsr := w 97, wbbrLow := w 98, wbbrHigh := w 99,
      pcFifo := Vector.ofFn fun k => w (100 + k.val) }
    nexus := State.reset.nexus }

/-! ## Input pins -/

/-- The pins take new levels, and p_nmi_b and p_mcp_b are sampled if m_clk runs: a level that was not there when they were
last sampled is an edge. Without m_clk a pulse is lost, and a level that is held is seen when the clock is back (R2160,
R2170). -/
def State.samplePins (s : State) (p : Pins) : State :=
  let t := { s with pins := p }
  if t.clocked then
    { t with
      nmiPending := s.nmiPending || (!s.sampled.nmi && p.nmi)
      int.mcsr := s.int.mcsr ||| when (!s.sampled.mcp && p.mcp && bit s.hid.hid0 0) (oneBit 0)
      sampled := { nmi := p.nmi, mcp := p.mcp } }
  else t

/-- New pin levels: edges of NMI, MCP, UDE, DEVT1 and DEVT2 act at once (R2160, spec/61_debug.md R2232, R2235; that the last
three need no m_clk is assumption log entry 43). The debug counters count the edges, but are frozen during a debug session
(R2225 item 1); the DEVT watchpoints are not (R2245). -/
def State.setPins (s : State) (p : Pins) : State :=
  let rose (a b : Bool) : Bool := !a && b
  let q := s.pins
  let d1 := rose q.devt1 p.devt1
  let d2 := rose q.devt2 p.devt2
  let t := (s.samplePins p).record (when (rose q.ude p.ude) (oneBit 1) ||| when (d1 && bit s.dbg.dbcr0 21) (oneBit 21) |||
    when (d2 && bit s.dbg.dbcr0 22) (oneBit 22)) false
  let u := { t with
    outputs := t.outputs ++ (if d1 && s.idm then [OutputEvent.watchpoint 10] else []) ++
      (if d2 && s.idm then [OutputEvent.watchpoint 11] else []) }
  if s.debugHalt then u else u.countEvents s.dbg s.de { noCountEvents with devt1 := d1, devt2 := d2 }

/-- Pin levels that clear the reservation at every boundary: p_rsrv_clr, and an external input, critical input or
non-maskable interrupt signalled while HID0[ICR] = 1 (spec/20_memory.md R450, spec/60_exceptions.md R2012). -/
def State.pinLevels (s : State) : State :=
  if s.pins.rsrvClr || (bit s.hid.hid0 14 && (s.pins.extint || s.pins.critint || s.nmiPending)) then s.setReserve false
  else s

/-- Other bus masters write bytes at ascending real addresses. -/
def State.busWrite (s : State) (a : Word) (bytes : List Byte) : State :=
  { s with mem := s.mem.writeAll (bytes.mapIdx fun k b => (a + BitVec.ofNat 32 k, b)) }

/-- One host event (R2198). -/
def State.applyEvent (s : State) : HostEvent → State
  | .tick c => if c = s.timeBaseClock then s.tick else s
  | .pins p => s.setPins p
  | .reset => s.hardReset
  | .powerOn => s.powerOnReset
  | .write a bytes => s.busWrite a bytes
  | .busErrors rs => { s with busErrors := rs }
  | .cacheLine i l => { s with ic.lines := s.ic.lines.set i.toNat l i.isLt }
  | .platform rs => { s with platform := rs }
  | .during m => { s with midway := s.midway ++ [m] }

/-- Ticks and new pin levels that arrive together. -/
def State.arrive (s : State) (m : MidwayInput) : State := ((List.range m.ticks).foldl (fun t _ => t.tick) s).setPins m.pins

/-- Inputs that were to arrive inside an instruction and did not arrive during it arrive at the boundary after it. -/
def State.settle (s : State) : State := s.midway.foldl State.arrive { s with midway := [] }

/-- Deliver the host events of this boundary: the head of the queue. -/
def State.deliver (s : State) : State :=
  match s.hostQueue with
  | [] => s
  | es :: rest => es.foldl State.applyEvent { s with hostQueue := rest }

/-! ## Asynchronous interrupts -/

/-- An asynchronous interrupt that can be taken at a boundary, in the order of priority (spec/60_exceptions.md R2061). -/
inductive Pending where
  | machineCheck
  | debug
  | criticalInput
  | watchdog
  | externalInput
  | fixedInterval
  | decrementer
  deriving DecidableEq, Repr

/-- An asynchronous interrupt other than debug is pending and enabled. -/
def State.asyncRequest (s : State) : Bool :=
  s.nmiPending || ((s.int.mcsr &&& mcsrAsyncMask) != 0 && bit s.msr 19) || (s.pins.critint && bit s.msr 14) ||
    (s.pins.extint && bit s.msr 16) || (bit s.tim.tsr 1 && bit s.tim.tcr 4 && bit s.msr 14) ||
    (bit s.tim.tsr 5 && bit s.tim.tcr 8 && bit s.msr 16) || (bit s.tim.tsr 4 && bit s.tim.tcr 5 && bit s.msr 16)

/-- The pending and enabled asynchronous interrupt of highest priority (R2020 to R2061). Every debug event recorded in DBSR
counts here, those of priority 24 to 26 that the last instruction left (IRPT, CIRPT, DAC, ICMP) among them, so their debug
interrupt comes ahead of the asynchronous interrupts of priority 4 to 8 at the same boundary; R2061 and
spec/92_eei_decisions.md D15 leave that order open (DESIGN CHOICE, assumption log entry 18, unsafe). -/
def State.pending (s : State) : Option Pending :=
  if s.nmiPending || ((s.int.mcsr &&& mcsrAsyncMask) != 0 && bit s.msr 19) then some .machineCheck
  else if s.debugPending then some .debug
  else if s.pins.critint && bit s.msr 14 then some .criticalInput
  else if bit s.tim.tsr 1 && bit s.tim.tcr 4 && bit s.msr 14 then some .watchdog
  else if s.pins.extint && bit s.msr 16 then some .externalInput
  else if bit s.tim.tsr 5 && bit s.tim.tcr 8 && bit s.msr 16 then some .fixedInterval
  else if bit s.tim.tsr 4 && bit s.tim.tcr 5 && bit s.msr 16 then some .decrementer
  else none

/-- The vector of an external or critical input: the IVOR at index n when autovectored, else p_voffset (R2006). -/
def State.inputVector (s : State) (n : Nat) : Word :=
  if s.pins.avec then vectorOf s n else vectorAt s (s.pins.voffset.extractLsb' 4 12)

/-- Take an asynchronous interrupt (R2020, R2021, R2024, R2030 to R2035). -/
def State.takePending (s : State) : Pending → State
  | .machineCheck =>
    { s with nmiPending := false }.machineCheck (when s.nmiPending (oneBit 11)) s.pc
  | .debug => s.takeDebug s.pc
  | .criticalInput => (s.takeInterrupt .critical (s.inputVector 0) s.pc).pulse (.iack (s.inputVector 0))
  | .watchdog => s.takeInterrupt .critical (vectorOf s 12) s.pc
  | .externalInput => (s.takeInterrupt .nonCritical (s.inputVector 4) s.pc).pulse (.iack (s.inputVector 4))
  | .fixedInterval => s.takeInterrupt .nonCritical (vectorOf s 11) s.pc
  | .decrementer => s.takeInterrupt .nonCritical (vectorOf s 10) s.pc

/-- A multiple-word instruction that has done k of its transfers: the inputs due by then arrive, and if they make an
asynchronous interrupt pending the instruction is abandoned for it, its address saved; its own data address compares and
counts are dropped (spec/60_exceptions.md R2011, spec/61_debug.md R2211, R2225 item 3). R2211 and R2225 say so of a critical
and of an external input only; that a non-maskable interrupt, a machine check, a watchdog, fixed-interval or decrementer
interrupt, or a debug interrupt taken ahead of one of these, drops them too is the model's choice (DESIGN CHOICE, assumption
log entry 40, unsafe). -/
def State.between (s : State) (k : Nat) : Access Unit :=
  match s.midway.filter (fun m => m.after ≤ k) with
  | [] => .done () s
  | due =>
    let t := (due.foldl State.arrive { s with midway := s.midway.filter (fun m => !(m.after ≤ k)) }).pinLevels
    match t.pending with
    | none => .done () t
    | some p =>
      if t.asyncRequest then
        .raised ({ t with cur := { t.cur with accesses := [], abandoned := true } }.takePending p).suppress
      else .done () t

/-! ## Output pins -/

/-- p_wrs[0:1] (R2146): WRS = 01 asserts p_wrs[1], 10 asserts p_wrs[0]. -/
def State.pWrs (s : State) : BitVec 2 := bits 2 2 s.tim.tsr

/-- p_dbrstc[0:1] (spec/12_state_debug.md R281). The reserved code DBCR0[RST] = 11 is stored and asserts neither output
(DESIGN CHOICE, assumption log entry 33, unsafe). -/
def State.pDbrstc (s : State) : BitVec 2 := if bits 2 2 s.dbg.dbcr0 == 3 then 0 else bits 2 2 s.dbg.dbcr0

/-- p_tbint (R2148). -/
def State.pTbint (s : State) : Bool :=
  (bit s.tim.tsr 1 && bit s.tim.tcr 4 && bit s.msr 14) || (bit s.tim.tsr 4 && bit s.tim.tcr 5 && bit s.msr 16) ||
    (bit s.tim.tsr 5 && bit s.tim.tcr 8 && bit s.msr 16)

/-- p_ipend (R2161); a latched NMI that is not yet taken asserts it too (R2170). -/
def State.pIpend (s : State) : Bool :=
  (s.pins.extint && bit s.msr 16) || (s.pins.critint && bit s.msr 14) || s.pTbint || s.pins.nmi || s.nmiPending ||
    bit s.int.mcsr 11

/-- p_wakeup without a debugger (R2174). -/
def State.pWakeup (s : State) : Bool :=
  s.pIpend || s.pins.ude || s.debugPending || ((s.int.mcsr &&& mcsrAsyncMask) != 0 && bit s.msr 19)

/-- p_stopped, p_halted, p_waiting (R2170). -/
def State.pStopped (s : State) : Bool := s.pins.stop && !s.debugHalt
def State.pHalted (s : State) : Bool := s.pins.halt && !s.pins.stop && !s.debugHalt
def State.pWaiting (s : State) : Bool := s.waiting && !s.suspended

/-- The OnCE status register, read-only: MCLK, ERR, 0, RESET, HALT, STOP, DEBUG, WAIT, 0, 1 (spec/12_state_debug.md R323). ERR
is 0 for want of single-stepping (spec/92_eei_decisions.md D60); RESET is 0 between instructions, where p_reset_b is
negated. -/
def State.osr (s : State) : BitVec 10 :=
  BitVec.ofBool s.pins.mclkOn ++ 0#3 ++ BitVec.ofBool s.pHalted ++ BitVec.ofBool s.pStopped ++
    BitVec.ofBool s.debugHalt ++ BitVec.ofBool s.pWaiting ++ 1#2

/-- The JTAG identification register, read-only (spec/12_state_debug.md R328); its eight strapped bits are not given
(spec/91_not_in_source.md N70). -/
def State.jtagId (s : State) : Word :=
  s.pins.jIdVersion ++ 0b011111#6 ++ s.pins.jIdSequence ++ Config.jtagStrap ++ 0b00000001110#11 ++ 1#1

/-- p_doze, p_nap, p_sleep (R2172). -/
def State.pDoze (s : State) : Bool := bit s.msr 13 && bit s.hid.hid0 8
def State.pNap (s : State) : Bool := bit s.msr 13 && bit s.hid.hid0 9
def State.pSleep (s : State) : Bool := bit s.msr 13 && bit s.hid.hid0 10

/-- p_rsrv (R2164). -/
def State.pRsrv (s : State) : Bool := s.reserve

/-- p_mcp_out: an async mchk or error report bit of MCSR is 1 (spec/60_exceptions.md R2054). -/
def State.pMcpOut (s : State) : Bool := (s.int.mcsr &&& (mcsrAsyncMask ||| 0x0001E000)) != 0

/-- p_msr_EE, p_msr_CE, p_msr_DE, p_msr_ME, from the most significant bit (R2166). -/
def State.pMsr (s : State) : BitVec 4 :=
  BitVec.ofBool (bit s.msr 16) ++ BitVec.ofBool (bit s.msr 14) ++ BitVec.ofBool (bit s.msr 22) ++
    BitVec.ofBool (bit s.msr 19)

/-- p_pid0[0:7] and p_hid1_sysctl[0:7] (R2166). -/
def State.pPid0 (s : State) : Byte := bits 24 8 s.soft.pid0
def State.pHid1Sysctl (s : State) : Byte := bits 16 8 s.hid.hid1

end Sys2Proof.Machine
end

