-- ==== Sys2Proof/Machine/LoadStore.lean ====
section
/-! DEFINITION. The integer loads and stores, load and store multiple, the reservation instructions and the barriers
(spec/42_load_store.md R750 to R841). -/

namespace Sys2Proof.Machine

/-! ## Shared shapes -/

/-- The low half word of a value, sign-extended to a word. -/
def signed16 (v : Dword) : Word := sext (v.extractLsb' 0 16)

/-- A load of n bytes into rt, its value made by `f`; an update form also writes the address to ra, before rt
(R751, R752, R760). -/
def State.loadInto (s : State) (n : Nat) (f : Dword → Word) (update : Option Reg) (rt : Reg) (ea : Word) : Answer :=
  (s.load ea n .base).next fun v t =>
    ((match update with
      | some ra => t.setR ra ea
      | none => t).setR rt (f v)).advance 4

/-- A store of the n low-order bytes of v; an update form then writes the address to ra (R751, R752, R780). -/
def State.storeFrom (s : State) (n : Nat) (v : Word) (update : Option Reg) (ea : Word) : Answer :=
  (s.store ea n (v.setWidth 64) .base).next fun _ t =>
    (match update with
      | some ra => t.setR ra ea
      | none => t).advance 4

/-- A group of transfers an asynchronous interrupt cannot abandon never looks at the inputs that arrive inside it; one that
it can looks before transfer k (spec/60_exceptions.md R2011). -/
def State.mayAbandon (s : State) (interruptible : Bool) (k : Nat) : Access Unit :=
  if interruptible then s.between k else .done () s

/-- Load the registers listed from consecutive words at ea, each by the writer given; k words have been loaded before
(R810, spec/44_vle.md R960). -/
def State.loadWords (s : State) (interruptible : Bool) (ea : Word) (k : Nat) : List (Word → State → State) → Access Unit
  | [] => .done () s
  | f :: fs =>
    (s.mayAbandon interruptible k).bind fun _ t =>
      (t.load ea 4 .multiple).bind fun v u => (f (lo v) u).loadWords interruptible (ea + 4) (k + 1) fs

/-- Store words at consecutive addresses from ea; k words have been stored before (R811, spec/44_vle.md R960). -/
def State.storeWords (s : State) (interruptible : Bool) (ea : Word) (k : Nat) : List Word → Access Unit
  | [] => .done () s
  | v :: vs =>
    (s.mayAbandon interruptible k).bind fun _ t =>
      (t.store ea 4 (v.setWidth 64) .multiple).bind fun _ u => u.storeWords interruptible (ea + 4) (k + 1) vs

/-- The registers r to 31. -/
def registersFrom (r : Reg) : List Reg := (List.range (32 - r.toNat)).map fun k => r + BitVec.ofNat 5 k

/-- lmw and e_lmw: an asynchronous interrupt may abandon them after any transfer (R810, spec/44_vle.md R992). -/
def State.loadMultiple (s : State) (rt : Reg) (ea : Word) : Answer :=
  if misaligned ea 4 then .next (s.alignment ea false false)
  else (s.loadWords true ea 0 ((registersFrom rt).map fun r v t => t.setR r v)).next fun _ t => t.advance 4

/-- stmw and e_stmw, abandoned in the same way (R811, spec/44_vle.md R992). -/
def State.storeMultiple (s : State) (rs : Reg) (ea : Word) : Answer :=
  if misaligned ea 4 then .next (s.alignment ea true false)
  else (s.storeWords true ea 0 ((registersFrom rs).map s.r)).next fun _ t => t.advance 4

/-- lwarx, lharx, lbarx: alignment, load, then the reservation is set (R820 to R822). -/
def State.loadReserve (s : State) (n : Nat) (rt : Reg) (ea : Word) : Answer :=
  if misaligned ea n then .next (s.alignment ea false false)
  else (s.load ea n .atomic).next fun v t => ((t.setR rt (lo v)).setReserve true).advance 4

/-- CR0 after a store conditional (R830). -/
def State.conditionalCr0 (s : State) (performed : Bool) : State := s.setCrField 0 (crBits false false performed s.so)

/-- stwcx., sthcx., stbcx. (R830 to R833). -/
def State.storeConditional (s : State) (n : Nat) (rs : Reg) (ea : Word) : Answer :=
  if !s.reserve then .next ((s.conditionalCr0 false).advance 4)
  else if misaligned ea n then .next (s.alignment ea true false)
  else (s.store ea n ((s.r rs).setWidth 64) .atomic).next fun ok t =>
    ((t.conditionalCr0 ok).setReserve false).advance 4

/-! ## Meanings -/

/-- `lbz` (R760). -/
def execLbz (rt ra : Reg) (d : BitVec 16) (s : State) : Answer := s.loadInto 1 lo none rt (s.eaD ra d)

/-- `lbzu` (R761). -/
def execLbzu (rt ra : Reg) (d : BitVec 16) (s : State) : Answer := s.loadInto 1 lo (some ra) rt (s.eaD ra d)

/-- `lbzx` (R762). -/
def execLbzx (rt ra rb : Reg) (s : State) : Answer := s.loadInto 1 lo none rt (s.eaX ra rb)

/-- `lbzux` (R763). -/
def execLbzux (rt ra rb : Reg) (s : State) : Answer := s.loadInto 1 lo (some ra) rt (s.eaX ra rb)

/-- `lhz` (R764). -/
def execLhz (rt ra : Reg) (d : BitVec 16) (s : State) : Answer := s.loadInto 2 lo none rt (s.eaD ra d)

/-- `lhzu` (R765). -/
def execLhzu (rt ra : Reg) (d : BitVec 16) (s : State) : Answer := s.loadInto 2 lo (some ra) rt (s.eaD ra d)

/-- `lhzx` (R766). -/
def execLhzx (rt ra rb : Reg) (s : State) : Answer := s.loadInto 2 lo none rt (s.eaX ra rb)

/-- `lhzux` (R767). -/
def execLhzux (rt ra rb : Reg) (s : State) : Answer := s.loadInto 2 lo (some ra) rt (s.eaX ra rb)

/-- `lha` (R768). -/
def execLha (rt ra : Reg) (d : BitVec 16) (s : State) : Answer := s.loadInto 2 signed16 none rt (s.eaD ra d)

/-- `lhau` (R769). -/
def execLhau (rt ra : Reg) (d : BitVec 16) (s : State) : Answer := s.loadInto 2 signed16 (some ra) rt (s.eaD ra d)

/-- `lhax` (R770). -/
def execLhax (rt ra rb : Reg) (s : State) : Answer := s.loadInto 2 signed16 none rt (s.eaX ra rb)

/-- `lhaux` (R771). -/
def execLhaux (rt ra rb : Reg) (s : State) : Answer := s.loadInto 2 signed16 (some ra) rt (s.eaX ra rb)

/-- `lwz` (R772). -/
def execLwz (rt ra : Reg) (d : BitVec 16) (s : State) : Answer := s.loadInto 4 lo none rt (s.eaD ra d)

/-- `lwzu` (R773). -/
def execLwzu (rt ra : Reg) (d : BitVec 16) (s : State) : Answer := s.loadInto 4 lo (some ra) rt (s.eaD ra d)

/-- `lwzx` (R774). -/
def execLwzx (rt ra rb : Reg) (s : State) : Answer := s.loadInto 4 lo none rt (s.eaX ra rb)

/-- `lwzux` (R775). -/
def execLwzux (rt ra rb : Reg) (s : State) : Answer := s.loadInto 4 lo (some ra) rt (s.eaX ra rb)

/-- `stb` (R780). -/
def execStb (rs ra : Reg) (d : BitVec 16) (s : State) : Answer := s.storeFrom 1 (s.r rs) none (s.eaD ra d)

/-- `stbu` (R781). -/
def execStbu (rs ra : Reg) (d : BitVec 16) (s : State) : Answer := s.storeFrom 1 (s.r rs) (some ra) (s.eaD ra d)

/-- `stbx` (R782). -/
def execStbx (rs ra rb : Reg) (s : State) : Answer := s.storeFrom 1 (s.r rs) none (s.eaX ra rb)

/-- `stbux` (R783). -/
def execStbux (rs ra rb : Reg) (s : State) : Answer := s.storeFrom 1 (s.r rs) (some ra) (s.eaX ra rb)

/-- `sth` (R784). -/
def execSth (rs ra : Reg) (d : BitVec 16) (s : State) : Answer := s.storeFrom 2 (s.r rs) none (s.eaD ra d)

/-- `sthu` (R785). -/
def execSthu (rs ra : Reg) (d : BitVec 16) (s : State) : Answer := s.storeFrom 2 (s.r rs) (some ra) (s.eaD ra d)

/-- `sthx` (R786). -/
def execSthx (rs ra rb : Reg) (s : State) : Answer := s.storeFrom 2 (s.r rs) none (s.eaX ra rb)

/-- `sthux` (R787). -/
def execSthux (rs ra rb : Reg) (s : State) : Answer := s.storeFrom 2 (s.r rs) (some ra) (s.eaX ra rb)

/-- `stw` (R788). -/
def execStw (rs ra : Reg) (d : BitVec 16) (s : State) : Answer := s.storeFrom 4 (s.r rs) none (s.eaD ra d)

/-- `stwu` (R789). -/
def execStwu (rs ra : Reg) (d : BitVec 16) (s : State) : Answer := s.storeFrom 4 (s.r rs) (some ra) (s.eaD ra d)

/-- `stwx` (R790). -/
def execStwx (rs ra rb : Reg) (s : State) : Answer := s.storeFrom 4 (s.r rs) none (s.eaX ra rb)

/-- `stwux` (R791). -/
def execStwux (rs ra rb : Reg) (s : State) : Answer := s.storeFrom 4 (s.r rs) (some ra) (s.eaX ra rb)

/-- `lhbrx` (R800). -/
def execLhbrx (rt ra rb : Reg) (s : State) : Answer := s.loadInto 2 (fun v => lo (reverseBytes 2 v)) none rt (s.eaX ra rb)

/-- `lwbrx` (R801). -/
def execLwbrx (rt ra rb : Reg) (s : State) : Answer := s.loadInto 4 (fun v => lo (reverseBytes 4 v)) none rt (s.eaX ra rb)

/-- `sthbrx` (R802). -/
def execSthbrx (rs ra rb : Reg) (s : State) : Answer :=
  s.storeFrom 2 (lo (reverseBytes 2 ((s.r rs).setWidth 64))) none (s.eaX ra rb)

/-- `stwbrx` (R803). -/
def execStwbrx (rs ra rb : Reg) (s : State) : Answer :=
  s.storeFrom 4 (lo (reverseBytes 4 ((s.r rs).setWidth 64))) none (s.eaX ra rb)

/-- `lmw` (R810). -/
def execLmw (rt ra : Reg) (d : BitVec 16) (s : State) : Answer := s.loadMultiple rt (s.eaD ra d)

/-- `stmw` (R811). -/
def execStmw (rs ra : Reg) (d : BitVec 16) (s : State) : Answer := s.storeMultiple rs (s.eaD ra d)

/-- `lwarx` (R820). -/
def execLwarx (rt ra rb : Reg) (s : State) : Answer := s.loadReserve 4 rt (s.eaX ra rb)

/-- `lharx` (R821). -/
def execLharx (rt ra rb : Reg) (s : State) : Answer := s.loadReserve 2 rt (s.eaX ra rb)

/-- `lbarx` (R822). -/
def execLbarx (rt ra rb : Reg) (s : State) : Answer := s.loadReserve 1 rt (s.eaX ra rb)

/-- `stwcx.` (R831). -/
def execStwcxRc (rs ra rb : Reg) (s : State) : Answer := s.storeConditional 4 rs (s.eaX ra rb)

/-- `sthcx.` (R832). -/
def execSthcxRc (rs ra rb : Reg) (s : State) : Answer := s.storeConditional 2 rs (s.eaX ra rb)

/-- `stbcx.` (R833). -/
def execStbcxRc (rs ra rb : Reg) (s : State) : Answer := s.storeConditional 1 rs (s.eaX ra rb)

/-- `msync` (R840). One core whose accesses are complete when the step ends has nothing to wait for. -/
def execMsync (s : State) : Answer := .next (s.advance 4)

/-- `mbar` (R841). An MO field above 2 is an illegal instruction; the decoder already says so. -/
def execMbar (mo : BitVec 5) (s : State) : Answer := if mo.ule 2 then .next (s.advance 4) else .next s.illegal

end Sys2Proof.Machine
end

