-- ==== Sys2Proof/Machine/Spe.lean ====
section
/-! DEFINITION. What the SPE instructions share: the test of MSR[SPE], the element operations, the overflow flags of SPEFSCR,
products, accumulation with and without saturation, and the vector load and store (spec/13_state_spe.md R1054, R1055,
spec/47_spe_simple.md R1300 to R1304, spec/48_spe_mac.md R1500 to R1507, spec/49_spe_loadstore.md R1800 to R1807). -/

namespace Sys2Proof.Machine

/-! ## Results -/

/-- The SPE unavailable interrupt, or the state given with pc past the instruction (R1302, R1502). -/
def State.vector (s t : State) : Answer := if !s.speOn then .next s.speUnavailable else .next (t.advance 4)

/-- A 64-bit result (R1300). -/
def State.vectorResult (s : State) (rd : Reg) (v : Dword) : Answer := s.vector (s.setR64 rd v)

/-- One operation on both elements of one register (R1300). -/
def State.eachElement (s : State) (rd : Reg) (f : Word → Word) (a : Dword) : Answer := s.vectorResult rd (f (hi a) ++ f (lo a))

/-- One operation on the pairs of elements of two registers (R1300). -/
def State.eachPair (s : State) (rd : Reg) (f : Word → Word → Word) (a b : Dword) : Answer :=
  s.vectorResult rd (f (hi a) (hi b) ++ f (lo a) (lo b))

/-- VecCR (R1304). -/
def State.vectorCr (s : State) (crfD : CrField) (rel : Word → Word → Bool) (a b : Dword) : Answer :=
  s.vector (s.setCrField crfD (vectorCompareField (rel (hi a) (hi b)) (rel (lo a) (lo b))))

/-- SetOV (spec/13_state_spe.md R1054): OVH and OV assigned, SOVH and SOV sticky. -/
def State.setOvPair (s : State) (h l : Bool) : State :=
  s.setSpefscr
    (setBit (setBit s.spefscr 1 h) 17 l ||| when h (oneBit 0) ||| when l (oneBit 16))

/-! ## Element operations -/

/-- Bit reversal of 16 bits: REV16 of `brinc` (spec/47_spe_simple.md R1310). -/
def reverse16 (h : Half) : Half := h.reverse

/-- The number of leading bits equal to the sign bit, the sign bit counted (R1340). -/
def leadingSigns (w : Word) : Nat := leadingZeros (if bit w 0 then ~~~w else w)

/-- DivS (R1390): quotient and overflow. -/
def divideElementSigned (x y : Word) : Word × Bool :=
  if y = 0 then (if bit x 0 then 0x80000000 else 0x7FFFFFFF, true)
  else if x = 0x80000000 ∧ y = 0xFFFFFFFF then (0x7FFFFFFF, true)
  else (x.sdiv y, false)

/-- DivU (R1391): quotient and overflow. -/
def divideElementUnsigned (x y : Word) : Word × Bool := if y = 0 then (0xFFFFFFFF, true) else (x.udiv y, false)

/-- A vector divide. -/
def State.divideElements (s : State) (rd : Reg) (f : Word → Word → Word × Bool) (a b : Dword) : Answer :=
  let h := f (hi a) (hi b)
  let l := f (lo a) (lo b)
  s.vector ((s.setR64 rd (h.1 ++ l.1)).setOvPair h.2 l.2)

/-! ## Products -/

/-- The even half words of the high and of the low element (spec/48_spe_mac.md R1503). -/
def halfEven (d : Dword) : Half × Half := (halfOf d 0, halfOf d 2)

/-- The odd half words of the high and of the low element (R1503). -/
def halfOdd (d : Dword) : Half × Half := (halfOf d 1, halfOf d 3)

/-- MulSI16 (R1503). -/
def mulSI16 (a b : Half) : Word := a.signExtend 32 * b.signExtend 32

/-- MulUI16 (R1503). -/
def mulUI16 (a b : Half) : Word := a.setWidth 32 * b.setWidth 32

/-- MulSF16 (R1503). -/
def mulSF16 (a b : Half) : Word := mulSI16 a b <<< 1

/-- MulSSF16 (R1503): the saturated product and mov. -/
def mulSSF16 (a b : Half) : Word × Bool :=
  let t : BitVec 33 := mulSI16 a b ++ 0#1
  let mov := t.getMsbD 0 != t.getMsbD 1
  (if mov then 0x7FFFFFFF else t.extractLsb' 0 32, mov)

/-- A modulo product, which never overflows, as a product with its overflow. -/
def exactly (f : Half → Half → Word) (a b : Half) : Word × Bool := (f a b, false)

/-- Bits 1 to 32 of a 64-bit product: the high word of a fractional product (R1600). -/
def fractionHigh (p : Dword) : Word := p.extractLsb' 31 32

/-- The high word of a saturating fractional product, and mov (R1604). -/
def fractionHighSaturated (p : Dword) : Word × Bool :=
  let mov := p.getMsbD 0 != p.getMsbD 1
  (if mov then 0x7FFFFFFF else fractionHigh p, mov)

/-- A 64-bit saturating fractional product, and mov (R1628). -/
def fractionSaturated (p : Dword) : Dword × Bool :=
  let t : BitVec 65 := p ++ 0#1
  let mov := t.getMsbD 0 != t.getMsbD 1
  (if mov then 0x7FFFFFFFFFFFFFFF else t.extractLsb' 0 64, mov)

/-! ## Accumulation -/

/-- Add to the accumulator, or subtract from it (R1500). -/
inductive AccSign where
  | plus
  | minus
  deriving DecidableEq, Repr

/-- acc s p on integers. -/
def AccSign.apply (g : AccSign) (acc p : Int) : Int :=
  match g with
  | .plus => acc + p
  | .minus => acc - p

/-- AccMod (R1505), with no overflow. -/
def accModulo (g : AccSign) (acc p : Word) : Word × Bool :=
  (match g with
    | .plus => acc + p
    | .minus => acc - p, false)

/-- AccSS (R1505): the saturated sum and ov. -/
def accSigned (g : AccSign) (acc p : Word) : Word × Bool :=
  let v := g.apply acc.toInt p.toInt
  if 2147483647 < v then (0x7FFFFFFF, true)
  else if v < -2147483648 then (0x80000000, true)
  else (BitVec.ofInt 32 v, false)

/-- AccUS (R1505): the saturated sum and ov. -/
def accUnsigned (g : AccSign) (acc p : Word) : Word × Bool :=
  let v := g.apply acc.toNat p.toNat
  if 4294967295 < v then (0xFFFFFFFF, true)
  else if v < 0 then (0, true)
  else (BitVec.ofInt 32 v, false)

/-- ACC s t modulo 2^64 (R1506). -/
def accDouble (g : AccSign) (acc t : Dword) : Dword :=
  match g with
  | .plus => acc + t
  | .minus => acc - t

/-- ACC s t saturated to 64 signed bits, and ov (R1630). -/
def accDoubleSigned (g : AccSign) (acc t : Dword) : Dword × Bool :=
  let v := g.apply acc.toInt t.toInt
  if 9223372036854775807 < v then (0x7FFFFFFFFFFFFFFF, true)
  else if v < -9223372036854775808 then (0x8000000000000000, true)
  else (BitVec.ofInt 64 v, false)

/-- A result of the multiply and accumulate group: rD, ACC when the form writes it, and SetOV when it saturates
(R1506, R1507). -/
def State.macResult (s : State) (rd : Reg) (toAcc : Bool) (v : Dword) (ov : Option (Bool × Bool)) : Answer :=
  let t := s.setR64 rd v
  let u := if toAcc then t.setAcc v else t
  s.vector
    (match ov with
      | some o => u.setOvPair o.1 o.2
      | none => u)

/-- Two 32-bit products, modulo forms. -/
def State.productPair (s : State) (rd : Reg) (toAcc : Bool) (h l : Word) : Answer := s.macResult rd toAcc (h ++ l) none

/-- Two 32-bit products, saturating forms. -/
def State.productPairSaturated (s : State) (rd : Reg) (toAcc : Bool) (h l : Word × Bool) : Answer :=
  s.macResult rd toAcc (h.1 ++ l.1) (some (h.2, l.2))

/-- Two 32-bit operands accumulated into the accumulator words, modulo (R1505, R1506). -/
def State.accumulatePair (s : State) (rd : Reg) (g : AccSign) (h l : Word) : Answer :=
  s.macResult rd true ((accModulo g (hi s.acc) h).1 ++ (accModulo g (lo s.acc) l).1) none

/-- Two 32-bit operands, each with the overflow of its product, accumulated into the accumulator words with saturation
(R1505 to R1507). -/
def State.accumulatePairSaturated (s : State) (rd : Reg) (acc : Word → Word → Word × Bool) (h l : Word × Bool) : Answer :=
  let rh := acc (hi s.acc) h.1
  let rl := acc (lo s.acc) l.1
  s.macResult rd true (rh.1 ++ rl.1) (some (h.2 || rh.2, l.2 || rl.2))

/-- A 64-bit operand accumulated modulo 2^64. -/
def State.accumulateDouble (s : State) (rd : Reg) (g : AccSign) (t : Dword) : Answer :=
  s.macResult rd true (accDouble g s.acc t) none

/-- A saturating fractional product accumulated with saturation to 64 bits (R1630). -/
def State.accumulateDoubleSaturated (s : State) (rd : Reg) (g : AccSign) (t : Dword × Bool) : Answer :=
  let r := accDoubleSigned g s.acc t.1
  s.macResult rd true r.1 (some (false, t.2 || r.2))

/-- One function on the half words selected from two registers, as the pair of its values. -/
def halfProducts {α : Type} (sel : Dword → Half × Half) (f : Half → Half → α) (a b : Dword) : α × α :=
  (f (sel a).1 (sel b).1, f (sel a).2 (sel b).2)

/-! ## Vector loads and stores -/

/-- M(EA + at, n): an element of the bytes an access read, in the byte order of its page (spec/49_spe_loadstore.md R1804). -/
def element (r : List Byte × Mapping) (at' n : Nat) : Dword := ofBytes (inOrder r.2.entry.e ((r.1.drop at').take n))

/-- The half-word element at an offset. -/
def elementHalf (r : List Byte × Mapping) (at' : Nat) : Half := (element r at' 2).setWidth 16

/-- The word element at an offset. -/
def elementWord (r : List Byte × Mapping) (at' : Nat) : Word := (element r at' 4).setWidth 32

/-- A vector load of n bytes; `strict` is the alignment rule of the double-word forms (R1805, R1806). The word and half-word
forms need no alignment, as R1805 and spec/90_conflicts.md C28 say, although the table of spec/20_memory.md R415 names their
element size (DESIGN CHOICE, assumption log entry 36, unsafe). -/
def State.vectorLoad (s : State) (strict : Bool) (n : Nat) (rd : Reg) (ea : Word) (layout : List Byte × Mapping → Dword) :
    Answer :=
  if !s.speOn then .next s.speUnavailable
  else if strict && misaligned ea 4 then .next (s.alignment ea false true)
  else (s.loadBytes ea n .spe).next fun r t => (t.setR64 rd (layout r)).advance 4

/-- A vector store of elements of n bytes each, the first at the lowest address (R1804 to R1806); alignment as for a
vector load. -/
def State.vectorStore (s : State) (strict : Bool) (n : Nat) (ea : Word) (elements : List Dword) : Answer :=
  if !s.speOn then .next s.speUnavailable
  else if strict && misaligned ea 4 then .next (s.alignment ea true true)
  else
    (s.storeImage ea (n * elements.length) (fun e => elements.flatMap fun v => inOrder e (toBytes n v)) .spe).next
      fun _ t => t.advance 4

/-- A half word as an element of a store. -/
def asElement {n : Nat} (v : BitVec n) : Dword := v.setWidth 64

end Sys2Proof.Machine
end

