-- ==== Sys2Proof/Machine/SpeLoadStore.lean ====
section
/-! DEFINITION. The SPE vector loads and stores (spec/49_spe_loadstore.md R1810 to R1853). -/

namespace Sys2Proof.Machine

/-- `evldd` (R1810). -/
def execEvldd (rd ra : Reg) (uimm : BitVec 5) (s : State) : Answer :=
  s.vectorLoad true 8 rd (s.eaScaled ra uimm 8) fun m => element m 0 8

/-- `evlddx` (R1811). -/
def execEvlddx (rd ra rb : Reg) (s : State) : Answer := s.vectorLoad true 8 rd (s.eaX ra rb) fun m => element m 0 8

/-- `evldw` (R1812). -/
def execEvldw (rd ra : Reg) (uimm : BitVec 5) (s : State) : Answer :=
  s.vectorLoad true 8 rd (s.eaScaled ra uimm 8) fun m => elementWord m 0 ++ elementWord m 4

/-- `evldwx` (R1813). -/
def execEvldwx (rd ra rb : Reg) (s : State) : Answer :=
  s.vectorLoad true 8 rd (s.eaX ra rb) fun m => elementWord m 0 ++ elementWord m 4

/-- `evldh` (R1814). -/
def execEvldh (rd ra : Reg) (uimm : BitVec 5) (s : State) : Answer :=
  s.vectorLoad true 8 rd (s.eaScaled ra uimm 8) fun m => elementHalf m 0 ++ elementHalf m 2 ++ elementHalf m 4 ++ elementHalf m 6

/-- `evldhx` (R1815). -/
def execEvldhx (rd ra rb : Reg) (s : State) : Answer :=
  s.vectorLoad true 8 rd (s.eaX ra rb) fun m => elementHalf m 0 ++ elementHalf m 2 ++ elementHalf m 4 ++ elementHalf m 6

/-- `evlwhe` (R1816). -/
def execEvlwhe (rd ra : Reg) (uimm : BitVec 5) (s : State) : Answer :=
  s.vectorLoad false 4 rd (s.eaScaled ra uimm 4) fun m => elementHalf m 0 ++ 0#16 ++ elementHalf m 2 ++ 0#16

/-- `evlwhex` (R1817). -/
def execEvlwhex (rd ra rb : Reg) (s : State) : Answer :=
  s.vectorLoad false 4 rd (s.eaX ra rb) fun m => elementHalf m 0 ++ 0#16 ++ elementHalf m 2 ++ 0#16

/-- `evlwhou` (R1818). -/
def execEvlwhou (rd ra : Reg) (uimm : BitVec 5) (s : State) : Answer :=
  s.vectorLoad false 4 rd (s.eaScaled ra uimm 4) fun m => zext (elementHalf m 0) ++ zext (elementHalf m 2)

/-- `evlwhoux` (R1819). -/
def execEvlwhoux (rd ra rb : Reg) (s : State) : Answer :=
  s.vectorLoad false 4 rd (s.eaX ra rb) fun m => zext (elementHalf m 0) ++ zext (elementHalf m 2)

/-- `evlwhos` (R1820). -/
def execEvlwhos (rd ra : Reg) (uimm : BitVec 5) (s : State) : Answer :=
  s.vectorLoad false 4 rd (s.eaScaled ra uimm 4) fun m => sext (elementHalf m 0) ++ sext (elementHalf m 2)

/-- `evlwhosx` (R1821). -/
def execEvlwhosx (rd ra rb : Reg) (s : State) : Answer :=
  s.vectorLoad false 4 rd (s.eaX ra rb) fun m => sext (elementHalf m 0) ++ sext (elementHalf m 2)

/-- `evlwwsplat` (R1822). -/
def execEvlwwsplat (rd ra : Reg) (uimm : BitVec 5) (s : State) : Answer :=
  s.vectorLoad false 4 rd (s.eaScaled ra uimm 4) fun m => elementWord m 0 ++ elementWord m 0

/-- `evlwwsplatx` (R1823). -/
def execEvlwwsplatx (rd ra rb : Reg) (s : State) : Answer :=
  s.vectorLoad false 4 rd (s.eaX ra rb) fun m => elementWord m 0 ++ elementWord m 0

/-- `evlwhsplat` (R1824). -/
def execEvlwhsplat (rd ra : Reg) (uimm : BitVec 5) (s : State) : Answer :=
  s.vectorLoad false 4 rd (s.eaScaled ra uimm 4) fun m => elementHalf m 0 ++ elementHalf m 0 ++ elementHalf m 2 ++ elementHalf m 2

/-- `evlwhsplatx` (R1825). -/
def execEvlwhsplatx (rd ra rb : Reg) (s : State) : Answer :=
  s.vectorLoad false 4 rd (s.eaX ra rb) fun m => elementHalf m 0 ++ elementHalf m 0 ++ elementHalf m 2 ++ elementHalf m 2

/-- `evlhhesplat` (R1826). -/
def execEvlhhesplat (rd ra : Reg) (uimm : BitVec 5) (s : State) : Answer :=
  s.vectorLoad false 2 rd (s.eaScaled ra uimm 2) fun m => elementHalf m 0 ++ 0#16 ++ elementHalf m 0 ++ 0#16

/-- `evlhhesplatx` (R1827). -/
def execEvlhhesplatx (rd ra rb : Reg) (s : State) : Answer :=
  s.vectorLoad false 2 rd (s.eaX ra rb) fun m => elementHalf m 0 ++ 0#16 ++ elementHalf m 0 ++ 0#16

/-- `evlhhousplat` (R1828). -/
def execEvlhhousplat (rd ra : Reg) (uimm : BitVec 5) (s : State) : Answer :=
  s.vectorLoad false 2 rd (s.eaScaled ra uimm 2) fun m => zext (elementHalf m 0) ++ zext (elementHalf m 0)

/-- `evlhhousplatx` (R1829). -/
def execEvlhhousplatx (rd ra rb : Reg) (s : State) : Answer :=
  s.vectorLoad false 2 rd (s.eaX ra rb) fun m => zext (elementHalf m 0) ++ zext (elementHalf m 0)

/-- `evlhhossplat` (R1830). -/
def execEvlhhossplat (rd ra : Reg) (uimm : BitVec 5) (s : State) : Answer :=
  s.vectorLoad false 2 rd (s.eaScaled ra uimm 2) fun m => sext (elementHalf m 0) ++ sext (elementHalf m 0)

/-- `evlhhossplatx` (R1831). -/
def execEvlhhossplatx (rd ra rb : Reg) (s : State) : Answer :=
  s.vectorLoad false 2 rd (s.eaX ra rb) fun m => sext (elementHalf m 0) ++ sext (elementHalf m 0)

/-- `evstdd` (R1840). -/
def execEvstdd (rs ra : Reg) (uimm : BitVec 5) (s : State) : Answer := s.vectorStore true 8 (s.eaScaled ra uimm 8) [s.r64 rs]

/-- `evstddx` (R1841). -/
def execEvstddx (rs ra rb : Reg) (s : State) : Answer := s.vectorStore true 8 (s.eaX ra rb) [s.r64 rs]

/-- `evstdw` (R1842). -/
def execEvstdw (rs ra : Reg) (uimm : BitVec 5) (s : State) : Answer :=
  s.vectorStore true 4 (s.eaScaled ra uimm 8) [asElement (hi (s.r64 rs)), asElement (lo (s.r64 rs))]

/-- `evstdwx` (R1843). -/
def execEvstdwx (rs ra rb : Reg) (s : State) : Answer :=
  s.vectorStore true 4 (s.eaX ra rb) [asElement (hi (s.r64 rs)), asElement (lo (s.r64 rs))]

/-- `evstdh` (R1844). -/
def execEvstdh (rs ra : Reg) (uimm : BitVec 5) (s : State) : Answer :=
  s.vectorStore true 2 (s.eaScaled ra uimm 8) [asElement (halfOf (s.r64 rs) 0), asElement (halfOf (s.r64 rs) 1), asElement (halfOf (s.r64 rs) 2), asElement (halfOf (s.r64 rs) 3)]

/-- `evstdhx` (R1845). -/
def execEvstdhx (rs ra rb : Reg) (s : State) : Answer :=
  s.vectorStore true 2 (s.eaX ra rb) [asElement (halfOf (s.r64 rs) 0), asElement (halfOf (s.r64 rs) 1), asElement (halfOf (s.r64 rs) 2), asElement (halfOf (s.r64 rs) 3)]

/-- `evstwhe` (R1846). -/
def execEvstwhe (rs ra : Reg) (uimm : BitVec 5) (s : State) : Answer :=
  s.vectorStore false 2 (s.eaScaled ra uimm 4) [asElement (halfOf (s.r64 rs) 0), asElement (halfOf (s.r64 rs) 2)]

/-- `evstwhex` (R1847). -/
def execEvstwhex (rs ra rb : Reg) (s : State) : Answer :=
  s.vectorStore false 2 (s.eaX ra rb) [asElement (halfOf (s.r64 rs) 0), asElement (halfOf (s.r64 rs) 2)]

/-- `evstwho` (R1848). -/
def execEvstwho (rs ra : Reg) (uimm : BitVec 5) (s : State) : Answer :=
  s.vectorStore false 2 (s.eaScaled ra uimm 4) [asElement (halfOf (s.r64 rs) 1), asElement (halfOf (s.r64 rs) 3)]

/-- `evstwhox` (R1849). -/
def execEvstwhox (rs ra rb : Reg) (s : State) : Answer :=
  s.vectorStore false 2 (s.eaX ra rb) [asElement (halfOf (s.r64 rs) 1), asElement (halfOf (s.r64 rs) 3)]

/-- `evstwwe` (R1850). -/
def execEvstwwe (rs ra : Reg) (uimm : BitVec 5) (s : State) : Answer :=
  s.vectorStore false 4 (s.eaScaled ra uimm 4) [asElement (hi (s.r64 rs))]

/-- `evstwwex` (R1851). -/
def execEvstwwex (rs ra rb : Reg) (s : State) : Answer := s.vectorStore false 4 (s.eaX ra rb) [asElement (hi (s.r64 rs))]

/-- `evstwwo` (R1852). -/
def execEvstwwo (rs ra : Reg) (uimm : BitVec 5) (s : State) : Answer :=
  s.vectorStore false 4 (s.eaScaled ra uimm 4) [asElement (lo (s.r64 rs))]

/-- `evstwwox` (R1853). -/
def execEvstwwox (rs ra rb : Reg) (s : State) : Answer := s.vectorStore false 4 (s.eaX ra rb) [asElement (lo (s.r64 rs))]

end Sys2Proof.Machine
end

