-- ==== Sys2Proof/Machine/SpeMac.lean ====
section
/-! DEFINITION. The word multiplies, the accumulator sums and `evmra` (spec/48_spe_mac.md R1600 to R1690). -/

namespace Sys2Proof.Machine

/-- `evmwhsmf` (R1600). -/
def execEvmwhsmf (rd ra rb : Reg) (s : State) : Answer :=
  s.productPair rd false (fractionHigh (productSigned (hi (s.r64 ra)) (hi (s.r64 rb)))) (fractionHigh (productSigned (lo (s.r64 ra)) (lo (s.r64 rb))))

/-- `evmwhsmi` (R1602). -/
def execEvmwhsmi (rd ra rb : Reg) (s : State) : Answer :=
  s.productPair rd false (hi (productSigned (hi (s.r64 ra)) (hi (s.r64 rb)))) (hi (productSigned (lo (s.r64 ra)) (lo (s.r64 rb))))

/-- `evmwhssf` (R1604). -/
def execEvmwhssf (rd ra rb : Reg) (s : State) : Answer :=
  s.productPairSaturated rd false (fractionHighSaturated (productSigned (hi (s.r64 ra)) (hi (s.r64 rb)))) (fractionHighSaturated (productSigned (lo (s.r64 ra)) (lo (s.r64 rb))))

/-- `evmwhumi` (R1606). -/
def execEvmwhumi (rd ra rb : Reg) (s : State) : Answer :=
  s.productPair rd false (hi (productUnsigned (hi (s.r64 ra)) (hi (s.r64 rb)))) (hi (productUnsigned (lo (s.r64 ra)) (lo (s.r64 rb))))

/-- `evmwhsmfa` (R1601). -/
def execEvmwhsmfa (rd ra rb : Reg) (s : State) : Answer :=
  s.productPair rd true (fractionHigh (productSigned (hi (s.r64 ra)) (hi (s.r64 rb)))) (fractionHigh (productSigned (lo (s.r64 ra)) (lo (s.r64 rb))))

/-- `evmwhsmia` (R1603). -/
def execEvmwhsmia (rd ra rb : Reg) (s : State) : Answer :=
  s.productPair rd true (hi (productSigned (hi (s.r64 ra)) (hi (s.r64 rb)))) (hi (productSigned (lo (s.r64 ra)) (lo (s.r64 rb))))

/-- `evmwhssfa` (R1605). -/
def execEvmwhssfa (rd ra rb : Reg) (s : State) : Answer :=
  s.productPairSaturated rd true (fractionHighSaturated (productSigned (hi (s.r64 ra)) (hi (s.r64 rb)))) (fractionHighSaturated (productSigned (lo (s.r64 ra)) (lo (s.r64 rb))))

/-- `evmwhumia` (R1607). -/
def execEvmwhumia (rd ra rb : Reg) (s : State) : Answer :=
  s.productPair rd true (hi (productUnsigned (hi (s.r64 ra)) (hi (s.r64 rb)))) (hi (productUnsigned (lo (s.r64 ra)) (lo (s.r64 rb))))

/-- `evmwlsmiaaw` (R1610). -/
def execEvmwlsmiaaw (rd ra rb : Reg) (s : State) : Answer :=
  s.accumulatePair rd .plus (lo (productSigned (hi (s.r64 ra)) (hi (s.r64 rb)))) (lo (productSigned (lo (s.r64 ra)) (lo (s.r64 rb))))

/-- `evmwlsmianw` (R1611). -/
def execEvmwlsmianw (rd ra rb : Reg) (s : State) : Answer :=
  s.accumulatePair rd .minus (lo (productSigned (hi (s.r64 ra)) (hi (s.r64 rb)))) (lo (productSigned (lo (s.r64 ra)) (lo (s.r64 rb))))

/-- `evmwlssiaaw` (R1612). -/
def execEvmwlssiaaw (rd ra rb : Reg) (s : State) : Answer :=
  s.accumulatePairSaturated rd (accSigned .plus) (lo (productSigned (hi (s.r64 ra)) (hi (s.r64 rb))), false) (lo (productSigned (lo (s.r64 ra)) (lo (s.r64 rb))), false)

/-- `evmwlssianw` (R1613). -/
def execEvmwlssianw (rd ra rb : Reg) (s : State) : Answer :=
  s.accumulatePairSaturated rd (accSigned .minus) (lo (productSigned (hi (s.r64 ra)) (hi (s.r64 rb))), false) (lo (productSigned (lo (s.r64 ra)) (lo (s.r64 rb))), false)

/-- `evmwlumi` (R1614). -/
def execEvmwlumi (rd ra rb : Reg) (s : State) : Answer :=
  s.productPair rd false (lo (productUnsigned (hi (s.r64 ra)) (hi (s.r64 rb)))) (lo (productUnsigned (lo (s.r64 ra)) (lo (s.r64 rb))))

/-- `evmwlumia` (R1615). -/
def execEvmwlumia (rd ra rb : Reg) (s : State) : Answer :=
  s.productPair rd true (lo (productUnsigned (hi (s.r64 ra)) (hi (s.r64 rb)))) (lo (productUnsigned (lo (s.r64 ra)) (lo (s.r64 rb))))

/-- `evmwlumiaaw` (R1616). -/
def execEvmwlumiaaw (rd ra rb : Reg) (s : State) : Answer :=
  s.accumulatePair rd .plus (lo (productUnsigned (hi (s.r64 ra)) (hi (s.r64 rb)))) (lo (productUnsigned (lo (s.r64 ra)) (lo (s.r64 rb))))

/-- `evmwlumianw` (R1617). -/
def execEvmwlumianw (rd ra rb : Reg) (s : State) : Answer :=
  s.accumulatePair rd .minus (lo (productUnsigned (hi (s.r64 ra)) (hi (s.r64 rb)))) (lo (productUnsigned (lo (s.r64 ra)) (lo (s.r64 rb))))

/-- `evmwlusiaaw` (R1618). -/
def execEvmwlusiaaw (rd ra rb : Reg) (s : State) : Answer :=
  s.accumulatePairSaturated rd (accUnsigned .plus) (lo (productUnsigned (hi (s.r64 ra)) (hi (s.r64 rb))), false) (lo (productUnsigned (lo (s.r64 ra)) (lo (s.r64 rb))), false)

/-- `evmwlusianw` (R1619). -/
def execEvmwlusianw (rd ra rb : Reg) (s : State) : Answer :=
  s.accumulatePairSaturated rd (accUnsigned .minus) (lo (productUnsigned (hi (s.r64 ra)) (hi (s.r64 rb))), false) (lo (productUnsigned (lo (s.r64 ra)) (lo (s.r64 rb))), false)

/-- `evmwsmf` (R1620). -/
def execEvmwsmf (rd ra rb : Reg) (s : State) : Answer :=
  s.macResult rd false ((productSigned (lo (s.r64 ra)) (lo (s.r64 rb))) <<< 1) none

/-- `evmwsmfa` (R1621). -/
def execEvmwsmfa (rd ra rb : Reg) (s : State) : Answer :=
  s.macResult rd true ((productSigned (lo (s.r64 ra)) (lo (s.r64 rb))) <<< 1) none

/-- `evmwsmfaa` (R1622). -/
def execEvmwsmfaa (rd ra rb : Reg) (s : State) : Answer :=
  s.accumulateDouble rd .plus ((productSigned (lo (s.r64 ra)) (lo (s.r64 rb))) <<< 1)

/-- `evmwsmfan` (R1623). -/
def execEvmwsmfan (rd ra rb : Reg) (s : State) : Answer :=
  s.accumulateDouble rd .minus ((productSigned (lo (s.r64 ra)) (lo (s.r64 rb))) <<< 1)

/-- `evmwsmi` (R1624). -/
def execEvmwsmi (rd ra rb : Reg) (s : State) : Answer :=
  s.macResult rd false (productSigned (lo (s.r64 ra)) (lo (s.r64 rb))) none

/-- `evmwsmia` (R1625). -/
def execEvmwsmia (rd ra rb : Reg) (s : State) : Answer :=
  s.macResult rd true (productSigned (lo (s.r64 ra)) (lo (s.r64 rb))) none

/-- `evmwsmiaa` (R1626). -/
def execEvmwsmiaa (rd ra rb : Reg) (s : State) : Answer :=
  s.accumulateDouble rd .plus (productSigned (lo (s.r64 ra)) (lo (s.r64 rb)))

/-- `evmwsmian` (R1627). -/
def execEvmwsmian (rd ra rb : Reg) (s : State) : Answer :=
  s.accumulateDouble rd .minus (productSigned (lo (s.r64 ra)) (lo (s.r64 rb)))

/-- `evmwssf` (R1628). -/
def execEvmwssf (rd ra rb : Reg) (s : State) : Answer :=
  let p := fractionSaturated (productSigned (lo (s.r64 ra)) (lo (s.r64 rb)))
  s.macResult rd false p.1 (some (false, p.2))

/-- `evmwssfa` (R1629). -/
def execEvmwssfa (rd ra rb : Reg) (s : State) : Answer :=
  let p := fractionSaturated (productSigned (lo (s.r64 ra)) (lo (s.r64 rb)))
  s.macResult rd true p.1 (some (false, p.2))

/-- `evmwssfaa` (R1630). -/
def execEvmwssfaa (rd ra rb : Reg) (s : State) : Answer :=
  s.accumulateDoubleSaturated rd .plus (fractionSaturated (productSigned (lo (s.r64 ra)) (lo (s.r64 rb))))

/-- `evmwssfan` (R1631). -/
def execEvmwssfan (rd ra rb : Reg) (s : State) : Answer :=
  s.accumulateDoubleSaturated rd .minus (fractionSaturated (productSigned (lo (s.r64 ra)) (lo (s.r64 rb))))

/-- `evmwumi` (R1632). -/
def execEvmwumi (rd ra rb : Reg) (s : State) : Answer :=
  s.macResult rd false (productUnsigned (lo (s.r64 ra)) (lo (s.r64 rb))) none

/-- `evmwumia` (R1633). -/
def execEvmwumia (rd ra rb : Reg) (s : State) : Answer :=
  s.macResult rd true (productUnsigned (lo (s.r64 ra)) (lo (s.r64 rb))) none

/-- `evmwumiaa` (R1634). -/
def execEvmwumiaa (rd ra rb : Reg) (s : State) : Answer :=
  s.accumulateDouble rd .plus (productUnsigned (lo (s.r64 ra)) (lo (s.r64 rb)))

/-- `evmwumian` (R1635). -/
def execEvmwumian (rd ra rb : Reg) (s : State) : Answer :=
  s.accumulateDouble rd .minus (productUnsigned (lo (s.r64 ra)) (lo (s.r64 rb)))

/-- `evaddsmiaaw` (R1680). -/
def execEvaddsmiaaw (rd ra : Reg) (s : State) : Answer := s.accumulatePair rd .plus (hi (s.r64 ra)) (lo (s.r64 ra))

/-- `evaddssiaaw` (R1681). -/
def execEvaddssiaaw (rd ra : Reg) (s : State) : Answer :=
  s.accumulatePairSaturated rd (accSigned .plus) (hi (s.r64 ra), false) (lo (s.r64 ra), false)

/-- `evaddumiaaw` (R1682). -/
def execEvaddumiaaw (rd ra : Reg) (s : State) : Answer := s.accumulatePair rd .plus (hi (s.r64 ra)) (lo (s.r64 ra))

/-- `evaddusiaaw` (R1683). -/
def execEvaddusiaaw (rd ra : Reg) (s : State) : Answer :=
  s.accumulatePairSaturated rd (accUnsigned .plus) (hi (s.r64 ra), false) (lo (s.r64 ra), false)

/-- `evsubfsmiaaw` (R1684). -/
def execEvsubfsmiaaw (rd ra : Reg) (s : State) : Answer := s.accumulatePair rd .minus (hi (s.r64 ra)) (lo (s.r64 ra))

/-- `evsubfssiaaw` (R1685). -/
def execEvsubfssiaaw (rd ra : Reg) (s : State) : Answer :=
  s.accumulatePairSaturated rd (accSigned .minus) (hi (s.r64 ra), false) (lo (s.r64 ra), false)

/-- `evsubfumiaaw` (R1686). -/
def execEvsubfumiaaw (rd ra : Reg) (s : State) : Answer := s.accumulatePair rd .minus (hi (s.r64 ra)) (lo (s.r64 ra))

/-- `evsubfusiaaw` (R1687). -/
def execEvsubfusiaaw (rd ra : Reg) (s : State) : Answer :=
  s.accumulatePairSaturated rd (accUnsigned .minus) (hi (s.r64 ra), false) (lo (s.r64 ra), false)

/-- `evmra` (R1690). -/
def execEvmra (rd ra : Reg) (s : State) : Answer := s.macResult rd true (s.r64 ra) none

end Sys2Proof.Machine
end

