-- ==== Sys2Proof/Machine/SpeMacHalf.lean ====
section
/-! DEFINITION. The half-word multiplies (spec/48_spe_mac_halfword.md R1520 to R1575). -/

namespace Sys2Proof.Machine

/-- The guarded product of one half word of the low elements, sign-extended (R1520, R1522). -/
def guardedSigned (a b : Half) : Dword := (mulSI16 a b).signExtend 64

/-- The guarded product, zero-extended (R1524). -/
def guardedUnsigned (a b : Half) : Dword := (mulUI16 a b).setWidth 64

/-- `evmhegsmfaa` (R1520). -/
def execEvmhegsmfaa (rd ra rb : Reg) (s : State) : Answer :=
  s.accumulateDouble rd .plus (guardedSigned (halfOf (s.r64 ra) 2) (halfOf (s.r64 rb) 2) <<< 1)

/-- `evmhegsmfan` (R1521). -/
def execEvmhegsmfan (rd ra rb : Reg) (s : State) : Answer :=
  s.accumulateDouble rd .minus (guardedSigned (halfOf (s.r64 ra) 2) (halfOf (s.r64 rb) 2) <<< 1)

/-- `evmhegsmiaa` (R1522). -/
def execEvmhegsmiaa (rd ra rb : Reg) (s : State) : Answer :=
  s.accumulateDouble rd .plus (guardedSigned (halfOf (s.r64 ra) 2) (halfOf (s.r64 rb) 2))

/-- `evmhegsmian` (R1523). -/
def execEvmhegsmian (rd ra rb : Reg) (s : State) : Answer :=
  s.accumulateDouble rd .minus (guardedSigned (halfOf (s.r64 ra) 2) (halfOf (s.r64 rb) 2))

/-- `evmhegumiaa` (R1524). -/
def execEvmhegumiaa (rd ra rb : Reg) (s : State) : Answer :=
  s.accumulateDouble rd .plus (guardedUnsigned (halfOf (s.r64 ra) 2) (halfOf (s.r64 rb) 2))

/-- `evmhegumian` (R1525). -/
def execEvmhegumian (rd ra rb : Reg) (s : State) : Answer :=
  s.accumulateDouble rd .minus (guardedUnsigned (halfOf (s.r64 ra) 2) (halfOf (s.r64 rb) 2))

/-- `evmhesmf` (R1526). -/
def execEvmhesmf (rd ra rb : Reg) (s : State) : Answer :=
  let p := halfProducts halfEven mulSF16 (s.r64 ra) (s.r64 rb)
  s.productPair rd false p.1 p.2

/-- `evmhesmfa` (R1527). -/
def execEvmhesmfa (rd ra rb : Reg) (s : State) : Answer :=
  let p := halfProducts halfEven mulSF16 (s.r64 ra) (s.r64 rb)
  s.productPair rd true p.1 p.2

/-- `evmhesmfaaw` (R1528). -/
def execEvmhesmfaaw (rd ra rb : Reg) (s : State) : Answer :=
  let p := halfProducts halfEven mulSF16 (s.r64 ra) (s.r64 rb)
  s.accumulatePair rd .plus p.1 p.2

/-- `evmhesmfanw` (R1529). -/
def execEvmhesmfanw (rd ra rb : Reg) (s : State) : Answer :=
  let p := halfProducts halfEven mulSF16 (s.r64 ra) (s.r64 rb)
  s.accumulatePair rd .minus p.1 p.2

/-- `evmhesmi` (R1530). -/
def execEvmhesmi (rd ra rb : Reg) (s : State) : Answer :=
  let p := halfProducts halfEven mulSI16 (s.r64 ra) (s.r64 rb)
  s.productPair rd false p.1 p.2

/-- `evmhesmia` (R1531). -/
def execEvmhesmia (rd ra rb : Reg) (s : State) : Answer :=
  let p := halfProducts halfEven mulSI16 (s.r64 ra) (s.r64 rb)
  s.productPair rd true p.1 p.2

/-- `evmhesmiaaw` (R1532). -/
def execEvmhesmiaaw (rd ra rb : Reg) (s : State) : Answer :=
  let p := halfProducts halfEven mulSI16 (s.r64 ra) (s.r64 rb)
  s.accumulatePair rd .plus p.1 p.2

/-- `evmhesmianw` (R1533). -/
def execEvmhesmianw (rd ra rb : Reg) (s : State) : Answer :=
  let p := halfProducts halfEven mulSI16 (s.r64 ra) (s.r64 rb)
  s.accumulatePair rd .minus p.1 p.2

/-- `evmhessf` (R1534). -/
def execEvmhessf (rd ra rb : Reg) (s : State) : Answer :=
  let p := halfProducts halfEven mulSSF16 (s.r64 ra) (s.r64 rb)
  s.productPairSaturated rd false p.1 p.2

/-- `evmhessfa` (R1535). -/
def execEvmhessfa (rd ra rb : Reg) (s : State) : Answer :=
  let p := halfProducts halfEven mulSSF16 (s.r64 ra) (s.r64 rb)
  s.productPairSaturated rd true p.1 p.2

/-- `evmhessfaaw` (R1536). -/
def execEvmhessfaaw (rd ra rb : Reg) (s : State) : Answer :=
  let p := halfProducts halfEven mulSSF16 (s.r64 ra) (s.r64 rb)
  s.accumulatePairSaturated rd (accSigned .plus) p.1 p.2

/-- `evmhessfanw` (R1537). -/
def execEvmhessfanw (rd ra rb : Reg) (s : State) : Answer :=
  let p := halfProducts halfEven mulSSF16 (s.r64 ra) (s.r64 rb)
  s.accumulatePairSaturated rd (accSigned .minus) p.1 p.2

/-- `evmhessiaaw` (R1538). -/
def execEvmhessiaaw (rd ra rb : Reg) (s : State) : Answer :=
  let p := halfProducts halfEven (exactly mulSI16) (s.r64 ra) (s.r64 rb)
  s.accumulatePairSaturated rd (accSigned .plus) p.1 p.2

/-- `evmhessianw` (R1539). -/
def execEvmhessianw (rd ra rb : Reg) (s : State) : Answer :=
  let p := halfProducts halfEven (exactly mulSI16) (s.r64 ra) (s.r64 rb)
  s.accumulatePairSaturated rd (accSigned .minus) p.1 p.2

/-- `evmheumi` (R1540). -/
def execEvmheumi (rd ra rb : Reg) (s : State) : Answer :=
  let p := halfProducts halfEven mulUI16 (s.r64 ra) (s.r64 rb)
  s.productPair rd false p.1 p.2

/-- `evmheumia` (R1541). -/
def execEvmheumia (rd ra rb : Reg) (s : State) : Answer :=
  let p := halfProducts halfEven mulUI16 (s.r64 ra) (s.r64 rb)
  s.productPair rd true p.1 p.2

/-- `evmheumiaaw` (R1542). -/
def execEvmheumiaaw (rd ra rb : Reg) (s : State) : Answer :=
  let p := halfProducts halfEven mulUI16 (s.r64 ra) (s.r64 rb)
  s.accumulatePair rd .plus p.1 p.2

/-- `evmheumianw` (R1543). -/
def execEvmheumianw (rd ra rb : Reg) (s : State) : Answer :=
  let p := halfProducts halfEven mulUI16 (s.r64 ra) (s.r64 rb)
  s.accumulatePair rd .minus p.1 p.2

/-- `evmheusiaaw` (R1544). -/
def execEvmheusiaaw (rd ra rb : Reg) (s : State) : Answer :=
  let p := halfProducts halfEven (exactly mulUI16) (s.r64 ra) (s.r64 rb)
  s.accumulatePairSaturated rd (accUnsigned .plus) p.1 p.2

/-- `evmheusianw` (R1545). -/
def execEvmheusianw (rd ra rb : Reg) (s : State) : Answer :=
  let p := halfProducts halfEven (exactly mulUI16) (s.r64 ra) (s.r64 rb)
  s.accumulatePairSaturated rd (accUnsigned .minus) p.1 p.2

/-- `evmhogsmfaa` (R1550). -/
def execEvmhogsmfaa (rd ra rb : Reg) (s : State) : Answer :=
  s.accumulateDouble rd .plus (guardedSigned (halfOf (s.r64 ra) 3) (halfOf (s.r64 rb) 3) <<< 1)

/-- `evmhogsmfan` (R1551). -/
def execEvmhogsmfan (rd ra rb : Reg) (s : State) : Answer :=
  s.accumulateDouble rd .minus (guardedSigned (halfOf (s.r64 ra) 3) (halfOf (s.r64 rb) 3) <<< 1)

/-- `evmhogsmiaa` (R1552). -/
def execEvmhogsmiaa (rd ra rb : Reg) (s : State) : Answer :=
  s.accumulateDouble rd .plus (guardedSigned (halfOf (s.r64 ra) 3) (halfOf (s.r64 rb) 3))

/-- `evmhogsmian` (R1553). -/
def execEvmhogsmian (rd ra rb : Reg) (s : State) : Answer :=
  s.accumulateDouble rd .minus (guardedSigned (halfOf (s.r64 ra) 3) (halfOf (s.r64 rb) 3))

/-- `evmhogumiaa` (R1554). -/
def execEvmhogumiaa (rd ra rb : Reg) (s : State) : Answer :=
  s.accumulateDouble rd .plus (guardedUnsigned (halfOf (s.r64 ra) 3) (halfOf (s.r64 rb) 3))

/-- `evmhogumian` (R1555). -/
def execEvmhogumian (rd ra rb : Reg) (s : State) : Answer :=
  s.accumulateDouble rd .minus (guardedUnsigned (halfOf (s.r64 ra) 3) (halfOf (s.r64 rb) 3))

/-- `evmhosmf` (R1556). -/
def execEvmhosmf (rd ra rb : Reg) (s : State) : Answer :=
  let p := halfProducts halfOdd mulSF16 (s.r64 ra) (s.r64 rb)
  s.productPair rd false p.1 p.2

/-- `evmhosmfa` (R1557). -/
def execEvmhosmfa (rd ra rb : Reg) (s : State) : Answer :=
  let p := halfProducts halfOdd mulSF16 (s.r64 ra) (s.r64 rb)
  s.productPair rd true p.1 p.2

/-- `evmhosmfaaw` (R1558). -/
def execEvmhosmfaaw (rd ra rb : Reg) (s : State) : Answer :=
  let p := halfProducts halfOdd mulSF16 (s.r64 ra) (s.r64 rb)
  s.accumulatePair rd .plus p.1 p.2

/-- `evmhosmfanw` (R1559). -/
def execEvmhosmfanw (rd ra rb : Reg) (s : State) : Answer :=
  let p := halfProducts halfOdd mulSF16 (s.r64 ra) (s.r64 rb)
  s.accumulatePair rd .minus p.1 p.2

/-- `evmhosmi` (R1560). -/
def execEvmhosmi (rd ra rb : Reg) (s : State) : Answer :=
  let p := halfProducts halfOdd mulSI16 (s.r64 ra) (s.r64 rb)
  s.productPair rd false p.1 p.2

/-- `evmhosmia` (R1561). -/
def execEvmhosmia (rd ra rb : Reg) (s : State) : Answer :=
  let p := halfProducts halfOdd mulSI16 (s.r64 ra) (s.r64 rb)
  s.productPair rd true p.1 p.2

/-- `evmhosmiaaw` (R1562). -/
def execEvmhosmiaaw (rd ra rb : Reg) (s : State) : Answer :=
  let p := halfProducts halfOdd mulSI16 (s.r64 ra) (s.r64 rb)
  s.accumulatePair rd .plus p.1 p.2

/-- `evmhosmianw` (R1563). -/
def execEvmhosmianw (rd ra rb : Reg) (s : State) : Answer :=
  let p := halfProducts halfOdd mulSI16 (s.r64 ra) (s.r64 rb)
  s.accumulatePair rd .minus p.1 p.2

/-- `evmhossf` (R1564). -/
def execEvmhossf (rd ra rb : Reg) (s : State) : Answer :=
  let p := halfProducts halfOdd mulSSF16 (s.r64 ra) (s.r64 rb)
  s.productPairSaturated rd false p.1 p.2

/-- `evmhossfa` (R1565). -/
def execEvmhossfa (rd ra rb : Reg) (s : State) : Answer :=
  let p := halfProducts halfOdd mulSSF16 (s.r64 ra) (s.r64 rb)
  s.productPairSaturated rd true p.1 p.2

/-- `evmhossfaaw` (R1566). -/
def execEvmhossfaaw (rd ra rb : Reg) (s : State) : Answer :=
  let p := halfProducts halfOdd mulSSF16 (s.r64 ra) (s.r64 rb)
  s.accumulatePairSaturated rd (accSigned .plus) p.1 p.2

/-- `evmhossfanw` (R1567). -/
def execEvmhossfanw (rd ra rb : Reg) (s : State) : Answer :=
  let p := halfProducts halfOdd mulSSF16 (s.r64 ra) (s.r64 rb)
  s.accumulatePairSaturated rd (accSigned .minus) p.1 p.2

/-- `evmhossiaaw` (R1568). -/
def execEvmhossiaaw (rd ra rb : Reg) (s : State) : Answer :=
  let p := halfProducts halfOdd (exactly mulSI16) (s.r64 ra) (s.r64 rb)
  s.accumulatePairSaturated rd (accSigned .plus) p.1 p.2

/-- `evmhossianw` (R1569). -/
def execEvmhossianw (rd ra rb : Reg) (s : State) : Answer :=
  let p := halfProducts halfOdd (exactly mulSI16) (s.r64 ra) (s.r64 rb)
  s.accumulatePairSaturated rd (accSigned .minus) p.1 p.2

/-- `evmhoumi` (R1570). -/
def execEvmhoumi (rd ra rb : Reg) (s : State) : Answer :=
  let p := halfProducts halfOdd mulUI16 (s.r64 ra) (s.r64 rb)
  s.productPair rd false p.1 p.2

/-- `evmhoumia` (R1571). -/
def execEvmhoumia (rd ra rb : Reg) (s : State) : Answer :=
  let p := halfProducts halfOdd mulUI16 (s.r64 ra) (s.r64 rb)
  s.productPair rd true p.1 p.2

/-- `evmhoumiaaw` (R1572). -/
def execEvmhoumiaaw (rd ra rb : Reg) (s : State) : Answer :=
  let p := halfProducts halfOdd mulUI16 (s.r64 ra) (s.r64 rb)
  s.accumulatePair rd .plus p.1 p.2

/-- `evmhoumianw` (R1573). -/
def execEvmhoumianw (rd ra rb : Reg) (s : State) : Answer :=
  let p := halfProducts halfOdd mulUI16 (s.r64 ra) (s.r64 rb)
  s.accumulatePair rd .minus p.1 p.2

/-- `evmhousiaaw` (R1574). -/
def execEvmhousiaaw (rd ra rb : Reg) (s : State) : Answer :=
  let p := halfProducts halfOdd (exactly mulUI16) (s.r64 ra) (s.r64 rb)
  s.accumulatePairSaturated rd (accUnsigned .plus) p.1 p.2

/-- `evmhousianw` (R1575). -/
def execEvmhousianw (rd ra rb : Reg) (s : State) : Answer :=
  let p := halfProducts halfOdd (exactly mulUI16) (s.r64 ra) (s.r64 rb)
  s.accumulatePairSaturated rd (accUnsigned .minus) p.1 p.2

end Sys2Proof.Machine
end

