-- ==== Sys2Proof/Machine/SpeSimple.lean ====
section
/-! DEFINITION. The simple SPE integer instructions and the vector divides (spec/47_spe_simple.md R1310 to R1391). -/

namespace Sys2Proof.Machine

/-- `brinc` (R1310). -/
def execBrinc (rd ra rb : Reg) (s : State) : Answer :=
  let mask' := bits 16 16 (s.r rb)
  let d := reverse16 (1 + reverse16 (bits 16 16 (s.r ra) ||| ~~~mask'))
  .next ((s.setR rd (bits 0 16 (s.r ra) ++ (d &&& mask'))).advance 4)

/-- `evabs` (R1311). -/
def execEvabs (rd ra : Reg) (s : State) : Answer := s.eachElement rd (fun a => if bit a 0 then -a else a) (s.r64 ra)

/-- `evaddiw` (R1312). -/
def execEvaddiw (rd : Reg) (uimm : BitVec 5) (rb : Reg) (s : State) : Answer :=
  s.eachElement rd (fun b => b + zext uimm) (s.r64 rb)

/-- `evaddw` (R1313). -/
def execEvaddw (rd ra rb : Reg) (s : State) : Answer := s.eachPair rd (fun a b => a + b) (s.r64 ra) (s.r64 rb)

/-- `evneg` (R1314). -/
def execEvneg (rd ra : Reg) (s : State) : Answer := s.eachElement rd (fun a => -a) (s.r64 ra)

/-- `evsubfw` (R1315). -/
def execEvsubfw (rd ra rb : Reg) (s : State) : Answer := s.eachPair rd (fun a b => b - a) (s.r64 ra) (s.r64 rb)

/-- `evsubifw` (R1316). -/
def execEvsubifw (rd : Reg) (uimm : BitVec 5) (rb : Reg) (s : State) : Answer :=
  s.eachElement rd (fun b => b - zext uimm) (s.r64 rb)

/-- `evand` (R1320). -/
def execEvand (rd ra rb : Reg) (s : State) : Answer := s.vectorResult rd (s.r64 ra &&& s.r64 rb)

/-- `evandc` (R1321). -/
def execEvandc (rd ra rb : Reg) (s : State) : Answer := s.vectorResult rd (s.r64 ra &&& ~~~(s.r64 rb))

/-- `eveqv` (R1322). -/
def execEveqv (rd ra rb : Reg) (s : State) : Answer := s.vectorResult rd (~~~(s.r64 ra ^^^ s.r64 rb))

/-- `evnand` (R1323). -/
def execEvnand (rd ra rb : Reg) (s : State) : Answer := s.vectorResult rd (~~~(s.r64 ra &&& s.r64 rb))

/-- `evnor` (R1324). -/
def execEvnor (rd ra rb : Reg) (s : State) : Answer := s.vectorResult rd (~~~(s.r64 ra ||| s.r64 rb))

/-- `evor` (R1325). -/
def execEvor (rd ra rb : Reg) (s : State) : Answer := s.vectorResult rd (s.r64 ra ||| s.r64 rb)

/-- `evorc` (R1326). -/
def execEvorc (rd ra rb : Reg) (s : State) : Answer := s.vectorResult rd (s.r64 ra ||| ~~~(s.r64 rb))

/-- `evxor` (R1327). -/
def execEvxor (rd ra rb : Reg) (s : State) : Answer := s.vectorResult rd (s.r64 ra ^^^ s.r64 rb)

/-- `evcmpeq` (R1330). -/
def execEvcmpeq (crfD : CrField) (ra rb : Reg) (s : State) : Answer :=
  s.vectorCr crfD (fun a b => a == b) (s.r64 ra) (s.r64 rb)

/-- `evcmpgts` (R1331). -/
def execEvcmpgts (crfD : CrField) (ra rb : Reg) (s : State) : Answer :=
  s.vectorCr crfD (fun a b => b.slt a) (s.r64 ra) (s.r64 rb)

/-- `evcmpgtu` (R1332). -/
def execEvcmpgtu (crfD : CrField) (ra rb : Reg) (s : State) : Answer :=
  s.vectorCr crfD (fun a b => b.ult a) (s.r64 ra) (s.r64 rb)

/-- `evcmplts` (R1333). -/
def execEvcmplts (crfD : CrField) (ra rb : Reg) (s : State) : Answer :=
  s.vectorCr crfD (fun a b => a.slt b) (s.r64 ra) (s.r64 rb)

/-- `evcmpltu` (R1334). -/
def execEvcmpltu (crfD : CrField) (ra rb : Reg) (s : State) : Answer :=
  s.vectorCr crfD (fun a b => a.ult b) (s.r64 ra) (s.r64 rb)

/-- `evcntlsw` (R1340). -/
def execEvcntlsw (rd ra : Reg) (s : State) : Answer :=
  s.eachElement rd (fun a => BitVec.ofNat 32 (leadingSigns a)) (s.r64 ra)

/-- `evcntlzw` (R1341). -/
def execEvcntlzw (rd ra : Reg) (s : State) : Answer :=
  s.eachElement rd (fun a => BitVec.ofNat 32 (leadingZeros a)) (s.r64 ra)

/-- `evextsb` (R1342). -/
def execEvextsb (rd ra : Reg) (s : State) : Answer := s.eachElement rd (fun a => sext (bits 24 8 a)) (s.r64 ra)

/-- `evextsh` (R1343). -/
def execEvextsh (rd ra : Reg) (s : State) : Answer := s.eachElement rd (fun a => sext (bits 16 16 a)) (s.r64 ra)

/-- `evmergehi` (R1350). -/
def execEvmergehi (rd ra rb : Reg) (s : State) : Answer := s.vectorResult rd (hi (s.r64 ra) ++ hi (s.r64 rb))

/-- `evmergehilo` (R1351). -/
def execEvmergehilo (rd ra rb : Reg) (s : State) : Answer := s.vectorResult rd (hi (s.r64 ra) ++ lo (s.r64 rb))

/-- `evmergelo` (R1352). -/
def execEvmergelo (rd ra rb : Reg) (s : State) : Answer := s.vectorResult rd (lo (s.r64 ra) ++ lo (s.r64 rb))

/-- `evmergelohi` (R1353). -/
def execEvmergelohi (rd ra rb : Reg) (s : State) : Answer := s.vectorResult rd (lo (s.r64 ra) ++ hi (s.r64 rb))

/-- `evrlw` (R1360). -/
def execEvrlw (rd ra rb : Reg) (s : State) : Answer :=
  s.eachPair rd (fun a b => a.rotateLeft (bits 27 5 b).toNat) (s.r64 ra) (s.r64 rb)

/-- `evrlwi` (R1361). -/
def execEvrlwi (rd ra : Reg) (uimm : BitVec 5) (s : State) : Answer :=
  s.eachElement rd (fun a => a.rotateLeft uimm.toNat) (s.r64 ra)

/-- `evrndw` (R1362). -/
def execEvrndw (rd ra : Reg) (s : State) : Answer := s.eachElement rd (fun a => (a + 0x00008000) &&& 0xFFFF0000) (s.r64 ra)

/-- `evsel` (R1363). -/
def execEvsel (rd ra rb : Reg) (crfS : CrField) (s : State) : Answer :=
  let f := s.crField crfS
  s.vectorResult rd
    ((if f.getMsbD 0 then hi (s.r64 ra) else hi (s.r64 rb)) ++ (if f.getMsbD 1 then lo (s.r64 ra) else lo (s.r64 rb)))

/-- `evslw` (R1370). -/
def execEvslw (rd ra rb : Reg) (s : State) : Answer := s.eachPair rd (fun a b => a <<< shiftCount b) (s.r64 ra) (s.r64 rb)

/-- `evslwi` (R1371). -/
def execEvslwi (rd ra : Reg) (uimm : BitVec 5) (s : State) : Answer :=
  s.eachElement rd (fun a => a <<< uimm.toNat) (s.r64 ra)

/-- `evsrwis` (R1372). -/
def execEvsrwis (rd ra : Reg) (uimm : BitVec 5) (s : State) : Answer :=
  s.eachElement rd (fun a => a.sshiftRight uimm.toNat) (s.r64 ra)

/-- `evsrwiu` (R1373). -/
def execEvsrwiu (rd ra : Reg) (uimm : BitVec 5) (s : State) : Answer :=
  s.eachElement rd (fun a => a >>> uimm.toNat) (s.r64 ra)

/-- `evsrws` (R1374). -/
def execEvsrws (rd ra rb : Reg) (s : State) : Answer :=
  s.eachPair rd (fun a b => a.sshiftRight (shiftCount b)) (s.r64 ra) (s.r64 rb)

/-- `evsrwu` (R1375). -/
def execEvsrwu (rd ra rb : Reg) (s : State) : Answer := s.eachPair rd (fun a b => a >>> shiftCount b) (s.r64 ra) (s.r64 rb)

/-- `evsplatfi` (R1380). -/
def execEvsplatfi (rd : Reg) (simm : BitVec 5) (s : State) : Answer :=
  s.vectorResult rd ((simm ++ 0#27 : Word) ++ (simm ++ 0#27 : Word))

/-- `evsplati` (R1381). -/
def execEvsplati (rd : Reg) (simm : BitVec 5) (s : State) : Answer := s.vectorResult rd (sext simm ++ sext simm)

/-- `evdivws` (R1390). -/
def execEvdivws (rd ra rb : Reg) (s : State) : Answer := s.divideElements rd divideElementSigned (s.r64 ra) (s.r64 rb)

/-- `evdivwu` (R1391). -/
def execEvdivwu (rd ra rb : Reg) (s : State) : Answer := s.divideElements rd divideElementUnsigned (s.r64 ra) (s.r64 rb)

end Sys2Proof.Machine
end

