-- ==== Sys2Proof/Machine/Spr.lean ====
section
/-! DEFINITION. The special-purpose registers and the device control registers: what a read returns, what a write does, and
the four moves (spec/10_state.md R100 to R103, R127, spec/43_system.md R866 to R870). -/

namespace Sys2Proof.Machine

/-! ## Reading -/

/-- IVOR number n of the `ivor` vector. -/
def State.ivorAt (s : State) (n : Nat) : Word := s.int.ivor.toList.getD n 0

/-- SPRG number n. -/
def State.sprgAt (s : State) (n : Nat) : Word := s.soft.sprg.toList.getD n 0

/-- HID1: SYSCTL, and ATS as the copy of the reservation (spec/10_state.md R123). -/
def State.hid1Value (s : State) : Word := s.hid.hid1 ||| when s.reserve (oneBit 24)

/-- PVR (R81). -/
def State.pvr (s : State) : Word := 0x81550000 ||| zext s.pins.pvrin

/-- L1CFG1 (spec/11_state_mmu_cache.md R241). -/
def State.l1cfg1 (s : State) : Word := if bit s.ic.l1csr1 27 then 0x08581804 else 0x08580804

/-- DEVENT as read: DEVNT reads 0 (spec/12_state_debug.md R299). -/
def State.deventValue (s : State) : Word := s.dbg.devent &&& 0xFF000000

/-- What mfspr reads from a readable 32-bit SPR; none for any other number (spec/10_state.md R101). -/
def State.readSpr (s : State) (n : Nat) : Option Word :=
  match n with
  | 1 => some s.xer
  | 8 => some s.lr
  | 9 => some s.ctr
  | 22 => some s.tim.dec
  | 26 => some s.int.srr0
  | 27 => some s.int.srr1
  | 48 => some s.soft.pid0
  | 54 => some s.tim.decar
  | 58 => some s.int.csrr0
  | 59 => some s.int.csrr1
  | 61 => some s.int.dear
  | 62 => some s.int.esr
  | 63 => some s.int.ivpr
  | 256 => some s.soft.usprg0
  | 260 => some (s.sprgAt 4)
  | 261 => some (s.sprgAt 5)
  | 262 => some (s.sprgAt 6)
  | 263 => some (s.sprgAt 7)
  | 268 => some (lo s.tim.tb)
  | 269 => some (hi s.tim.tb)
  | 272 => some (s.sprgAt 0)
  | 273 => some (s.sprgAt 1)
  | 274 => some (s.sprgAt 2)
  | 275 => some (s.sprgAt 3)
  | 276 => some (s.sprgAt 4)
  | 277 => some (s.sprgAt 5)
  | 278 => some (s.sprgAt 6)
  | 279 => some (s.sprgAt 7)
  | 286 => some s.soft.pir
  | 287 => some s.pvr
  | 304 => some s.dbg.dbsr
  | 308 => some s.dbg.dbcr0
  | 309 => some s.dbg.dbcr1
  | 310 => some s.dbg.dbcr2
  | 312 => some (iacReg s.dbg 0)
  | 313 => some (iacReg s.dbg 1)
  | 314 => some (iacReg s.dbg 2)
  | 315 => some (iacReg s.dbg 3)
  | 316 => some s.dbg.dac1
  | 317 => some s.dbg.dac2
  | 318 => some (lo s.dbg.dvc1)
  | 319 => some (lo s.dbg.dvc2)
  | 336 => some s.tim.tsr
  | 340 => some s.tim.tcr
  | 400 => some (s.ivorAt 0)
  | 401 => some (s.ivorAt 1)
  | 402 => some (s.ivorAt 2)
  | 403 => some (s.ivorAt 3)
  | 404 => some (s.ivorAt 4)
  | 405 => some (s.ivorAt 5)
  | 406 => some (s.ivorAt 6)
  | 407 => some (s.ivorAt 7)
  | 408 => some (s.ivorAt 8)
  | 409 => some (s.ivorAt 9)
  | 410 => some (s.ivorAt 10)
  | 411 => some (s.ivorAt 11)
  | 412 => some (s.ivorAt 12)
  | 413 => some (s.ivorAt 13)
  | 414 => some (s.ivorAt 14)
  | 415 => some (s.ivorAt 15)
  | 512 => some s.spefscr
  | 515 => some Config.l1cfg0Value
  | 516 => some s.l1cfg1
  | 528 => some (s.ivorAt 16)
  | 529 => some (s.ivorAt 17)
  | 530 => some (s.ivorAt 18)
  | 561 => some s.dbg.dbcr3
  | 562 => some s.dbg.dbcnt
  | 563 => some s.dbg.dbcr4
  | 564 => some s.dbg.dbcr5
  | 565 => some (iacReg s.dbg 4)
  | 566 => some (iacReg s.dbg 5)
  | 567 => some (iacReg s.dbg 6)
  | 568 => some (iacReg s.dbg 7)
  | 569 => some s.dbg.dberc0
  | 570 => some s.int.mcsrr0
  | 571 => some s.int.mcsrr1
  | 572 => some s.int.mcsr
  | 573 => some s.int.mcar
  | 574 => some s.int.dsrr0
  | 575 => some s.int.dsrr1
  | 576 => some 0
  | 603 => some s.dbg.dbcr6
  | 604 => some (s.sprgAt 8)
  | 605 => some (s.sprgAt 9)
  | 624 => some s.mmu.mas0
  | 625 => some s.mmu.mas1
  | 626 => some s.mmu.mas2
  | 627 => some s.mmu.mas3
  | 628 => some s.mmu.mas4
  | 630 => some s.mmu.mas6
  | 688 => some 0
  | 689 => some 0x100BE010
  | 959 => some s.ic.l1finv1
  | 975 => some s.deventValue
  | 976 => some s.ic.hdbcr0
  | 1008 => some s.hid.hid0
  | 1009 => some s.hid1Value
  | 1010 => some s.ic.l1csr0
  | 1011 => some s.ic.l1csr1
  | 1012 => some s.mmu.mmucsr0
  | 1013 => some s.hid.bucsr
  | 1015 => some 0x004009C4
  | 1023 => some s.pins.sysvers
  | _ => none

/-! ## Writing -/

/-- IVOR number n written: the offset field only (spec/10_state.md R110). -/
def State.setIvor (s : State) (n : Nat) (v : Word) : State := { s with int.ivor := s.int.ivor.setIfInBounds n (v &&& 0xFFF0) }

/-- SPRG number n written. -/
def State.setSprg (s : State) (n : Nat) (v : Word) : State := { s with soft.sprg := s.soft.sprg.setIfInBounds n v }

/-- IAC n + 1 written. -/
def State.setIac (s : State) (n : Nat) (v : Word) : State := { s with dbg.iac := s.dbg.iac.setIfInBounds n v }

/-- TCR written: WRC bits once set stay set (R87; the spec says the field cannot be cleared by software; per bit is DEDUCED,
assumption log entry 11, unsafe). -/
def writeTcr (old v : Word) : Word := (v &&& 0xFFDFE000) ||| (old &&& 0x30000000)

/-- HID0 written; changing SEL_TBCLK while TBEN = 1 leaves a free value in the time base
(spec/10_state.md R122, spec/93_implementation_defined.md U54). DESIGN CHOICE, assumption log entry 4, safe. -/
def State.setHid0 (s : State) (v : Word) : State :=
  let t := { s with hid.hid0 := v &&& 0x80E37F01 }
  if bit s.hid.hid0 17 && bit v 18 != bit s.hid.hid0 18 then
    { t with tim := t.tim.setTb (Config.freeTimeBase s.freeCtr), freeCtr := s.freeCtr + 1 }
  else t

/-- MMUCSR0[TLB1_FI]: every entry without IPROT becomes invalid; the bit reads 0 afterwards
(spec/11_state_mmu_cache.md R223). -/
def State.flashInvalidate (s : State) : State :=
  { s with mmu.tlb := s.mmu.tlb.map fun e => if e.iprot then e else { e with v := false } }

/-- DEVENT written: DQTAG is stored; each DEVNT bit pulses its output, and watchpoints 12, 13, 20 and 21 for the four low-order
ones (spec/12_state_debug.md R299). -/
def State.writeDevent (s : State) (v : Word) : State :=
  let devnt : Byte := bits 24 8 v
  let marks := [(0, 12), (1, 13), (2, 20), (3, 21)].filterMap fun p =>
    if devnt.getLsbD p.1 then some (OutputEvent.watchpoint p.2) else none
  { s with
    dbg.devent := v &&& 0xFF000000
    outputs := s.outputs ++ (if devnt = 0 then [] else [OutputEvent.devnt devnt]) ++ marks }

/-- L1CSR1 written (spec/11_state_mmu_cache.md R243). -/
def State.writeL1csr1 (s : State) (v : Word) : State := { s.spendFree with ic := s.ic.writeL1csr1 s.freeCtr v }

/-- What mtspr does to a writable SPR; none for any other number (spec/10_state.md R101, spec/43_system.md R869). L1FINV1 and
the two 64-bit registers are written by moveToSpr. -/
def State.writeSpr (s : State) (n : Nat) (v : Word) : Option State :=
  match n with
  | 1 => some (s.setXer (v &&& 0xE000007F))
  | 8 => some (s.setLr v)
  | 9 => some (s.setCtr v)
  | 22 => some { s with tim.dec := v }
  | 26 => some { s with int.srr0 := v }
  | 27 => some { s with int.srr1 := v }
  | 48 => some ({ s with soft.pid0 := v &&& 0xFF }.pulse (.pidUpdate (bits 24 8 v)))
  | 54 => some { s with tim.decar := v }
  | 58 => some { s with int.csrr0 := v }
  | 59 => some { s with int.csrr1 := v }
  | 61 => some (s.setDear v)
  | 62 => some (s.setEsr (v &&& 0x0FB600A2))
  | 63 => some { s with int.ivpr := v &&& 0xFFFF0000 }
  | 256 => some { s with soft.usprg0 := v }
  | 272 => some (s.setSprg 0 v)
  | 273 => some (s.setSprg 1 v)
  | 274 => some (s.setSprg 2 v)
  | 275 => some (s.setSprg 3 v)
  | 276 => some (s.setSprg 4 v)
  | 277 => some (s.setSprg 5 v)
  | 278 => some (s.setSprg 6 v)
  | 279 => some (s.setSprg 7 v)
  | 284 => some { s with tim := s.tim.setTb (hi s.tim.tb ++ v) }
  | 285 => some { s with tim := s.tim.setTb (v ++ lo s.tim.tb) }
  | 286 => some { s with soft.pir := v }
  | 304 => some { s with dbg.dbsr := s.dbg.dbsr &&& ~~~v }
  | 308 => some { s with dbg.dbcr0 := (v &&& 0x7FFFFFE1) ||| (s.dbg.dbcr0 &&& 0x80000000) }
  | 309 => some { s with dbg.dbcr1 := v &&& 0xFFC0FFC0 }
  | 310 => some { s with dbg.dbcr2 := v }
  | 312 => some (s.setIac 0 v)
  | 313 => some (s.setIac 1 v)
  | 314 => some (s.setIac 2 v)
  | 315 => some (s.setIac 3 v)
  | 316 => some { s with dbg.dac1 := v }
  | 317 => some { s with dbg.dac2 := v }
  | 336 => some { s with tim.tsr := s.tim.tsr &&& ~~~v }
  | 340 => some { s with tim.tcr := writeTcr s.tim.tcr v }
  | 400 => some (s.setIvor 0 v)
  | 401 => some (s.setIvor 1 v)
  | 402 => some (s.setIvor 2 v)
  | 403 => some (s.setIvor 3 v)
  | 404 => some (s.setIvor 4 v)
  | 405 => some (s.setIvor 5 v)
  | 406 => some (s.setIvor 6 v)
  | 407 => some (s.setIvor 7 v)
  | 408 => some (s.setIvor 8 v)
  | 409 => some (s.setIvor 9 v)
  | 410 => some (s.setIvor 10 v)
  | 411 => some (s.setIvor 11 v)
  | 412 => some (s.setIvor 12 v)
  | 413 => some (s.setIvor 13 v)
  | 414 => some (s.setIvor 14 v)
  | 415 => some (s.setIvor 15 v)
  | 512 => some (s.setSpefscr (v &&& 0xFF3EFF7F))
  | 528 => some (s.setIvor 16 v)
  | 529 => some (s.setIvor 17 v)
  | 530 => some (s.setIvor 18 v)
  | 561 => some { s with dbg.dbcr3 := v }
  | 562 => some { s with dbg.dbcnt := v, cur.wroteDbcnt := true }
  | 563 => some { s with dbg.dbcr4 := v &&& 0x5000FF00 }
  | 564 => some { s with dbg.dbcr5 := v &&& 0xFFC0FFC0 }
  | 565 => some (s.setIac 4 v)
  | 566 => some (s.setIac 5 v)
  | 567 => some (s.setIac 6 v)
  | 568 => some (s.setIac 7 v)
  | 570 => some { s with int.mcsrr0 := v }
  | 571 => some { s with int.mcsrr1 := v }
  | 572 => some { s with int.mcsr := s.int.mcsr &&& ~~~v }
  | 573 => some { s with int.mcar := v }
  | 574 => some { s with int.dsrr0 := v }
  | 575 => some { s with int.dsrr1 := v }
  | 576 => some ({ s with dbg.ddam := v }.pulse (.ddam (bits 0 8 s.dbg.devent) v))
  | 603 => some { s with dbg.dbcr6 := v }
  | 604 => some (s.setSprg 8 v)
  | 605 => some (s.setSprg 9 v)
  | 624 => some { s with mmu.mas0 := v &&& 0x300F000F }
  | 625 => some { s with mmu.mas1 := v &&& 0xC0FF1F80 }
  | 626 => some { s with mmu.mas2 := v &&& 0xFFFFFC3F }
  | 627 => some { s with mmu.mas3 := v }
  | 628 => some { s with mmu.mas4 := v &&& 0x30030FBF }
  | 630 => some { s with mmu.mas6 := v &&& 0x00FF0001 }
  | 975 => some (s.writeDevent v)
  | 976 => some { s with ic.hdbcr0 := v &&& 1 }
  | 1008 => some (s.setHid0 v)
  | 1009 => some { s with hid.hid1 := v &&& 0xFF00 }
  | 1010 => some { s with ic.l1csr0 := v &&& 0xF0000000 }
  | 1011 => some (s.writeL1csr1 v)
  | 1012 => some (if bit v 30 then s.flashInvalidate else s)
  | 1013 => some { s with hid.bucsr := v &&& 0x37 }
  | _ => none

/-- The SPR number is supervisor-only: its bit of weight 16 (R100). -/
def supervisorSpr (n : Nat) : Bool := n.testBit 4

/-- mfspr after the privilege check: DVC1 and DVC2 move 64 bits, whatever MSR[SPE] is (R868, R870, spec/12_state_debug.md R297).
spec/13_state_spe.md R1051 and spec/10_state.md R51 let only SPE and vector instructions touch the upper half of a general
register, and no ruling chooses (DESIGN CHOICE, assumption log entry 44, unsafe). -/
def State.moveFromSpr (s : State) (rt : Reg) (n : Nat) : Answer :=
  if n = 318 then .next ((s.setR64 rt s.dbg.dvc1).advance 4)
  else if n = 319 then .next ((s.setR64 rt s.dbg.dvc2).advance 4)
  else match s.readSpr n with
    | some v => .next ((s.setR rt v).advance 4)
    | none => .next s.illegal

/-- mtspr after the privilege check (R869, R870); L1FINV1 may name an undefined command (U44), and DVC1 and DVC2 take all 64 bits
of the source (R297 against R1051, assumption log entry 44). A write of DBERC0, SPR 569, is
an illegal instruction, as R870 step 3 lists it among the read-only registers; spec/12_state_debug.md R291 says that such an
mtspr has no effect, and no ruling chooses (DESIGN CHOICE, assumption log entry 39, unsafe). -/
def State.moveToSpr (s : State) (n : Nat) (v : Dword) : Answer :=
  if n = 318 then .next ({ s with dbg.dvc1 := v }.advance 4)
  else if n = 319 then .next ({ s with dbg.dvc2 := v }.advance 4)
  else if n = 959 then
    match s.ic.writeL1finv1 s.freeCtr (lo v) with
    | some c => .next ({ s.spendFree with ic := c }.advance 4)
    | none => .fault .undefinedCacheCommand
  else match s.writeSpr n (lo v) with
    | some t => .next (t.advance 4)
    | none => .next s.illegal

/-! ## Device control registers -/

/-- What mfdcr reads; none for a number that is not supported (R866, spec/12_state_debug.md R310). -/
def State.readDcr (s : State) (n : Nat) : Option Word :=
  match n with
  | 272 => some s.psu.pscr
  | 273 => some s.psu.pssr
  | 274 => some s.psu.pshr
  | 275 => some s.psu.pslr
  | 276 => some s.psu.psctr
  | 277 => some 0
  | 278 => some 0
  | 350 => some s.ic.cdadata
  | 351 => some s.ic.cdacntl
  | _ => none

/-- mtdcr PSCR: INIT zeroes the signatures and the count (R310). -/
def PsuRegs.writePscr (p : PsuRegs) (v : Word) : PsuRegs :=
  if bit v 31 then { p with pscr := v &&& 0x26, pshr := 0, pslr := 0, psctr := 0 } else { p with pscr := v &&& 0x26 }

/-- mtdcr PSULR: accumulate into PSLR and count (R310, spec/62_timers_power_platform.md R2190). -/
def PsuRegs.writePsulr (p : PsuRegs) (v : Word) : PsuRegs :=
  { p with pslr := psuStep p.pslr v, psctr := if bit p.pscr 26 then p.psctr + 1 else p.psctr }

/-- What mtdcr does to a supported DCR; none for any other. CDACNTL is written by moveToDcr. -/
def State.writeDcr (s : State) (n : Nat) (v : Word) : Option State :=
  match n with
  | 272 => some { s with psu := s.psu.writePscr v }
  | 273 => some { s with psu.pssr := s.psu.pssr &&& ~~~(v &&& 1) }
  | 274 => some { s with psu.pshr := v }
  | 275 => some { s with psu.pslr := v }
  | 276 => some { s with psu.psctr := v }
  | 277 => some { s with psu.pshr := psuStep s.psu.pshr v }
  | 278 => some { s with psu := s.psu.writePsulr v }
  | 350 => some { s with ic.cdadata := v }
  | _ => none

/-- mtdcr in supervisor mode (R867); CDACNTL may name an undefined command (U44). -/
def State.moveToDcr (s : State) (n : Nat) (v : Word) : Answer :=
  if n = 351 then
    match s.ic.writeCdacntl v with
    | some c => .next ({ s with ic := c }.advance 4)
    | none => .fault .undefinedCacheCommand
  else match s.writeDcr n v with
    | some t => .next (t.advance 4)
    | none => .next s.illegal

/-- mfdcr in supervisor mode (R866). -/
def State.moveFromDcr (s : State) (rt : Reg) (n : Nat) : Answer :=
  match s.readDcr n with
  | some v => .next ((s.setR rt v).advance 4)
  | none => .next s.illegal

/-- The register number an SPR or DCR field holds: its two halves are exchanged in the instruction (R866, R868). -/
def registerNumber (f : BitVec 10) : Nat := (f.extractLsb' 0 5 ++ f.extractLsb' 5 5 : BitVec 10).toNat

/-! ## Meanings -/

/-- `mfspr` (R868, R870). -/
def execMfspr (rt : Reg) (sprn : BitVec 10) (s : State) : Answer :=
  if supervisorSpr (registerNumber sprn) && s.userMode then .next s.privileged else s.moveFromSpr rt (registerNumber sprn)

/-- `mtspr` (R869, R870). -/
def execMtspr (rs : Reg) (sprn : BitVec 10) (s : State) : Answer :=
  if supervisorSpr (registerNumber sprn) && s.userMode then .next s.privileged else s.moveToSpr (registerNumber sprn) (s.r64 rs)

/-- `mfdcr` (R866). -/
def execMfdcr (rt : Reg) (dcrn : BitVec 10) (s : State) : Answer := s.supervisor fun t => t.moveFromDcr rt (registerNumber dcrn)

/-- `mtdcr` (R867). -/
def execMtdcr (rs : Reg) (dcrn : BitVec 10) (s : State) : Answer := s.supervisor fun t => t.moveToDcr (registerNumber dcrn) (t.r rs)

end Sys2Proof.Machine
end

