-- ==== Sys2Proof/Machine/Vle.lean ====
section
/-! DEFINITION. The instructions of VLE pages the spec defines: the system forms and the volatile context multiples
(spec/44_vle.md R960 to R992). ESR[VLEMI] follows from the page attribute the step recorded. -/

namespace Sys2Proof.Machine

/-! ## Shared shapes -/

/-- Load the registers of a volatile context group: alignment first, then word by word; the two-word groups are not
interruptible (R960). -/
def State.loadGroup (s : State) (interruptible : Bool) (ra : Reg) (d8 : BitVec 8) (fs : List (Word → State → State)) :
    Answer :=
  if misaligned (s.eaD8 ra d8) 4 then .next (s.alignment (s.eaD8 ra d8) false false)
  else (s.loadWords interruptible (s.eaD8 ra d8) 0 fs).next fun _ t => t.advance 4

/-- Store the registers of a volatile context group (R960). -/
def State.storeGroup (s : State) (interruptible : Bool) (ra : Reg) (d8 : BitVec 8) (vs : List Word) : Answer :=
  if misaligned (s.eaD8 ra d8) 4 then .next (s.alignment (s.eaD8 ra d8) true false)
  else (s.storeWords interruptible (s.eaD8 ra d8) 0 vs).next fun _ t => t.advance 4

/-- GPR0 and GPR3 to GPR12, in this order (R980). -/
def volatileGprs : List Reg := [0, 3, 4, 5, 6, 7, 8, 9, 10, 11, 12]

/-- CR, LR, CTR, XER written, in this order; XER keeps its implemented bits (R982). -/
def volatileSprWriters : List (Word → State → State) :=
  [fun v t => t.setCr v, fun v t => t.setLr v, fun v t => t.setCtr v, fun v t => t.setXer (v &&& 0xE000007F)]

/-! ## Meanings -/

/-- `se_isync` (R976). -/
def execSeIsync (s : State) : Answer := .next (s.advance 2)

/-- `se_sc` (R977). -/
def execSeSc (s : State) : Answer := .next (s.systemCall (s.pc + 2))

/-- `se_rfi` (R970). -/
def execSeRfi (s : State) : Answer := s.returnNonCritical

/-- `se_rfci` (R971). -/
def execSeRfci (s : State) : Answer := s.returnCritical

/-- `se_rfdi` (R972). -/
def execSeRfdi (s : State) : Answer := s.returnDebug

/-- `se_rfmci` (R973). -/
def execSeRfmci (s : State) : Answer := s.returnMachineCheck

/-- `se_dnh` (R979). The instruction has no operand fields and R979 does not say what the debug facility receives: the model
hands out dui = 0 and fills the low half of CPUSCR[IR] with zeros (DESIGN CHOICE, assumption log entry 26, unsafe). -/
def execSeDnh (s : State) : Answer := s.notifyHalt 0x000F0000 0

/-- `e_dnh` (R978). -/
def execEDnh (dui : BitVec 5) (duis : BitVec 10) (s : State) : Answer :=
  s.notifyHalt (putBits 6 5 dui (putBits 11 10 duis 0x7C0000C2)) dui

/-- `e_lmvgprw` (R980). -/
def execELmvgprw (ra : Reg) (d8 : BitVec 8) (s : State) : Answer :=
  s.loadGroup true ra d8 (volatileGprs.map fun r v t => t.setR r v)

/-- `e_stmvgprw` (R981). -/
def execEStmvgprw (ra : Reg) (d8 : BitVec 8) (s : State) : Answer := s.storeGroup true ra d8 (volatileGprs.map s.r)

/-- `e_lmvsprw` (R982). -/
def execELmvsprw (ra : Reg) (d8 : BitVec 8) (s : State) : Answer := s.loadGroup true ra d8 volatileSprWriters

/-- `e_stmvsprw` (R983). -/
def execEStmvsprw (ra : Reg) (d8 : BitVec 8) (s : State) : Answer := s.storeGroup true ra d8 [s.cr, s.lr, s.ctr, s.xer]

/-- `e_lmvsrrw` (R984). -/
def execELmvsrrw (ra : Reg) (d8 : BitVec 8) (s : State) : Answer :=
  s.supervisor fun u => u.loadGroup false ra d8 [fun v t => { t with int.srr0 := v }, fun v t => { t with int.srr1 := v }]

/-- `e_stmvsrrw` (R985). -/
def execEStmvsrrw (ra : Reg) (d8 : BitVec 8) (s : State) : Answer :=
  s.supervisor fun t => t.storeGroup false ra d8 [t.int.srr0, t.int.srr1]

/-- `e_lmvcsrrw` (R986). -/
def execELmvcsrrw (ra : Reg) (d8 : BitVec 8) (s : State) : Answer :=
  s.supervisor fun u => u.loadGroup false ra d8 [fun v t => { t with int.csrr0 := v }, fun v t => { t with int.csrr1 := v }]

/-- `e_stmvcsrrw` (R987). -/
def execEStmvcsrrw (ra : Reg) (d8 : BitVec 8) (s : State) : Answer :=
  s.supervisor fun t => t.storeGroup false ra d8 [t.int.csrr0, t.int.csrr1]

/-- `e_lmvdsrrw` (R988). -/
def execELmvdsrrw (ra : Reg) (d8 : BitVec 8) (s : State) : Answer :=
  s.supervisor fun u => u.loadGroup false ra d8 [fun v t => { t with int.dsrr0 := v }, fun v t => { t with int.dsrr1 := v }]

/-- `e_stmvdsrrw` (R989). -/
def execEStmvdsrrw (ra : Reg) (d8 : BitVec 8) (s : State) : Answer :=
  s.supervisor fun t => t.storeGroup false ra d8 [t.int.dsrr0, t.int.dsrr1]

/-- `e_lmvmcsrrw` (R990). -/
def execELmvmcsrrw (ra : Reg) (d8 : BitVec 8) (s : State) : Answer :=
  s.supervisor fun u => u.loadGroup false ra d8 [fun v t => { t with int.mcsrr0 := v }, fun v t => { t with int.mcsrr1 := v }]

/-- `e_stmvmcsrrw` (R991). -/
def execEStmvmcsrrw (ra : Reg) (d8 : BitVec 8) (s : State) : Answer :=
  s.supervisor fun t => t.storeGroup false ra d8 [t.int.mcsrr0, t.int.mcsrr1]

/-- `e_lmw` (R992). -/
def execELmw (rt ra : Reg) (d8 : BitVec 8) (s : State) : Answer := s.loadMultiple rt (s.eaD8 ra d8)

/-- `e_stmw` (R992). -/
def execEStmw (rs ra : Reg) (d8 : BitVec 8) (s : State) : Answer := s.storeMultiple rs (s.eaD8 ra d8)

end Sys2Proof.Machine
end

