-- ==== Sys2Proof/Syntax.lean ====
section
/-! DEFINITION. The instructions: one constructor for each row of spec/opcode_table.json, in the table's order.

A constructor is named after its mnemonic: a trailing period (record form) is written Rc, and the parts of a VLE mnemonic
are joined (se_rfi is seRfi). Its arguments are the operand fields of the row, each of exactly the width of the field, in
the order of their bit positions; bits the decoder ignores are not kept (spec/30_encoding.md R561). The rule after each
constructor is the one that defines it. -/

namespace Sys2Proof

inductive Instr where
  | add (rt : BitVec 5) (ra : BitVec 5) (rb : BitVec 5)  -- R610
  | addRc (rt : BitVec 5) (ra : BitVec 5) (rb : BitVec 5)  -- R610
  | addc (rt : BitVec 5) (ra : BitVec 5) (rb : BitVec 5)  -- R611
  | addcRc (rt : BitVec 5) (ra : BitVec 5) (rb : BitVec 5)  -- R611
  | addco (rt : BitVec 5) (ra : BitVec 5) (rb : BitVec 5)  -- R611
  | addcoRc (rt : BitVec 5) (ra : BitVec 5) (rb : BitVec 5)  -- R611
  | adde (rt : BitVec 5) (ra : BitVec 5) (rb : BitVec 5)  -- R612
  | addeRc (rt : BitVec 5) (ra : BitVec 5) (rb : BitVec 5)  -- R612
  | addeo (rt : BitVec 5) (ra : BitVec 5) (rb : BitVec 5)  -- R612
  | addeoRc (rt : BitVec 5) (ra : BitVec 5) (rb : BitVec 5)  -- R612
  | addi (rt : BitVec 5) (ra : BitVec 5) (si : BitVec 16)  -- R615
  | addic (rt : BitVec 5) (ra : BitVec 5) (si : BitVec 16)  -- R616
  | addicRc (rt : BitVec 5) (ra : BitVec 5) (si : BitVec 16)  -- R617
  | addis (rt : BitVec 5) (ra : BitVec 5) (si : BitVec 16)  -- R618
  | addme (rt : BitVec 5) (ra : BitVec 5)  -- R613
  | addmeRc (rt : BitVec 5) (ra : BitVec 5)  -- R613
  | addmeo (rt : BitVec 5) (ra : BitVec 5)  -- R613
  | addmeoRc (rt : BitVec 5) (ra : BitVec 5)  -- R613
  | addo (rt : BitVec 5) (ra : BitVec 5) (rb : BitVec 5)  -- R610
  | addoRc (rt : BitVec 5) (ra : BitVec 5) (rb : BitVec 5)  -- R610
  | addze (rt : BitVec 5) (ra : BitVec 5)  -- R614
  | addzeRc (rt : BitVec 5) (ra : BitVec 5)  -- R614
  | addzeo (rt : BitVec 5) (ra : BitVec 5)  -- R614
  | addzeoRc (rt : BitVec 5) (ra : BitVec 5)  -- R614
  | and (rs : BitVec 5) (ra : BitVec 5) (rb : BitVec 5)  -- R640
  | andRc (rs : BitVec 5) (ra : BitVec 5) (rb : BitVec 5)  -- R640
  | andc (rs : BitVec 5) (ra : BitVec 5) (rb : BitVec 5)  -- R641
  | andcRc (rs : BitVec 5) (ra : BitVec 5) (rb : BitVec 5)  -- R641
  | andiRc (rs : BitVec 5) (ra : BitVec 5) (ui : BitVec 16)  -- R648
  | andisRc (rs : BitVec 5) (ra : BitVec 5) (ui : BitVec 16)  -- R649
  | b (li : BitVec 24)  -- R702
  | ba (li : BitVec 24)  -- R702
  | bc (bo : BitVec 5) (bi : BitVec 5) (bd : BitVec 14)  -- R703
  | bca (bo : BitVec 5) (bi : BitVec 5) (bd : BitVec 14)  -- R703
  | bcctr (bo : BitVec 5) (bi : BitVec 5)  -- R705
  | bcctrl (bo : BitVec 5) (bi : BitVec 5)  -- R705
  | bcl (bo : BitVec 5) (bi : BitVec 5) (bd : BitVec 14)  -- R703
  | bcla (bo : BitVec 5) (bi : BitVec 5) (bd : BitVec 14)  -- R703
  | bclr (bo : BitVec 5) (bi : BitVec 5)  -- R704
  | bclrl (bo : BitVec 5) (bi : BitVec 5)  -- R704
  | bl (li : BitVec 24)  -- R702
  | bla (li : BitVec 24)  -- R702
  | cmp (bf : BitVec 3) (ra : BitVec 5) (rb : BitVec 5)  -- R670
  | cmpi (bf : BitVec 3) (ra : BitVec 5) (si : BitVec 16)  -- R671
  | cmpl (bf : BitVec 3) (ra : BitVec 5) (rb : BitVec 5)  -- R672
  | cmpli (bf : BitVec 3) (ra : BitVec 5) (ui : BitVec 16)  -- R673
  | cntlzw (rs : BitVec 5) (ra : BitVec 5)  -- R656
  | cntlzwRc (rs : BitVec 5) (ra : BitVec 5)  -- R656
  | crand (bt : BitVec 5) (ba : BitVec 5) (bb : BitVec 5)  -- R710
  | crandc (bt : BitVec 5) (ba : BitVec 5) (bb : BitVec 5)  -- R711
  | creqv (bt : BitVec 5) (ba : BitVec 5) (bb : BitVec 5)  -- R712
  | crnand (bt : BitVec 5) (ba : BitVec 5) (bb : BitVec 5)  -- R713
  | crnor (bt : BitVec 5) (ba : BitVec 5) (bb : BitVec 5)  -- R714
  | cror (bt : BitVec 5) (ba : BitVec 5) (bb : BitVec 5)  -- R715
  | crorc (bt : BitVec 5) (ba : BitVec 5) (bb : BitVec 5)  -- R716
  | crxor (bt : BitVec 5) (ba : BitVec 5) (bb : BitVec 5)  -- R717
  | dcba (ra : BitVec 5) (rb : BitVec 5)  -- R906
  | dcbf (ra : BitVec 5) (rb : BitVec 5)  -- R906
  | dcbi (ra : BitVec 5) (rb : BitVec 5)  -- R907
  | dcblc (ct : BitVec 5) (ra : BitVec 5) (rb : BitVec 5)  -- R905
  | dcbst (ra : BitVec 5) (rb : BitVec 5)  -- R906
  | dcbt (ct : BitVec 5) (ra : BitVec 5) (rb : BitVec 5)  -- R906
  | dcbtls (ct : BitVec 5) (ra : BitVec 5) (rb : BitVec 5)  -- R905
  | dcbtst (ct : BitVec 5) (ra : BitVec 5) (rb : BitVec 5)  -- R906
  | dcbtstls (ct : BitVec 5) (ra : BitVec 5) (rb : BitVec 5)  -- R905
  | dcbz (ra : BitVec 5) (rb : BitVec 5)  -- R903
  | divw (rt : BitVec 5) (ra : BitVec 5) (rb : BitVec 5)  -- R634
  | divwRc (rt : BitVec 5) (ra : BitVec 5) (rb : BitVec 5)  -- R634
  | divwo (rt : BitVec 5) (ra : BitVec 5) (rb : BitVec 5)  -- R634
  | divwoRc (rt : BitVec 5) (ra : BitVec 5) (rb : BitVec 5)  -- R634
  | divwu (rt : BitVec 5) (ra : BitVec 5) (rb : BitVec 5)  -- R635
  | divwuRc (rt : BitVec 5) (ra : BitVec 5) (rb : BitVec 5)  -- R635
  | divwuo (rt : BitVec 5) (ra : BitVec 5) (rb : BitVec 5)  -- R635
  | divwuoRc (rt : BitVec 5) (ra : BitVec 5) (rb : BitVec 5)  -- R635
  | eqv (rs : BitVec 5) (ra : BitVec 5) (rb : BitVec 5)  -- R647
  | eqvRc (rs : BitVec 5) (ra : BitVec 5) (rb : BitVec 5)  -- R647
  | extsb (rs : BitVec 5) (ra : BitVec 5)  -- R654
  | extsbRc (rs : BitVec 5) (ra : BitVec 5)  -- R654
  | extsh (rs : BitVec 5) (ra : BitVec 5)  -- R655
  | extshRc (rs : BitVec 5) (ra : BitVec 5)  -- R655
  | icbi (ra : BitVec 5) (rb : BitVec 5)  -- R900
  | icblc (ct : BitVec 5) (ra : BitVec 5) (rb : BitVec 5)  -- R904
  | icbt (ct : BitVec 5) (ra : BitVec 5) (rb : BitVec 5)  -- R901
  | icbtls (ct : BitVec 5) (ra : BitVec 5) (rb : BitVec 5)  -- R902
  | isel (rt : BitVec 5) (ra : BitVec 5) (rb : BitVec 5) (bc : BitVec 5)  -- R725
  | isync  -- R880
  | lbz (rt : BitVec 5) (ra : BitVec 5) (d : BitVec 16)  -- R760
  | lbzu (rt : BitVec 5) (ra : BitVec 5) (d : BitVec 16)  -- R761
  | lbzux (rt : BitVec 5) (ra : BitVec 5) (rb : BitVec 5)  -- R763
  | lbzx (rt : BitVec 5) (ra : BitVec 5) (rb : BitVec 5)  -- R762
  | lha (rt : BitVec 5) (ra : BitVec 5) (d : BitVec 16)  -- R768
  | lhau (rt : BitVec 5) (ra : BitVec 5) (d : BitVec 16)  -- R769
  | lhaux (rt : BitVec 5) (ra : BitVec 5) (rb : BitVec 5)  -- R771
  | lhax (rt : BitVec 5) (ra : BitVec 5) (rb : BitVec 5)  -- R770
  | lhbrx (rt : BitVec 5) (ra : BitVec 5) (rb : BitVec 5)  -- R800
  | lhz (rt : BitVec 5) (ra : BitVec 5) (d : BitVec 16)  -- R764
  | lhzu (rt : BitVec 5) (ra : BitVec 5) (d : BitVec 16)  -- R765
  | lhzux (rt : BitVec 5) (ra : BitVec 5) (rb : BitVec 5)  -- R767
  | lhzx (rt : BitVec 5) (ra : BitVec 5) (rb : BitVec 5)  -- R766
  | lmw (rt : BitVec 5) (ra : BitVec 5) (d : BitVec 16)  -- R810
  | lwarx (rt : BitVec 5) (ra : BitVec 5) (rb : BitVec 5)  -- R820
  | lwbrx (rt : BitVec 5) (ra : BitVec 5) (rb : BitVec 5)  -- R801
  | lwz (rt : BitVec 5) (ra : BitVec 5) (d : BitVec 16)  -- R772
  | lwzu (rt : BitVec 5) (ra : BitVec 5) (d : BitVec 16)  -- R773
  | lwzux (rt : BitVec 5) (ra : BitVec 5) (rb : BitVec 5)  -- R775
  | lwzx (rt : BitVec 5) (ra : BitVec 5) (rb : BitVec 5)  -- R774
  | mbar (mo : BitVec 5)  -- R841
  | mcrf (bf : BitVec 3) (bfa : BitVec 3)  -- R720
  | mcrxr (bf : BitVec 3)  -- R721
  | mfcr (rt : BitVec 5)  -- R723
  | mfdcr (rt : BitVec 5) (dcrn : BitVec 10)  -- R866
  | mfmsr (rt : BitVec 5)  -- R861
  | mfspr (rt : BitVec 5) (sprn : BitVec 10)  -- R868
  | msync  -- R840
  | mtcrf (rs : BitVec 5) (fxm : BitVec 8)  -- R722
  | mtdcr (rs : BitVec 5) (dcrn : BitVec 10)  -- R867
  | mtmsr (rs : BitVec 5)  -- R860
  | mtspr (rs : BitVec 5) (sprn : BitVec 10)  -- R869
  | mulhw (rt : BitVec 5) (ra : BitVec 5) (rb : BitVec 5)  -- R632
  | mulhwRc (rt : BitVec 5) (ra : BitVec 5) (rb : BitVec 5)  -- R632
  | mulhwu (rt : BitVec 5) (ra : BitVec 5) (rb : BitVec 5)  -- R633
  | mulhwuRc (rt : BitVec 5) (ra : BitVec 5) (rb : BitVec 5)  -- R633
  | mulli (rt : BitVec 5) (ra : BitVec 5) (si : BitVec 16)  -- R631
  | mullw (rt : BitVec 5) (ra : BitVec 5) (rb : BitVec 5)  -- R630
  | mullwRc (rt : BitVec 5) (ra : BitVec 5) (rb : BitVec 5)  -- R630
  | mullwo (rt : BitVec 5) (ra : BitVec 5) (rb : BitVec 5)  -- R630
  | mullwoRc (rt : BitVec 5) (ra : BitVec 5) (rb : BitVec 5)  -- R630
  | nand (rs : BitVec 5) (ra : BitVec 5) (rb : BitVec 5)  -- R645
  | nandRc (rs : BitVec 5) (ra : BitVec 5) (rb : BitVec 5)  -- R645
  | neg (rt : BitVec 5) (ra : BitVec 5)  -- R626
  | negRc (rt : BitVec 5) (ra : BitVec 5)  -- R626
  | nego (rt : BitVec 5) (ra : BitVec 5)  -- R626
  | negoRc (rt : BitVec 5) (ra : BitVec 5)  -- R626
  | nor (rs : BitVec 5) (ra : BitVec 5) (rb : BitVec 5)  -- R646
  | norRc (rs : BitVec 5) (ra : BitVec 5) (rb : BitVec 5)  -- R646
  | or (rs : BitVec 5) (ra : BitVec 5) (rb : BitVec 5)  -- R642
  | orRc (rs : BitVec 5) (ra : BitVec 5) (rb : BitVec 5)  -- R642
  | orc (rs : BitVec 5) (ra : BitVec 5) (rb : BitVec 5)  -- R643
  | orcRc (rs : BitVec 5) (ra : BitVec 5) (rb : BitVec 5)  -- R643
  | ori (rs : BitVec 5) (ra : BitVec 5) (ui : BitVec 16)  -- R650
  | oris (rs : BitVec 5) (ra : BitVec 5) (ui : BitVec 16)  -- R651
  | rfci  -- R856
  | rfdi  -- R857
  | rfi  -- R855
  | rfmci  -- R858
  | rlwimi (rs : BitVec 5) (ra : BitVec 5) (sh : BitVec 5) (mb : BitVec 5) (me : BitVec 5)  -- R660
  | rlwimiRc (rs : BitVec 5) (ra : BitVec 5) (sh : BitVec 5) (mb : BitVec 5) (me : BitVec 5)  -- R660
  | rlwinm (rs : BitVec 5) (ra : BitVec 5) (sh : BitVec 5) (mb : BitVec 5) (me : BitVec 5)  -- R661
  | rlwinmRc (rs : BitVec 5) (ra : BitVec 5) (sh : BitVec 5) (mb : BitVec 5) (me : BitVec 5)  -- R661
  | rlwnm (rs : BitVec 5) (ra : BitVec 5) (rb : BitVec 5) (mb : BitVec 5) (me : BitVec 5)  -- R662
  | rlwnmRc (rs : BitVec 5) (ra : BitVec 5) (rb : BitVec 5) (mb : BitVec 5) (me : BitVec 5)  -- R662
  | sc  -- R850
  | slw (rs : BitVec 5) (ra : BitVec 5) (rb : BitVec 5)  -- R663
  | slwRc (rs : BitVec 5) (ra : BitVec 5) (rb : BitVec 5)  -- R663
  | sraw (rs : BitVec 5) (ra : BitVec 5) (rb : BitVec 5)  -- R665
  | srawRc (rs : BitVec 5) (ra : BitVec 5) (rb : BitVec 5)  -- R665
  | srawi (rs : BitVec 5) (ra : BitVec 5) (sh : BitVec 5)  -- R666
  | srawiRc (rs : BitVec 5) (ra : BitVec 5) (sh : BitVec 5)  -- R666
  | srw (rs : BitVec 5) (ra : BitVec 5) (rb : BitVec 5)  -- R664
  | srwRc (rs : BitVec 5) (ra : BitVec 5) (rb : BitVec 5)  -- R664
  | stb (rs : BitVec 5) (ra : BitVec 5) (d : BitVec 16)  -- R780
  | stbu (rs : BitVec 5) (ra : BitVec 5) (d : BitVec 16)  -- R781
  | stbux (rs : BitVec 5) (ra : BitVec 5) (rb : BitVec 5)  -- R783
  | stbx (rs : BitVec 5) (ra : BitVec 5) (rb : BitVec 5)  -- R782
  | sth (rs : BitVec 5) (ra : BitVec 5) (d : BitVec 16)  -- R784
  | sthbrx (rs : BitVec 5) (ra : BitVec 5) (rb : BitVec 5)  -- R802
  | sthu (rs : BitVec 5) (ra : BitVec 5) (d : BitVec 16)  -- R785
  | sthux (rs : BitVec 5) (ra : BitVec 5) (rb : BitVec 5)  -- R787
  | sthx (rs : BitVec 5) (ra : BitVec 5) (rb : BitVec 5)  -- R786
  | stmw (rs : BitVec 5) (ra : BitVec 5) (d : BitVec 16)  -- R811
  | stw (rs : BitVec 5) (ra : BitVec 5) (d : BitVec 16)  -- R788
  | stwbrx (rs : BitVec 5) (ra : BitVec 5) (rb : BitVec 5)  -- R803
  | stwcxRc (rs : BitVec 5) (ra : BitVec 5) (rb : BitVec 5)  -- R831
  | stwu (rs : BitVec 5) (ra : BitVec 5) (d : BitVec 16)  -- R789
  | stwux (rs : BitVec 5) (ra : BitVec 5) (rb : BitVec 5)  -- R791
  | stwx (rs : BitVec 5) (ra : BitVec 5) (rb : BitVec 5)  -- R790
  | subf (rt : BitVec 5) (ra : BitVec 5) (rb : BitVec 5)  -- R620
  | subfRc (rt : BitVec 5) (ra : BitVec 5) (rb : BitVec 5)  -- R620
  | subfc (rt : BitVec 5) (ra : BitVec 5) (rb : BitVec 5)  -- R621
  | subfcRc (rt : BitVec 5) (ra : BitVec 5) (rb : BitVec 5)  -- R621
  | subfco (rt : BitVec 5) (ra : BitVec 5) (rb : BitVec 5)  -- R621
  | subfcoRc (rt : BitVec 5) (ra : BitVec 5) (rb : BitVec 5)  -- R621
  | subfe (rt : BitVec 5) (ra : BitVec 5) (rb : BitVec 5)  -- R622
  | subfeRc (rt : BitVec 5) (ra : BitVec 5) (rb : BitVec 5)  -- R622
  | subfeo (rt : BitVec 5) (ra : BitVec 5) (rb : BitVec 5)  -- R622
  | subfeoRc (rt : BitVec 5) (ra : BitVec 5) (rb : BitVec 5)  -- R622
  | subfic (rt : BitVec 5) (ra : BitVec 5) (si : BitVec 16)  -- R625
  | subfme (rt : BitVec 5) (ra : BitVec 5)  -- R623
  | subfmeRc (rt : BitVec 5) (ra : BitVec 5)  -- R623
  | subfmeo (rt : BitVec 5) (ra : BitVec 5)  -- R623
  | subfmeoRc (rt : BitVec 5) (ra : BitVec 5)  -- R623
  | subfo (rt : BitVec 5) (ra : BitVec 5) (rb : BitVec 5)  -- R620
  | subfoRc (rt : BitVec 5) (ra : BitVec 5) (rb : BitVec 5)  -- R620
  | subfze (rt : BitVec 5) (ra : BitVec 5)  -- R624
  | subfzeRc (rt : BitVec 5) (ra : BitVec 5)  -- R624
  | subfzeo (rt : BitVec 5) (ra : BitVec 5)  -- R624
  | subfzeoRc (rt : BitVec 5) (ra : BitVec 5)  -- R624
  | tlbivax (ra : BitVec 5) (rb : BitVec 5)  -- R913
  | tlbre  -- R910
  | tlbsx (ra : BitVec 5) (rb : BitVec 5)  -- R912
  | tlbsync  -- R914
  | tlbwe  -- R911
  | tw (tcond : BitVec 5) (ra : BitVec 5) (rb : BitVec 5)  -- R680
  | twi (tcond : BitVec 5) (ra : BitVec 5) (si : BitVec 16)  -- R681
  | wrtee (rs : BitVec 5)  -- R862
  | wrteei (e : BitVec 1)  -- R863
  | xor (rs : BitVec 5) (ra : BitVec 5) (rb : BitVec 5)  -- R644
  | xorRc (rs : BitVec 5) (ra : BitVec 5) (rb : BitVec 5)  -- R644
  | xori (rs : BitVec 5) (ra : BitVec 5) (ui : BitVec 16)  -- R652
  | xoris (rs : BitVec 5) (ra : BitVec 5) (ui : BitVec 16)  -- R653
  | wait  -- R885
  | lbarx (rt : BitVec 5) (ra : BitVec 5) (rb : BitVec 5)  -- R822
  | lharx (rt : BitVec 5) (ra : BitVec 5) (rb : BitVec 5)  -- R821
  | stbcxRc (rs : BitVec 5) (ra : BitVec 5) (rb : BitVec 5)  -- R833
  | sthcxRc (rs : BitVec 5) (ra : BitVec 5) (rb : BitVec 5)  -- R832
  | dnh (dui : BitVec 5) (duis : BitVec 10)  -- R890
  | seIsync  -- R976
  | seSc  -- R977
  | seRfi  -- R970
  | seRfci  -- R971
  | seRfdi  -- R972
  | seRfmci  -- R973
  | seDnh  -- R979
  | eDnh (dui : BitVec 5) (duis : BitVec 10)  -- R978
  | eLmvgprw (ra : BitVec 5) (d8 : BitVec 8)  -- R980
  | eStmvgprw (ra : BitVec 5) (d8 : BitVec 8)  -- R981
  | eLmvsprw (ra : BitVec 5) (d8 : BitVec 8)  -- R982
  | eStmvsprw (ra : BitVec 5) (d8 : BitVec 8)  -- R983
  | eLmvsrrw (ra : BitVec 5) (d8 : BitVec 8)  -- R984
  | eStmvsrrw (ra : BitVec 5) (d8 : BitVec 8)  -- R985
  | eLmvcsrrw (ra : BitVec 5) (d8 : BitVec 8)  -- R986
  | eStmvcsrrw (ra : BitVec 5) (d8 : BitVec 8)  -- R987
  | eLmvdsrrw (ra : BitVec 5) (d8 : BitVec 8)  -- R988
  | eStmvdsrrw (ra : BitVec 5) (d8 : BitVec 8)  -- R989
  | eLmvmcsrrw (ra : BitVec 5) (d8 : BitVec 8)  -- R990
  | eStmvmcsrrw (ra : BitVec 5) (d8 : BitVec 8)  -- R991
  | eLmw (rt : BitVec 5) (ra : BitVec 5) (d8 : BitVec 8)  -- R992
  | eStmw (rs : BitVec 5) (ra : BitVec 5) (d8 : BitVec 8)  -- R992
  | efsabs (rd : BitVec 5) (ra : BitVec 5)  -- R1120
  | efsnabs (rd : BitVec 5) (ra : BitVec 5)  -- R1121
  | efsneg (rd : BitVec 5) (ra : BitVec 5)  -- R1122
  | efsadd (rd : BitVec 5) (ra : BitVec 5) (rb : BitVec 5)  -- R1123
  | efssub (rd : BitVec 5) (ra : BitVec 5) (rb : BitVec 5)  -- R1124
  | efsmul (rd : BitVec 5) (ra : BitVec 5) (rb : BitVec 5)  -- R1125
  | efsdiv (rd : BitVec 5) (ra : BitVec 5) (rb : BitVec 5)  -- R1126
  | efsmadd (rd : BitVec 5) (ra : BitVec 5) (rb : BitVec 5)  -- R1127
  | efsmsub (rd : BitVec 5) (ra : BitVec 5) (rb : BitVec 5)  -- R1128
  | efsnmadd (rd : BitVec 5) (ra : BitVec 5) (rb : BitVec 5)  -- R1129
  | efsnmsub (rd : BitVec 5) (ra : BitVec 5) (rb : BitVec 5)  -- R1130
  | efssqrt (rd : BitVec 5) (ra : BitVec 5)  -- R1131
  | efsmax (rd : BitVec 5) (ra : BitVec 5) (rb : BitVec 5)  -- R1132
  | efsmin (rd : BitVec 5) (ra : BitVec 5) (rb : BitVec 5)  -- R1133
  | efscmpgt (crfD : BitVec 3) (ra : BitVec 5) (rb : BitVec 5)  -- R1134
  | efscmplt (crfD : BitVec 3) (ra : BitVec 5) (rb : BitVec 5)  -- R1135
  | efscmpeq (crfD : BitVec 3) (ra : BitVec 5) (rb : BitVec 5)  -- R1136
  | efststgt (crfD : BitVec 3) (ra : BitVec 5) (rb : BitVec 5)  -- R1137
  | efststlt (crfD : BitVec 3) (ra : BitVec 5) (rb : BitVec 5)  -- R1138
  | efststeq (crfD : BitVec 3) (ra : BitVec 5) (rb : BitVec 5)  -- R1139
  | efscfui (rd : BitVec 5) (rb : BitVec 5)  -- R1140
  | efscfsi (rd : BitVec 5) (rb : BitVec 5)  -- R1141
  | efscfuf (rd : BitVec 5) (rb : BitVec 5)  -- R1142
  | efscfsf (rd : BitVec 5) (rb : BitVec 5)  -- R1143
  | efscfh (rd : BitVec 5) (rb : BitVec 5)  -- R1144
  | efsctui (rd : BitVec 5) (rb : BitVec 5)  -- R1145
  | efsctsi (rd : BitVec 5) (rb : BitVec 5)  -- R1146
  | efsctuiz (rd : BitVec 5) (rb : BitVec 5)  -- R1147
  | efsctsiz (rd : BitVec 5) (rb : BitVec 5)  -- R1148
  | efsctuf (rd : BitVec 5) (rb : BitVec 5)  -- R1149
  | efsctsf (rd : BitVec 5) (rb : BitVec 5)  -- R1150
  | efscth (rd : BitVec 5) (rb : BitVec 5)  -- R1151
  | evfsabs (rd : BitVec 5) (ra : BitVec 5)  -- R1210
  | evfsnabs (rd : BitVec 5) (ra : BitVec 5)  -- R1211
  | evfsneg (rd : BitVec 5) (ra : BitVec 5)  -- R1212
  | evfsadd (rd : BitVec 5) (ra : BitVec 5) (rb : BitVec 5)  -- R1213
  | evfssub (rd : BitVec 5) (ra : BitVec 5) (rb : BitVec 5)  -- R1214
  | evfsaddsub (rd : BitVec 5) (ra : BitVec 5) (rb : BitVec 5)  -- R1215
  | evfssubadd (rd : BitVec 5) (ra : BitVec 5) (rb : BitVec 5)  -- R1216
  | evfsaddx (rd : BitVec 5) (ra : BitVec 5) (rb : BitVec 5)  -- R1217
  | evfssubx (rd : BitVec 5) (ra : BitVec 5) (rb : BitVec 5)  -- R1218
  | evfsaddsubx (rd : BitVec 5) (ra : BitVec 5) (rb : BitVec 5)  -- R1219
  | evfssubaddx (rd : BitVec 5) (ra : BitVec 5) (rb : BitVec 5)  -- R1220
  | evfssum (rd : BitVec 5) (ra : BitVec 5) (rb : BitVec 5)  -- R1221
  | evfsdiff (rd : BitVec 5) (ra : BitVec 5) (rb : BitVec 5)  -- R1222
  | evfssumdiff (rd : BitVec 5) (ra : BitVec 5) (rb : BitVec 5)  -- R1223
  | evfsdiffsum (rd : BitVec 5) (ra : BitVec 5) (rb : BitVec 5)  -- R1224
  | evfsmul (rd : BitVec 5) (ra : BitVec 5) (rb : BitVec 5)  -- R1225
  | evfsmule (rd : BitVec 5) (ra : BitVec 5) (rb : BitVec 5)  -- R1226
  | evfsmulo (rd : BitVec 5) (ra : BitVec 5) (rb : BitVec 5)  -- R1227
  | evfsmulx (rd : BitVec 5) (ra : BitVec 5) (rb : BitVec 5)  -- R1228
  | evfsdiv (rd : BitVec 5) (ra : BitVec 5) (rb : BitVec 5)  -- R1229
  | evfsmadd (rd : BitVec 5) (ra : BitVec 5) (rb : BitVec 5)  -- R1230
  | evfsmsub (rd : BitVec 5) (ra : BitVec 5) (rb : BitVec 5)  -- R1231
  | evfsnmadd (rd : BitVec 5) (ra : BitVec 5) (rb : BitVec 5)  -- R1232
  | evfsnmsub (rd : BitVec 5) (ra : BitVec 5) (rb : BitVec 5)  -- R1233
  | evfssqrt (rd : BitVec 5) (ra : BitVec 5)  -- R1234
  | evfsmax (rd : BitVec 5) (ra : BitVec 5) (rb : BitVec 5)  -- R1235
  | evfsmin (rd : BitVec 5) (ra : BitVec 5) (rb : BitVec 5)  -- R1236
  | evfscmpgt (crfD : BitVec 3) (ra : BitVec 5) (rb : BitVec 5)  -- R1237
  | evfscmplt (crfD : BitVec 3) (ra : BitVec 5) (rb : BitVec 5)  -- R1238
  | evfscmpeq (crfD : BitVec 3) (ra : BitVec 5) (rb : BitVec 5)  -- R1239
  | evfststgt (crfD : BitVec 3) (ra : BitVec 5) (rb : BitVec 5)  -- R1240
  | evfststlt (crfD : BitVec 3) (ra : BitVec 5) (rb : BitVec 5)  -- R1241
  | evfststeq (crfD : BitVec 3) (ra : BitVec 5) (rb : BitVec 5)  -- R1242
  | evfscfui (rd : BitVec 5) (rb : BitVec 5)  -- R1243
  | evfscfsi (rd : BitVec 5) (rb : BitVec 5)  -- R1244
  | evfscfuf (rd : BitVec 5) (rb : BitVec 5)  -- R1245
  | evfscfsf (rd : BitVec 5) (rb : BitVec 5)  -- R1246
  | evfscfh (rd : BitVec 5) (rb : BitVec 5)  -- R1247
  | evfscth (rd : BitVec 5) (rb : BitVec 5)  -- R1248
  | evfsctui (rd : BitVec 5) (rb : BitVec 5)  -- R1249
  | evfsctsi (rd : BitVec 5) (rb : BitVec 5)  -- R1250
  | evfsctuiz (rd : BitVec 5) (rb : BitVec 5)  -- R1251
  | evfsctsiz (rd : BitVec 5) (rb : BitVec 5)  -- R1252
  | evfsctuf (rd : BitVec 5) (rb : BitVec 5)  -- R1253
  | evfsctsf (rd : BitVec 5) (rb : BitVec 5)  -- R1254
  | brinc (rd : BitVec 5) (ra : BitVec 5) (rb : BitVec 5)  -- R1310
  | evabs (rd : BitVec 5) (ra : BitVec 5)  -- R1311
  | evaddiw (rd : BitVec 5) (uimm : BitVec 5) (rb : BitVec 5)  -- R1312
  | evaddw (rd : BitVec 5) (ra : BitVec 5) (rb : BitVec 5)  -- R1313
  | evneg (rd : BitVec 5) (ra : BitVec 5)  -- R1314
  | evsubfw (rd : BitVec 5) (ra : BitVec 5) (rb : BitVec 5)  -- R1315
  | evsubifw (rd : BitVec 5) (uimm : BitVec 5) (rb : BitVec 5)  -- R1316
  | evand (rd : BitVec 5) (ra : BitVec 5) (rb : BitVec 5)  -- R1320
  | evandc (rd : BitVec 5) (ra : BitVec 5) (rb : BitVec 5)  -- R1321
  | eveqv (rd : BitVec 5) (ra : BitVec 5) (rb : BitVec 5)  -- R1322
  | evnand (rd : BitVec 5) (ra : BitVec 5) (rb : BitVec 5)  -- R1323
  | evnor (rd : BitVec 5) (ra : BitVec 5) (rb : BitVec 5)  -- R1324
  | evor (rd : BitVec 5) (ra : BitVec 5) (rb : BitVec 5)  -- R1325
  | evorc (rd : BitVec 5) (ra : BitVec 5) (rb : BitVec 5)  -- R1326
  | evxor (rd : BitVec 5) (ra : BitVec 5) (rb : BitVec 5)  -- R1327
  | evcmpeq (crfD : BitVec 3) (ra : BitVec 5) (rb : BitVec 5)  -- R1330
  | evcmpgts (crfD : BitVec 3) (ra : BitVec 5) (rb : BitVec 5)  -- R1331
  | evcmpgtu (crfD : BitVec 3) (ra : BitVec 5) (rb : BitVec 5)  -- R1332
  | evcmplts (crfD : BitVec 3) (ra : BitVec 5) (rb : BitVec 5)  -- R1333
  | evcmpltu (crfD : BitVec 3) (ra : BitVec 5) (rb : BitVec 5)  -- R1334
  | evcntlsw (rd : BitVec 5) (ra : BitVec 5)  -- R1340
  | evcntlzw (rd : BitVec 5) (ra : BitVec 5)  -- R1341
  | evextsb (rd : BitVec 5) (ra : BitVec 5)  -- R1342
  | evextsh (rd : BitVec 5) (ra : BitVec 5)  -- R1343
  | evmergehi (rd : BitVec 5) (ra : BitVec 5) (rb : BitVec 5)  -- R1350
  | evmergehilo (rd : BitVec 5) (ra : BitVec 5) (rb : BitVec 5)  -- R1351
  | evmergelo (rd : BitVec 5) (ra : BitVec 5) (rb : BitVec 5)  -- R1352
  | evmergelohi (rd : BitVec 5) (ra : BitVec 5) (rb : BitVec 5)  -- R1353
  | evrlw (rd : BitVec 5) (ra : BitVec 5) (rb : BitVec 5)  -- R1360
  | evrlwi (rd : BitVec 5) (ra : BitVec 5) (uimm : BitVec 5)  -- R1361
  | evrndw (rd : BitVec 5) (ra : BitVec 5)  -- R1362
  | evsel (rd : BitVec 5) (ra : BitVec 5) (rb : BitVec 5) (crfS : BitVec 3)  -- R1363
  | evslw (rd : BitVec 5) (ra : BitVec 5) (rb : BitVec 5)  -- R1370
  | evslwi (rd : BitVec 5) (ra : BitVec 5) (uimm : BitVec 5)  -- R1371
  | evsrwis (rd : BitVec 5) (ra : BitVec 5) (uimm : BitVec 5)  -- R1372
  | evsrwiu (rd : BitVec 5) (ra : BitVec 5) (uimm : BitVec 5)  -- R1373
  | evsrws (rd : BitVec 5) (ra : BitVec 5) (rb : BitVec 5)  -- R1374
  | evsrwu (rd : BitVec 5) (ra : BitVec 5) (rb : BitVec 5)  -- R1375
  | evsplatfi (rd : BitVec 5) (simm : BitVec 5)  -- R1380
  | evsplati (rd : BitVec 5) (simm : BitVec 5)  -- R1381
  | evdivws (rd : BitVec 5) (ra : BitVec 5) (rb : BitVec 5)  -- R1390
  | evdivwu (rd : BitVec 5) (ra : BitVec 5) (rb : BitVec 5)  -- R1391
  | evmwhsmf (rd : BitVec 5) (ra : BitVec 5) (rb : BitVec 5)  -- R1600
  | evmwhsmfa (rd : BitVec 5) (ra : BitVec 5) (rb : BitVec 5)  -- R1601
  | evmwhsmi (rd : BitVec 5) (ra : BitVec 5) (rb : BitVec 5)  -- R1602
  | evmwhsmia (rd : BitVec 5) (ra : BitVec 5) (rb : BitVec 5)  -- R1603
  | evmwhssf (rd : BitVec 5) (ra : BitVec 5) (rb : BitVec 5)  -- R1604
  | evmwhssfa (rd : BitVec 5) (ra : BitVec 5) (rb : BitVec 5)  -- R1605
  | evmwhumi (rd : BitVec 5) (ra : BitVec 5) (rb : BitVec 5)  -- R1606
  | evmwhumia (rd : BitVec 5) (ra : BitVec 5) (rb : BitVec 5)  -- R1607
  | evmwlsmiaaw (rd : BitVec 5) (ra : BitVec 5) (rb : BitVec 5)  -- R1610
  | evmwlsmianw (rd : BitVec 5) (ra : BitVec 5) (rb : BitVec 5)  -- R1611
  | evmwlssiaaw (rd : BitVec 5) (ra : BitVec 5) (rb : BitVec 5)  -- R1612
  | evmwlssianw (rd : BitVec 5) (ra : BitVec 5) (rb : BitVec 5)  -- R1613
  | evmwlumi (rd : BitVec 5) (ra : BitVec 5) (rb : BitVec 5)  -- R1614
  | evmwlumia (rd : BitVec 5) (ra : BitVec 5) (rb : BitVec 5)  -- R1615
  | evmwlumiaaw (rd : BitVec 5) (ra : BitVec 5) (rb : BitVec 5)  -- R1616
  | evmwlumianw (rd : BitVec 5) (ra : BitVec 5) (rb : BitVec 5)  -- R1617
  | evmwlusiaaw (rd : BitVec 5) (ra : BitVec 5) (rb : BitVec 5)  -- R1618
  | evmwlusianw (rd : BitVec 5) (ra : BitVec 5) (rb : BitVec 5)  -- R1619
  | evmwsmf (rd : BitVec 5) (ra : BitVec 5) (rb : BitVec 5)  -- R1620
  | evmwsmfa (rd : BitVec 5) (ra : BitVec 5) (rb : BitVec 5)  -- R1621
  | evmwsmfaa (rd : BitVec 5) (ra : BitVec 5) (rb : BitVec 5)  -- R1622
  | evmwsmfan (rd : BitVec 5) (ra : BitVec 5) (rb : BitVec 5)  -- R1623
  | evmwsmi (rd : BitVec 5) (ra : BitVec 5) (rb : BitVec 5)  -- R1624
  | evmwsmia (rd : BitVec 5) (ra : BitVec 5) (rb : BitVec 5)  -- R1625
  | evmwsmiaa (rd : BitVec 5) (ra : BitVec 5) (rb : BitVec 5)  -- R1626
  | evmwsmian (rd : BitVec 5) (ra : BitVec 5) (rb : BitVec 5)  -- R1627
  | evmwssf (rd : BitVec 5) (ra : BitVec 5) (rb : BitVec 5)  -- R1628
  | evmwssfa (rd : BitVec 5) (ra : BitVec 5) (rb : BitVec 5)  -- R1629
  | evmwssfaa (rd : BitVec 5) (ra : BitVec 5) (rb : BitVec 5)  -- R1630
  | evmwssfan (rd : BitVec 5) (ra : BitVec 5) (rb : BitVec 5)  -- R1631
  | evmwumi (rd : BitVec 5) (ra : BitVec 5) (rb : BitVec 5)  -- R1632
  | evmwumia (rd : BitVec 5) (ra : BitVec 5) (rb : BitVec 5)  -- R1633
  | evmwumiaa (rd : BitVec 5) (ra : BitVec 5) (rb : BitVec 5)  -- R1634
  | evmwumian (rd : BitVec 5) (ra : BitVec 5) (rb : BitVec 5)  -- R1635
  | evaddsmiaaw (rd : BitVec 5) (ra : BitVec 5)  -- R1680
  | evaddssiaaw (rd : BitVec 5) (ra : BitVec 5)  -- R1681
  | evaddumiaaw (rd : BitVec 5) (ra : BitVec 5)  -- R1682
  | evaddusiaaw (rd : BitVec 5) (ra : BitVec 5)  -- R1683
  | evsubfsmiaaw (rd : BitVec 5) (ra : BitVec 5)  -- R1684
  | evsubfssiaaw (rd : BitVec 5) (ra : BitVec 5)  -- R1685
  | evsubfumiaaw (rd : BitVec 5) (ra : BitVec 5)  -- R1686
  | evsubfusiaaw (rd : BitVec 5) (ra : BitVec 5)  -- R1687
  | evmra (rd : BitVec 5) (ra : BitVec 5)  -- R1690
  | evmhegsmfaa (rd : BitVec 5) (ra : BitVec 5) (rb : BitVec 5)  -- R1520
  | evmhegsmfan (rd : BitVec 5) (ra : BitVec 5) (rb : BitVec 5)  -- R1521
  | evmhegsmiaa (rd : BitVec 5) (ra : BitVec 5) (rb : BitVec 5)  -- R1522
  | evmhegsmian (rd : BitVec 5) (ra : BitVec 5) (rb : BitVec 5)  -- R1523
  | evmhegumiaa (rd : BitVec 5) (ra : BitVec 5) (rb : BitVec 5)  -- R1524
  | evmhegumian (rd : BitVec 5) (ra : BitVec 5) (rb : BitVec 5)  -- R1525
  | evmhesmf (rd : BitVec 5) (ra : BitVec 5) (rb : BitVec 5)  -- R1526
  | evmhesmfa (rd : BitVec 5) (ra : BitVec 5) (rb : BitVec 5)  -- R1527
  | evmhesmfaaw (rd : BitVec 5) (ra : BitVec 5) (rb : BitVec 5)  -- R1528
  | evmhesmfanw (rd : BitVec 5) (ra : BitVec 5) (rb : BitVec 5)  -- R1529
  | evmhesmi (rd : BitVec 5) (ra : BitVec 5) (rb : BitVec 5)  -- R1530
  | evmhesmia (rd : BitVec 5) (ra : BitVec 5) (rb : BitVec 5)  -- R1531
  | evmhesmiaaw (rd : BitVec 5) (ra : BitVec 5) (rb : BitVec 5)  -- R1532
  | evmhesmianw (rd : BitVec 5) (ra : BitVec 5) (rb : BitVec 5)  -- R1533
  | evmhessf (rd : BitVec 5) (ra : BitVec 5) (rb : BitVec 5)  -- R1534
  | evmhessfa (rd : BitVec 5) (ra : BitVec 5) (rb : BitVec 5)  -- R1535
  | evmhessfaaw (rd : BitVec 5) (ra : BitVec 5) (rb : BitVec 5)  -- R1536
  | evmhessfanw (rd : BitVec 5) (ra : BitVec 5) (rb : BitVec 5)  -- R1537
  | evmhessiaaw (rd : BitVec 5) (ra : BitVec 5) (rb : BitVec 5)  -- R1538
  | evmhessianw (rd : BitVec 5) (ra : BitVec 5) (rb : BitVec 5)  -- R1539
  | evmheumi (rd : BitVec 5) (ra : BitVec 5) (rb : BitVec 5)  -- R1540
  | evmheumia (rd : BitVec 5) (ra : BitVec 5) (rb : BitVec 5)  -- R1541
  | evmheumiaaw (rd : BitVec 5) (ra : BitVec 5) (rb : BitVec 5)  -- R1542
  | evmheumianw (rd : BitVec 5) (ra : BitVec 5) (rb : BitVec 5)  -- R1543
  | evmheusiaaw (rd : BitVec 5) (ra : BitVec 5) (rb : BitVec 5)  -- R1544
  | evmheusianw (rd : BitVec 5) (ra : BitVec 5) (rb : BitVec 5)  -- R1545
  | evmhogsmfaa (rd : BitVec 5) (ra : BitVec 5) (rb : BitVec 5)  -- R1550
  | evmhogsmfan (rd : BitVec 5) (ra : BitVec 5) (rb : BitVec 5)  -- R1551
  | evmhogsmiaa (rd : BitVec 5) (ra : BitVec 5) (rb : BitVec 5)  -- R1552
  | evmhogsmian (rd : BitVec 5) (ra : BitVec 5) (rb : BitVec 5)  -- R1553
  | evmhogumiaa (rd : BitVec 5) (ra : BitVec 5) (rb : BitVec 5)  -- R1554
  | evmhogumian (rd : BitVec 5) (ra : BitVec 5) (rb : BitVec 5)  -- R1555
  | evmhosmf (rd : BitVec 5) (ra : BitVec 5) (rb : BitVec 5)  -- R1556
  | evmhosmfa (rd : BitVec 5) (ra : BitVec 5) (rb : BitVec 5)  -- R1557
  | evmhosmfaaw (rd : BitVec 5) (ra : BitVec 5) (rb : BitVec 5)  -- R1558
  | evmhosmfanw (rd : BitVec 5) (ra : BitVec 5) (rb : BitVec 5)  -- R1559
  | evmhosmi (rd : BitVec 5) (ra : BitVec 5) (rb : BitVec 5)  -- R1560
  | evmhosmia (rd : BitVec 5) (ra : BitVec 5) (rb : BitVec 5)  -- R1561
  | evmhosmiaaw (rd : BitVec 5) (ra : BitVec 5) (rb : BitVec 5)  -- R1562
  | evmhosmianw (rd : BitVec 5) (ra : BitVec 5) (rb : BitVec 5)  -- R1563
  | evmhossf (rd : BitVec 5) (ra : BitVec 5) (rb : BitVec 5)  -- R1564
  | evmhossfa (rd : BitVec 5) (ra : BitVec 5) (rb : BitVec 5)  -- R1565
  | evmhossfaaw (rd : BitVec 5) (ra : BitVec 5) (rb : BitVec 5)  -- R1566
  | evmhossfanw (rd : BitVec 5) (ra : BitVec 5) (rb : BitVec 5)  -- R1567
  | evmhossiaaw (rd : BitVec 5) (ra : BitVec 5) (rb : BitVec 5)  -- R1568
  | evmhossianw (rd : BitVec 5) (ra : BitVec 5) (rb : BitVec 5)  -- R1569
  | evmhoumi (rd : BitVec 5) (ra : BitVec 5) (rb : BitVec 5)  -- R1570
  | evmhoumia (rd : BitVec 5) (ra : BitVec 5) (rb : BitVec 5)  -- R1571
  | evmhoumiaaw (rd : BitVec 5) (ra : BitVec 5) (rb : BitVec 5)  -- R1572
  | evmhoumianw (rd : BitVec 5) (ra : BitVec 5) (rb : BitVec 5)  -- R1573
  | evmhousiaaw (rd : BitVec 5) (ra : BitVec 5) (rb : BitVec 5)  -- R1574
  | evmhousianw (rd : BitVec 5) (ra : BitVec 5) (rb : BitVec 5)  -- R1575
  | evldd (rd : BitVec 5) (ra : BitVec 5) (uimm : BitVec 5)  -- R1810
  | evlddx (rd : BitVec 5) (ra : BitVec 5) (rb : BitVec 5)  -- R1811
  | evldw (rd : BitVec 5) (ra : BitVec 5) (uimm : BitVec 5)  -- R1812
  | evldwx (rd : BitVec 5) (ra : BitVec 5) (rb : BitVec 5)  -- R1813
  | evldh (rd : BitVec 5) (ra : BitVec 5) (uimm : BitVec 5)  -- R1814
  | evldhx (rd : BitVec 5) (ra : BitVec 5) (rb : BitVec 5)  -- R1815
  | evlwhe (rd : BitVec 5) (ra : BitVec 5) (uimm : BitVec 5)  -- R1816
  | evlwhex (rd : BitVec 5) (ra : BitVec 5) (rb : BitVec 5)  -- R1817
  | evlwhou (rd : BitVec 5) (ra : BitVec 5) (uimm : BitVec 5)  -- R1818
  | evlwhoux (rd : BitVec 5) (ra : BitVec 5) (rb : BitVec 5)  -- R1819
  | evlwhos (rd : BitVec 5) (ra : BitVec 5) (uimm : BitVec 5)  -- R1820
  | evlwhosx (rd : BitVec 5) (ra : BitVec 5) (rb : BitVec 5)  -- R1821
  | evlwwsplat (rd : BitVec 5) (ra : BitVec 5) (uimm : BitVec 5)  -- R1822
  | evlwwsplatx (rd : BitVec 5) (ra : BitVec 5) (rb : BitVec 5)  -- R1823
  | evlwhsplat (rd : BitVec 5) (ra : BitVec 5) (uimm : BitVec 5)  -- R1824
  | evlwhsplatx (rd : BitVec 5) (ra : BitVec 5) (rb : BitVec 5)  -- R1825
  | evlhhesplat (rd : BitVec 5) (ra : BitVec 5) (uimm : BitVec 5)  -- R1826
  | evlhhesplatx (rd : BitVec 5) (ra : BitVec 5) (rb : BitVec 5)  -- R1827
  | evlhhousplat (rd : BitVec 5) (ra : BitVec 5) (uimm : BitVec 5)  -- R1828
  | evlhhousplatx (rd : BitVec 5) (ra : BitVec 5) (rb : BitVec 5)  -- R1829
  | evlhhossplat (rd : BitVec 5) (ra : BitVec 5) (uimm : BitVec 5)  -- R1830
  | evlhhossplatx (rd : BitVec 5) (ra : BitVec 5) (rb : BitVec 5)  -- R1831
  | evstdd (rs : BitVec 5) (ra : BitVec 5) (uimm : BitVec 5)  -- R1840
  | evstddx (rs : BitVec 5) (ra : BitVec 5) (rb : BitVec 5)  -- R1841
  | evstdw (rs : BitVec 5) (ra : BitVec 5) (uimm : BitVec 5)  -- R1842
  | evstdwx (rs : BitVec 5) (ra : BitVec 5) (rb : BitVec 5)  -- R1843
  | evstdh (rs : BitVec 5) (ra : BitVec 5) (uimm : BitVec 5)  -- R1844
  | evstdhx (rs : BitVec 5) (ra : BitVec 5) (rb : BitVec 5)  -- R1845
  | evstwhe (rs : BitVec 5) (ra : BitVec 5) (uimm : BitVec 5)  -- R1846
  | evstwhex (rs : BitVec 5) (ra : BitVec 5) (rb : BitVec 5)  -- R1847
  | evstwho (rs : BitVec 5) (ra : BitVec 5) (uimm : BitVec 5)  -- R1848
  | evstwhox (rs : BitVec 5) (ra : BitVec 5) (rb : BitVec 5)  -- R1849
  | evstwwe (rs : BitVec 5) (ra : BitVec 5) (uimm : BitVec 5)  -- R1850
  | evstwwex (rs : BitVec 5) (ra : BitVec 5) (rb : BitVec 5)  -- R1851
  | evstwwo (rs : BitVec 5) (ra : BitVec 5) (uimm : BitVec 5)  -- R1852
  | evstwwox (rs : BitVec 5) (ra : BitVec 5) (rb : BitVec 5)  -- R1853
  deriving DecidableEq, Repr

end Sys2Proof
end

