-- ==== Sys2Proof/Machine/Dispatch.lean ====
section
/-! DEFINITION. The meaning of every instruction: one direct call of its definition. -/

namespace Sys2Proof.Machine

/-- The answer of an instruction in a state. -/
def exec (i : Instr) (s : State) : Host.Outcome State Fault Refusal :=
  match i with
  | .add rt ra rb => Sys2Proof.Machine.execAdd rt ra rb s
  | .addRc rt ra rb => Sys2Proof.Machine.execAddRc rt ra rb s
  | .addc rt ra rb => Sys2Proof.Machine.execAddc rt ra rb s
  | .addcRc rt ra rb => Sys2Proof.Machine.execAddcRc rt ra rb s
  | .addco rt ra rb => Sys2Proof.Machine.execAddco rt ra rb s
  | .addcoRc rt ra rb => Sys2Proof.Machine.execAddcoRc rt ra rb s
  | .adde rt ra rb => Sys2Proof.Machine.execAdde rt ra rb s
  | .addeRc rt ra rb => Sys2Proof.Machine.execAddeRc rt ra rb s
  | .addeo rt ra rb => Sys2Proof.Machine.execAddeo rt ra rb s
  | .addeoRc rt ra rb => Sys2Proof.Machine.execAddeoRc rt ra rb s
  | .addi rt ra si => Sys2Proof.Machine.execAddi rt ra si s
  | .addic rt ra si => Sys2Proof.Machine.execAddic rt ra si s
  | .addicRc rt ra si => Sys2Proof.Machine.execAddicRc rt ra si s
  | .addis rt ra si => Sys2Proof.Machine.execAddis rt ra si s
  | .addme rt ra => Sys2Proof.Machine.execAddme rt ra s
  | .addmeRc rt ra => Sys2Proof.Machine.execAddmeRc rt ra s
  | .addmeo rt ra => Sys2Proof.Machine.execAddmeo rt ra s
  | .addmeoRc rt ra => Sys2Proof.Machine.execAddmeoRc rt ra s
  | .addo rt ra rb => Sys2Proof.Machine.execAddo rt ra rb s
  | .addoRc rt ra rb => Sys2Proof.Machine.execAddoRc rt ra rb s
  | .addze rt ra => Sys2Proof.Machine.execAddze rt ra s
  | .addzeRc rt ra => Sys2Proof.Machine.execAddzeRc rt ra s
  | .addzeo rt ra => Sys2Proof.Machine.execAddzeo rt ra s
  | .addzeoRc rt ra => Sys2Proof.Machine.execAddzeoRc rt ra s
  | .and rs ra rb => Sys2Proof.Machine.execAnd rs ra rb s
  | .andRc rs ra rb => Sys2Proof.Machine.execAndRc rs ra rb s
  | .andc rs ra rb => Sys2Proof.Machine.execAndc rs ra rb s
  | .andcRc rs ra rb => Sys2Proof.Machine.execAndcRc rs ra rb s
  | .andiRc rs ra ui => Sys2Proof.Machine.execAndiRc rs ra ui s
  | .andisRc rs ra ui => Sys2Proof.Machine.execAndisRc rs ra ui s
  | .b li => Sys2Proof.Machine.execB li s
  | .ba li => Sys2Proof.Machine.execBa li s
  | .bc bo bi bd => Sys2Proof.Machine.execBc bo bi bd s
  | .bca bo bi bd => Sys2Proof.Machine.execBca bo bi bd s
  | .bcctr bo bi => Sys2Proof.Machine.execBcctr bo bi s
  | .bcctrl bo bi => Sys2Proof.Machine.execBcctrl bo bi s
  | .bcl bo bi bd => Sys2Proof.Machine.execBcl bo bi bd s
  | .bcla bo bi bd => Sys2Proof.Machine.execBcla bo bi bd s
  | .bclr bo bi => Sys2Proof.Machine.execBclr bo bi s
  | .bclrl bo bi => Sys2Proof.Machine.execBclrl bo bi s
  | .bl li => Sys2Proof.Machine.execBl li s
  | .bla li => Sys2Proof.Machine.execBla li s
  | .cmp bf ra rb => Sys2Proof.Machine.execCmp bf ra rb s
  | .cmpi bf ra si => Sys2Proof.Machine.execCmpi bf ra si s
  | .cmpl bf ra rb => Sys2Proof.Machine.execCmpl bf ra rb s
  | .cmpli bf ra ui => Sys2Proof.Machine.execCmpli bf ra ui s
  | .cntlzw rs ra => Sys2Proof.Machine.execCntlzw rs ra s
  | .cntlzwRc rs ra => Sys2Proof.Machine.execCntlzwRc rs ra s
  | .crand bt ba bb => Sys2Proof.Machine.execCrand bt ba bb s
  | .crandc bt ba bb => Sys2Proof.Machine.execCrandc bt ba bb s
  | .creqv bt ba bb => Sys2Proof.Machine.execCreqv bt ba bb s
  | .crnand bt ba bb => Sys2Proof.Machine.execCrnand bt ba bb s
  | .crnor bt ba bb => Sys2Proof.Machine.execCrnor bt ba bb s
  | .cror bt ba bb => Sys2Proof.Machine.execCror bt ba bb s
  | .crorc bt ba bb => Sys2Proof.Machine.execCrorc bt ba bb s
  | .crxor bt ba bb => Sys2Proof.Machine.execCrxor bt ba bb s
  | .dcba ra rb => Sys2Proof.Machine.execDcba ra rb s
  | .dcbf ra rb => Sys2Proof.Machine.execDcbf ra rb s
  | .dcbi ra rb => Sys2Proof.Machine.execDcbi ra rb s
  | .dcblc ct ra rb => Sys2Proof.Machine.execDcblc ct ra rb s
  | .dcbst ra rb => Sys2Proof.Machine.execDcbst ra rb s
  | .dcbt ct ra rb => Sys2Proof.Machine.execDcbt ct ra rb s
  | .dcbtls ct ra rb => Sys2Proof.Machine.execDcbtls ct ra rb s
  | .dcbtst ct ra rb => Sys2Proof.Machine.execDcbtst ct ra rb s
  | .dcbtstls ct ra rb => Sys2Proof.Machine.execDcbtstls ct ra rb s
  | .dcbz ra rb => Sys2Proof.Machine.execDcbz ra rb s
  | .divw rt ra rb => Sys2Proof.Machine.execDivw rt ra rb s
  | .divwRc rt ra rb => Sys2Proof.Machine.execDivwRc rt ra rb s
  | .divwo rt ra rb => Sys2Proof.Machine.execDivwo rt ra rb s
  | .divwoRc rt ra rb => Sys2Proof.Machine.execDivwoRc rt ra rb s
  | .divwu rt ra rb => Sys2Proof.Machine.execDivwu rt ra rb s
  | .divwuRc rt ra rb => Sys2Proof.Machine.execDivwuRc rt ra rb s
  | .divwuo rt ra rb => Sys2Proof.Machine.execDivwuo rt ra rb s
  | .divwuoRc rt ra rb => Sys2Proof.Machine.execDivwuoRc rt ra rb s
  | .eqv rs ra rb => Sys2Proof.Machine.execEqv rs ra rb s
  | .eqvRc rs ra rb => Sys2Proof.Machine.execEqvRc rs ra rb s
  | .extsb rs ra => Sys2Proof.Machine.execExtsb rs ra s
  | .extsbRc rs ra => Sys2Proof.Machine.execExtsbRc rs ra s
  | .extsh rs ra => Sys2Proof.Machine.execExtsh rs ra s
  | .extshRc rs ra => Sys2Proof.Machine.execExtshRc rs ra s
  | .icbi ra rb => Sys2Proof.Machine.execIcbi ra rb s
  | .icblc ct ra rb => Sys2Proof.Machine.execIcblc ct ra rb s
  | .icbt ct ra rb => Sys2Proof.Machine.execIcbt ct ra rb s
  | .icbtls ct ra rb => Sys2Proof.Machine.execIcbtls ct ra rb s
  | .isel rt ra rb bc => Sys2Proof.Machine.execIsel rt ra rb bc s
  | .isync => Sys2Proof.Machine.execIsync s
  | .lbz rt ra d => Sys2Proof.Machine.execLbz rt ra d s
  | .lbzu rt ra d => Sys2Proof.Machine.execLbzu rt ra d s
  | .lbzux rt ra rb => Sys2Proof.Machine.execLbzux rt ra rb s
  | .lbzx rt ra rb => Sys2Proof.Machine.execLbzx rt ra rb s
  | .lha rt ra d => Sys2Proof.Machine.execLha rt ra d s
  | .lhau rt ra d => Sys2Proof.Machine.execLhau rt ra d s
  | .lhaux rt ra rb => Sys2Proof.Machine.execLhaux rt ra rb s
  | .lhax rt ra rb => Sys2Proof.Machine.execLhax rt ra rb s
  | .lhbrx rt ra rb => Sys2Proof.Machine.execLhbrx rt ra rb s
  | .lhz rt ra d => Sys2Proof.Machine.execLhz rt ra d s
  | .lhzu rt ra d => Sys2Proof.Machine.execLhzu rt ra d s
  | .lhzux rt ra rb => Sys2Proof.Machine.execLhzux rt ra rb s
  | .lhzx rt ra rb => Sys2Proof.Machine.execLhzx rt ra rb s
  | .lmw rt ra d => Sys2Proof.Machine.execLmw rt ra d s
  | .lwarx rt ra rb => Sys2Proof.Machine.execLwarx rt ra rb s
  | .lwbrx rt ra rb => Sys2Proof.Machine.execLwbrx rt ra rb s
  | .lwz rt ra d => Sys2Proof.Machine.execLwz rt ra d s
  | .lwzu rt ra d => Sys2Proof.Machine.execLwzu rt ra d s
  | .lwzux rt ra rb => Sys2Proof.Machine.execLwzux rt ra rb s
  | .lwzx rt ra rb => Sys2Proof.Machine.execLwzx rt ra rb s
  | .mbar mo => Sys2Proof.Machine.execMbar mo s
  | .mcrf bf bfa => Sys2Proof.Machine.execMcrf bf bfa s
  | .mcrxr bf => Sys2Proof.Machine.execMcrxr bf s
  | .mfcr rt => Sys2Proof.Machine.execMfcr rt s
  | .mfdcr rt dcrn => Sys2Proof.Machine.execMfdcr rt dcrn s
  | .mfmsr rt => Sys2Proof.Machine.execMfmsr rt s
  | .mfspr rt sprn => Sys2Proof.Machine.execMfspr rt sprn s
  | .msync => Sys2Proof.Machine.execMsync s
  | .mtcrf rs fxm => Sys2Proof.Machine.execMtcrf rs fxm s
  | .mtdcr rs dcrn => Sys2Proof.Machine.execMtdcr rs dcrn s
  | .mtmsr rs => Sys2Proof.Machine.execMtmsr rs s
  | .mtspr rs sprn => Sys2Proof.Machine.execMtspr rs sprn s
  | .mulhw rt ra rb => Sys2Proof.Machine.execMulhw rt ra rb s
  | .mulhwRc rt ra rb => Sys2Proof.Machine.execMulhwRc rt ra rb s
  | .mulhwu rt ra rb => Sys2Proof.Machine.execMulhwu rt ra rb s
  | .mulhwuRc rt ra rb => Sys2Proof.Machine.execMulhwuRc rt ra rb s
  | .mulli rt ra si => Sys2Proof.Machine.execMulli rt ra si s
  | .mullw rt ra rb => Sys2Proof.Machine.execMullw rt ra rb s
  | .mullwRc rt ra rb => Sys2Proof.Machine.execMullwRc rt ra rb s
  | .mullwo rt ra rb => Sys2Proof.Machine.execMullwo rt ra rb s
  | .mullwoRc rt ra rb => Sys2Proof.Machine.execMullwoRc rt ra rb s
  | .nand rs ra rb => Sys2Proof.Machine.execNand rs ra rb s
  | .nandRc rs ra rb => Sys2Proof.Machine.execNandRc rs ra rb s
  | .neg rt ra => Sys2Proof.Machine.execNeg rt ra s
  | .negRc rt ra => Sys2Proof.Machine.execNegRc rt ra s
  | .nego rt ra => Sys2Proof.Machine.execNego rt ra s
  | .negoRc rt ra => Sys2Proof.Machine.execNegoRc rt ra s
  | .nor rs ra rb => Sys2Proof.Machine.execNor rs ra rb s
  | .norRc rs ra rb => Sys2Proof.Machine.execNorRc rs ra rb s
  | .or rs ra rb => Sys2Proof.Machine.execOr rs ra rb s
  | .orRc rs ra rb => Sys2Proof.Machine.execOrRc rs ra rb s
  | .orc rs ra rb => Sys2Proof.Machine.execOrc rs ra rb s
  | .orcRc rs ra rb => Sys2Proof.Machine.execOrcRc rs ra rb s
  | .ori rs ra ui => Sys2Proof.Machine.execOri rs ra ui s
  | .oris rs ra ui => Sys2Proof.Machine.execOris rs ra ui s
  | .rfci => Sys2Proof.Machine.execRfci s
  | .rfdi => Sys2Proof.Machine.execRfdi s
  | .rfi => Sys2Proof.Machine.execRfi s
  | .rfmci => Sys2Proof.Machine.execRfmci s
  | .rlwimi rs ra sh mb me => Sys2Proof.Machine.execRlwimi rs ra sh mb me s
  | .rlwimiRc rs ra sh mb me => Sys2Proof.Machine.execRlwimiRc rs ra sh mb me s
  | .rlwinm rs ra sh mb me => Sys2Proof.Machine.execRlwinm rs ra sh mb me s
  | .rlwinmRc rs ra sh mb me => Sys2Proof.Machine.execRlwinmRc rs ra sh mb me s
  | .rlwnm rs ra rb mb me => Sys2Proof.Machine.execRlwnm rs ra rb mb me s
  | .rlwnmRc rs ra rb mb me => Sys2Proof.Machine.execRlwnmRc rs ra rb mb me s
  | .sc => Sys2Proof.Machine.execSc s
  | .slw rs ra rb => Sys2Proof.Machine.execSlw rs ra rb s
  | .slwRc rs ra rb => Sys2Proof.Machine.execSlwRc rs ra rb s
  | .sraw rs ra rb => Sys2Proof.Machine.execSraw rs ra rb s
  | .srawRc rs ra rb => Sys2Proof.Machine.execSrawRc rs ra rb s
  | .srawi rs ra sh => Sys2Proof.Machine.execSrawi rs ra sh s
  | .srawiRc rs ra sh => Sys2Proof.Machine.execSrawiRc rs ra sh s
  | .srw rs ra rb => Sys2Proof.Machine.execSrw rs ra rb s
  | .srwRc rs ra rb => Sys2Proof.Machine.execSrwRc rs ra rb s
  | .stb rs ra d => Sys2Proof.Machine.execStb rs ra d s
  | .stbu rs ra d => Sys2Proof.Machine.execStbu rs ra d s
  | .stbux rs ra rb => Sys2Proof.Machine.execStbux rs ra rb s
  | .stbx rs ra rb => Sys2Proof.Machine.execStbx rs ra rb s
  | .sth rs ra d => Sys2Proof.Machine.execSth rs ra d s
  | .sthbrx rs ra rb => Sys2Proof.Machine.execSthbrx rs ra rb s
  | .sthu rs ra d => Sys2Proof.Machine.execSthu rs ra d s
  | .sthux rs ra rb => Sys2Proof.Machine.execSthux rs ra rb s
  | .sthx rs ra rb => Sys2Proof.Machine.execSthx rs ra rb s
  | .stmw rs ra d => Sys2Proof.Machine.execStmw rs ra d s
  | .stw rs ra d => Sys2Proof.Machine.execStw rs ra d s
  | .stwbrx rs ra rb => Sys2Proof.Machine.execStwbrx rs ra rb s
  | .stwcxRc rs ra rb => Sys2Proof.Machine.execStwcxRc rs ra rb s
  | .stwu rs ra d => Sys2Proof.Machine.execStwu rs ra d s
  | .stwux rs ra rb => Sys2Proof.Machine.execStwux rs ra rb s
  | .stwx rs ra rb => Sys2Proof.Machine.execStwx rs ra rb s
  | .subf rt ra rb => Sys2Proof.Machine.execSubf rt ra rb s
  | .subfRc rt ra rb => Sys2Proof.Machine.execSubfRc rt ra rb s
  | .subfc rt ra rb => Sys2Proof.Machine.execSubfc rt ra rb s
  | .subfcRc rt ra rb => Sys2Proof.Machine.execSubfcRc rt ra rb s
  | .subfco rt ra rb => Sys2Proof.Machine.execSubfco rt ra rb s
  | .subfcoRc rt ra rb => Sys2Proof.Machine.execSubfcoRc rt ra rb s
  | .subfe rt ra rb => Sys2Proof.Machine.execSubfe rt ra rb s
  | .subfeRc rt ra rb => Sys2Proof.Machine.execSubfeRc rt ra rb s
  | .subfeo rt ra rb => Sys2Proof.Machine.execSubfeo rt ra rb s
  | .subfeoRc rt ra rb => Sys2Proof.Machine.execSubfeoRc rt ra rb s
  | .subfic rt ra si => Sys2Proof.Machine.execSubfic rt ra si s
  | .subfme rt ra => Sys2Proof.Machine.execSubfme rt ra s
  | .subfmeRc rt ra => Sys2Proof.Machine.execSubfmeRc rt ra s
  | .subfmeo rt ra => Sys2Proof.Machine.execSubfmeo rt ra s
  | .subfmeoRc rt ra => Sys2Proof.Machine.execSubfmeoRc rt ra s
  | .subfo rt ra rb => Sys2Proof.Machine.execSubfo rt ra rb s
  | .subfoRc rt ra rb => Sys2Proof.Machine.execSubfoRc rt ra rb s
  | .subfze rt ra => Sys2Proof.Machine.execSubfze rt ra s
  | .subfzeRc rt ra => Sys2Proof.Machine.execSubfzeRc rt ra s
  | .subfzeo rt ra => Sys2Proof.Machine.execSubfzeo rt ra s
  | .subfzeoRc rt ra => Sys2Proof.Machine.execSubfzeoRc rt ra s
  | .tlbivax ra rb => Sys2Proof.Machine.execTlbivax ra rb s
  | .tlbre => Sys2Proof.Machine.execTlbre s
  | .tlbsx ra rb => Sys2Proof.Machine.execTlbsx ra rb s
  | .tlbsync => Sys2Proof.Machine.execTlbsync s
  | .tlbwe => Sys2Proof.Machine.execTlbwe s
  | .tw tcond ra rb => Sys2Proof.Machine.execTw tcond ra rb s
  | .twi tcond ra si => Sys2Proof.Machine.execTwi tcond ra si s
  | .wrtee rs => Sys2Proof.Machine.execWrtee rs s
  | .wrteei e => Sys2Proof.Machine.execWrteei e s
  | .xor rs ra rb => Sys2Proof.Machine.execXor rs ra rb s
  | .xorRc rs ra rb => Sys2Proof.Machine.execXorRc rs ra rb s
  | .xori rs ra ui => Sys2Proof.Machine.execXori rs ra ui s
  | .xoris rs ra ui => Sys2Proof.Machine.execXoris rs ra ui s
  | .wait => Sys2Proof.Machine.execWait s
  | .lbarx rt ra rb => Sys2Proof.Machine.execLbarx rt ra rb s
  | .lharx rt ra rb => Sys2Proof.Machine.execLharx rt ra rb s
  | .stbcxRc rs ra rb => Sys2Proof.Machine.execStbcxRc rs ra rb s
  | .sthcxRc rs ra rb => Sys2Proof.Machine.execSthcxRc rs ra rb s
  | .dnh dui duis => Sys2Proof.Machine.execDnh dui duis s
  | .seIsync => Sys2Proof.Machine.execSeIsync s
  | .seSc => Sys2Proof.Machine.execSeSc s
  | .seRfi => Sys2Proof.Machine.execSeRfi s
  | .seRfci => Sys2Proof.Machine.execSeRfci s
  | .seRfdi => Sys2Proof.Machine.execSeRfdi s
  | .seRfmci => Sys2Proof.Machine.execSeRfmci s
  | .seDnh => Sys2Proof.Machine.execSeDnh s
  | .eDnh dui duis => Sys2Proof.Machine.execEDnh dui duis s
  | .eLmvgprw ra d8 => Sys2Proof.Machine.execELmvgprw ra d8 s
  | .eStmvgprw ra d8 => Sys2Proof.Machine.execEStmvgprw ra d8 s
  | .eLmvsprw ra d8 => Sys2Proof.Machine.execELmvsprw ra d8 s
  | .eStmvsprw ra d8 => Sys2Proof.Machine.execEStmvsprw ra d8 s
  | .eLmvsrrw ra d8 => Sys2Proof.Machine.execELmvsrrw ra d8 s
  | .eStmvsrrw ra d8 => Sys2Proof.Machine.execEStmvsrrw ra d8 s
  | .eLmvcsrrw ra d8 => Sys2Proof.Machine.execELmvcsrrw ra d8 s
  | .eStmvcsrrw ra d8 => Sys2Proof.Machine.execEStmvcsrrw ra d8 s
  | .eLmvdsrrw ra d8 => Sys2Proof.Machine.execELmvdsrrw ra d8 s
  | .eStmvdsrrw ra d8 => Sys2Proof.Machine.execEStmvdsrrw ra d8 s
  | .eLmvmcsrrw ra d8 => Sys2Proof.Machine.execELmvmcsrrw ra d8 s
  | .eStmvmcsrrw ra d8 => Sys2Proof.Machine.execEStmvmcsrrw ra d8 s
  | .eLmw rt ra d8 => Sys2Proof.Machine.execELmw rt ra d8 s
  | .eStmw rs ra d8 => Sys2Proof.Machine.execEStmw rs ra d8 s
  | .efsabs rd ra => Sys2Proof.Machine.execEfsabs rd ra s
  | .efsnabs rd ra => Sys2Proof.Machine.execEfsnabs rd ra s
  | .efsneg rd ra => Sys2Proof.Machine.execEfsneg rd ra s
  | .efsadd rd ra rb => Sys2Proof.Machine.execEfsadd rd ra rb s
  | .efssub rd ra rb => Sys2Proof.Machine.execEfssub rd ra rb s
  | .efsmul rd ra rb => Sys2Proof.Machine.execEfsmul rd ra rb s
  | .efsdiv rd ra rb => Sys2Proof.Machine.execEfsdiv rd ra rb s
  | .efsmadd rd ra rb => Sys2Proof.Machine.execEfsmadd rd ra rb s
  | .efsmsub rd ra rb => Sys2Proof.Machine.execEfsmsub rd ra rb s
  | .efsnmadd rd ra rb => Sys2Proof.Machine.execEfsnmadd rd ra rb s
  | .efsnmsub rd ra rb => Sys2Proof.Machine.execEfsnmsub rd ra rb s
  | .efssqrt rd ra => Sys2Proof.Machine.execEfssqrt rd ra s
  | .efsmax rd ra rb => Sys2Proof.Machine.execEfsmax rd ra rb s
  | .efsmin rd ra rb => Sys2Proof.Machine.execEfsmin rd ra rb s
  | .efscmpgt crfD ra rb => Sys2Proof.Machine.execEfscmpgt crfD ra rb s
  | .efscmplt crfD ra rb => Sys2Proof.Machine.execEfscmplt crfD ra rb s
  | .efscmpeq crfD ra rb => Sys2Proof.Machine.execEfscmpeq crfD ra rb s
  | .efststgt crfD ra rb => Sys2Proof.Machine.execEfststgt crfD ra rb s
  | .efststlt crfD ra rb => Sys2Proof.Machine.execEfststlt crfD ra rb s
  | .efststeq crfD ra rb => Sys2Proof.Machine.execEfststeq crfD ra rb s
  | .efscfui rd rb => Sys2Proof.Machine.execEfscfui rd rb s
  | .efscfsi rd rb => Sys2Proof.Machine.execEfscfsi rd rb s
  | .efscfuf rd rb => Sys2Proof.Machine.execEfscfuf rd rb s
  | .efscfsf rd rb => Sys2Proof.Machine.execEfscfsf rd rb s
  | .efscfh rd rb => Sys2Proof.Machine.execEfscfh rd rb s
  | .efsctui rd rb => Sys2Proof.Machine.execEfsctui rd rb s
  | .efsctsi rd rb => Sys2Proof.Machine.execEfsctsi rd rb s
  | .efsctuiz rd rb => Sys2Proof.Machine.execEfsctuiz rd rb s
  | .efsctsiz rd rb => Sys2Proof.Machine.execEfsctsiz rd rb s
  | .efsctuf rd rb => Sys2Proof.Machine.execEfsctuf rd rb s
  | .efsctsf rd rb => Sys2Proof.Machine.execEfsctsf rd rb s
  | .efscth rd rb => Sys2Proof.Machine.execEfscth rd rb s
  | .evfsabs rd ra => Sys2Proof.Machine.execEvfsabs rd ra s
  | .evfsnabs rd ra => Sys2Proof.Machine.execEvfsnabs rd ra s
  | .evfsneg rd ra => Sys2Proof.Machine.execEvfsneg rd ra s
  | .evfsadd rd ra rb => Sys2Proof.Machine.execEvfsadd rd ra rb s
  | .evfssub rd ra rb => Sys2Proof.Machine.execEvfssub rd ra rb s
  | .evfsaddsub rd ra rb => Sys2Proof.Machine.execEvfsaddsub rd ra rb s
  | .evfssubadd rd ra rb => Sys2Proof.Machine.execEvfssubadd rd ra rb s
  | .evfsaddx rd ra rb => Sys2Proof.Machine.execEvfsaddx rd ra rb s
  | .evfssubx rd ra rb => Sys2Proof.Machine.execEvfssubx rd ra rb s
  | .evfsaddsubx rd ra rb => Sys2Proof.Machine.execEvfsaddsubx rd ra rb s
  | .evfssubaddx rd ra rb => Sys2Proof.Machine.execEvfssubaddx rd ra rb s
  | .evfssum rd ra rb => Sys2Proof.Machine.execEvfssum rd ra rb s
  | .evfsdiff rd ra rb => Sys2Proof.Machine.execEvfsdiff rd ra rb s
  | .evfssumdiff rd ra rb => Sys2Proof.Machine.execEvfssumdiff rd ra rb s
  | .evfsdiffsum rd ra rb => Sys2Proof.Machine.execEvfsdiffsum rd ra rb s
  | .evfsmul rd ra rb => Sys2Proof.Machine.execEvfsmul rd ra rb s
  | .evfsmule rd ra rb => Sys2Proof.Machine.execEvfsmule rd ra rb s
  | .evfsmulo rd ra rb => Sys2Proof.Machine.execEvfsmulo rd ra rb s
  | .evfsmulx rd ra rb => Sys2Proof.Machine.execEvfsmulx rd ra rb s
  | .evfsdiv rd ra rb => Sys2Proof.Machine.execEvfsdiv rd ra rb s
  | .evfsmadd rd ra rb => Sys2Proof.Machine.execEvfsmadd rd ra rb s
  | .evfsmsub rd ra rb => Sys2Proof.Machine.execEvfsmsub rd ra rb s
  | .evfsnmadd rd ra rb => Sys2Proof.Machine.execEvfsnmadd rd ra rb s
  | .evfsnmsub rd ra rb => Sys2Proof.Machine.execEvfsnmsub rd ra rb s
  | .evfssqrt rd ra => Sys2Proof.Machine.execEvfssqrt rd ra s
  | .evfsmax rd ra rb => Sys2Proof.Machine.execEvfsmax rd ra rb s
  | .evfsmin rd ra rb => Sys2Proof.Machine.execEvfsmin rd ra rb s
  | .evfscmpgt crfD ra rb => Sys2Proof.Machine.execEvfscmpgt crfD ra rb s
  | .evfscmplt crfD ra rb => Sys2Proof.Machine.execEvfscmplt crfD ra rb s
  | .evfscmpeq crfD ra rb => Sys2Proof.Machine.execEvfscmpeq crfD ra rb s
  | .evfststgt crfD ra rb => Sys2Proof.Machine.execEvfststgt crfD ra rb s
  | .evfststlt crfD ra rb => Sys2Proof.Machine.execEvfststlt crfD ra rb s
  | .evfststeq crfD ra rb => Sys2Proof.Machine.execEvfststeq crfD ra rb s
  | .evfscfui rd rb => Sys2Proof.Machine.execEvfscfui rd rb s
  | .evfscfsi rd rb => Sys2Proof.Machine.execEvfscfsi rd rb s
  | .evfscfuf rd rb => Sys2Proof.Machine.execEvfscfuf rd rb s
  | .evfscfsf rd rb => Sys2Proof.Machine.execEvfscfsf rd rb s
  | .evfscfh rd rb => Sys2Proof.Machine.execEvfscfh rd rb s
  | .evfscth rd rb => Sys2Proof.Machine.execEvfscth rd rb s
  | .evfsctui rd rb => Sys2Proof.Machine.execEvfsctui rd rb s
  | .evfsctsi rd rb => Sys2Proof.Machine.execEvfsctsi rd rb s
  | .evfsctuiz rd rb => Sys2Proof.Machine.execEvfsctuiz rd rb s
  | .evfsctsiz rd rb => Sys2Proof.Machine.execEvfsctsiz rd rb s
  | .evfsctuf rd rb => Sys2Proof.Machine.execEvfsctuf rd rb s
  | .evfsctsf rd rb => Sys2Proof.Machine.execEvfsctsf rd rb s
  | .brinc rd ra rb => Sys2Proof.Machine.execBrinc rd ra rb s
  | .evabs rd ra => Sys2Proof.Machine.execEvabs rd ra s
  | .evaddiw rd uimm rb => Sys2Proof.Machine.execEvaddiw rd uimm rb s
  | .evaddw rd ra rb => Sys2Proof.Machine.execEvaddw rd ra rb s
  | .evneg rd ra => Sys2Proof.Machine.execEvneg rd ra s
  | .evsubfw rd ra rb => Sys2Proof.Machine.execEvsubfw rd ra rb s
  | .evsubifw rd uimm rb => Sys2Proof.Machine.execEvsubifw rd uimm rb s
  | .evand rd ra rb => Sys2Proof.Machine.execEvand rd ra rb s
  | .evandc rd ra rb => Sys2Proof.Machine.execEvandc rd ra rb s
  | .eveqv rd ra rb => Sys2Proof.Machine.execEveqv rd ra rb s
  | .evnand rd ra rb => Sys2Proof.Machine.execEvnand rd ra rb s
  | .evnor rd ra rb => Sys2Proof.Machine.execEvnor rd ra rb s
  | .evor rd ra rb => Sys2Proof.Machine.execEvor rd ra rb s
  | .evorc rd ra rb => Sys2Proof.Machine.execEvorc rd ra rb s
  | .evxor rd ra rb => Sys2Proof.Machine.execEvxor rd ra rb s
  | .evcmpeq crfD ra rb => Sys2Proof.Machine.execEvcmpeq crfD ra rb s
  | .evcmpgts crfD ra rb => Sys2Proof.Machine.execEvcmpgts crfD ra rb s
  | .evcmpgtu crfD ra rb => Sys2Proof.Machine.execEvcmpgtu crfD ra rb s
  | .evcmplts crfD ra rb => Sys2Proof.Machine.execEvcmplts crfD ra rb s
  | .evcmpltu crfD ra rb => Sys2Proof.Machine.execEvcmpltu crfD ra rb s
  | .evcntlsw rd ra => Sys2Proof.Machine.execEvcntlsw rd ra s
  | .evcntlzw rd ra => Sys2Proof.Machine.execEvcntlzw rd ra s
  | .evextsb rd ra => Sys2Proof.Machine.execEvextsb rd ra s
  | .evextsh rd ra => Sys2Proof.Machine.execEvextsh rd ra s
  | .evmergehi rd ra rb => Sys2Proof.Machine.execEvmergehi rd ra rb s
  | .evmergehilo rd ra rb => Sys2Proof.Machine.execEvmergehilo rd ra rb s
  | .evmergelo rd ra rb => Sys2Proof.Machine.execEvmergelo rd ra rb s
  | .evmergelohi rd ra rb => Sys2Proof.Machine.execEvmergelohi rd ra rb s
  | .evrlw rd ra rb => Sys2Proof.Machine.execEvrlw rd ra rb s
  | .evrlwi rd ra uimm => Sys2Proof.Machine.execEvrlwi rd ra uimm s
  | .evrndw rd ra => Sys2Proof.Machine.execEvrndw rd ra s
  | .evsel rd ra rb crfS => Sys2Proof.Machine.execEvsel rd ra rb crfS s
  | .evslw rd ra rb => Sys2Proof.Machine.execEvslw rd ra rb s
  | .evslwi rd ra uimm => Sys2Proof.Machine.execEvslwi rd ra uimm s
  | .evsrwis rd ra uimm => Sys2Proof.Machine.execEvsrwis rd ra uimm s
  | .evsrwiu rd ra uimm => Sys2Proof.Machine.execEvsrwiu rd ra uimm s
  | .evsrws rd ra rb => Sys2Proof.Machine.execEvsrws rd ra rb s
  | .evsrwu rd ra rb => Sys2Proof.Machine.execEvsrwu rd ra rb s
  | .evsplatfi rd simm => Sys2Proof.Machine.execEvsplatfi rd simm s
  | .evsplati rd simm => Sys2Proof.Machine.execEvsplati rd simm s
  | .evdivws rd ra rb => Sys2Proof.Machine.execEvdivws rd ra rb s
  | .evdivwu rd ra rb => Sys2Proof.Machine.execEvdivwu rd ra rb s
  | .evmwhsmf rd ra rb => Sys2Proof.Machine.execEvmwhsmf rd ra rb s
  | .evmwhsmfa rd ra rb => Sys2Proof.Machine.execEvmwhsmfa rd ra rb s
  | .evmwhsmi rd ra rb => Sys2Proof.Machine.execEvmwhsmi rd ra rb s
  | .evmwhsmia rd ra rb => Sys2Proof.Machine.execEvmwhsmia rd ra rb s
  | .evmwhssf rd ra rb => Sys2Proof.Machine.execEvmwhssf rd ra rb s
  | .evmwhssfa rd ra rb => Sys2Proof.Machine.execEvmwhssfa rd ra rb s
  | .evmwhumi rd ra rb => Sys2Proof.Machine.execEvmwhumi rd ra rb s
  | .evmwhumia rd ra rb => Sys2Proof.Machine.execEvmwhumia rd ra rb s
  | .evmwlsmiaaw rd ra rb => Sys2Proof.Machine.execEvmwlsmiaaw rd ra rb s
  | .evmwlsmianw rd ra rb => Sys2Proof.Machine.execEvmwlsmianw rd ra rb s
  | .evmwlssiaaw rd ra rb => Sys2Proof.Machine.execEvmwlssiaaw rd ra rb s
  | .evmwlssianw rd ra rb => Sys2Proof.Machine.execEvmwlssianw rd ra rb s
  | .evmwlumi rd ra rb => Sys2Proof.Machine.execEvmwlumi rd ra rb s
  | .evmwlumia rd ra rb => Sys2Proof.Machine.execEvmwlumia rd ra rb s
  | .evmwlumiaaw rd ra rb => Sys2Proof.Machine.execEvmwlumiaaw rd ra rb s
  | .evmwlumianw rd ra rb => Sys2Proof.Machine.execEvmwlumianw rd ra rb s
  | .evmwlusiaaw rd ra rb => Sys2Proof.Machine.execEvmwlusiaaw rd ra rb s
  | .evmwlusianw rd ra rb => Sys2Proof.Machine.execEvmwlusianw rd ra rb s
  | .evmwsmf rd ra rb => Sys2Proof.Machine.execEvmwsmf rd ra rb s
  | .evmwsmfa rd ra rb => Sys2Proof.Machine.execEvmwsmfa rd ra rb s
  | .evmwsmfaa rd ra rb => Sys2Proof.Machine.execEvmwsmfaa rd ra rb s
  | .evmwsmfan rd ra rb => Sys2Proof.Machine.execEvmwsmfan rd ra rb s
  | .evmwsmi rd ra rb => Sys2Proof.Machine.execEvmwsmi rd ra rb s
  | .evmwsmia rd ra rb => Sys2Proof.Machine.execEvmwsmia rd ra rb s
  | .evmwsmiaa rd ra rb => Sys2Proof.Machine.execEvmwsmiaa rd ra rb s
  | .evmwsmian rd ra rb => Sys2Proof.Machine.execEvmwsmian rd ra rb s
  | .evmwssf rd ra rb => Sys2Proof.Machine.execEvmwssf rd ra rb s
  | .evmwssfa rd ra rb => Sys2Proof.Machine.execEvmwssfa rd ra rb s
  | .evmwssfaa rd ra rb => Sys2Proof.Machine.execEvmwssfaa rd ra rb s
  | .evmwssfan rd ra rb => Sys2Proof.Machine.execEvmwssfan rd ra rb s
  | .evmwumi rd ra rb => Sys2Proof.Machine.execEvmwumi rd ra rb s
  | .evmwumia rd ra rb => Sys2Proof.Machine.execEvmwumia rd ra rb s
  | .evmwumiaa rd ra rb => Sys2Proof.Machine.execEvmwumiaa rd ra rb s
  | .evmwumian rd ra rb => Sys2Proof.Machine.execEvmwumian rd ra rb s
  | .evaddsmiaaw rd ra => Sys2Proof.Machine.execEvaddsmiaaw rd ra s
  | .evaddssiaaw rd ra => Sys2Proof.Machine.execEvaddssiaaw rd ra s
  | .evaddumiaaw rd ra => Sys2Proof.Machine.execEvaddumiaaw rd ra s
  | .evaddusiaaw rd ra => Sys2Proof.Machine.execEvaddusiaaw rd ra s
  | .evsubfsmiaaw rd ra => Sys2Proof.Machine.execEvsubfsmiaaw rd ra s
  | .evsubfssiaaw rd ra => Sys2Proof.Machine.execEvsubfssiaaw rd ra s
  | .evsubfumiaaw rd ra => Sys2Proof.Machine.execEvsubfumiaaw rd ra s
  | .evsubfusiaaw rd ra => Sys2Proof.Machine.execEvsubfusiaaw rd ra s
  | .evmra rd ra => Sys2Proof.Machine.execEvmra rd ra s
  | .evmhegsmfaa rd ra rb => Sys2Proof.Machine.execEvmhegsmfaa rd ra rb s
  | .evmhegsmfan rd ra rb => Sys2Proof.Machine.execEvmhegsmfan rd ra rb s
  | .evmhegsmiaa rd ra rb => Sys2Proof.Machine.execEvmhegsmiaa rd ra rb s
  | .evmhegsmian rd ra rb => Sys2Proof.Machine.execEvmhegsmian rd ra rb s
  | .evmhegumiaa rd ra rb => Sys2Proof.Machine.execEvmhegumiaa rd ra rb s
  | .evmhegumian rd ra rb => Sys2Proof.Machine.execEvmhegumian rd ra rb s
  | .evmhesmf rd ra rb => Sys2Proof.Machine.execEvmhesmf rd ra rb s
  | .evmhesmfa rd ra rb => Sys2Proof.Machine.execEvmhesmfa rd ra rb s
  | .evmhesmfaaw rd ra rb => Sys2Proof.Machine.execEvmhesmfaaw rd ra rb s
  | .evmhesmfanw rd ra rb => Sys2Proof.Machine.execEvmhesmfanw rd ra rb s
  | .evmhesmi rd ra rb => Sys2Proof.Machine.execEvmhesmi rd ra rb s
  | .evmhesmia rd ra rb => Sys2Proof.Machine.execEvmhesmia rd ra rb s
  | .evmhesmiaaw rd ra rb => Sys2Proof.Machine.execEvmhesmiaaw rd ra rb s
  | .evmhesmianw rd ra rb => Sys2Proof.Machine.execEvmhesmianw rd ra rb s
  | .evmhessf rd ra rb => Sys2Proof.Machine.execEvmhessf rd ra rb s
  | .evmhessfa rd ra rb => Sys2Proof.Machine.execEvmhessfa rd ra rb s
  | .evmhessfaaw rd ra rb => Sys2Proof.Machine.execEvmhessfaaw rd ra rb s
  | .evmhessfanw rd ra rb => Sys2Proof.Machine.execEvmhessfanw rd ra rb s
  | .evmhessiaaw rd ra rb => Sys2Proof.Machine.execEvmhessiaaw rd ra rb s
  | .evmhessianw rd ra rb => Sys2Proof.Machine.execEvmhessianw rd ra rb s
  | .evmheumi rd ra rb => Sys2Proof.Machine.execEvmheumi rd ra rb s
  | .evmheumia rd ra rb => Sys2Proof.Machine.execEvmheumia rd ra rb s
  | .evmheumiaaw rd ra rb => Sys2Proof.Machine.execEvmheumiaaw rd ra rb s
  | .evmheumianw rd ra rb => Sys2Proof.Machine.execEvmheumianw rd ra rb s
  | .evmheusiaaw rd ra rb => Sys2Proof.Machine.execEvmheusiaaw rd ra rb s
  | .evmheusianw rd ra rb => Sys2Proof.Machine.execEvmheusianw rd ra rb s
  | .evmhogsmfaa rd ra rb => Sys2Proof.Machine.execEvmhogsmfaa rd ra rb s
  | .evmhogsmfan rd ra rb => Sys2Proof.Machine.execEvmhogsmfan rd ra rb s
  | .evmhogsmiaa rd ra rb => Sys2Proof.Machine.execEvmhogsmiaa rd ra rb s
  | .evmhogsmian rd ra rb => Sys2Proof.Machine.execEvmhogsmian rd ra rb s
  | .evmhogumiaa rd ra rb => Sys2Proof.Machine.execEvmhogumiaa rd ra rb s
  | .evmhogumian rd ra rb => Sys2Proof.Machine.execEvmhogumian rd ra rb s
  | .evmhosmf rd ra rb => Sys2Proof.Machine.execEvmhosmf rd ra rb s
  | .evmhosmfa rd ra rb => Sys2Proof.Machine.execEvmhosmfa rd ra rb s
  | .evmhosmfaaw rd ra rb => Sys2Proof.Machine.execEvmhosmfaaw rd ra rb s
  | .evmhosmfanw rd ra rb => Sys2Proof.Machine.execEvmhosmfanw rd ra rb s
  | .evmhosmi rd ra rb => Sys2Proof.Machine.execEvmhosmi rd ra rb s
  | .evmhosmia rd ra rb => Sys2Proof.Machine.execEvmhosmia rd ra rb s
  | .evmhosmiaaw rd ra rb => Sys2Proof.Machine.execEvmhosmiaaw rd ra rb s
  | .evmhosmianw rd ra rb => Sys2Proof.Machine.execEvmhosmianw rd ra rb s
  | .evmhossf rd ra rb => Sys2Proof.Machine.execEvmhossf rd ra rb s
  | .evmhossfa rd ra rb => Sys2Proof.Machine.execEvmhossfa rd ra rb s
  | .evmhossfaaw rd ra rb => Sys2Proof.Machine.execEvmhossfaaw rd ra rb s
  | .evmhossfanw rd ra rb => Sys2Proof.Machine.execEvmhossfanw rd ra rb s
  | .evmhossiaaw rd ra rb => Sys2Proof.Machine.execEvmhossiaaw rd ra rb s
  | .evmhossianw rd ra rb => Sys2Proof.Machine.execEvmhossianw rd ra rb s
  | .evmhoumi rd ra rb => Sys2Proof.Machine.execEvmhoumi rd ra rb s
  | .evmhoumia rd ra rb => Sys2Proof.Machine.execEvmhoumia rd ra rb s
  | .evmhoumiaaw rd ra rb => Sys2Proof.Machine.execEvmhoumiaaw rd ra rb s
  | .evmhoumianw rd ra rb => Sys2Proof.Machine.execEvmhoumianw rd ra rb s
  | .evmhousiaaw rd ra rb => Sys2Proof.Machine.execEvmhousiaaw rd ra rb s
  | .evmhousianw rd ra rb => Sys2Proof.Machine.execEvmhousianw rd ra rb s
  | .evldd rd ra uimm => Sys2Proof.Machine.execEvldd rd ra uimm s
  | .evlddx rd ra rb => Sys2Proof.Machine.execEvlddx rd ra rb s
  | .evldw rd ra uimm => Sys2Proof.Machine.execEvldw rd ra uimm s
  | .evldwx rd ra rb => Sys2Proof.Machine.execEvldwx rd ra rb s
  | .evldh rd ra uimm => Sys2Proof.Machine.execEvldh rd ra uimm s
  | .evldhx rd ra rb => Sys2Proof.Machine.execEvldhx rd ra rb s
  | .evlwhe rd ra uimm => Sys2Proof.Machine.execEvlwhe rd ra uimm s
  | .evlwhex rd ra rb => Sys2Proof.Machine.execEvlwhex rd ra rb s
  | .evlwhou rd ra uimm => Sys2Proof.Machine.execEvlwhou rd ra uimm s
  | .evlwhoux rd ra rb => Sys2Proof.Machine.execEvlwhoux rd ra rb s
  | .evlwhos rd ra uimm => Sys2Proof.Machine.execEvlwhos rd ra uimm s
  | .evlwhosx rd ra rb => Sys2Proof.Machine.execEvlwhosx rd ra rb s
  | .evlwwsplat rd ra uimm => Sys2Proof.Machine.execEvlwwsplat rd ra uimm s
  | .evlwwsplatx rd ra rb => Sys2Proof.Machine.execEvlwwsplatx rd ra rb s
  | .evlwhsplat rd ra uimm => Sys2Proof.Machine.execEvlwhsplat rd ra uimm s
  | .evlwhsplatx rd ra rb => Sys2Proof.Machine.execEvlwhsplatx rd ra rb s
  | .evlhhesplat rd ra uimm => Sys2Proof.Machine.execEvlhhesplat rd ra uimm s
  | .evlhhesplatx rd ra rb => Sys2Proof.Machine.execEvlhhesplatx rd ra rb s
  | .evlhhousplat rd ra uimm => Sys2Proof.Machine.execEvlhhousplat rd ra uimm s
  | .evlhhousplatx rd ra rb => Sys2Proof.Machine.execEvlhhousplatx rd ra rb s
  | .evlhhossplat rd ra uimm => Sys2Proof.Machine.execEvlhhossplat rd ra uimm s
  | .evlhhossplatx rd ra rb => Sys2Proof.Machine.execEvlhhossplatx rd ra rb s
  | .evstdd rs ra uimm => Sys2Proof.Machine.execEvstdd rs ra uimm s
  | .evstddx rs ra rb => Sys2Proof.Machine.execEvstddx rs ra rb s
  | .evstdw rs ra uimm => Sys2Proof.Machine.execEvstdw rs ra uimm s
  | .evstdwx rs ra rb => Sys2Proof.Machine.execEvstdwx rs ra rb s
  | .evstdh rs ra uimm => Sys2Proof.Machine.execEvstdh rs ra uimm s
  | .evstdhx rs ra rb => Sys2Proof.Machine.execEvstdhx rs ra rb s
  | .evstwhe rs ra uimm => Sys2Proof.Machine.execEvstwhe rs ra uimm s
  | .evstwhex rs ra rb => Sys2Proof.Machine.execEvstwhex rs ra rb s
  | .evstwho rs ra uimm => Sys2Proof.Machine.execEvstwho rs ra uimm s
  | .evstwhox rs ra rb => Sys2Proof.Machine.execEvstwhox rs ra rb s
  | .evstwwe rs ra uimm => Sys2Proof.Machine.execEvstwwe rs ra uimm s
  | .evstwwex rs ra rb => Sys2Proof.Machine.execEvstwwex rs ra rb s
  | .evstwwo rs ra uimm => Sys2Proof.Machine.execEvstwwo rs ra uimm s
  | .evstwwox rs ra rb => Sys2Proof.Machine.execEvstwwox rs ra rb s

end Sys2Proof.Machine
end

