-- ==== Sys2Proof/WellFormed.lean ====
section
/-! DEFINITION. Which terms of Instr stand for a word of the machine.

Every operand has exactly the width of its field, so the only check left is the one the decoder makes on a field's value:
mbar with MO other than 0, 1, 2 is an illegal instruction (spec/30_encoding.md R560). -/

namespace Sys2Proof

/-- The values of MO that mbar has (spec/30_encoding.md R560). -/
def mbarFieldOk (mo : BitVec 5) : Bool := mo == 0 || mo == 1 || mo == 2

/-- The instruction is one the decoder can give. -/
def Instr.wellFormed : Instr → Bool
  | .mbar mo => mbarFieldOk mo
  | .add .. | .addRc .. | .addc .. | .addcRc .. | .addco .. | .addcoRc .. | .adde .. | .addeRc .. | .addeo ..
  | .addeoRc .. | .addi .. | .addic .. | .addicRc .. | .addis .. | .addme .. | .addmeRc .. | .addmeo ..
  | .addmeoRc .. | .addo .. | .addoRc .. | .addze .. | .addzeRc .. | .addzeo .. | .addzeoRc .. | .and ..
  | .andRc .. | .andc .. | .andcRc .. | .andiRc .. | .andisRc .. | .b .. | .ba .. | .bc .. | .bca .. | .bcctr ..
  | .bcctrl .. | .bcl .. | .bcla .. | .bclr .. | .bclrl .. | .bl .. | .bla .. | .cmp .. | .cmpi .. | .cmpl ..
  | .cmpli .. | .cntlzw .. | .cntlzwRc .. | .crand .. | .crandc .. | .creqv .. | .crnand .. | .crnor .. | .cror ..
  | .crorc .. | .crxor .. | .dcba .. | .dcbf .. | .dcbi .. | .dcblc .. | .dcbst .. | .dcbt .. | .dcbtls ..
  | .dcbtst .. | .dcbtstls .. | .dcbz .. | .divw .. | .divwRc .. | .divwo .. | .divwoRc .. | .divwu ..
  | .divwuRc .. | .divwuo .. | .divwuoRc .. | .eqv .. | .eqvRc .. | .extsb .. | .extsbRc .. | .extsh ..
  | .extshRc .. | .icbi .. | .icblc .. | .icbt .. | .icbtls .. | .isel .. | .isync | .lbz .. | .lbzu .. | .lbzux ..
  | .lbzx .. | .lha .. | .lhau .. | .lhaux .. | .lhax .. | .lhbrx .. | .lhz .. | .lhzu .. | .lhzux .. | .lhzx ..
  | .lmw .. | .lwarx .. | .lwbrx .. | .lwz .. | .lwzu .. | .lwzux .. | .lwzx .. | .mcrf .. | .mcrxr .. | .mfcr ..
  | .mfdcr .. | .mfmsr .. | .mfspr .. | .msync | .mtcrf .. | .mtdcr .. | .mtmsr .. | .mtspr .. | .mulhw ..
  | .mulhwRc .. | .mulhwu .. | .mulhwuRc .. | .mulli .. | .mullw .. | .mullwRc .. | .mullwo .. | .mullwoRc ..
  | .nand .. | .nandRc .. | .neg .. | .negRc .. | .nego .. | .negoRc .. | .nor .. | .norRc .. | .or .. | .orRc ..
  | .orc .. | .orcRc .. | .ori .. | .oris .. | .rfci | .rfdi | .rfi | .rfmci | .rlwimi .. | .rlwimiRc ..
  | .rlwinm .. | .rlwinmRc .. | .rlwnm .. | .rlwnmRc .. | .sc | .slw .. | .slwRc .. | .sraw .. | .srawRc ..
  | .srawi .. | .srawiRc .. | .srw .. | .srwRc .. | .stb .. | .stbu .. | .stbux .. | .stbx .. | .sth ..
  | .sthbrx .. | .sthu .. | .sthux .. | .sthx .. | .stmw .. | .stw .. | .stwbrx .. | .stwcxRc .. | .stwu ..
  | .stwux .. | .stwx .. | .subf .. | .subfRc .. | .subfc .. | .subfcRc .. | .subfco .. | .subfcoRc .. | .subfe ..
  | .subfeRc .. | .subfeo .. | .subfeoRc .. | .subfic .. | .subfme .. | .subfmeRc .. | .subfmeo .. | .subfmeoRc ..
  | .subfo .. | .subfoRc .. | .subfze .. | .subfzeRc .. | .subfzeo .. | .subfzeoRc .. | .tlbivax .. | .tlbre
  | .tlbsx .. | .tlbsync | .tlbwe | .tw .. | .twi .. | .wrtee .. | .wrteei .. | .xor .. | .xorRc .. | .xori ..
  | .xoris .. | .wait | .lbarx .. | .lharx .. | .stbcxRc .. | .sthcxRc .. | .dnh .. | .seIsync | .seSc | .seRfi
  | .seRfci | .seRfdi | .seRfmci | .seDnh | .eDnh .. | .eLmvgprw .. | .eStmvgprw .. | .eLmvsprw .. | .eStmvsprw ..
  | .eLmvsrrw .. | .eStmvsrrw .. | .eLmvcsrrw .. | .eStmvcsrrw .. | .eLmvdsrrw .. | .eStmvdsrrw .. | .eLmvmcsrrw ..
  | .eStmvmcsrrw .. | .eLmw .. | .eStmw .. | .efsabs .. | .efsnabs .. | .efsneg .. | .efsadd .. | .efssub ..
  | .efsmul .. | .efsdiv .. | .efsmadd .. | .efsmsub .. | .efsnmadd .. | .efsnmsub .. | .efssqrt .. | .efsmax ..
  | .efsmin .. | .efscmpgt .. | .efscmplt .. | .efscmpeq .. | .efststgt .. | .efststlt .. | .efststeq ..
  | .efscfui .. | .efscfsi .. | .efscfuf .. | .efscfsf .. | .efscfh .. | .efsctui .. | .efsctsi .. | .efsctuiz ..
  | .efsctsiz .. | .efsctuf .. | .efsctsf .. | .efscth .. | .evfsabs .. | .evfsnabs .. | .evfsneg .. | .evfsadd ..
  | .evfssub .. | .evfsaddsub .. | .evfssubadd .. | .evfsaddx .. | .evfssubx .. | .evfsaddsubx .. | .evfssubaddx ..
  | .evfssum .. | .evfsdiff .. | .evfssumdiff .. | .evfsdiffsum .. | .evfsmul .. | .evfsmule .. | .evfsmulo ..
  | .evfsmulx .. | .evfsdiv .. | .evfsmadd .. | .evfsmsub .. | .evfsnmadd .. | .evfsnmsub .. | .evfssqrt ..
  | .evfsmax .. | .evfsmin .. | .evfscmpgt .. | .evfscmplt .. | .evfscmpeq .. | .evfststgt .. | .evfststlt ..
  | .evfststeq .. | .evfscfui .. | .evfscfsi .. | .evfscfuf .. | .evfscfsf .. | .evfscfh .. | .evfscth ..
  | .evfsctui .. | .evfsctsi .. | .evfsctuiz .. | .evfsctsiz .. | .evfsctuf .. | .evfsctsf .. | .brinc ..
  | .evabs .. | .evaddiw .. | .evaddw .. | .evneg .. | .evsubfw .. | .evsubifw .. | .evand .. | .evandc ..
  | .eveqv .. | .evnand .. | .evnor .. | .evor .. | .evorc .. | .evxor .. | .evcmpeq .. | .evcmpgts ..
  | .evcmpgtu .. | .evcmplts .. | .evcmpltu .. | .evcntlsw .. | .evcntlzw .. | .evextsb .. | .evextsh ..
  | .evmergehi .. | .evmergehilo .. | .evmergelo .. | .evmergelohi .. | .evrlw .. | .evrlwi .. | .evrndw ..
  | .evsel .. | .evslw .. | .evslwi .. | .evsrwis .. | .evsrwiu .. | .evsrws .. | .evsrwu .. | .evsplatfi ..
  | .evsplati .. | .evdivws .. | .evdivwu .. | .evmwhsmf .. | .evmwhsmfa .. | .evmwhsmi .. | .evmwhsmia ..
  | .evmwhssf .. | .evmwhssfa .. | .evmwhumi .. | .evmwhumia .. | .evmwlsmiaaw .. | .evmwlsmianw ..
  | .evmwlssiaaw .. | .evmwlssianw .. | .evmwlumi .. | .evmwlumia .. | .evmwlumiaaw .. | .evmwlumianw ..
  | .evmwlusiaaw .. | .evmwlusianw .. | .evmwsmf .. | .evmwsmfa .. | .evmwsmfaa .. | .evmwsmfan .. | .evmwsmi ..
  | .evmwsmia .. | .evmwsmiaa .. | .evmwsmian .. | .evmwssf .. | .evmwssfa .. | .evmwssfaa .. | .evmwssfan ..
  | .evmwumi .. | .evmwumia .. | .evmwumiaa .. | .evmwumian .. | .evaddsmiaaw .. | .evaddssiaaw ..
  | .evaddumiaaw .. | .evaddusiaaw .. | .evsubfsmiaaw .. | .evsubfssiaaw .. | .evsubfumiaaw .. | .evsubfusiaaw ..
  | .evmra .. | .evmhegsmfaa .. | .evmhegsmfan .. | .evmhegsmiaa .. | .evmhegsmian .. | .evmhegumiaa ..
  | .evmhegumian .. | .evmhesmf .. | .evmhesmfa .. | .evmhesmfaaw .. | .evmhesmfanw .. | .evmhesmi ..
  | .evmhesmia .. | .evmhesmiaaw .. | .evmhesmianw .. | .evmhessf .. | .evmhessfa .. | .evmhessfaaw ..
  | .evmhessfanw .. | .evmhessiaaw .. | .evmhessianw .. | .evmheumi .. | .evmheumia .. | .evmheumiaaw ..
  | .evmheumianw .. | .evmheusiaaw .. | .evmheusianw .. | .evmhogsmfaa .. | .evmhogsmfan .. | .evmhogsmiaa ..
  | .evmhogsmian .. | .evmhogumiaa .. | .evmhogumian .. | .evmhosmf .. | .evmhosmfa .. | .evmhosmfaaw ..
  | .evmhosmfanw .. | .evmhosmi .. | .evmhosmia .. | .evmhosmiaaw .. | .evmhosmianw .. | .evmhossf ..
  | .evmhossfa .. | .evmhossfaaw .. | .evmhossfanw .. | .evmhossiaaw .. | .evmhossianw .. | .evmhoumi ..
  | .evmhoumia .. | .evmhoumiaaw .. | .evmhoumianw .. | .evmhousiaaw .. | .evmhousianw .. | .evldd .. | .evlddx ..
  | .evldw .. | .evldwx .. | .evldh .. | .evldhx .. | .evlwhe .. | .evlwhex .. | .evlwhou .. | .evlwhoux ..
  | .evlwhos .. | .evlwhosx .. | .evlwwsplat .. | .evlwwsplatx .. | .evlwhsplat .. | .evlwhsplatx ..
  | .evlhhesplat .. | .evlhhesplatx .. | .evlhhousplat .. | .evlhhousplatx .. | .evlhhossplat ..
  | .evlhhossplatx .. | .evstdd .. | .evstddx .. | .evstdw .. | .evstdwx .. | .evstdh .. | .evstdhx ..
  | .evstwhe .. | .evstwhex .. | .evstwho .. | .evstwhox .. | .evstwwe .. | .evstwwex .. | .evstwwo ..
  | .evstwwox ..
    => true

end Sys2Proof
end

