-- ==== Sys2Proof/Decode.lean ====
section
/-! DEFINITION. The decoder and the encoder (spec/30_encoding.md R500 to R575, spec/44_vle.md R950 to R952,
spec/opcode_table.json).

The opcode table is a list of rows, each a mask, a match value and the operands read from the word; a word is the
instruction of the row it matches. Words that match no row are sorted as R565, R575 and R1190 say. A word is held
big-endian: the byte at the lowest address is its most significant byte (spec/20_memory.md R406). The table is noncomputable
only because Lean's compiler cannot build a constructor object with a tag above 244; the kernel evaluates it. -/

namespace Sys2Proof

/-- The kind of page an instruction is fetched from (spec/00_scope.md R3). -/
inductive Page where
  | bookE
  | vle
  deriving DecidableEq, Repr

/-- Why bytes are no instruction. -/
inductive Reject where
  /-- An illegal instruction (spec/30_encoding.md R560). -/
  | illegal
  /-- An unimplemented operation (R565 (a)). -/
  | unimplemented
  /-- A floating-point instruction (R565 (b)). -/
  | floatingPoint
  /-- A word of the reserved double-precision space (spec/45_efpu_scalar.md R1190). -/
  | doublePrecision
  /-- A VLE instruction outside the specification (spec/44_vle.md R951). -/
  | vleOutside
  /-- Fewer bytes than the instruction needs. -/
  | truncated
  deriving DecidableEq, Repr

/-- Bits a to a + n - 1 of an instruction word, bit 0 the most significant (spec/00_scope.md R21). -/
def field (a n : Nat) (w : Word) : BitVec n := w.extractLsb' (32 - a - n) n

/-- The n-bit value x placed at bits a to a + n - 1 of a word of zeros. -/
def place (a n : Nat) (x : BitVec n) : Word := x.setWidth 32 <<< (32 - a - n)

/-- One row of the opcode table: the word w is this instruction when w AND mask = bits. -/
structure Row where
  mask : Word
  bits : Word
  build : Word → Instr

/-- The row's instruction is what the word holds. -/
def Row.hit (r : Row) (w : Word) : Bool := w &&& r.mask == r.bits

/-- Part 1 of the rows of Book E pages other than primary opcode 4 (R530, R540). -/
noncomputable def baseRows1 : List Row := [
  ⟨0xFC0007FF#32, 0x7C000214#32, fun w => .add (field 6 5 w) (field 11 5 w) (field 16 5 w)⟩,
  ⟨0xFC0007FF#32, 0x7C000215#32, fun w => .addRc (field 6 5 w) (field 11 5 w) (field 16 5 w)⟩,
  ⟨0xFC0007FF#32, 0x7C000014#32, fun w => .addc (field 6 5 w) (field 11 5 w) (field 16 5 w)⟩,
  ⟨0xFC0007FF#32, 0x7C000015#32, fun w => .addcRc (field 6 5 w) (field 11 5 w) (field 16 5 w)⟩,
  ⟨0xFC0007FF#32, 0x7C000414#32, fun w => .addco (field 6 5 w) (field 11 5 w) (field 16 5 w)⟩,
  ⟨0xFC0007FF#32, 0x7C000415#32, fun w => .addcoRc (field 6 5 w) (field 11 5 w) (field 16 5 w)⟩,
  ⟨0xFC0007FF#32, 0x7C000114#32, fun w => .adde (field 6 5 w) (field 11 5 w) (field 16 5 w)⟩,
  ⟨0xFC0007FF#32, 0x7C000115#32, fun w => .addeRc (field 6 5 w) (field 11 5 w) (field 16 5 w)⟩,
  ⟨0xFC0007FF#32, 0x7C000514#32, fun w => .addeo (field 6 5 w) (field 11 5 w) (field 16 5 w)⟩,
  ⟨0xFC0007FF#32, 0x7C000515#32, fun w => .addeoRc (field 6 5 w) (field 11 5 w) (field 16 5 w)⟩,
  ⟨0xFC000000#32, 0x38000000#32, fun w => .addi (field 6 5 w) (field 11 5 w) (field 16 16 w)⟩,
  ⟨0xFC000000#32, 0x30000000#32, fun w => .addic (field 6 5 w) (field 11 5 w) (field 16 16 w)⟩,
  ⟨0xFC000000#32, 0x34000000#32, fun w => .addicRc (field 6 5 w) (field 11 5 w) (field 16 16 w)⟩,
  ⟨0xFC000000#32, 0x3C000000#32, fun w => .addis (field 6 5 w) (field 11 5 w) (field 16 16 w)⟩,
  ⟨0xFC00FFFF#32, 0x7C0001D4#32, fun w => .addme (field 6 5 w) (field 11 5 w)⟩,
  ⟨0xFC00FFFF#32, 0x7C0001D5#32, fun w => .addmeRc (field 6 5 w) (field 11 5 w)⟩,
  ⟨0xFC00FFFF#32, 0x7C0005D4#32, fun w => .addmeo (field 6 5 w) (field 11 5 w)⟩,
  ⟨0xFC00FFFF#32, 0x7C0005D5#32, fun w => .addmeoRc (field 6 5 w) (field 11 5 w)⟩,
  ⟨0xFC0007FF#32, 0x7C000614#32, fun w => .addo (field 6 5 w) (field 11 5 w) (field 16 5 w)⟩,
  ⟨0xFC0007FF#32, 0x7C000615#32, fun w => .addoRc (field 6 5 w) (field 11 5 w) (field 16 5 w)⟩,
  ⟨0xFC00FFFF#32, 0x7C000194#32, fun w => .addze (field 6 5 w) (field 11 5 w)⟩,
  ⟨0xFC00FFFF#32, 0x7C000195#32, fun w => .addzeRc (field 6 5 w) (field 11 5 w)⟩,
  ⟨0xFC00FFFF#32, 0x7C000594#32, fun w => .addzeo (field 6 5 w) (field 11 5 w)⟩,
  ⟨0xFC00FFFF#32, 0x7C000595#32, fun w => .addzeoRc (field 6 5 w) (field 11 5 w)⟩,
  ⟨0xFC0007FF#32, 0x7C000038#32, fun w => .and (field 6 5 w) (field 11 5 w) (field 16 5 w)⟩,
  ⟨0xFC0007FF#32, 0x7C000039#32, fun w => .andRc (field 6 5 w) (field 11 5 w) (field 16 5 w)⟩,
  ⟨0xFC0007FF#32, 0x7C000078#32, fun w => .andc (field 6 5 w) (field 11 5 w) (field 16 5 w)⟩,
  ⟨0xFC0007FF#32, 0x7C000079#32, fun w => .andcRc (field 6 5 w) (field 11 5 w) (field 16 5 w)⟩,
  ⟨0xFC000000#32, 0x70000000#32, fun w => .andiRc (field 6 5 w) (field 11 5 w) (field 16 16 w)⟩,
  ⟨0xFC000000#32, 0x74000000#32, fun w => .andisRc (field 6 5 w) (field 11 5 w) (field 16 16 w)⟩,
  ⟨0xFC000003#32, 0x48000000#32, fun w => .b (field 6 24 w)⟩,
  ⟨0xFC000003#32, 0x48000002#32, fun w => .ba (field 6 24 w)⟩,
  ⟨0xFC000003#32, 0x40000000#32, fun w => .bc (field 6 5 w) (field 11 5 w) (field 16 14 w)⟩,
  ⟨0xFC000003#32, 0x40000002#32, fun w => .bca (field 6 5 w) (field 11 5 w) (field 16 14 w)⟩,
  ⟨0xFC00FFFF#32, 0x4C000420#32, fun w => .bcctr (field 6 5 w) (field 11 5 w)⟩,
  ⟨0xFC00FFFF#32, 0x4C000421#32, fun w => .bcctrl (field 6 5 w) (field 11 5 w)⟩,
  ⟨0xFC000003#32, 0x40000001#32, fun w => .bcl (field 6 5 w) (field 11 5 w) (field 16 14 w)⟩,
  ⟨0xFC000003#32, 0x40000003#32, fun w => .bcla (field 6 5 w) (field 11 5 w) (field 16 14 w)⟩,
  ⟨0xFC00FFFF#32, 0x4C000020#32, fun w => .bclr (field 6 5 w) (field 11 5 w)⟩,
  ⟨0xFC00FFFF#32, 0x4C000021#32, fun w => .bclrl (field 6 5 w) (field 11 5 w)⟩]

/-- Part 2 of the rows of Book E pages other than primary opcode 4 (R530, R540). -/
noncomputable def baseRows2 : List Row := [
  ⟨0xFC000003#32, 0x48000001#32, fun w => .bl (field 6 24 w)⟩,
  ⟨0xFC000003#32, 0x48000003#32, fun w => .bla (field 6 24 w)⟩,
  ⟨0xFC6007FF#32, 0x7C000000#32, fun w => .cmp (field 6 3 w) (field 11 5 w) (field 16 5 w)⟩,
  ⟨0xFC600000#32, 0x2C000000#32, fun w => .cmpi (field 6 3 w) (field 11 5 w) (field 16 16 w)⟩,
  ⟨0xFC6007FF#32, 0x7C000040#32, fun w => .cmpl (field 6 3 w) (field 11 5 w) (field 16 5 w)⟩,
  ⟨0xFC600000#32, 0x28000000#32, fun w => .cmpli (field 6 3 w) (field 11 5 w) (field 16 16 w)⟩,
  ⟨0xFC00FFFF#32, 0x7C000034#32, fun w => .cntlzw (field 6 5 w) (field 11 5 w)⟩,
  ⟨0xFC00FFFF#32, 0x7C000035#32, fun w => .cntlzwRc (field 6 5 w) (field 11 5 w)⟩,
  ⟨0xFC0007FF#32, 0x4C000202#32, fun w => .crand (field 6 5 w) (field 11 5 w) (field 16 5 w)⟩,
  ⟨0xFC0007FF#32, 0x4C000102#32, fun w => .crandc (field 6 5 w) (field 11 5 w) (field 16 5 w)⟩,
  ⟨0xFC0007FF#32, 0x4C000242#32, fun w => .creqv (field 6 5 w) (field 11 5 w) (field 16 5 w)⟩,
  ⟨0xFC0007FF#32, 0x4C0001C2#32, fun w => .crnand (field 6 5 w) (field 11 5 w) (field 16 5 w)⟩,
  ⟨0xFC0007FF#32, 0x4C000042#32, fun w => .crnor (field 6 5 w) (field 11 5 w) (field 16 5 w)⟩,
  ⟨0xFC0007FF#32, 0x4C000382#32, fun w => .cror (field 6 5 w) (field 11 5 w) (field 16 5 w)⟩,
  ⟨0xFC0007FF#32, 0x4C000342#32, fun w => .crorc (field 6 5 w) (field 11 5 w) (field 16 5 w)⟩,
  ⟨0xFC0007FF#32, 0x4C000182#32, fun w => .crxor (field 6 5 w) (field 11 5 w) (field 16 5 w)⟩,
  ⟨0xFFE007FF#32, 0x7C0005EC#32, fun w => .dcba (field 11 5 w) (field 16 5 w)⟩,
  ⟨0xFFE007FF#32, 0x7C0000AC#32, fun w => .dcbf (field 11 5 w) (field 16 5 w)⟩,
  ⟨0xFFE007FF#32, 0x7C0003AC#32, fun w => .dcbi (field 11 5 w) (field 16 5 w)⟩,
  ⟨0xFC0007FF#32, 0x7C00030C#32, fun w => .dcblc (field 6 5 w) (field 11 5 w) (field 16 5 w)⟩,
  ⟨0xFFE007FF#32, 0x7C00006C#32, fun w => .dcbst (field 11 5 w) (field 16 5 w)⟩,
  ⟨0xFC0007FF#32, 0x7C00022C#32, fun w => .dcbt (field 6 5 w) (field 11 5 w) (field 16 5 w)⟩,
  ⟨0xFC0007FF#32, 0x7C00014C#32, fun w => .dcbtls (field 6 5 w) (field 11 5 w) (field 16 5 w)⟩,
  ⟨0xFC0007FF#32, 0x7C0001EC#32, fun w => .dcbtst (field 6 5 w) (field 11 5 w) (field 16 5 w)⟩,
  ⟨0xFC0007FF#32, 0x7C00010C#32, fun w => .dcbtstls (field 6 5 w) (field 11 5 w) (field 16 5 w)⟩,
  ⟨0xFFE007FF#32, 0x7C0007EC#32, fun w => .dcbz (field 11 5 w) (field 16 5 w)⟩,
  ⟨0xFC0007FF#32, 0x7C0003D6#32, fun w => .divw (field 6 5 w) (field 11 5 w) (field 16 5 w)⟩,
  ⟨0xFC0007FF#32, 0x7C0003D7#32, fun w => .divwRc (field 6 5 w) (field 11 5 w) (field 16 5 w)⟩,
  ⟨0xFC0007FF#32, 0x7C0007D6#32, fun w => .divwo (field 6 5 w) (field 11 5 w) (field 16 5 w)⟩,
  ⟨0xFC0007FF#32, 0x7C0007D7#32, fun w => .divwoRc (field 6 5 w) (field 11 5 w) (field 16 5 w)⟩,
  ⟨0xFC0007FF#32, 0x7C000396#32, fun w => .divwu (field 6 5 w) (field 11 5 w) (field 16 5 w)⟩,
  ⟨0xFC0007FF#32, 0x7C000397#32, fun w => .divwuRc (field 6 5 w) (field 11 5 w) (field 16 5 w)⟩,
  ⟨0xFC0007FF#32, 0x7C000796#32, fun w => .divwuo (field 6 5 w) (field 11 5 w) (field 16 5 w)⟩,
  ⟨0xFC0007FF#32, 0x7C000797#32, fun w => .divwuoRc (field 6 5 w) (field 11 5 w) (field 16 5 w)⟩,
  ⟨0xFC0007FF#32, 0x7C000238#32, fun w => .eqv (field 6 5 w) (field 11 5 w) (field 16 5 w)⟩,
  ⟨0xFC0007FF#32, 0x7C000239#32, fun w => .eqvRc (field 6 5 w) (field 11 5 w) (field 16 5 w)⟩,
  ⟨0xFC00FFFF#32, 0x7C000774#32, fun w => .extsb (field 6 5 w) (field 11 5 w)⟩,
  ⟨0xFC00FFFF#32, 0x7C000775#32, fun w => .extsbRc (field 6 5 w) (field 11 5 w)⟩,
  ⟨0xFC00FFFF#32, 0x7C000734#32, fun w => .extsh (field 6 5 w) (field 11 5 w)⟩,
  ⟨0xFC00FFFF#32, 0x7C000735#32, fun w => .extshRc (field 6 5 w) (field 11 5 w)⟩]

/-- Part 3 of the rows of Book E pages other than primary opcode 4 (R530, R540). -/
noncomputable def baseRows3 : List Row := [
  ⟨0xFFE007FF#32, 0x7C0007AC#32, fun w => .icbi (field 11 5 w) (field 16 5 w)⟩,
  ⟨0xFC0007FF#32, 0x7C0001CC#32, fun w => .icblc (field 6 5 w) (field 11 5 w) (field 16 5 w)⟩,
  ⟨0xFC0007FF#32, 0x7C00002C#32, fun w => .icbt (field 6 5 w) (field 11 5 w) (field 16 5 w)⟩,
  ⟨0xFC0007FF#32, 0x7C0003CC#32, fun w => .icbtls (field 6 5 w) (field 11 5 w) (field 16 5 w)⟩,
  ⟨0xFC00003F#32, 0x7C00001E#32, fun w => .isel (field 6 5 w) (field 11 5 w) (field 16 5 w) (field 21 5 w)⟩,
  ⟨0xFFFFFFFF#32, 0x4C00012C#32, fun _ => .isync⟩,
  ⟨0xFC000000#32, 0x88000000#32, fun w => .lbz (field 6 5 w) (field 11 5 w) (field 16 16 w)⟩,
  ⟨0xFC000000#32, 0x8C000000#32, fun w => .lbzu (field 6 5 w) (field 11 5 w) (field 16 16 w)⟩,
  ⟨0xFC0007FE#32, 0x7C0000EE#32, fun w => .lbzux (field 6 5 w) (field 11 5 w) (field 16 5 w)⟩,
  ⟨0xFC0007FE#32, 0x7C0000AE#32, fun w => .lbzx (field 6 5 w) (field 11 5 w) (field 16 5 w)⟩,
  ⟨0xFC000000#32, 0xA8000000#32, fun w => .lha (field 6 5 w) (field 11 5 w) (field 16 16 w)⟩,
  ⟨0xFC000000#32, 0xAC000000#32, fun w => .lhau (field 6 5 w) (field 11 5 w) (field 16 16 w)⟩,
  ⟨0xFC0007FE#32, 0x7C0002EE#32, fun w => .lhaux (field 6 5 w) (field 11 5 w) (field 16 5 w)⟩,
  ⟨0xFC0007FE#32, 0x7C0002AE#32, fun w => .lhax (field 6 5 w) (field 11 5 w) (field 16 5 w)⟩,
  ⟨0xFC0007FE#32, 0x7C00062C#32, fun w => .lhbrx (field 6 5 w) (field 11 5 w) (field 16 5 w)⟩,
  ⟨0xFC000000#32, 0xA0000000#32, fun w => .lhz (field 6 5 w) (field 11 5 w) (field 16 16 w)⟩,
  ⟨0xFC000000#32, 0xA4000000#32, fun w => .lhzu (field 6 5 w) (field 11 5 w) (field 16 16 w)⟩,
  ⟨0xFC0007FE#32, 0x7C00026E#32, fun w => .lhzux (field 6 5 w) (field 11 5 w) (field 16 5 w)⟩,
  ⟨0xFC0007FE#32, 0x7C00022E#32, fun w => .lhzx (field 6 5 w) (field 11 5 w) (field 16 5 w)⟩,
  ⟨0xFC000000#32, 0xB8000000#32, fun w => .lmw (field 6 5 w) (field 11 5 w) (field 16 16 w)⟩,
  ⟨0xFC0007FE#32, 0x7C000028#32, fun w => .lwarx (field 6 5 w) (field 11 5 w) (field 16 5 w)⟩,
  ⟨0xFC0007FE#32, 0x7C00042C#32, fun w => .lwbrx (field 6 5 w) (field 11 5 w) (field 16 5 w)⟩,
  ⟨0xFC000000#32, 0x80000000#32, fun w => .lwz (field 6 5 w) (field 11 5 w) (field 16 16 w)⟩,
  ⟨0xFC000000#32, 0x84000000#32, fun w => .lwzu (field 6 5 w) (field 11 5 w) (field 16 16 w)⟩,
  ⟨0xFC0007FE#32, 0x7C00006E#32, fun w => .lwzux (field 6 5 w) (field 11 5 w) (field 16 5 w)⟩,
  ⟨0xFC0007FE#32, 0x7C00002E#32, fun w => .lwzx (field 6 5 w) (field 11 5 w) (field 16 5 w)⟩,
  ⟨0xFC1FFFFF#32, 0x7C0006AC#32, fun w => .mbar (field 6 5 w)⟩,
  ⟨0xFC63FFFF#32, 0x4C000000#32, fun w => .mcrf (field 6 3 w) (field 11 3 w)⟩,
  ⟨0xFC7FFFFF#32, 0x7C000400#32, fun w => .mcrxr (field 6 3 w)⟩,
  ⟨0xFC1FFFFF#32, 0x7C000026#32, fun w => .mfcr (field 6 5 w)⟩,
  ⟨0xFC0007FF#32, 0x7C000286#32, fun w => .mfdcr (field 6 5 w) (field 11 10 w)⟩,
  ⟨0xFC1FFFFF#32, 0x7C0000A6#32, fun w => .mfmsr (field 6 5 w)⟩,
  ⟨0xFC0007FF#32, 0x7C0002A6#32, fun w => .mfspr (field 6 5 w) (field 11 10 w)⟩,
  ⟨0xFFFFFFFF#32, 0x7C0004AC#32, fun _ => .msync⟩,
  ⟨0xFC100FFF#32, 0x7C000120#32, fun w => .mtcrf (field 6 5 w) (field 12 8 w)⟩,
  ⟨0xFC0007FF#32, 0x7C000386#32, fun w => .mtdcr (field 6 5 w) (field 11 10 w)⟩,
  ⟨0xFC1FFFFF#32, 0x7C000124#32, fun w => .mtmsr (field 6 5 w)⟩,
  ⟨0xFC0007FF#32, 0x7C0003A6#32, fun w => .mtspr (field 6 5 w) (field 11 10 w)⟩,
  ⟨0xFC0007FF#32, 0x7C000096#32, fun w => .mulhw (field 6 5 w) (field 11 5 w) (field 16 5 w)⟩,
  ⟨0xFC0007FF#32, 0x7C000097#32, fun w => .mulhwRc (field 6 5 w) (field 11 5 w) (field 16 5 w)⟩]

/-- Part 4 of the rows of Book E pages other than primary opcode 4 (R530, R540). -/
noncomputable def baseRows4 : List Row := [
  ⟨0xFC0007FF#32, 0x7C000016#32, fun w => .mulhwu (field 6 5 w) (field 11 5 w) (field 16 5 w)⟩,
  ⟨0xFC0007FF#32, 0x7C000017#32, fun w => .mulhwuRc (field 6 5 w) (field 11 5 w) (field 16 5 w)⟩,
  ⟨0xFC000000#32, 0x1C000000#32, fun w => .mulli (field 6 5 w) (field 11 5 w) (field 16 16 w)⟩,
  ⟨0xFC0007FF#32, 0x7C0001D6#32, fun w => .mullw (field 6 5 w) (field 11 5 w) (field 16 5 w)⟩,
  ⟨0xFC0007FF#32, 0x7C0001D7#32, fun w => .mullwRc (field 6 5 w) (field 11 5 w) (field 16 5 w)⟩,
  ⟨0xFC0007FF#32, 0x7C0005D6#32, fun w => .mullwo (field 6 5 w) (field 11 5 w) (field 16 5 w)⟩,
  ⟨0xFC0007FF#32, 0x7C0005D7#32, fun w => .mullwoRc (field 6 5 w) (field 11 5 w) (field 16 5 w)⟩,
  ⟨0xFC0007FF#32, 0x7C0003B8#32, fun w => .nand (field 6 5 w) (field 11 5 w) (field 16 5 w)⟩,
  ⟨0xFC0007FF#32, 0x7C0003B9#32, fun w => .nandRc (field 6 5 w) (field 11 5 w) (field 16 5 w)⟩,
  ⟨0xFC00FFFF#32, 0x7C0000D0#32, fun w => .neg (field 6 5 w) (field 11 5 w)⟩,
  ⟨0xFC00FFFF#32, 0x7C0000D1#32, fun w => .negRc (field 6 5 w) (field 11 5 w)⟩,
  ⟨0xFC00FFFF#32, 0x7C0004D0#32, fun w => .nego (field 6 5 w) (field 11 5 w)⟩,
  ⟨0xFC00FFFF#32, 0x7C0004D1#32, fun w => .negoRc (field 6 5 w) (field 11 5 w)⟩,
  ⟨0xFC0007FF#32, 0x7C0000F8#32, fun w => .nor (field 6 5 w) (field 11 5 w) (field 16 5 w)⟩,
  ⟨0xFC0007FF#32, 0x7C0000F9#32, fun w => .norRc (field 6 5 w) (field 11 5 w) (field 16 5 w)⟩,
  ⟨0xFC0007FF#32, 0x7C000378#32, fun w => .or (field 6 5 w) (field 11 5 w) (field 16 5 w)⟩,
  ⟨0xFC0007FF#32, 0x7C000379#32, fun w => .orRc (field 6 5 w) (field 11 5 w) (field 16 5 w)⟩,
  ⟨0xFC0007FF#32, 0x7C000338#32, fun w => .orc (field 6 5 w) (field 11 5 w) (field 16 5 w)⟩,
  ⟨0xFC0007FF#32, 0x7C000339#32, fun w => .orcRc (field 6 5 w) (field 11 5 w) (field 16 5 w)⟩,
  ⟨0xFC000000#32, 0x60000000#32, fun w => .ori (field 6 5 w) (field 11 5 w) (field 16 16 w)⟩,
  ⟨0xFC000000#32, 0x64000000#32, fun w => .oris (field 6 5 w) (field 11 5 w) (field 16 16 w)⟩,
  ⟨0xFFFFFFFF#32, 0x4C000066#32, fun _ => .rfci⟩,
  ⟨0xFFFFFFFF#32, 0x4C00004E#32, fun _ => .rfdi⟩,
  ⟨0xFFFFFFFF#32, 0x4C000064#32, fun _ => .rfi⟩,
  ⟨0xFFFFFFFF#32, 0x4C00004C#32, fun _ => .rfmci⟩,
  ⟨0xFC000001#32, 0x50000000#32, fun w => .rlwimi (field 6 5 w) (field 11 5 w) (field 16 5 w) (field 21 5 w) (field 26 5 w)⟩,
  ⟨0xFC000001#32, 0x50000001#32, fun w => .rlwimiRc (field 6 5 w) (field 11 5 w) (field 16 5 w) (field 21 5 w) (field 26 5 w)⟩,
  ⟨0xFC000001#32, 0x54000000#32, fun w => .rlwinm (field 6 5 w) (field 11 5 w) (field 16 5 w) (field 21 5 w) (field 26 5 w)⟩,
  ⟨0xFC000001#32, 0x54000001#32, fun w => .rlwinmRc (field 6 5 w) (field 11 5 w) (field 16 5 w) (field 21 5 w) (field 26 5 w)⟩,
  ⟨0xFC000001#32, 0x5C000000#32, fun w => .rlwnm (field 6 5 w) (field 11 5 w) (field 16 5 w) (field 21 5 w) (field 26 5 w)⟩,
  ⟨0xFC000001#32, 0x5C000001#32, fun w => .rlwnmRc (field 6 5 w) (field 11 5 w) (field 16 5 w) (field 21 5 w) (field 26 5 w)⟩,
  ⟨0xFFFFFFFF#32, 0x44000002#32, fun _ => .sc⟩,
  ⟨0xFC0007FF#32, 0x7C000030#32, fun w => .slw (field 6 5 w) (field 11 5 w) (field 16 5 w)⟩,
  ⟨0xFC0007FF#32, 0x7C000031#32, fun w => .slwRc (field 6 5 w) (field 11 5 w) (field 16 5 w)⟩,
  ⟨0xFC0007FF#32, 0x7C000630#32, fun w => .sraw (field 6 5 w) (field 11 5 w) (field 16 5 w)⟩,
  ⟨0xFC0007FF#32, 0x7C000631#32, fun w => .srawRc (field 6 5 w) (field 11 5 w) (field 16 5 w)⟩,
  ⟨0xFC0007FF#32, 0x7C000670#32, fun w => .srawi (field 6 5 w) (field 11 5 w) (field 16 5 w)⟩,
  ⟨0xFC0007FF#32, 0x7C000671#32, fun w => .srawiRc (field 6 5 w) (field 11 5 w) (field 16 5 w)⟩,
  ⟨0xFC0007FF#32, 0x7C000430#32, fun w => .srw (field 6 5 w) (field 11 5 w) (field 16 5 w)⟩,
  ⟨0xFC0007FF#32, 0x7C000431#32, fun w => .srwRc (field 6 5 w) (field 11 5 w) (field 16 5 w)⟩]

/-- Part 5 of the rows of Book E pages other than primary opcode 4 (R530, R540). -/
noncomputable def baseRows5 : List Row := [
  ⟨0xFC000000#32, 0x98000000#32, fun w => .stb (field 6 5 w) (field 11 5 w) (field 16 16 w)⟩,
  ⟨0xFC000000#32, 0x9C000000#32, fun w => .stbu (field 6 5 w) (field 11 5 w) (field 16 16 w)⟩,
  ⟨0xFC0007FE#32, 0x7C0001EE#32, fun w => .stbux (field 6 5 w) (field 11 5 w) (field 16 5 w)⟩,
  ⟨0xFC0007FE#32, 0x7C0001AE#32, fun w => .stbx (field 6 5 w) (field 11 5 w) (field 16 5 w)⟩,
  ⟨0xFC000000#32, 0xB0000000#32, fun w => .sth (field 6 5 w) (field 11 5 w) (field 16 16 w)⟩,
  ⟨0xFC0007FE#32, 0x7C00072C#32, fun w => .sthbrx (field 6 5 w) (field 11 5 w) (field 16 5 w)⟩,
  ⟨0xFC000000#32, 0xB4000000#32, fun w => .sthu (field 6 5 w) (field 11 5 w) (field 16 16 w)⟩,
  ⟨0xFC0007FE#32, 0x7C00036E#32, fun w => .sthux (field 6 5 w) (field 11 5 w) (field 16 5 w)⟩,
  ⟨0xFC0007FE#32, 0x7C00032E#32, fun w => .sthx (field 6 5 w) (field 11 5 w) (field 16 5 w)⟩,
  ⟨0xFC000000#32, 0xBC000000#32, fun w => .stmw (field 6 5 w) (field 11 5 w) (field 16 16 w)⟩,
  ⟨0xFC000000#32, 0x90000000#32, fun w => .stw (field 6 5 w) (field 11 5 w) (field 16 16 w)⟩,
  ⟨0xFC0007FE#32, 0x7C00052C#32, fun w => .stwbrx (field 6 5 w) (field 11 5 w) (field 16 5 w)⟩,
  ⟨0xFC0007FF#32, 0x7C00012D#32, fun w => .stwcxRc (field 6 5 w) (field 11 5 w) (field 16 5 w)⟩,
  ⟨0xFC000000#32, 0x94000000#32, fun w => .stwu (field 6 5 w) (field 11 5 w) (field 16 16 w)⟩,
  ⟨0xFC0007FE#32, 0x7C00016E#32, fun w => .stwux (field 6 5 w) (field 11 5 w) (field 16 5 w)⟩,
  ⟨0xFC0007FE#32, 0x7C00012E#32, fun w => .stwx (field 6 5 w) (field 11 5 w) (field 16 5 w)⟩,
  ⟨0xFC0007FF#32, 0x7C000050#32, fun w => .subf (field 6 5 w) (field 11 5 w) (field 16 5 w)⟩,
  ⟨0xFC0007FF#32, 0x7C000051#32, fun w => .subfRc (field 6 5 w) (field 11 5 w) (field 16 5 w)⟩,
  ⟨0xFC0007FF#32, 0x7C000010#32, fun w => .subfc (field 6 5 w) (field 11 5 w) (field 16 5 w)⟩,
  ⟨0xFC0007FF#32, 0x7C000011#32, fun w => .subfcRc (field 6 5 w) (field 11 5 w) (field 16 5 w)⟩,
  ⟨0xFC0007FF#32, 0x7C000410#32, fun w => .subfco (field 6 5 w) (field 11 5 w) (field 16 5 w)⟩,
  ⟨0xFC0007FF#32, 0x7C000411#32, fun w => .subfcoRc (field 6 5 w) (field 11 5 w) (field 16 5 w)⟩,
  ⟨0xFC0007FF#32, 0x7C000110#32, fun w => .subfe (field 6 5 w) (field 11 5 w) (field 16 5 w)⟩,
  ⟨0xFC0007FF#32, 0x7C000111#32, fun w => .subfeRc (field 6 5 w) (field 11 5 w) (field 16 5 w)⟩,
  ⟨0xFC0007FF#32, 0x7C000510#32, fun w => .subfeo (field 6 5 w) (field 11 5 w) (field 16 5 w)⟩,
  ⟨0xFC0007FF#32, 0x7C000511#32, fun w => .subfeoRc (field 6 5 w) (field 11 5 w) (field 16 5 w)⟩,
  ⟨0xFC000000#32, 0x20000000#32, fun w => .subfic (field 6 5 w) (field 11 5 w) (field 16 16 w)⟩,
  ⟨0xFC00FFFF#32, 0x7C0001D0#32, fun w => .subfme (field 6 5 w) (field 11 5 w)⟩,
  ⟨0xFC00FFFF#32, 0x7C0001D1#32, fun w => .subfmeRc (field 6 5 w) (field 11 5 w)⟩,
  ⟨0xFC00FFFF#32, 0x7C0005D0#32, fun w => .subfmeo (field 6 5 w) (field 11 5 w)⟩,
  ⟨0xFC00FFFF#32, 0x7C0005D1#32, fun w => .subfmeoRc (field 6 5 w) (field 11 5 w)⟩,
  ⟨0xFC0007FF#32, 0x7C000450#32, fun w => .subfo (field 6 5 w) (field 11 5 w) (field 16 5 w)⟩,
  ⟨0xFC0007FF#32, 0x7C000451#32, fun w => .subfoRc (field 6 5 w) (field 11 5 w) (field 16 5 w)⟩,
  ⟨0xFC00FFFF#32, 0x7C000190#32, fun w => .subfze (field 6 5 w) (field 11 5 w)⟩,
  ⟨0xFC00FFFF#32, 0x7C000191#32, fun w => .subfzeRc (field 6 5 w) (field 11 5 w)⟩,
  ⟨0xFC00FFFF#32, 0x7C000590#32, fun w => .subfzeo (field 6 5 w) (field 11 5 w)⟩,
  ⟨0xFC00FFFF#32, 0x7C000591#32, fun w => .subfzeoRc (field 6 5 w) (field 11 5 w)⟩,
  ⟨0xFFE007FF#32, 0x7C000624#32, fun w => .tlbivax (field 11 5 w) (field 16 5 w)⟩,
  ⟨0xFFFFFFFF#32, 0x7C000764#32, fun _ => .tlbre⟩,
  ⟨0xFFE007FF#32, 0x7C000724#32, fun w => .tlbsx (field 11 5 w) (field 16 5 w)⟩]

/-- Part 6 of the rows of Book E pages other than primary opcode 4 (R530, R540). -/
noncomputable def baseRows6 : List Row := [
  ⟨0xFFFFFFFF#32, 0x7C00046C#32, fun _ => .tlbsync⟩,
  ⟨0xFFFFFFFF#32, 0x7C0007A4#32, fun _ => .tlbwe⟩,
  ⟨0xFC0007FF#32, 0x7C000008#32, fun w => .tw (field 6 5 w) (field 11 5 w) (field 16 5 w)⟩,
  ⟨0xFC000000#32, 0x0C000000#32, fun w => .twi (field 6 5 w) (field 11 5 w) (field 16 16 w)⟩,
  ⟨0xFC1FFFFF#32, 0x7C000106#32, fun w => .wrtee (field 6 5 w)⟩,
  ⟨0xFFFF7FFF#32, 0x7C000146#32, fun w => .wrteei (field 16 1 w)⟩,
  ⟨0xFC0007FF#32, 0x7C000278#32, fun w => .xor (field 6 5 w) (field 11 5 w) (field 16 5 w)⟩,
  ⟨0xFC0007FF#32, 0x7C000279#32, fun w => .xorRc (field 6 5 w) (field 11 5 w) (field 16 5 w)⟩,
  ⟨0xFC000000#32, 0x68000000#32, fun w => .xori (field 6 5 w) (field 11 5 w) (field 16 16 w)⟩,
  ⟨0xFC000000#32, 0x6C000000#32, fun w => .xoris (field 6 5 w) (field 11 5 w) (field 16 16 w)⟩,
  ⟨0xFFFFFFFF#32, 0x7C00007C#32, fun _ => .wait⟩,
  ⟨0xFC0007FE#32, 0x7C000068#32, fun w => .lbarx (field 6 5 w) (field 11 5 w) (field 16 5 w)⟩,
  ⟨0xFC0007FE#32, 0x7C0000E8#32, fun w => .lharx (field 6 5 w) (field 11 5 w) (field 16 5 w)⟩,
  ⟨0xFC0007FF#32, 0x7C00056D#32, fun w => .stbcxRc (field 6 5 w) (field 11 5 w) (field 16 5 w)⟩,
  ⟨0xFC0007FF#32, 0x7C0005AD#32, fun w => .sthcxRc (field 6 5 w) (field 11 5 w) (field 16 5 w)⟩,
  ⟨0xFC0007FF#32, 0x4C00018C#32, fun w => .dnh (field 6 5 w) (field 11 10 w)⟩]

/-- The opcode table: the rows of Book E pages other than primary opcode 4 (R530, R540). Reserved bits are in the masks, so a
word in which one is not zero matches no row and is illegal, but for the bits R561 calls ignored, as R561, R560 and
spec/92_eei_decisions.md D75 say; spec/93_implementation_defined.md section 1.3 says that the decoder ignores reserved bits but
for listed instructions, and no ruling chooses (DESIGN CHOICE, assumption log entry 45, unsafe). -/
noncomputable def baseRows : List Row :=
  baseRows1 ++ baseRows2 ++ baseRows3 ++ baseRows4 ++ baseRows5 ++ baseRows6

/-- Part 1 of the rows of primary opcode 4, valid on pages of both kinds (R522, spec/44_vle.md R952). -/
noncomputable def op4Rows1 : List Row := [
  ⟨0xFC00FFFF#32, 0x100002C4#32, fun w => .efsabs (field 6 5 w) (field 11 5 w)⟩,
  ⟨0xFC00FFFF#32, 0x100002C5#32, fun w => .efsnabs (field 6 5 w) (field 11 5 w)⟩,
  ⟨0xFC00FFFF#32, 0x100002C6#32, fun w => .efsneg (field 6 5 w) (field 11 5 w)⟩,
  ⟨0xFC0007FF#32, 0x100002C0#32, fun w => .efsadd (field 6 5 w) (field 11 5 w) (field 16 5 w)⟩,
  ⟨0xFC0007FF#32, 0x100002C1#32, fun w => .efssub (field 6 5 w) (field 11 5 w) (field 16 5 w)⟩,
  ⟨0xFC0007FF#32, 0x100002C8#32, fun w => .efsmul (field 6 5 w) (field 11 5 w) (field 16 5 w)⟩,
  ⟨0xFC0007FF#32, 0x100002C9#32, fun w => .efsdiv (field 6 5 w) (field 11 5 w) (field 16 5 w)⟩,
  ⟨0xFC0007FF#32, 0x100002C2#32, fun w => .efsmadd (field 6 5 w) (field 11 5 w) (field 16 5 w)⟩,
  ⟨0xFC0007FF#32, 0x100002C3#32, fun w => .efsmsub (field 6 5 w) (field 11 5 w) (field 16 5 w)⟩,
  ⟨0xFC0007FF#32, 0x100002CA#32, fun w => .efsnmadd (field 6 5 w) (field 11 5 w) (field 16 5 w)⟩,
  ⟨0xFC0007FF#32, 0x100002CB#32, fun w => .efsnmsub (field 6 5 w) (field 11 5 w) (field 16 5 w)⟩,
  ⟨0xFC00FFFF#32, 0x100002C7#32, fun w => .efssqrt (field 6 5 w) (field 11 5 w)⟩,
  ⟨0xFC0007FF#32, 0x100002B0#32, fun w => .efsmax (field 6 5 w) (field 11 5 w) (field 16 5 w)⟩,
  ⟨0xFC0007FF#32, 0x100002B1#32, fun w => .efsmin (field 6 5 w) (field 11 5 w) (field 16 5 w)⟩,
  ⟨0xFC6007FF#32, 0x100002CC#32, fun w => .efscmpgt (field 6 3 w) (field 11 5 w) (field 16 5 w)⟩,
  ⟨0xFC6007FF#32, 0x100002CD#32, fun w => .efscmplt (field 6 3 w) (field 11 5 w) (field 16 5 w)⟩,
  ⟨0xFC6007FF#32, 0x100002CE#32, fun w => .efscmpeq (field 6 3 w) (field 11 5 w) (field 16 5 w)⟩,
  ⟨0xFC6007FF#32, 0x100002DC#32, fun w => .efststgt (field 6 3 w) (field 11 5 w) (field 16 5 w)⟩,
  ⟨0xFC6007FF#32, 0x100002DD#32, fun w => .efststlt (field 6 3 w) (field 11 5 w) (field 16 5 w)⟩,
  ⟨0xFC6007FF#32, 0x100002DE#32, fun w => .efststeq (field 6 3 w) (field 11 5 w) (field 16 5 w)⟩,
  ⟨0xFC1F07FF#32, 0x100002D0#32, fun w => .efscfui (field 6 5 w) (field 16 5 w)⟩,
  ⟨0xFC1F07FF#32, 0x100002D1#32, fun w => .efscfsi (field 6 5 w) (field 16 5 w)⟩,
  ⟨0xFC1F07FF#32, 0x100002D2#32, fun w => .efscfuf (field 6 5 w) (field 16 5 w)⟩,
  ⟨0xFC1F07FF#32, 0x100002D3#32, fun w => .efscfsf (field 6 5 w) (field 16 5 w)⟩,
  ⟨0xFC1F07FF#32, 0x100402D1#32, fun w => .efscfh (field 6 5 w) (field 16 5 w)⟩,
  ⟨0xFC1F07FF#32, 0x100002D4#32, fun w => .efsctui (field 6 5 w) (field 16 5 w)⟩,
  ⟨0xFC1F07FF#32, 0x100002D5#32, fun w => .efsctsi (field 6 5 w) (field 16 5 w)⟩,
  ⟨0xFC1F07FF#32, 0x100002D8#32, fun w => .efsctuiz (field 6 5 w) (field 16 5 w)⟩,
  ⟨0xFC1F07FF#32, 0x100002DA#32, fun w => .efsctsiz (field 6 5 w) (field 16 5 w)⟩,
  ⟨0xFC1F07FF#32, 0x100002D6#32, fun w => .efsctuf (field 6 5 w) (field 16 5 w)⟩,
  ⟨0xFC1F07FF#32, 0x100002D7#32, fun w => .efsctsf (field 6 5 w) (field 16 5 w)⟩,
  ⟨0xFC1F07FF#32, 0x100402D5#32, fun w => .efscth (field 6 5 w) (field 16 5 w)⟩,
  ⟨0xFC00FFFF#32, 0x10000284#32, fun w => .evfsabs (field 6 5 w) (field 11 5 w)⟩,
  ⟨0xFC00FFFF#32, 0x10000285#32, fun w => .evfsnabs (field 6 5 w) (field 11 5 w)⟩,
  ⟨0xFC00FFFF#32, 0x10000286#32, fun w => .evfsneg (field 6 5 w) (field 11 5 w)⟩,
  ⟨0xFC0007FF#32, 0x10000280#32, fun w => .evfsadd (field 6 5 w) (field 11 5 w) (field 16 5 w)⟩,
  ⟨0xFC0007FF#32, 0x10000281#32, fun w => .evfssub (field 6 5 w) (field 11 5 w) (field 16 5 w)⟩,
  ⟨0xFC0007FF#32, 0x100002A2#32, fun w => .evfsaddsub (field 6 5 w) (field 11 5 w) (field 16 5 w)⟩,
  ⟨0xFC0007FF#32, 0x100002A3#32, fun w => .evfssubadd (field 6 5 w) (field 11 5 w) (field 16 5 w)⟩,
  ⟨0xFC0007FF#32, 0x100002A8#32, fun w => .evfsaddx (field 6 5 w) (field 11 5 w) (field 16 5 w)⟩]

/-- Part 2 of the rows of primary opcode 4, valid on pages of both kinds (R522, spec/44_vle.md R952). -/
noncomputable def op4Rows2 : List Row := [
  ⟨0xFC0007FF#32, 0x100002A9#32, fun w => .evfssubx (field 6 5 w) (field 11 5 w) (field 16 5 w)⟩,
  ⟨0xFC0007FF#32, 0x100002AA#32, fun w => .evfsaddsubx (field 6 5 w) (field 11 5 w) (field 16 5 w)⟩,
  ⟨0xFC0007FF#32, 0x100002AB#32, fun w => .evfssubaddx (field 6 5 w) (field 11 5 w) (field 16 5 w)⟩,
  ⟨0xFC0007FF#32, 0x100002A4#32, fun w => .evfssum (field 6 5 w) (field 11 5 w) (field 16 5 w)⟩,
  ⟨0xFC0007FF#32, 0x100002A5#32, fun w => .evfsdiff (field 6 5 w) (field 11 5 w) (field 16 5 w)⟩,
  ⟨0xFC0007FF#32, 0x100002A6#32, fun w => .evfssumdiff (field 6 5 w) (field 11 5 w) (field 16 5 w)⟩,
  ⟨0xFC0007FF#32, 0x100002A7#32, fun w => .evfsdiffsum (field 6 5 w) (field 11 5 w) (field 16 5 w)⟩,
  ⟨0xFC0007FF#32, 0x10000288#32, fun w => .evfsmul (field 6 5 w) (field 11 5 w) (field 16 5 w)⟩,
  ⟨0xFC0007FF#32, 0x100002AE#32, fun w => .evfsmule (field 6 5 w) (field 11 5 w) (field 16 5 w)⟩,
  ⟨0xFC0007FF#32, 0x100002AF#32, fun w => .evfsmulo (field 6 5 w) (field 11 5 w) (field 16 5 w)⟩,
  ⟨0xFC0007FF#32, 0x100002AC#32, fun w => .evfsmulx (field 6 5 w) (field 11 5 w) (field 16 5 w)⟩,
  ⟨0xFC0007FF#32, 0x10000289#32, fun w => .evfsdiv (field 6 5 w) (field 11 5 w) (field 16 5 w)⟩,
  ⟨0xFC0007FF#32, 0x10000282#32, fun w => .evfsmadd (field 6 5 w) (field 11 5 w) (field 16 5 w)⟩,
  ⟨0xFC0007FF#32, 0x10000283#32, fun w => .evfsmsub (field 6 5 w) (field 11 5 w) (field 16 5 w)⟩,
  ⟨0xFC0007FF#32, 0x1000028A#32, fun w => .evfsnmadd (field 6 5 w) (field 11 5 w) (field 16 5 w)⟩,
  ⟨0xFC0007FF#32, 0x1000028B#32, fun w => .evfsnmsub (field 6 5 w) (field 11 5 w) (field 16 5 w)⟩,
  ⟨0xFC00FFFF#32, 0x10000287#32, fun w => .evfssqrt (field 6 5 w) (field 11 5 w)⟩,
  ⟨0xFC0007FF#32, 0x100002A0#32, fun w => .evfsmax (field 6 5 w) (field 11 5 w) (field 16 5 w)⟩,
  ⟨0xFC0007FF#32, 0x100002A1#32, fun w => .evfsmin (field 6 5 w) (field 11 5 w) (field 16 5 w)⟩,
  ⟨0xFC6007FF#32, 0x1000028C#32, fun w => .evfscmpgt (field 6 3 w) (field 11 5 w) (field 16 5 w)⟩,
  ⟨0xFC6007FF#32, 0x1000028D#32, fun w => .evfscmplt (field 6 3 w) (field 11 5 w) (field 16 5 w)⟩,
  ⟨0xFC6007FF#32, 0x1000028E#32, fun w => .evfscmpeq (field 6 3 w) (field 11 5 w) (field 16 5 w)⟩,
  ⟨0xFC6007FF#32, 0x1000029C#32, fun w => .evfststgt (field 6 3 w) (field 11 5 w) (field 16 5 w)⟩,
  ⟨0xFC6007FF#32, 0x1000029D#32, fun w => .evfststlt (field 6 3 w) (field 11 5 w) (field 16 5 w)⟩,
  ⟨0xFC6007FF#32, 0x1000029E#32, fun w => .evfststeq (field 6 3 w) (field 11 5 w) (field 16 5 w)⟩,
  ⟨0xFC1F07FF#32, 0x10000290#32, fun w => .evfscfui (field 6 5 w) (field 16 5 w)⟩,
  ⟨0xFC1F07FF#32, 0x10000291#32, fun w => .evfscfsi (field 6 5 w) (field 16 5 w)⟩,
  ⟨0xFC1F07FF#32, 0x10000292#32, fun w => .evfscfuf (field 6 5 w) (field 16 5 w)⟩,
  ⟨0xFC1F07FF#32, 0x10000293#32, fun w => .evfscfsf (field 6 5 w) (field 16 5 w)⟩,
  ⟨0xFC1F07FF#32, 0x10040291#32, fun w => .evfscfh (field 6 5 w) (field 16 5 w)⟩,
  ⟨0xFC1F07FF#32, 0x10040295#32, fun w => .evfscth (field 6 5 w) (field 16 5 w)⟩,
  ⟨0xFC1F07FF#32, 0x10000294#32, fun w => .evfsctui (field 6 5 w) (field 16 5 w)⟩,
  ⟨0xFC1F07FF#32, 0x10000295#32, fun w => .evfsctsi (field 6 5 w) (field 16 5 w)⟩,
  ⟨0xFC1F07FF#32, 0x10000298#32, fun w => .evfsctuiz (field 6 5 w) (field 16 5 w)⟩,
  ⟨0xFC1F07FF#32, 0x1000029A#32, fun w => .evfsctsiz (field 6 5 w) (field 16 5 w)⟩,
  ⟨0xFC1F07FF#32, 0x10000296#32, fun w => .evfsctuf (field 6 5 w) (field 16 5 w)⟩,
  ⟨0xFC1F07FF#32, 0x10000297#32, fun w => .evfsctsf (field 6 5 w) (field 16 5 w)⟩,
  ⟨0xFC0007FF#32, 0x1000020F#32, fun w => .brinc (field 6 5 w) (field 11 5 w) (field 16 5 w)⟩,
  ⟨0xFC00FFFF#32, 0x10000208#32, fun w => .evabs (field 6 5 w) (field 11 5 w)⟩,
  ⟨0xFC0007FF#32, 0x10000202#32, fun w => .evaddiw (field 6 5 w) (field 11 5 w) (field 16 5 w)⟩]

/-- Part 3 of the rows of primary opcode 4, valid on pages of both kinds (R522, spec/44_vle.md R952). -/
noncomputable def op4Rows3 : List Row := [
  ⟨0xFC0007FF#32, 0x10000200#32, fun w => .evaddw (field 6 5 w) (field 11 5 w) (field 16 5 w)⟩,
  ⟨0xFC00FFFF#32, 0x10000209#32, fun w => .evneg (field 6 5 w) (field 11 5 w)⟩,
  ⟨0xFC0007FF#32, 0x10000204#32, fun w => .evsubfw (field 6 5 w) (field 11 5 w) (field 16 5 w)⟩,
  ⟨0xFC0007FF#32, 0x10000206#32, fun w => .evsubifw (field 6 5 w) (field 11 5 w) (field 16 5 w)⟩,
  ⟨0xFC0007FF#32, 0x10000211#32, fun w => .evand (field 6 5 w) (field 11 5 w) (field 16 5 w)⟩,
  ⟨0xFC0007FF#32, 0x10000212#32, fun w => .evandc (field 6 5 w) (field 11 5 w) (field 16 5 w)⟩,
  ⟨0xFC0007FF#32, 0x10000219#32, fun w => .eveqv (field 6 5 w) (field 11 5 w) (field 16 5 w)⟩,
  ⟨0xFC0007FF#32, 0x1000021E#32, fun w => .evnand (field 6 5 w) (field 11 5 w) (field 16 5 w)⟩,
  ⟨0xFC0007FF#32, 0x10000218#32, fun w => .evnor (field 6 5 w) (field 11 5 w) (field 16 5 w)⟩,
  ⟨0xFC0007FF#32, 0x10000217#32, fun w => .evor (field 6 5 w) (field 11 5 w) (field 16 5 w)⟩,
  ⟨0xFC0007FF#32, 0x1000021B#32, fun w => .evorc (field 6 5 w) (field 11 5 w) (field 16 5 w)⟩,
  ⟨0xFC0007FF#32, 0x10000216#32, fun w => .evxor (field 6 5 w) (field 11 5 w) (field 16 5 w)⟩,
  ⟨0xFC6007FF#32, 0x10000234#32, fun w => .evcmpeq (field 6 3 w) (field 11 5 w) (field 16 5 w)⟩,
  ⟨0xFC6007FF#32, 0x10000231#32, fun w => .evcmpgts (field 6 3 w) (field 11 5 w) (field 16 5 w)⟩,
  ⟨0xFC6007FF#32, 0x10000230#32, fun w => .evcmpgtu (field 6 3 w) (field 11 5 w) (field 16 5 w)⟩,
  ⟨0xFC6007FF#32, 0x10000233#32, fun w => .evcmplts (field 6 3 w) (field 11 5 w) (field 16 5 w)⟩,
  ⟨0xFC6007FF#32, 0x10000232#32, fun w => .evcmpltu (field 6 3 w) (field 11 5 w) (field 16 5 w)⟩,
  ⟨0xFC00FFFF#32, 0x1000020E#32, fun w => .evcntlsw (field 6 5 w) (field 11 5 w)⟩,
  ⟨0xFC00FFFF#32, 0x1000020D#32, fun w => .evcntlzw (field 6 5 w) (field 11 5 w)⟩,
  ⟨0xFC00FFFF#32, 0x1000020A#32, fun w => .evextsb (field 6 5 w) (field 11 5 w)⟩,
  ⟨0xFC00FFFF#32, 0x1000020B#32, fun w => .evextsh (field 6 5 w) (field 11 5 w)⟩,
  ⟨0xFC0007FF#32, 0x1000022C#32, fun w => .evmergehi (field 6 5 w) (field 11 5 w) (field 16 5 w)⟩,
  ⟨0xFC0007FF#32, 0x1000022E#32, fun w => .evmergehilo (field 6 5 w) (field 11 5 w) (field 16 5 w)⟩,
  ⟨0xFC0007FF#32, 0x1000022D#32, fun w => .evmergelo (field 6 5 w) (field 11 5 w) (field 16 5 w)⟩,
  ⟨0xFC0007FF#32, 0x1000022F#32, fun w => .evmergelohi (field 6 5 w) (field 11 5 w) (field 16 5 w)⟩,
  ⟨0xFC0007FF#32, 0x10000228#32, fun w => .evrlw (field 6 5 w) (field 11 5 w) (field 16 5 w)⟩,
  ⟨0xFC0007FF#32, 0x1000022A#32, fun w => .evrlwi (field 6 5 w) (field 11 5 w) (field 16 5 w)⟩,
  ⟨0xFC00FFFF#32, 0x1000020C#32, fun w => .evrndw (field 6 5 w) (field 11 5 w)⟩,
  ⟨0xFC0007F8#32, 0x10000278#32, fun w => .evsel (field 6 5 w) (field 11 5 w) (field 16 5 w) (field 29 3 w)⟩,
  ⟨0xFC0007FF#32, 0x10000224#32, fun w => .evslw (field 6 5 w) (field 11 5 w) (field 16 5 w)⟩,
  ⟨0xFC0007FF#32, 0x10000226#32, fun w => .evslwi (field 6 5 w) (field 11 5 w) (field 16 5 w)⟩,
  ⟨0xFC0007FF#32, 0x10000223#32, fun w => .evsrwis (field 6 5 w) (field 11 5 w) (field 16 5 w)⟩,
  ⟨0xFC0007FF#32, 0x10000222#32, fun w => .evsrwiu (field 6 5 w) (field 11 5 w) (field 16 5 w)⟩,
  ⟨0xFC0007FF#32, 0x10000221#32, fun w => .evsrws (field 6 5 w) (field 11 5 w) (field 16 5 w)⟩,
  ⟨0xFC0007FF#32, 0x10000220#32, fun w => .evsrwu (field 6 5 w) (field 11 5 w) (field 16 5 w)⟩,
  ⟨0xFC00FFFF#32, 0x1000022B#32, fun w => .evsplatfi (field 6 5 w) (field 11 5 w)⟩,
  ⟨0xFC00FFFF#32, 0x10000229#32, fun w => .evsplati (field 6 5 w) (field 11 5 w)⟩,
  ⟨0xFC0007FF#32, 0x100004C6#32, fun w => .evdivws (field 6 5 w) (field 11 5 w) (field 16 5 w)⟩,
  ⟨0xFC0007FF#32, 0x100004C7#32, fun w => .evdivwu (field 6 5 w) (field 11 5 w) (field 16 5 w)⟩,
  ⟨0xFC0007FF#32, 0x1000044F#32, fun w => .evmwhsmf (field 6 5 w) (field 11 5 w) (field 16 5 w)⟩]

/-- Part 4 of the rows of primary opcode 4, valid on pages of both kinds (R522, spec/44_vle.md R952). -/
noncomputable def op4Rows4 : List Row := [
  ⟨0xFC0007FF#32, 0x1000046F#32, fun w => .evmwhsmfa (field 6 5 w) (field 11 5 w) (field 16 5 w)⟩,
  ⟨0xFC0007FF#32, 0x1000044D#32, fun w => .evmwhsmi (field 6 5 w) (field 11 5 w) (field 16 5 w)⟩,
  ⟨0xFC0007FF#32, 0x1000046D#32, fun w => .evmwhsmia (field 6 5 w) (field 11 5 w) (field 16 5 w)⟩,
  ⟨0xFC0007FF#32, 0x10000447#32, fun w => .evmwhssf (field 6 5 w) (field 11 5 w) (field 16 5 w)⟩,
  ⟨0xFC0007FF#32, 0x10000467#32, fun w => .evmwhssfa (field 6 5 w) (field 11 5 w) (field 16 5 w)⟩,
  ⟨0xFC0007FF#32, 0x1000044C#32, fun w => .evmwhumi (field 6 5 w) (field 11 5 w) (field 16 5 w)⟩,
  ⟨0xFC0007FF#32, 0x1000046C#32, fun w => .evmwhumia (field 6 5 w) (field 11 5 w) (field 16 5 w)⟩,
  ⟨0xFC0007FF#32, 0x10000549#32, fun w => .evmwlsmiaaw (field 6 5 w) (field 11 5 w) (field 16 5 w)⟩,
  ⟨0xFC0007FF#32, 0x100005C9#32, fun w => .evmwlsmianw (field 6 5 w) (field 11 5 w) (field 16 5 w)⟩,
  ⟨0xFC0007FF#32, 0x10000541#32, fun w => .evmwlssiaaw (field 6 5 w) (field 11 5 w) (field 16 5 w)⟩,
  ⟨0xFC0007FF#32, 0x100005C1#32, fun w => .evmwlssianw (field 6 5 w) (field 11 5 w) (field 16 5 w)⟩,
  ⟨0xFC0007FF#32, 0x10000448#32, fun w => .evmwlumi (field 6 5 w) (field 11 5 w) (field 16 5 w)⟩,
  ⟨0xFC0007FF#32, 0x10000468#32, fun w => .evmwlumia (field 6 5 w) (field 11 5 w) (field 16 5 w)⟩,
  ⟨0xFC0007FF#32, 0x10000548#32, fun w => .evmwlumiaaw (field 6 5 w) (field 11 5 w) (field 16 5 w)⟩,
  ⟨0xFC0007FF#32, 0x100005C8#32, fun w => .evmwlumianw (field 6 5 w) (field 11 5 w) (field 16 5 w)⟩,
  ⟨0xFC0007FF#32, 0x10000540#32, fun w => .evmwlusiaaw (field 6 5 w) (field 11 5 w) (field 16 5 w)⟩,
  ⟨0xFC0007FF#32, 0x100005C0#32, fun w => .evmwlusianw (field 6 5 w) (field 11 5 w) (field 16 5 w)⟩,
  ⟨0xFC0007FF#32, 0x1000045B#32, fun w => .evmwsmf (field 6 5 w) (field 11 5 w) (field 16 5 w)⟩,
  ⟨0xFC0007FF#32, 0x1000047B#32, fun w => .evmwsmfa (field 6 5 w) (field 11 5 w) (field 16 5 w)⟩,
  ⟨0xFC0007FF#32, 0x1000055B#32, fun w => .evmwsmfaa (field 6 5 w) (field 11 5 w) (field 16 5 w)⟩,
  ⟨0xFC0007FF#32, 0x100005DB#32, fun w => .evmwsmfan (field 6 5 w) (field 11 5 w) (field 16 5 w)⟩,
  ⟨0xFC0007FF#32, 0x10000459#32, fun w => .evmwsmi (field 6 5 w) (field 11 5 w) (field 16 5 w)⟩,
  ⟨0xFC0007FF#32, 0x10000479#32, fun w => .evmwsmia (field 6 5 w) (field 11 5 w) (field 16 5 w)⟩,
  ⟨0xFC0007FF#32, 0x10000559#32, fun w => .evmwsmiaa (field 6 5 w) (field 11 5 w) (field 16 5 w)⟩,
  ⟨0xFC0007FF#32, 0x100005D9#32, fun w => .evmwsmian (field 6 5 w) (field 11 5 w) (field 16 5 w)⟩,
  ⟨0xFC0007FF#32, 0x10000453#32, fun w => .evmwssf (field 6 5 w) (field 11 5 w) (field 16 5 w)⟩,
  ⟨0xFC0007FF#32, 0x10000473#32, fun w => .evmwssfa (field 6 5 w) (field 11 5 w) (field 16 5 w)⟩,
  ⟨0xFC0007FF#32, 0x10000553#32, fun w => .evmwssfaa (field 6 5 w) (field 11 5 w) (field 16 5 w)⟩,
  ⟨0xFC0007FF#32, 0x100005D3#32, fun w => .evmwssfan (field 6 5 w) (field 11 5 w) (field 16 5 w)⟩,
  ⟨0xFC0007FF#32, 0x10000458#32, fun w => .evmwumi (field 6 5 w) (field 11 5 w) (field 16 5 w)⟩,
  ⟨0xFC0007FF#32, 0x10000478#32, fun w => .evmwumia (field 6 5 w) (field 11 5 w) (field 16 5 w)⟩,
  ⟨0xFC0007FF#32, 0x10000558#32, fun w => .evmwumiaa (field 6 5 w) (field 11 5 w) (field 16 5 w)⟩,
  ⟨0xFC0007FF#32, 0x100005D8#32, fun w => .evmwumian (field 6 5 w) (field 11 5 w) (field 16 5 w)⟩,
  ⟨0xFC00FFFF#32, 0x100004C9#32, fun w => .evaddsmiaaw (field 6 5 w) (field 11 5 w)⟩,
  ⟨0xFC00FFFF#32, 0x100004C1#32, fun w => .evaddssiaaw (field 6 5 w) (field 11 5 w)⟩,
  ⟨0xFC00FFFF#32, 0x100004C8#32, fun w => .evaddumiaaw (field 6 5 w) (field 11 5 w)⟩,
  ⟨0xFC00FFFF#32, 0x100004C0#32, fun w => .evaddusiaaw (field 6 5 w) (field 11 5 w)⟩,
  ⟨0xFC00FFFF#32, 0x100004CB#32, fun w => .evsubfsmiaaw (field 6 5 w) (field 11 5 w)⟩,
  ⟨0xFC00FFFF#32, 0x100004C3#32, fun w => .evsubfssiaaw (field 6 5 w) (field 11 5 w)⟩,
  ⟨0xFC00FFFF#32, 0x100004CA#32, fun w => .evsubfumiaaw (field 6 5 w) (field 11 5 w)⟩]

/-- Part 5 of the rows of primary opcode 4, valid on pages of both kinds (R522, spec/44_vle.md R952). -/
noncomputable def op4Rows5 : List Row := [
  ⟨0xFC00FFFF#32, 0x100004C2#32, fun w => .evsubfusiaaw (field 6 5 w) (field 11 5 w)⟩,
  ⟨0xFC00FFFF#32, 0x100004C4#32, fun w => .evmra (field 6 5 w) (field 11 5 w)⟩,
  ⟨0xFC0007FF#32, 0x1000052B#32, fun w => .evmhegsmfaa (field 6 5 w) (field 11 5 w) (field 16 5 w)⟩,
  ⟨0xFC0007FF#32, 0x100005AB#32, fun w => .evmhegsmfan (field 6 5 w) (field 11 5 w) (field 16 5 w)⟩,
  ⟨0xFC0007FF#32, 0x10000529#32, fun w => .evmhegsmiaa (field 6 5 w) (field 11 5 w) (field 16 5 w)⟩,
  ⟨0xFC0007FF#32, 0x100005A9#32, fun w => .evmhegsmian (field 6 5 w) (field 11 5 w) (field 16 5 w)⟩,
  ⟨0xFC0007FF#32, 0x10000528#32, fun w => .evmhegumiaa (field 6 5 w) (field 11 5 w) (field 16 5 w)⟩,
  ⟨0xFC0007FF#32, 0x100005A8#32, fun w => .evmhegumian (field 6 5 w) (field 11 5 w) (field 16 5 w)⟩,
  ⟨0xFC0007FF#32, 0x1000040B#32, fun w => .evmhesmf (field 6 5 w) (field 11 5 w) (field 16 5 w)⟩,
  ⟨0xFC0007FF#32, 0x1000042B#32, fun w => .evmhesmfa (field 6 5 w) (field 11 5 w) (field 16 5 w)⟩,
  ⟨0xFC0007FF#32, 0x1000050B#32, fun w => .evmhesmfaaw (field 6 5 w) (field 11 5 w) (field 16 5 w)⟩,
  ⟨0xFC0007FF#32, 0x1000058B#32, fun w => .evmhesmfanw (field 6 5 w) (field 11 5 w) (field 16 5 w)⟩,
  ⟨0xFC0007FF#32, 0x10000409#32, fun w => .evmhesmi (field 6 5 w) (field 11 5 w) (field 16 5 w)⟩,
  ⟨0xFC0007FF#32, 0x10000429#32, fun w => .evmhesmia (field 6 5 w) (field 11 5 w) (field 16 5 w)⟩,
  ⟨0xFC0007FF#32, 0x10000509#32, fun w => .evmhesmiaaw (field 6 5 w) (field 11 5 w) (field 16 5 w)⟩,
  ⟨0xFC0007FF#32, 0x10000589#32, fun w => .evmhesmianw (field 6 5 w) (field 11 5 w) (field 16 5 w)⟩,
  ⟨0xFC0007FF#32, 0x10000403#32, fun w => .evmhessf (field 6 5 w) (field 11 5 w) (field 16 5 w)⟩,
  ⟨0xFC0007FF#32, 0x10000423#32, fun w => .evmhessfa (field 6 5 w) (field 11 5 w) (field 16 5 w)⟩,
  ⟨0xFC0007FF#32, 0x10000503#32, fun w => .evmhessfaaw (field 6 5 w) (field 11 5 w) (field 16 5 w)⟩,
  ⟨0xFC0007FF#32, 0x10000583#32, fun w => .evmhessfanw (field 6 5 w) (field 11 5 w) (field 16 5 w)⟩,
  ⟨0xFC0007FF#32, 0x10000501#32, fun w => .evmhessiaaw (field 6 5 w) (field 11 5 w) (field 16 5 w)⟩,
  ⟨0xFC0007FF#32, 0x10000581#32, fun w => .evmhessianw (field 6 5 w) (field 11 5 w) (field 16 5 w)⟩,
  ⟨0xFC0007FF#32, 0x10000408#32, fun w => .evmheumi (field 6 5 w) (field 11 5 w) (field 16 5 w)⟩,
  ⟨0xFC0007FF#32, 0x10000428#32, fun w => .evmheumia (field 6 5 w) (field 11 5 w) (field 16 5 w)⟩,
  ⟨0xFC0007FF#32, 0x10000508#32, fun w => .evmheumiaaw (field 6 5 w) (field 11 5 w) (field 16 5 w)⟩,
  ⟨0xFC0007FF#32, 0x10000588#32, fun w => .evmheumianw (field 6 5 w) (field 11 5 w) (field 16 5 w)⟩,
  ⟨0xFC0007FF#32, 0x10000500#32, fun w => .evmheusiaaw (field 6 5 w) (field 11 5 w) (field 16 5 w)⟩,
  ⟨0xFC0007FF#32, 0x10000580#32, fun w => .evmheusianw (field 6 5 w) (field 11 5 w) (field 16 5 w)⟩,
  ⟨0xFC0007FF#32, 0x1000052F#32, fun w => .evmhogsmfaa (field 6 5 w) (field 11 5 w) (field 16 5 w)⟩,
  ⟨0xFC0007FF#32, 0x100005AF#32, fun w => .evmhogsmfan (field 6 5 w) (field 11 5 w) (field 16 5 w)⟩,
  ⟨0xFC0007FF#32, 0x1000052D#32, fun w => .evmhogsmiaa (field 6 5 w) (field 11 5 w) (field 16 5 w)⟩,
  ⟨0xFC0007FF#32, 0x100005AD#32, fun w => .evmhogsmian (field 6 5 w) (field 11 5 w) (field 16 5 w)⟩,
  ⟨0xFC0007FF#32, 0x1000052C#32, fun w => .evmhogumiaa (field 6 5 w) (field 11 5 w) (field 16 5 w)⟩,
  ⟨0xFC0007FF#32, 0x100005AC#32, fun w => .evmhogumian (field 6 5 w) (field 11 5 w) (field 16 5 w)⟩,
  ⟨0xFC0007FF#32, 0x1000040F#32, fun w => .evmhosmf (field 6 5 w) (field 11 5 w) (field 16 5 w)⟩,
  ⟨0xFC0007FF#32, 0x1000042F#32, fun w => .evmhosmfa (field 6 5 w) (field 11 5 w) (field 16 5 w)⟩,
  ⟨0xFC0007FF#32, 0x1000050F#32, fun w => .evmhosmfaaw (field 6 5 w) (field 11 5 w) (field 16 5 w)⟩,
  ⟨0xFC0007FF#32, 0x1000058F#32, fun w => .evmhosmfanw (field 6 5 w) (field 11 5 w) (field 16 5 w)⟩,
  ⟨0xFC0007FF#32, 0x1000040D#32, fun w => .evmhosmi (field 6 5 w) (field 11 5 w) (field 16 5 w)⟩,
  ⟨0xFC0007FF#32, 0x1000042D#32, fun w => .evmhosmia (field 6 5 w) (field 11 5 w) (field 16 5 w)⟩]

/-- Part 6 of the rows of primary opcode 4, valid on pages of both kinds (R522, spec/44_vle.md R952). -/
noncomputable def op4Rows6 : List Row := [
  ⟨0xFC0007FF#32, 0x1000050D#32, fun w => .evmhosmiaaw (field 6 5 w) (field 11 5 w) (field 16 5 w)⟩,
  ⟨0xFC0007FF#32, 0x1000058D#32, fun w => .evmhosmianw (field 6 5 w) (field 11 5 w) (field 16 5 w)⟩,
  ⟨0xFC0007FF#32, 0x10000407#32, fun w => .evmhossf (field 6 5 w) (field 11 5 w) (field 16 5 w)⟩,
  ⟨0xFC0007FF#32, 0x10000427#32, fun w => .evmhossfa (field 6 5 w) (field 11 5 w) (field 16 5 w)⟩,
  ⟨0xFC0007FF#32, 0x10000507#32, fun w => .evmhossfaaw (field 6 5 w) (field 11 5 w) (field 16 5 w)⟩,
  ⟨0xFC0007FF#32, 0x10000587#32, fun w => .evmhossfanw (field 6 5 w) (field 11 5 w) (field 16 5 w)⟩,
  ⟨0xFC0007FF#32, 0x10000505#32, fun w => .evmhossiaaw (field 6 5 w) (field 11 5 w) (field 16 5 w)⟩,
  ⟨0xFC0007FF#32, 0x10000585#32, fun w => .evmhossianw (field 6 5 w) (field 11 5 w) (field 16 5 w)⟩,
  ⟨0xFC0007FF#32, 0x1000040C#32, fun w => .evmhoumi (field 6 5 w) (field 11 5 w) (field 16 5 w)⟩,
  ⟨0xFC0007FF#32, 0x1000042C#32, fun w => .evmhoumia (field 6 5 w) (field 11 5 w) (field 16 5 w)⟩,
  ⟨0xFC0007FF#32, 0x1000050C#32, fun w => .evmhoumiaaw (field 6 5 w) (field 11 5 w) (field 16 5 w)⟩,
  ⟨0xFC0007FF#32, 0x1000058C#32, fun w => .evmhoumianw (field 6 5 w) (field 11 5 w) (field 16 5 w)⟩,
  ⟨0xFC0007FF#32, 0x10000504#32, fun w => .evmhousiaaw (field 6 5 w) (field 11 5 w) (field 16 5 w)⟩,
  ⟨0xFC0007FF#32, 0x10000584#32, fun w => .evmhousianw (field 6 5 w) (field 11 5 w) (field 16 5 w)⟩,
  ⟨0xFC0007FF#32, 0x10000301#32, fun w => .evldd (field 6 5 w) (field 11 5 w) (field 16 5 w)⟩,
  ⟨0xFC0007FF#32, 0x10000300#32, fun w => .evlddx (field 6 5 w) (field 11 5 w) (field 16 5 w)⟩,
  ⟨0xFC0007FF#32, 0x10000303#32, fun w => .evldw (field 6 5 w) (field 11 5 w) (field 16 5 w)⟩,
  ⟨0xFC0007FF#32, 0x10000302#32, fun w => .evldwx (field 6 5 w) (field 11 5 w) (field 16 5 w)⟩,
  ⟨0xFC0007FF#32, 0x10000305#32, fun w => .evldh (field 6 5 w) (field 11 5 w) (field 16 5 w)⟩,
  ⟨0xFC0007FF#32, 0x10000304#32, fun w => .evldhx (field 6 5 w) (field 11 5 w) (field 16 5 w)⟩,
  ⟨0xFC0007FF#32, 0x10000311#32, fun w => .evlwhe (field 6 5 w) (field 11 5 w) (field 16 5 w)⟩,
  ⟨0xFC0007FF#32, 0x10000310#32, fun w => .evlwhex (field 6 5 w) (field 11 5 w) (field 16 5 w)⟩,
  ⟨0xFC0007FF#32, 0x10000315#32, fun w => .evlwhou (field 6 5 w) (field 11 5 w) (field 16 5 w)⟩,
  ⟨0xFC0007FF#32, 0x10000314#32, fun w => .evlwhoux (field 6 5 w) (field 11 5 w) (field 16 5 w)⟩,
  ⟨0xFC0007FF#32, 0x10000317#32, fun w => .evlwhos (field 6 5 w) (field 11 5 w) (field 16 5 w)⟩,
  ⟨0xFC0007FF#32, 0x10000316#32, fun w => .evlwhosx (field 6 5 w) (field 11 5 w) (field 16 5 w)⟩,
  ⟨0xFC0007FF#32, 0x10000319#32, fun w => .evlwwsplat (field 6 5 w) (field 11 5 w) (field 16 5 w)⟩,
  ⟨0xFC0007FF#32, 0x10000318#32, fun w => .evlwwsplatx (field 6 5 w) (field 11 5 w) (field 16 5 w)⟩,
  ⟨0xFC0007FF#32, 0x1000031D#32, fun w => .evlwhsplat (field 6 5 w) (field 11 5 w) (field 16 5 w)⟩,
  ⟨0xFC0007FF#32, 0x1000031C#32, fun w => .evlwhsplatx (field 6 5 w) (field 11 5 w) (field 16 5 w)⟩,
  ⟨0xFC0007FF#32, 0x10000309#32, fun w => .evlhhesplat (field 6 5 w) (field 11 5 w) (field 16 5 w)⟩,
  ⟨0xFC0007FF#32, 0x10000308#32, fun w => .evlhhesplatx (field 6 5 w) (field 11 5 w) (field 16 5 w)⟩,
  ⟨0xFC0007FF#32, 0x1000030D#32, fun w => .evlhhousplat (field 6 5 w) (field 11 5 w) (field 16 5 w)⟩,
  ⟨0xFC0007FF#32, 0x1000030C#32, fun w => .evlhhousplatx (field 6 5 w) (field 11 5 w) (field 16 5 w)⟩,
  ⟨0xFC0007FF#32, 0x1000030F#32, fun w => .evlhhossplat (field 6 5 w) (field 11 5 w) (field 16 5 w)⟩,
  ⟨0xFC0007FF#32, 0x1000030E#32, fun w => .evlhhossplatx (field 6 5 w) (field 11 5 w) (field 16 5 w)⟩,
  ⟨0xFC0007FF#32, 0x10000321#32, fun w => .evstdd (field 6 5 w) (field 11 5 w) (field 16 5 w)⟩,
  ⟨0xFC0007FF#32, 0x10000320#32, fun w => .evstddx (field 6 5 w) (field 11 5 w) (field 16 5 w)⟩,
  ⟨0xFC0007FF#32, 0x10000323#32, fun w => .evstdw (field 6 5 w) (field 11 5 w) (field 16 5 w)⟩,
  ⟨0xFC0007FF#32, 0x10000322#32, fun w => .evstdwx (field 6 5 w) (field 11 5 w) (field 16 5 w)⟩]

/-- Part 7 of the rows of primary opcode 4, valid on pages of both kinds (R522, spec/44_vle.md R952). -/
noncomputable def op4Rows7 : List Row := [
  ⟨0xFC0007FF#32, 0x10000325#32, fun w => .evstdh (field 6 5 w) (field 11 5 w) (field 16 5 w)⟩,
  ⟨0xFC0007FF#32, 0x10000324#32, fun w => .evstdhx (field 6 5 w) (field 11 5 w) (field 16 5 w)⟩,
  ⟨0xFC0007FF#32, 0x10000331#32, fun w => .evstwhe (field 6 5 w) (field 11 5 w) (field 16 5 w)⟩,
  ⟨0xFC0007FF#32, 0x10000330#32, fun w => .evstwhex (field 6 5 w) (field 11 5 w) (field 16 5 w)⟩,
  ⟨0xFC0007FF#32, 0x10000335#32, fun w => .evstwho (field 6 5 w) (field 11 5 w) (field 16 5 w)⟩,
  ⟨0xFC0007FF#32, 0x10000334#32, fun w => .evstwhox (field 6 5 w) (field 11 5 w) (field 16 5 w)⟩,
  ⟨0xFC0007FF#32, 0x10000339#32, fun w => .evstwwe (field 6 5 w) (field 11 5 w) (field 16 5 w)⟩,
  ⟨0xFC0007FF#32, 0x10000338#32, fun w => .evstwwex (field 6 5 w) (field 11 5 w) (field 16 5 w)⟩,
  ⟨0xFC0007FF#32, 0x1000033D#32, fun w => .evstwwo (field 6 5 w) (field 11 5 w) (field 16 5 w)⟩,
  ⟨0xFC0007FF#32, 0x1000033C#32, fun w => .evstwwox (field 6 5 w) (field 11 5 w) (field 16 5 w)⟩]

/-- The opcode table: the rows of primary opcode 4, valid on pages of both kinds (R522, spec/44_vle.md R952). -/
noncomputable def op4Rows : List Row :=
  op4Rows1 ++ op4Rows2 ++ op4Rows3 ++ op4Rows4 ++ op4Rows5 ++ op4Rows6 ++ op4Rows7

/-- Part 1 of the 32-bit rows of VLE pages (spec/44_vle.md). -/
noncomputable def vle32Rows1 : List Row := [
  ⟨0xFC0007FF#32, 0x7C0000C2#32, fun w => .eDnh (field 6 5 w) (field 11 10 w)⟩,
  ⟨0xFFE0FF00#32, 0x18001000#32, fun w => .eLmvgprw (field 11 5 w) (field 24 8 w)⟩,
  ⟨0xFFE0FF00#32, 0x18001100#32, fun w => .eStmvgprw (field 11 5 w) (field 24 8 w)⟩,
  ⟨0xFFE0FF00#32, 0x18201000#32, fun w => .eLmvsprw (field 11 5 w) (field 24 8 w)⟩,
  ⟨0xFFE0FF00#32, 0x18201100#32, fun w => .eStmvsprw (field 11 5 w) (field 24 8 w)⟩,
  ⟨0xFFE0FF00#32, 0x18801000#32, fun w => .eLmvsrrw (field 11 5 w) (field 24 8 w)⟩,
  ⟨0xFFE0FF00#32, 0x18801100#32, fun w => .eStmvsrrw (field 11 5 w) (field 24 8 w)⟩,
  ⟨0xFFE0FF00#32, 0x18A01000#32, fun w => .eLmvcsrrw (field 11 5 w) (field 24 8 w)⟩,
  ⟨0xFFE0FF00#32, 0x18A01100#32, fun w => .eStmvcsrrw (field 11 5 w) (field 24 8 w)⟩,
  ⟨0xFFE0FF00#32, 0x18C01000#32, fun w => .eLmvdsrrw (field 11 5 w) (field 24 8 w)⟩,
  ⟨0xFFE0FF00#32, 0x18C01100#32, fun w => .eStmvdsrrw (field 11 5 w) (field 24 8 w)⟩,
  ⟨0xFFE0FF00#32, 0x18E01000#32, fun w => .eLmvmcsrrw (field 11 5 w) (field 24 8 w)⟩,
  ⟨0xFFE0FF00#32, 0x18E01100#32, fun w => .eStmvmcsrrw (field 11 5 w) (field 24 8 w)⟩,
  ⟨0xFC00FF00#32, 0x18000800#32, fun w => .eLmw (field 6 5 w) (field 11 5 w) (field 24 8 w)⟩,
  ⟨0xFC00FF00#32, 0x18000900#32, fun w => .eStmw (field 6 5 w) (field 11 5 w) (field 24 8 w)⟩]

/-- The opcode table: the 32-bit rows of VLE pages (spec/44_vle.md). -/
noncomputable def vle32Rows : List Row :=
  vle32Rows1

/-- The rows a word on a page of this kind can match. -/
noncomputable def rowsOf : Page → List Row
  | .bookE => baseRows ++ op4Rows
  | .vle => op4Rows ++ vle32Rows

/-- The extended opcodes under primary opcode 31 of the instructions that are not implemented (R565 (a)). -/
def unimplementedXos : List (BitVec 10) := [533, 597, 661, 725, 259, 387, 275]

/-- The extended opcodes under primary opcode 31 of the floating-point loads and stores (R565 (b)). -/
def floatingPointXos : List (BitVec 10) := [535, 567, 599, 631, 663, 695, 727, 759, 983]

/-- The primary opcodes every word of which is a floating-point instruction (R565 (b)). -/
def floatingPointOpcodes : List (BitVec 6) := [48, 49, 50, 51, 52, 53, 54, 55, 59, 63]

/-- The word lies in the reserved double-precision space of primary opcode 4 (spec/45_efpu_scalar.md R1190). -/
def isDoublePrecision (w : Word) : Bool :=
  field 0 6 w == 4 &&
    (field 21 8 w == 0x57 || field 21 6 w == 0x17 || field 21 11 w == 0x2CF)

/-- What a word that matches no row is (spec/30_encoding.md R575, spec/44_vle.md R951). The string instructions, mfapidi,
mfdcrx and mtdcrx are an unimplemented operation, as R565, spec/60_exceptions.md R2026 and the quotation in
spec/00_scope.md R4 say, although the table of R4 and spec/93_implementation_defined.md section 1.3 say an illegal
instruction (DESIGN CHOICE, assumption log entry 34, unsafe). On a VLE page the opcode-4 space is that of a Book E page
(spec/44_vle.md R952), so a word of it that is no instruction is illegal there too (DEDUCED, entry 35, unsafe). -/
def classifyOther (p : Page) (w : Word) : Reject :=
  if isDoublePrecision w then .doublePrecision
  else match p with
  | .vle => if field 0 6 w == 4 then .illegal else .vleOutside
  | .bookE =>
    if field 0 6 w == 31 && unimplementedXos.contains (field 21 10 w) then .unimplemented
    else if floatingPointOpcodes.contains (field 0 6 w) then .floatingPoint
    else if field 0 6 w == 31 && floatingPointXos.contains (field 21 10 w) then .floatingPoint
    else .illegal

/-- The instruction of a 32-bit word on a page of the given kind (R575). -/
noncomputable def decodeWord (p : Page) (w : Word) : Except Reject Instr :=
  match (rowsOf p).find? (fun r => r.hit w) with
  | some r => if (r.build w).wellFormed then .ok (r.build w) else .error .illegal
  | none => .error (classifyOther p w)

/-- The 16-bit instructions of VLE pages (spec/44_vle.md R970 to R979). -/
def vle16Rows : List (Half × Instr) := [
  (0x0001#16, .seIsync),
  (0x0002#16, .seSc),
  (0x0008#16, .seRfi),
  (0x0009#16, .seRfci),
  (0x000A#16, .seRfdi),
  (0x000B#16, .seRfmci),
  (0x000F#16, .seDnh)]

/-- The instruction of a 16-bit word on a VLE page. The half word of zeros is `se_illegal`, the illegal class
(spec/30_encoding.md R560, spec/44_vle.md R969). -/
def decodeHalf (h : Half) : Except Reject Instr :=
  match vle16Rows.find? (fun r => r.1 == h) with
  | some r => .ok r.2
  | none => .error (if h = 0 then .illegal else .vleOutside)

/-- A VLE instruction that begins with this half word is 32 bits long (spec/44_vle.md R950). -/
def isLongVle (h : Half) : Bool := !h.getMsbD 0 && h.getMsbD 3

/-- The instruction the bytes begin with, and the bytes after it. -/
noncomputable def decodeBytes (p : Page) : List Byte → Except Reject (Instr × List Byte)
  | b0 :: b1 :: rest =>
    if p = .vle ∧ isLongVle (b0 ++ b1) = false then
      (decodeHalf (b0 ++ b1)).map (·, rest)
    else match rest with
      | b2 :: b3 :: rest' => (decodeWord p (b0 ++ b1 ++ b2 ++ b3)).map (·, rest')
      | _ => .error .truncated
  | _ => .error .truncated

/-- The bytes of a word, the one at the lowest address first. -/
def wordBytes (w : Word) : List Byte := [field 0 8 w, field 8 8 w, field 16 8 w, field 24 8 w]

/-- The bytes of a half word, the one at the lowest address first. -/
def halfBytes (h : Half) : List Byte := [h.extractLsb' 8 8, h.extractLsb' 0 8]

/-- The word of an instruction, from the same encodings (a 16-bit instruction stands in the low half). -/
def encodeWord : Instr → Word
  | .add rt ra rb => 0x7C000214#32 ||| place 6 5 rt ||| place 11 5 ra ||| place 16 5 rb
  | .addRc rt ra rb => 0x7C000215#32 ||| place 6 5 rt ||| place 11 5 ra ||| place 16 5 rb
  | .addc rt ra rb => 0x7C000014#32 ||| place 6 5 rt ||| place 11 5 ra ||| place 16 5 rb
  | .addcRc rt ra rb => 0x7C000015#32 ||| place 6 5 rt ||| place 11 5 ra ||| place 16 5 rb
  | .addco rt ra rb => 0x7C000414#32 ||| place 6 5 rt ||| place 11 5 ra ||| place 16 5 rb
  | .addcoRc rt ra rb => 0x7C000415#32 ||| place 6 5 rt ||| place 11 5 ra ||| place 16 5 rb
  | .adde rt ra rb => 0x7C000114#32 ||| place 6 5 rt ||| place 11 5 ra ||| place 16 5 rb
  | .addeRc rt ra rb => 0x7C000115#32 ||| place 6 5 rt ||| place 11 5 ra ||| place 16 5 rb
  | .addeo rt ra rb => 0x7C000514#32 ||| place 6 5 rt ||| place 11 5 ra ||| place 16 5 rb
  | .addeoRc rt ra rb => 0x7C000515#32 ||| place 6 5 rt ||| place 11 5 ra ||| place 16 5 rb
  | .addi rt ra si => 0x38000000#32 ||| place 6 5 rt ||| place 11 5 ra ||| place 16 16 si
  | .addic rt ra si => 0x30000000#32 ||| place 6 5 rt ||| place 11 5 ra ||| place 16 16 si
  | .addicRc rt ra si => 0x34000000#32 ||| place 6 5 rt ||| place 11 5 ra ||| place 16 16 si
  | .addis rt ra si => 0x3C000000#32 ||| place 6 5 rt ||| place 11 5 ra ||| place 16 16 si
  | .addme rt ra => 0x7C0001D4#32 ||| place 6 5 rt ||| place 11 5 ra
  | .addmeRc rt ra => 0x7C0001D5#32 ||| place 6 5 rt ||| place 11 5 ra
  | .addmeo rt ra => 0x7C0005D4#32 ||| place 6 5 rt ||| place 11 5 ra
  | .addmeoRc rt ra => 0x7C0005D5#32 ||| place 6 5 rt ||| place 11 5 ra
  | .addo rt ra rb => 0x7C000614#32 ||| place 6 5 rt ||| place 11 5 ra ||| place 16 5 rb
  | .addoRc rt ra rb => 0x7C000615#32 ||| place 6 5 rt ||| place 11 5 ra ||| place 16 5 rb
  | .addze rt ra => 0x7C000194#32 ||| place 6 5 rt ||| place 11 5 ra
  | .addzeRc rt ra => 0x7C000195#32 ||| place 6 5 rt ||| place 11 5 ra
  | .addzeo rt ra => 0x7C000594#32 ||| place 6 5 rt ||| place 11 5 ra
  | .addzeoRc rt ra => 0x7C000595#32 ||| place 6 5 rt ||| place 11 5 ra
  | .and rs ra rb => 0x7C000038#32 ||| place 6 5 rs ||| place 11 5 ra ||| place 16 5 rb
  | .andRc rs ra rb => 0x7C000039#32 ||| place 6 5 rs ||| place 11 5 ra ||| place 16 5 rb
  | .andc rs ra rb => 0x7C000078#32 ||| place 6 5 rs ||| place 11 5 ra ||| place 16 5 rb
  | .andcRc rs ra rb => 0x7C000079#32 ||| place 6 5 rs ||| place 11 5 ra ||| place 16 5 rb
  | .andiRc rs ra ui => 0x70000000#32 ||| place 6 5 rs ||| place 11 5 ra ||| place 16 16 ui
  | .andisRc rs ra ui => 0x74000000#32 ||| place 6 5 rs ||| place 11 5 ra ||| place 16 16 ui
  | .b li => 0x48000000#32 ||| place 6 24 li
  | .ba li => 0x48000002#32 ||| place 6 24 li
  | .bc bo bi bd => 0x40000000#32 ||| place 6 5 bo ||| place 11 5 bi ||| place 16 14 bd
  | .bca bo bi bd => 0x40000002#32 ||| place 6 5 bo ||| place 11 5 bi ||| place 16 14 bd
  | .bcctr bo bi => 0x4C000420#32 ||| place 6 5 bo ||| place 11 5 bi
  | .bcctrl bo bi => 0x4C000421#32 ||| place 6 5 bo ||| place 11 5 bi
  | .bcl bo bi bd => 0x40000001#32 ||| place 6 5 bo ||| place 11 5 bi ||| place 16 14 bd
  | .bcla bo bi bd => 0x40000003#32 ||| place 6 5 bo ||| place 11 5 bi ||| place 16 14 bd
  | .bclr bo bi => 0x4C000020#32 ||| place 6 5 bo ||| place 11 5 bi
  | .bclrl bo bi => 0x4C000021#32 ||| place 6 5 bo ||| place 11 5 bi
  | .bl li => 0x48000001#32 ||| place 6 24 li
  | .bla li => 0x48000003#32 ||| place 6 24 li
  | .cmp bf ra rb => 0x7C000000#32 ||| place 6 3 bf ||| place 11 5 ra ||| place 16 5 rb
  | .cmpi bf ra si => 0x2C000000#32 ||| place 6 3 bf ||| place 11 5 ra ||| place 16 16 si
  | .cmpl bf ra rb => 0x7C000040#32 ||| place 6 3 bf ||| place 11 5 ra ||| place 16 5 rb
  | .cmpli bf ra ui => 0x28000000#32 ||| place 6 3 bf ||| place 11 5 ra ||| place 16 16 ui
  | .cntlzw rs ra => 0x7C000034#32 ||| place 6 5 rs ||| place 11 5 ra
  | .cntlzwRc rs ra => 0x7C000035#32 ||| place 6 5 rs ||| place 11 5 ra
  | .crand bt ba bb => 0x4C000202#32 ||| place 6 5 bt ||| place 11 5 ba ||| place 16 5 bb
  | .crandc bt ba bb => 0x4C000102#32 ||| place 6 5 bt ||| place 11 5 ba ||| place 16 5 bb
  | .creqv bt ba bb => 0x4C000242#32 ||| place 6 5 bt ||| place 11 5 ba ||| place 16 5 bb
  | .crnand bt ba bb => 0x4C0001C2#32 ||| place 6 5 bt ||| place 11 5 ba ||| place 16 5 bb
  | .crnor bt ba bb => 0x4C000042#32 ||| place 6 5 bt ||| place 11 5 ba ||| place 16 5 bb
  | .cror bt ba bb => 0x4C000382#32 ||| place 6 5 bt ||| place 11 5 ba ||| place 16 5 bb
  | .crorc bt ba bb => 0x4C000342#32 ||| place 6 5 bt ||| place 11 5 ba ||| place 16 5 bb
  | .crxor bt ba bb => 0x4C000182#32 ||| place 6 5 bt ||| place 11 5 ba ||| place 16 5 bb
  | .dcba ra rb => 0x7C0005EC#32 ||| place 11 5 ra ||| place 16 5 rb
  | .dcbf ra rb => 0x7C0000AC#32 ||| place 11 5 ra ||| place 16 5 rb
  | .dcbi ra rb => 0x7C0003AC#32 ||| place 11 5 ra ||| place 16 5 rb
  | .dcblc ct ra rb => 0x7C00030C#32 ||| place 6 5 ct ||| place 11 5 ra ||| place 16 5 rb
  | .dcbst ra rb => 0x7C00006C#32 ||| place 11 5 ra ||| place 16 5 rb
  | .dcbt ct ra rb => 0x7C00022C#32 ||| place 6 5 ct ||| place 11 5 ra ||| place 16 5 rb
  | .dcbtls ct ra rb => 0x7C00014C#32 ||| place 6 5 ct ||| place 11 5 ra ||| place 16 5 rb
  | .dcbtst ct ra rb => 0x7C0001EC#32 ||| place 6 5 ct ||| place 11 5 ra ||| place 16 5 rb
  | .dcbtstls ct ra rb => 0x7C00010C#32 ||| place 6 5 ct ||| place 11 5 ra ||| place 16 5 rb
  | .dcbz ra rb => 0x7C0007EC#32 ||| place 11 5 ra ||| place 16 5 rb
  | .divw rt ra rb => 0x7C0003D6#32 ||| place 6 5 rt ||| place 11 5 ra ||| place 16 5 rb
  | .divwRc rt ra rb => 0x7C0003D7#32 ||| place 6 5 rt ||| place 11 5 ra ||| place 16 5 rb
  | .divwo rt ra rb => 0x7C0007D6#32 ||| place 6 5 rt ||| place 11 5 ra ||| place 16 5 rb
  | .divwoRc rt ra rb => 0x7C0007D7#32 ||| place 6 5 rt ||| place 11 5 ra ||| place 16 5 rb
  | .divwu rt ra rb => 0x7C000396#32 ||| place 6 5 rt ||| place 11 5 ra ||| place 16 5 rb
  | .divwuRc rt ra rb => 0x7C000397#32 ||| place 6 5 rt ||| place 11 5 ra ||| place 16 5 rb
  | .divwuo rt ra rb => 0x7C000796#32 ||| place 6 5 rt ||| place 11 5 ra ||| place 16 5 rb
  | .divwuoRc rt ra rb => 0x7C000797#32 ||| place 6 5 rt ||| place 11 5 ra ||| place 16 5 rb
  | .eqv rs ra rb => 0x7C000238#32 ||| place 6 5 rs ||| place 11 5 ra ||| place 16 5 rb
  | .eqvRc rs ra rb => 0x7C000239#32 ||| place 6 5 rs ||| place 11 5 ra ||| place 16 5 rb
  | .extsb rs ra => 0x7C000774#32 ||| place 6 5 rs ||| place 11 5 ra
  | .extsbRc rs ra => 0x7C000775#32 ||| place 6 5 rs ||| place 11 5 ra
  | .extsh rs ra => 0x7C000734#32 ||| place 6 5 rs ||| place 11 5 ra
  | .extshRc rs ra => 0x7C000735#32 ||| place 6 5 rs ||| place 11 5 ra
  | .icbi ra rb => 0x7C0007AC#32 ||| place 11 5 ra ||| place 16 5 rb
  | .icblc ct ra rb => 0x7C0001CC#32 ||| place 6 5 ct ||| place 11 5 ra ||| place 16 5 rb
  | .icbt ct ra rb => 0x7C00002C#32 ||| place 6 5 ct ||| place 11 5 ra ||| place 16 5 rb
  | .icbtls ct ra rb => 0x7C0003CC#32 ||| place 6 5 ct ||| place 11 5 ra ||| place 16 5 rb
  | .isel rt ra rb bc => 0x7C00001E#32 ||| place 6 5 rt ||| place 11 5 ra ||| place 16 5 rb ||| place 21 5 bc
  | .isync => 0x4C00012C#32
  | .lbz rt ra d => 0x88000000#32 ||| place 6 5 rt ||| place 11 5 ra ||| place 16 16 d
  | .lbzu rt ra d => 0x8C000000#32 ||| place 6 5 rt ||| place 11 5 ra ||| place 16 16 d
  | .lbzux rt ra rb => 0x7C0000EE#32 ||| place 6 5 rt ||| place 11 5 ra ||| place 16 5 rb
  | .lbzx rt ra rb => 0x7C0000AE#32 ||| place 6 5 rt ||| place 11 5 ra ||| place 16 5 rb
  | .lha rt ra d => 0xA8000000#32 ||| place 6 5 rt ||| place 11 5 ra ||| place 16 16 d
  | .lhau rt ra d => 0xAC000000#32 ||| place 6 5 rt ||| place 11 5 ra ||| place 16 16 d
  | .lhaux rt ra rb => 0x7C0002EE#32 ||| place 6 5 rt ||| place 11 5 ra ||| place 16 5 rb
  | .lhax rt ra rb => 0x7C0002AE#32 ||| place 6 5 rt ||| place 11 5 ra ||| place 16 5 rb
  | .lhbrx rt ra rb => 0x7C00062C#32 ||| place 6 5 rt ||| place 11 5 ra ||| place 16 5 rb
  | .lhz rt ra d => 0xA0000000#32 ||| place 6 5 rt ||| place 11 5 ra ||| place 16 16 d
  | .lhzu rt ra d => 0xA4000000#32 ||| place 6 5 rt ||| place 11 5 ra ||| place 16 16 d
  | .lhzux rt ra rb => 0x7C00026E#32 ||| place 6 5 rt ||| place 11 5 ra ||| place 16 5 rb
  | .lhzx rt ra rb => 0x7C00022E#32 ||| place 6 5 rt ||| place 11 5 ra ||| place 16 5 rb
  | .lmw rt ra d => 0xB8000000#32 ||| place 6 5 rt ||| place 11 5 ra ||| place 16 16 d
  | .lwarx rt ra rb => 0x7C000028#32 ||| place 6 5 rt ||| place 11 5 ra ||| place 16 5 rb
  | .lwbrx rt ra rb => 0x7C00042C#32 ||| place 6 5 rt ||| place 11 5 ra ||| place 16 5 rb
  | .lwz rt ra d => 0x80000000#32 ||| place 6 5 rt ||| place 11 5 ra ||| place 16 16 d
  | .lwzu rt ra d => 0x84000000#32 ||| place 6 5 rt ||| place 11 5 ra ||| place 16 16 d
  | .lwzux rt ra rb => 0x7C00006E#32 ||| place 6 5 rt ||| place 11 5 ra ||| place 16 5 rb
  | .lwzx rt ra rb => 0x7C00002E#32 ||| place 6 5 rt ||| place 11 5 ra ||| place 16 5 rb
  | .mbar mo => 0x7C0006AC#32 ||| place 6 5 mo
  | .mcrf bf bfa => 0x4C000000#32 ||| place 6 3 bf ||| place 11 3 bfa
  | .mcrxr bf => 0x7C000400#32 ||| place 6 3 bf
  | .mfcr rt => 0x7C000026#32 ||| place 6 5 rt
  | .mfdcr rt dcrn => 0x7C000286#32 ||| place 6 5 rt ||| place 11 10 dcrn
  | .mfmsr rt => 0x7C0000A6#32 ||| place 6 5 rt
  | .mfspr rt sprn => 0x7C0002A6#32 ||| place 6 5 rt ||| place 11 10 sprn
  | .msync => 0x7C0004AC#32
  | .mtcrf rs fxm => 0x7C000120#32 ||| place 6 5 rs ||| place 12 8 fxm
  | .mtdcr rs dcrn => 0x7C000386#32 ||| place 6 5 rs ||| place 11 10 dcrn
  | .mtmsr rs => 0x7C000124#32 ||| place 6 5 rs
  | .mtspr rs sprn => 0x7C0003A6#32 ||| place 6 5 rs ||| place 11 10 sprn
  | .mulhw rt ra rb => 0x7C000096#32 ||| place 6 5 rt ||| place 11 5 ra ||| place 16 5 rb
  | .mulhwRc rt ra rb => 0x7C000097#32 ||| place 6 5 rt ||| place 11 5 ra ||| place 16 5 rb
  | .mulhwu rt ra rb => 0x7C000016#32 ||| place 6 5 rt ||| place 11 5 ra ||| place 16 5 rb
  | .mulhwuRc rt ra rb => 0x7C000017#32 ||| place 6 5 rt ||| place 11 5 ra ||| place 16 5 rb
  | .mulli rt ra si => 0x1C000000#32 ||| place 6 5 rt ||| place 11 5 ra ||| place 16 16 si
  | .mullw rt ra rb => 0x7C0001D6#32 ||| place 6 5 rt ||| place 11 5 ra ||| place 16 5 rb
  | .mullwRc rt ra rb => 0x7C0001D7#32 ||| place 6 5 rt ||| place 11 5 ra ||| place 16 5 rb
  | .mullwo rt ra rb => 0x7C0005D6#32 ||| place 6 5 rt ||| place 11 5 ra ||| place 16 5 rb
  | .mullwoRc rt ra rb => 0x7C0005D7#32 ||| place 6 5 rt ||| place 11 5 ra ||| place 16 5 rb
  | .nand rs ra rb => 0x7C0003B8#32 ||| place 6 5 rs ||| place 11 5 ra ||| place 16 5 rb
  | .nandRc rs ra rb => 0x7C0003B9#32 ||| place 6 5 rs ||| place 11 5 ra ||| place 16 5 rb
  | .neg rt ra => 0x7C0000D0#32 ||| place 6 5 rt ||| place 11 5 ra
  | .negRc rt ra => 0x7C0000D1#32 ||| place 6 5 rt ||| place 11 5 ra
  | .nego rt ra => 0x7C0004D0#32 ||| place 6 5 rt ||| place 11 5 ra
  | .negoRc rt ra => 0x7C0004D1#32 ||| place 6 5 rt ||| place 11 5 ra
  | .nor rs ra rb => 0x7C0000F8#32 ||| place 6 5 rs ||| place 11 5 ra ||| place 16 5 rb
  | .norRc rs ra rb => 0x7C0000F9#32 ||| place 6 5 rs ||| place 11 5 ra ||| place 16 5 rb
  | .or rs ra rb => 0x7C000378#32 ||| place 6 5 rs ||| place 11 5 ra ||| place 16 5 rb
  | .orRc rs ra rb => 0x7C000379#32 ||| place 6 5 rs ||| place 11 5 ra ||| place 16 5 rb
  | .orc rs ra rb => 0x7C000338#32 ||| place 6 5 rs ||| place 11 5 ra ||| place 16 5 rb
  | .orcRc rs ra rb => 0x7C000339#32 ||| place 6 5 rs ||| place 11 5 ra ||| place 16 5 rb
  | .ori rs ra ui => 0x60000000#32 ||| place 6 5 rs ||| place 11 5 ra ||| place 16 16 ui
  | .oris rs ra ui => 0x64000000#32 ||| place 6 5 rs ||| place 11 5 ra ||| place 16 16 ui
  | .rfci => 0x4C000066#32
  | .rfdi => 0x4C00004E#32
  | .rfi => 0x4C000064#32
  | .rfmci => 0x4C00004C#32
  | .rlwimi rs ra sh mb me => 0x50000000#32 ||| place 6 5 rs ||| place 11 5 ra ||| place 16 5 sh ||| place 21 5 mb ||| place 26 5 me
  | .rlwimiRc rs ra sh mb me => 0x50000001#32 ||| place 6 5 rs ||| place 11 5 ra ||| place 16 5 sh ||| place 21 5 mb ||| place 26 5 me
  | .rlwinm rs ra sh mb me => 0x54000000#32 ||| place 6 5 rs ||| place 11 5 ra ||| place 16 5 sh ||| place 21 5 mb ||| place 26 5 me
  | .rlwinmRc rs ra sh mb me => 0x54000001#32 ||| place 6 5 rs ||| place 11 5 ra ||| place 16 5 sh ||| place 21 5 mb ||| place 26 5 me
  | .rlwnm rs ra rb mb me => 0x5C000000#32 ||| place 6 5 rs ||| place 11 5 ra ||| place 16 5 rb ||| place 21 5 mb ||| place 26 5 me
  | .rlwnmRc rs ra rb mb me => 0x5C000001#32 ||| place 6 5 rs ||| place 11 5 ra ||| place 16 5 rb ||| place 21 5 mb ||| place 26 5 me
  | .sc => 0x44000002#32
  | .slw rs ra rb => 0x7C000030#32 ||| place 6 5 rs ||| place 11 5 ra ||| place 16 5 rb
  | .slwRc rs ra rb => 0x7C000031#32 ||| place 6 5 rs ||| place 11 5 ra ||| place 16 5 rb
  | .sraw rs ra rb => 0x7C000630#32 ||| place 6 5 rs ||| place 11 5 ra ||| place 16 5 rb
  | .srawRc rs ra rb => 0x7C000631#32 ||| place 6 5 rs ||| place 11 5 ra ||| place 16 5 rb
  | .srawi rs ra sh => 0x7C000670#32 ||| place 6 5 rs ||| place 11 5 ra ||| place 16 5 sh
  | .srawiRc rs ra sh => 0x7C000671#32 ||| place 6 5 rs ||| place 11 5 ra ||| place 16 5 sh
  | .srw rs ra rb => 0x7C000430#32 ||| place 6 5 rs ||| place 11 5 ra ||| place 16 5 rb
  | .srwRc rs ra rb => 0x7C000431#32 ||| place 6 5 rs ||| place 11 5 ra ||| place 16 5 rb
  | .stb rs ra d => 0x98000000#32 ||| place 6 5 rs ||| place 11 5 ra ||| place 16 16 d
  | .stbu rs ra d => 0x9C000000#32 ||| place 6 5 rs ||| place 11 5 ra ||| place 16 16 d
  | .stbux rs ra rb => 0x7C0001EE#32 ||| place 6 5 rs ||| place 11 5 ra ||| place 16 5 rb
  | .stbx rs ra rb => 0x7C0001AE#32 ||| place 6 5 rs ||| place 11 5 ra ||| place 16 5 rb
  | .sth rs ra d => 0xB0000000#32 ||| place 6 5 rs ||| place 11 5 ra ||| place 16 16 d
  | .sthbrx rs ra rb => 0x7C00072C#32 ||| place 6 5 rs ||| place 11 5 ra ||| place 16 5 rb
  | .sthu rs ra d => 0xB4000000#32 ||| place 6 5 rs ||| place 11 5 ra ||| place 16 16 d
  | .sthux rs ra rb => 0x7C00036E#32 ||| place 6 5 rs ||| place 11 5 ra ||| place 16 5 rb
  | .sthx rs ra rb => 0x7C00032E#32 ||| place 6 5 rs ||| place 11 5 ra ||| place 16 5 rb
  | .stmw rs ra d => 0xBC000000#32 ||| place 6 5 rs ||| place 11 5 ra ||| place 16 16 d
  | .stw rs ra d => 0x90000000#32 ||| place 6 5 rs ||| place 11 5 ra ||| place 16 16 d
  | .stwbrx rs ra rb => 0x7C00052C#32 ||| place 6 5 rs ||| place 11 5 ra ||| place 16 5 rb
  | .stwcxRc rs ra rb => 0x7C00012D#32 ||| place 6 5 rs ||| place 11 5 ra ||| place 16 5 rb
  | .stwu rs ra d => 0x94000000#32 ||| place 6 5 rs ||| place 11 5 ra ||| place 16 16 d
  | .stwux rs ra rb => 0x7C00016E#32 ||| place 6 5 rs ||| place 11 5 ra ||| place 16 5 rb
  | .stwx rs ra rb => 0x7C00012E#32 ||| place 6 5 rs ||| place 11 5 ra ||| place 16 5 rb
  | .subf rt ra rb => 0x7C000050#32 ||| place 6 5 rt ||| place 11 5 ra ||| place 16 5 rb
  | .subfRc rt ra rb => 0x7C000051#32 ||| place 6 5 rt ||| place 11 5 ra ||| place 16 5 rb
  | .subfc rt ra rb => 0x7C000010#32 ||| place 6 5 rt ||| place 11 5 ra ||| place 16 5 rb
  | .subfcRc rt ra rb => 0x7C000011#32 ||| place 6 5 rt ||| place 11 5 ra ||| place 16 5 rb
  | .subfco rt ra rb => 0x7C000410#32 ||| place 6 5 rt ||| place 11 5 ra ||| place 16 5 rb
  | .subfcoRc rt ra rb => 0x7C000411#32 ||| place 6 5 rt ||| place 11 5 ra ||| place 16 5 rb
  | .subfe rt ra rb => 0x7C000110#32 ||| place 6 5 rt ||| place 11 5 ra ||| place 16 5 rb
  | .subfeRc rt ra rb => 0x7C000111#32 ||| place 6 5 rt ||| place 11 5 ra ||| place 16 5 rb
  | .subfeo rt ra rb => 0x7C000510#32 ||| place 6 5 rt ||| place 11 5 ra ||| place 16 5 rb
  | .subfeoRc rt ra rb => 0x7C000511#32 ||| place 6 5 rt ||| place 11 5 ra ||| place 16 5 rb
  | .subfic rt ra si => 0x20000000#32 ||| place 6 5 rt ||| place 11 5 ra ||| place 16 16 si
  | .subfme rt ra => 0x7C0001D0#32 ||| place 6 5 rt ||| place 11 5 ra
  | .subfmeRc rt ra => 0x7C0001D1#32 ||| place 6 5 rt ||| place 11 5 ra
  | .subfmeo rt ra => 0x7C0005D0#32 ||| place 6 5 rt ||| place 11 5 ra
  | .subfmeoRc rt ra => 0x7C0005D1#32 ||| place 6 5 rt ||| place 11 5 ra
  | .subfo rt ra rb => 0x7C000450#32 ||| place 6 5 rt ||| place 11 5 ra ||| place 16 5 rb
  | .subfoRc rt ra rb => 0x7C000451#32 ||| place 6 5 rt ||| place 11 5 ra ||| place 16 5 rb
  | .subfze rt ra => 0x7C000190#32 ||| place 6 5 rt ||| place 11 5 ra
  | .subfzeRc rt ra => 0x7C000191#32 ||| place 6 5 rt ||| place 11 5 ra
  | .subfzeo rt ra => 0x7C000590#32 ||| place 6 5 rt ||| place 11 5 ra
  | .subfzeoRc rt ra => 0x7C000591#32 ||| place 6 5 rt ||| place 11 5 ra
  | .tlbivax ra rb => 0x7C000624#32 ||| place 11 5 ra ||| place 16 5 rb
  | .tlbre => 0x7C000764#32
  | .tlbsx ra rb => 0x7C000724#32 ||| place 11 5 ra ||| place 16 5 rb
  | .tlbsync => 0x7C00046C#32
  | .tlbwe => 0x7C0007A4#32
  | .tw tcond ra rb => 0x7C000008#32 ||| place 6 5 tcond ||| place 11 5 ra ||| place 16 5 rb
  | .twi tcond ra si => 0x0C000000#32 ||| place 6 5 tcond ||| place 11 5 ra ||| place 16 16 si
  | .wrtee rs => 0x7C000106#32 ||| place 6 5 rs
  | .wrteei e => 0x7C000146#32 ||| place 16 1 e
  | .xor rs ra rb => 0x7C000278#32 ||| place 6 5 rs ||| place 11 5 ra ||| place 16 5 rb
  | .xorRc rs ra rb => 0x7C000279#32 ||| place 6 5 rs ||| place 11 5 ra ||| place 16 5 rb
  | .xori rs ra ui => 0x68000000#32 ||| place 6 5 rs ||| place 11 5 ra ||| place 16 16 ui
  | .xoris rs ra ui => 0x6C000000#32 ||| place 6 5 rs ||| place 11 5 ra ||| place 16 16 ui
  | .wait => 0x7C00007C#32
  | .lbarx rt ra rb => 0x7C000068#32 ||| place 6 5 rt ||| place 11 5 ra ||| place 16 5 rb
  | .lharx rt ra rb => 0x7C0000E8#32 ||| place 6 5 rt ||| place 11 5 ra ||| place 16 5 rb
  | .stbcxRc rs ra rb => 0x7C00056D#32 ||| place 6 5 rs ||| place 11 5 ra ||| place 16 5 rb
  | .sthcxRc rs ra rb => 0x7C0005AD#32 ||| place 6 5 rs ||| place 11 5 ra ||| place 16 5 rb
  | .dnh dui duis => 0x4C00018C#32 ||| place 6 5 dui ||| place 11 10 duis
  | .seIsync => 0x00000001#32
  | .seSc => 0x00000002#32
  | .seRfi => 0x00000008#32
  | .seRfci => 0x00000009#32
  | .seRfdi => 0x0000000A#32
  | .seRfmci => 0x0000000B#32
  | .seDnh => 0x0000000F#32
  | .eDnh dui duis => 0x7C0000C2#32 ||| place 6 5 dui ||| place 11 10 duis
  | .eLmvgprw ra d8 => 0x18001000#32 ||| place 11 5 ra ||| place 24 8 d8
  | .eStmvgprw ra d8 => 0x18001100#32 ||| place 11 5 ra ||| place 24 8 d8
  | .eLmvsprw ra d8 => 0x18201000#32 ||| place 11 5 ra ||| place 24 8 d8
  | .eStmvsprw ra d8 => 0x18201100#32 ||| place 11 5 ra ||| place 24 8 d8
  | .eLmvsrrw ra d8 => 0x18801000#32 ||| place 11 5 ra ||| place 24 8 d8
  | .eStmvsrrw ra d8 => 0x18801100#32 ||| place 11 5 ra ||| place 24 8 d8
  | .eLmvcsrrw ra d8 => 0x18A01000#32 ||| place 11 5 ra ||| place 24 8 d8
  | .eStmvcsrrw ra d8 => 0x18A01100#32 ||| place 11 5 ra ||| place 24 8 d8
  | .eLmvdsrrw ra d8 => 0x18C01000#32 ||| place 11 5 ra ||| place 24 8 d8
  | .eStmvdsrrw ra d8 => 0x18C01100#32 ||| place 11 5 ra ||| place 24 8 d8
  | .eLmvmcsrrw ra d8 => 0x18E01000#32 ||| place 11 5 ra ||| place 24 8 d8
  | .eStmvmcsrrw ra d8 => 0x18E01100#32 ||| place 11 5 ra ||| place 24 8 d8
  | .eLmw rt ra d8 => 0x18000800#32 ||| place 6 5 rt ||| place 11 5 ra ||| place 24 8 d8
  | .eStmw rs ra d8 => 0x18000900#32 ||| place 6 5 rs ||| place 11 5 ra ||| place 24 8 d8
  | .efsabs rd ra => 0x100002C4#32 ||| place 6 5 rd ||| place 11 5 ra
  | .efsnabs rd ra => 0x100002C5#32 ||| place 6 5 rd ||| place 11 5 ra
  | .efsneg rd ra => 0x100002C6#32 ||| place 6 5 rd ||| place 11 5 ra
  | .efsadd rd ra rb => 0x100002C0#32 ||| place 6 5 rd ||| place 11 5 ra ||| place 16 5 rb
  | .efssub rd ra rb => 0x100002C1#32 ||| place 6 5 rd ||| place 11 5 ra ||| place 16 5 rb
  | .efsmul rd ra rb => 0x100002C8#32 ||| place 6 5 rd ||| place 11 5 ra ||| place 16 5 rb
  | .efsdiv rd ra rb => 0x100002C9#32 ||| place 6 5 rd ||| place 11 5 ra ||| place 16 5 rb
  | .efsmadd rd ra rb => 0x100002C2#32 ||| place 6 5 rd ||| place 11 5 ra ||| place 16 5 rb
  | .efsmsub rd ra rb => 0x100002C3#32 ||| place 6 5 rd ||| place 11 5 ra ||| place 16 5 rb
  | .efsnmadd rd ra rb => 0x100002CA#32 ||| place 6 5 rd ||| place 11 5 ra ||| place 16 5 rb
  | .efsnmsub rd ra rb => 0x100002CB#32 ||| place 6 5 rd ||| place 11 5 ra ||| place 16 5 rb
  | .efssqrt rd ra => 0x100002C7#32 ||| place 6 5 rd ||| place 11 5 ra
  | .efsmax rd ra rb => 0x100002B0#32 ||| place 6 5 rd ||| place 11 5 ra ||| place 16 5 rb
  | .efsmin rd ra rb => 0x100002B1#32 ||| place 6 5 rd ||| place 11 5 ra ||| place 16 5 rb
  | .efscmpgt crfD ra rb => 0x100002CC#32 ||| place 6 3 crfD ||| place 11 5 ra ||| place 16 5 rb
  | .efscmplt crfD ra rb => 0x100002CD#32 ||| place 6 3 crfD ||| place 11 5 ra ||| place 16 5 rb
  | .efscmpeq crfD ra rb => 0x100002CE#32 ||| place 6 3 crfD ||| place 11 5 ra ||| place 16 5 rb
  | .efststgt crfD ra rb => 0x100002DC#32 ||| place 6 3 crfD ||| place 11 5 ra ||| place 16 5 rb
  | .efststlt crfD ra rb => 0x100002DD#32 ||| place 6 3 crfD ||| place 11 5 ra ||| place 16 5 rb
  | .efststeq crfD ra rb => 0x100002DE#32 ||| place 6 3 crfD ||| place 11 5 ra ||| place 16 5 rb
  | .efscfui rd rb => 0x100002D0#32 ||| place 6 5 rd ||| place 16 5 rb
  | .efscfsi rd rb => 0x100002D1#32 ||| place 6 5 rd ||| place 16 5 rb
  | .efscfuf rd rb => 0x100002D2#32 ||| place 6 5 rd ||| place 16 5 rb
  | .efscfsf rd rb => 0x100002D3#32 ||| place 6 5 rd ||| place 16 5 rb
  | .efscfh rd rb => 0x100402D1#32 ||| place 6 5 rd ||| place 16 5 rb
  | .efsctui rd rb => 0x100002D4#32 ||| place 6 5 rd ||| place 16 5 rb
  | .efsctsi rd rb => 0x100002D5#32 ||| place 6 5 rd ||| place 16 5 rb
  | .efsctuiz rd rb => 0x100002D8#32 ||| place 6 5 rd ||| place 16 5 rb
  | .efsctsiz rd rb => 0x100002DA#32 ||| place 6 5 rd ||| place 16 5 rb
  | .efsctuf rd rb => 0x100002D6#32 ||| place 6 5 rd ||| place 16 5 rb
  | .efsctsf rd rb => 0x100002D7#32 ||| place 6 5 rd ||| place 16 5 rb
  | .efscth rd rb => 0x100402D5#32 ||| place 6 5 rd ||| place 16 5 rb
  | .evfsabs rd ra => 0x10000284#32 ||| place 6 5 rd ||| place 11 5 ra
  | .evfsnabs rd ra => 0x10000285#32 ||| place 6 5 rd ||| place 11 5 ra
  | .evfsneg rd ra => 0x10000286#32 ||| place 6 5 rd ||| place 11 5 ra
  | .evfsadd rd ra rb => 0x10000280#32 ||| place 6 5 rd ||| place 11 5 ra ||| place 16 5 rb
  | .evfssub rd ra rb => 0x10000281#32 ||| place 6 5 rd ||| place 11 5 ra ||| place 16 5 rb
  | .evfsaddsub rd ra rb => 0x100002A2#32 ||| place 6 5 rd ||| place 11 5 ra ||| place 16 5 rb
  | .evfssubadd rd ra rb => 0x100002A3#32 ||| place 6 5 rd ||| place 11 5 ra ||| place 16 5 rb
  | .evfsaddx rd ra rb => 0x100002A8#32 ||| place 6 5 rd ||| place 11 5 ra ||| place 16 5 rb
  | .evfssubx rd ra rb => 0x100002A9#32 ||| place 6 5 rd ||| place 11 5 ra ||| place 16 5 rb
  | .evfsaddsubx rd ra rb => 0x100002AA#32 ||| place 6 5 rd ||| place 11 5 ra ||| place 16 5 rb
  | .evfssubaddx rd ra rb => 0x100002AB#32 ||| place 6 5 rd ||| place 11 5 ra ||| place 16 5 rb
  | .evfssum rd ra rb => 0x100002A4#32 ||| place 6 5 rd ||| place 11 5 ra ||| place 16 5 rb
  | .evfsdiff rd ra rb => 0x100002A5#32 ||| place 6 5 rd ||| place 11 5 ra ||| place 16 5 rb
  | .evfssumdiff rd ra rb => 0x100002A6#32 ||| place 6 5 rd ||| place 11 5 ra ||| place 16 5 rb
  | .evfsdiffsum rd ra rb => 0x100002A7#32 ||| place 6 5 rd ||| place 11 5 ra ||| place 16 5 rb
  | .evfsmul rd ra rb => 0x10000288#32 ||| place 6 5 rd ||| place 11 5 ra ||| place 16 5 rb
  | .evfsmule rd ra rb => 0x100002AE#32 ||| place 6 5 rd ||| place 11 5 ra ||| place 16 5 rb
  | .evfsmulo rd ra rb => 0x100002AF#32 ||| place 6 5 rd ||| place 11 5 ra ||| place 16 5 rb
  | .evfsmulx rd ra rb => 0x100002AC#32 ||| place 6 5 rd ||| place 11 5 ra ||| place 16 5 rb
  | .evfsdiv rd ra rb => 0x10000289#32 ||| place 6 5 rd ||| place 11 5 ra ||| place 16 5 rb
  | .evfsmadd rd ra rb => 0x10000282#32 ||| place 6 5 rd ||| place 11 5 ra ||| place 16 5 rb
  | .evfsmsub rd ra rb => 0x10000283#32 ||| place 6 5 rd ||| place 11 5 ra ||| place 16 5 rb
  | .evfsnmadd rd ra rb => 0x1000028A#32 ||| place 6 5 rd ||| place 11 5 ra ||| place 16 5 rb
  | .evfsnmsub rd ra rb => 0x1000028B#32 ||| place 6 5 rd ||| place 11 5 ra ||| place 16 5 rb
  | .evfssqrt rd ra => 0x10000287#32 ||| place 6 5 rd ||| place 11 5 ra
  | .evfsmax rd ra rb => 0x100002A0#32 ||| place 6 5 rd ||| place 11 5 ra ||| place 16 5 rb
  | .evfsmin rd ra rb => 0x100002A1#32 ||| place 6 5 rd ||| place 11 5 ra ||| place 16 5 rb
  | .evfscmpgt crfD ra rb => 0x1000028C#32 ||| place 6 3 crfD ||| place 11 5 ra ||| place 16 5 rb
  | .evfscmplt crfD ra rb => 0x1000028D#32 ||| place 6 3 crfD ||| place 11 5 ra ||| place 16 5 rb
  | .evfscmpeq crfD ra rb => 0x1000028E#32 ||| place 6 3 crfD ||| place 11 5 ra ||| place 16 5 rb
  | .evfststgt crfD ra rb => 0x1000029C#32 ||| place 6 3 crfD ||| place 11 5 ra ||| place 16 5 rb
  | .evfststlt crfD ra rb => 0x1000029D#32 ||| place 6 3 crfD ||| place 11 5 ra ||| place 16 5 rb
  | .evfststeq crfD ra rb => 0x1000029E#32 ||| place 6 3 crfD ||| place 11 5 ra ||| place 16 5 rb
  | .evfscfui rd rb => 0x10000290#32 ||| place 6 5 rd ||| place 16 5 rb
  | .evfscfsi rd rb => 0x10000291#32 ||| place 6 5 rd ||| place 16 5 rb
  | .evfscfuf rd rb => 0x10000292#32 ||| place 6 5 rd ||| place 16 5 rb
  | .evfscfsf rd rb => 0x10000293#32 ||| place 6 5 rd ||| place 16 5 rb
  | .evfscfh rd rb => 0x10040291#32 ||| place 6 5 rd ||| place 16 5 rb
  | .evfscth rd rb => 0x10040295#32 ||| place 6 5 rd ||| place 16 5 rb
  | .evfsctui rd rb => 0x10000294#32 ||| place 6 5 rd ||| place 16 5 rb
  | .evfsctsi rd rb => 0x10000295#32 ||| place 6 5 rd ||| place 16 5 rb
  | .evfsctuiz rd rb => 0x10000298#32 ||| place 6 5 rd ||| place 16 5 rb
  | .evfsctsiz rd rb => 0x1000029A#32 ||| place 6 5 rd ||| place 16 5 rb
  | .evfsctuf rd rb => 0x10000296#32 ||| place 6 5 rd ||| place 16 5 rb
  | .evfsctsf rd rb => 0x10000297#32 ||| place 6 5 rd ||| place 16 5 rb
  | .brinc rd ra rb => 0x1000020F#32 ||| place 6 5 rd ||| place 11 5 ra ||| place 16 5 rb
  | .evabs rd ra => 0x10000208#32 ||| place 6 5 rd ||| place 11 5 ra
  | .evaddiw rd uimm rb => 0x10000202#32 ||| place 6 5 rd ||| place 11 5 uimm ||| place 16 5 rb
  | .evaddw rd ra rb => 0x10000200#32 ||| place 6 5 rd ||| place 11 5 ra ||| place 16 5 rb
  | .evneg rd ra => 0x10000209#32 ||| place 6 5 rd ||| place 11 5 ra
  | .evsubfw rd ra rb => 0x10000204#32 ||| place 6 5 rd ||| place 11 5 ra ||| place 16 5 rb
  | .evsubifw rd uimm rb => 0x10000206#32 ||| place 6 5 rd ||| place 11 5 uimm ||| place 16 5 rb
  | .evand rd ra rb => 0x10000211#32 ||| place 6 5 rd ||| place 11 5 ra ||| place 16 5 rb
  | .evandc rd ra rb => 0x10000212#32 ||| place 6 5 rd ||| place 11 5 ra ||| place 16 5 rb
  | .eveqv rd ra rb => 0x10000219#32 ||| place 6 5 rd ||| place 11 5 ra ||| place 16 5 rb
  | .evnand rd ra rb => 0x1000021E#32 ||| place 6 5 rd ||| place 11 5 ra ||| place 16 5 rb
  | .evnor rd ra rb => 0x10000218#32 ||| place 6 5 rd ||| place 11 5 ra ||| place 16 5 rb
  | .evor rd ra rb => 0x10000217#32 ||| place 6 5 rd ||| place 11 5 ra ||| place 16 5 rb
  | .evorc rd ra rb => 0x1000021B#32 ||| place 6 5 rd ||| place 11 5 ra ||| place 16 5 rb
  | .evxor rd ra rb => 0x10000216#32 ||| place 6 5 rd ||| place 11 5 ra ||| place 16 5 rb
  | .evcmpeq crfD ra rb => 0x10000234#32 ||| place 6 3 crfD ||| place 11 5 ra ||| place 16 5 rb
  | .evcmpgts crfD ra rb => 0x10000231#32 ||| place 6 3 crfD ||| place 11 5 ra ||| place 16 5 rb
  | .evcmpgtu crfD ra rb => 0x10000230#32 ||| place 6 3 crfD ||| place 11 5 ra ||| place 16 5 rb
  | .evcmplts crfD ra rb => 0x10000233#32 ||| place 6 3 crfD ||| place 11 5 ra ||| place 16 5 rb
  | .evcmpltu crfD ra rb => 0x10000232#32 ||| place 6 3 crfD ||| place 11 5 ra ||| place 16 5 rb
  | .evcntlsw rd ra => 0x1000020E#32 ||| place 6 5 rd ||| place 11 5 ra
  | .evcntlzw rd ra => 0x1000020D#32 ||| place 6 5 rd ||| place 11 5 ra
  | .evextsb rd ra => 0x1000020A#32 ||| place 6 5 rd ||| place 11 5 ra
  | .evextsh rd ra => 0x1000020B#32 ||| place 6 5 rd ||| place 11 5 ra
  | .evmergehi rd ra rb => 0x1000022C#32 ||| place 6 5 rd ||| place 11 5 ra ||| place 16 5 rb
  | .evmergehilo rd ra rb => 0x1000022E#32 ||| place 6 5 rd ||| place 11 5 ra ||| place 16 5 rb
  | .evmergelo rd ra rb => 0x1000022D#32 ||| place 6 5 rd ||| place 11 5 ra ||| place 16 5 rb
  | .evmergelohi rd ra rb => 0x1000022F#32 ||| place 6 5 rd ||| place 11 5 ra ||| place 16 5 rb
  | .evrlw rd ra rb => 0x10000228#32 ||| place 6 5 rd ||| place 11 5 ra ||| place 16 5 rb
  | .evrlwi rd ra uimm => 0x1000022A#32 ||| place 6 5 rd ||| place 11 5 ra ||| place 16 5 uimm
  | .evrndw rd ra => 0x1000020C#32 ||| place 6 5 rd ||| place 11 5 ra
  | .evsel rd ra rb crfS => 0x10000278#32 ||| place 6 5 rd ||| place 11 5 ra ||| place 16 5 rb ||| place 29 3 crfS
  | .evslw rd ra rb => 0x10000224#32 ||| place 6 5 rd ||| place 11 5 ra ||| place 16 5 rb
  | .evslwi rd ra uimm => 0x10000226#32 ||| place 6 5 rd ||| place 11 5 ra ||| place 16 5 uimm
  | .evsrwis rd ra uimm => 0x10000223#32 ||| place 6 5 rd ||| place 11 5 ra ||| place 16 5 uimm
  | .evsrwiu rd ra uimm => 0x10000222#32 ||| place 6 5 rd ||| place 11 5 ra ||| place 16 5 uimm
  | .evsrws rd ra rb => 0x10000221#32 ||| place 6 5 rd ||| place 11 5 ra ||| place 16 5 rb
  | .evsrwu rd ra rb => 0x10000220#32 ||| place 6 5 rd ||| place 11 5 ra ||| place 16 5 rb
  | .evsplatfi rd simm => 0x1000022B#32 ||| place 6 5 rd ||| place 11 5 simm
  | .evsplati rd simm => 0x10000229#32 ||| place 6 5 rd ||| place 11 5 simm
  | .evdivws rd ra rb => 0x100004C6#32 ||| place 6 5 rd ||| place 11 5 ra ||| place 16 5 rb
  | .evdivwu rd ra rb => 0x100004C7#32 ||| place 6 5 rd ||| place 11 5 ra ||| place 16 5 rb
  | .evmwhsmf rd ra rb => 0x1000044F#32 ||| place 6 5 rd ||| place 11 5 ra ||| place 16 5 rb
  | .evmwhsmfa rd ra rb => 0x1000046F#32 ||| place 6 5 rd ||| place 11 5 ra ||| place 16 5 rb
  | .evmwhsmi rd ra rb => 0x1000044D#32 ||| place 6 5 rd ||| place 11 5 ra ||| place 16 5 rb
  | .evmwhsmia rd ra rb => 0x1000046D#32 ||| place 6 5 rd ||| place 11 5 ra ||| place 16 5 rb
  | .evmwhssf rd ra rb => 0x10000447#32 ||| place 6 5 rd ||| place 11 5 ra ||| place 16 5 rb
  | .evmwhssfa rd ra rb => 0x10000467#32 ||| place 6 5 rd ||| place 11 5 ra ||| place 16 5 rb
  | .evmwhumi rd ra rb => 0x1000044C#32 ||| place 6 5 rd ||| place 11 5 ra ||| place 16 5 rb
  | .evmwhumia rd ra rb => 0x1000046C#32 ||| place 6 5 rd ||| place 11 5 ra ||| place 16 5 rb
  | .evmwlsmiaaw rd ra rb => 0x10000549#32 ||| place 6 5 rd ||| place 11 5 ra ||| place 16 5 rb
  | .evmwlsmianw rd ra rb => 0x100005C9#32 ||| place 6 5 rd ||| place 11 5 ra ||| place 16 5 rb
  | .evmwlssiaaw rd ra rb => 0x10000541#32 ||| place 6 5 rd ||| place 11 5 ra ||| place 16 5 rb
  | .evmwlssianw rd ra rb => 0x100005C1#32 ||| place 6 5 rd ||| place 11 5 ra ||| place 16 5 rb
  | .evmwlumi rd ra rb => 0x10000448#32 ||| place 6 5 rd ||| place 11 5 ra ||| place 16 5 rb
  | .evmwlumia rd ra rb => 0x10000468#32 ||| place 6 5 rd ||| place 11 5 ra ||| place 16 5 rb
  | .evmwlumiaaw rd ra rb => 0x10000548#32 ||| place 6 5 rd ||| place 11 5 ra ||| place 16 5 rb
  | .evmwlumianw rd ra rb => 0x100005C8#32 ||| place 6 5 rd ||| place 11 5 ra ||| place 16 5 rb
  | .evmwlusiaaw rd ra rb => 0x10000540#32 ||| place 6 5 rd ||| place 11 5 ra ||| place 16 5 rb
  | .evmwlusianw rd ra rb => 0x100005C0#32 ||| place 6 5 rd ||| place 11 5 ra ||| place 16 5 rb
  | .evmwsmf rd ra rb => 0x1000045B#32 ||| place 6 5 rd ||| place 11 5 ra ||| place 16 5 rb
  | .evmwsmfa rd ra rb => 0x1000047B#32 ||| place 6 5 rd ||| place 11 5 ra ||| place 16 5 rb
  | .evmwsmfaa rd ra rb => 0x1000055B#32 ||| place 6 5 rd ||| place 11 5 ra ||| place 16 5 rb
  | .evmwsmfan rd ra rb => 0x100005DB#32 ||| place 6 5 rd ||| place 11 5 ra ||| place 16 5 rb
  | .evmwsmi rd ra rb => 0x10000459#32 ||| place 6 5 rd ||| place 11 5 ra ||| place 16 5 rb
  | .evmwsmia rd ra rb => 0x10000479#32 ||| place 6 5 rd ||| place 11 5 ra ||| place 16 5 rb
  | .evmwsmiaa rd ra rb => 0x10000559#32 ||| place 6 5 rd ||| place 11 5 ra ||| place 16 5 rb
  | .evmwsmian rd ra rb => 0x100005D9#32 ||| place 6 5 rd ||| place 11 5 ra ||| place 16 5 rb
  | .evmwssf rd ra rb => 0x10000453#32 ||| place 6 5 rd ||| place 11 5 ra ||| place 16 5 rb
  | .evmwssfa rd ra rb => 0x10000473#32 ||| place 6 5 rd ||| place 11 5 ra ||| place 16 5 rb
  | .evmwssfaa rd ra rb => 0x10000553#32 ||| place 6 5 rd ||| place 11 5 ra ||| place 16 5 rb
  | .evmwssfan rd ra rb => 0x100005D3#32 ||| place 6 5 rd ||| place 11 5 ra ||| place 16 5 rb
  | .evmwumi rd ra rb => 0x10000458#32 ||| place 6 5 rd ||| place 11 5 ra ||| place 16 5 rb
  | .evmwumia rd ra rb => 0x10000478#32 ||| place 6 5 rd ||| place 11 5 ra ||| place 16 5 rb
  | .evmwumiaa rd ra rb => 0x10000558#32 ||| place 6 5 rd ||| place 11 5 ra ||| place 16 5 rb
  | .evmwumian rd ra rb => 0x100005D8#32 ||| place 6 5 rd ||| place 11 5 ra ||| place 16 5 rb
  | .evaddsmiaaw rd ra => 0x100004C9#32 ||| place 6 5 rd ||| place 11 5 ra
  | .evaddssiaaw rd ra => 0x100004C1#32 ||| place 6 5 rd ||| place 11 5 ra
  | .evaddumiaaw rd ra => 0x100004C8#32 ||| place 6 5 rd ||| place 11 5 ra
  | .evaddusiaaw rd ra => 0x100004C0#32 ||| place 6 5 rd ||| place 11 5 ra
  | .evsubfsmiaaw rd ra => 0x100004CB#32 ||| place 6 5 rd ||| place 11 5 ra
  | .evsubfssiaaw rd ra => 0x100004C3#32 ||| place 6 5 rd ||| place 11 5 ra
  | .evsubfumiaaw rd ra => 0x100004CA#32 ||| place 6 5 rd ||| place 11 5 ra
  | .evsubfusiaaw rd ra => 0x100004C2#32 ||| place 6 5 rd ||| place 11 5 ra
  | .evmra rd ra => 0x100004C4#32 ||| place 6 5 rd ||| place 11 5 ra
  | .evmhegsmfaa rd ra rb => 0x1000052B#32 ||| place 6 5 rd ||| place 11 5 ra ||| place 16 5 rb
  | .evmhegsmfan rd ra rb => 0x100005AB#32 ||| place 6 5 rd ||| place 11 5 ra ||| place 16 5 rb
  | .evmhegsmiaa rd ra rb => 0x10000529#32 ||| place 6 5 rd ||| place 11 5 ra ||| place 16 5 rb
  | .evmhegsmian rd ra rb => 0x100005A9#32 ||| place 6 5 rd ||| place 11 5 ra ||| place 16 5 rb
  | .evmhegumiaa rd ra rb => 0x10000528#32 ||| place 6 5 rd ||| place 11 5 ra ||| place 16 5 rb
  | .evmhegumian rd ra rb => 0x100005A8#32 ||| place 6 5 rd ||| place 11 5 ra ||| place 16 5 rb
  | .evmhesmf rd ra rb => 0x1000040B#32 ||| place 6 5 rd ||| place 11 5 ra ||| place 16 5 rb
  | .evmhesmfa rd ra rb => 0x1000042B#32 ||| place 6 5 rd ||| place 11 5 ra ||| place 16 5 rb
  | .evmhesmfaaw rd ra rb => 0x1000050B#32 ||| place 6 5 rd ||| place 11 5 ra ||| place 16 5 rb
  | .evmhesmfanw rd ra rb => 0x1000058B#32 ||| place 6 5 rd ||| place 11 5 ra ||| place 16 5 rb
  | .evmhesmi rd ra rb => 0x10000409#32 ||| place 6 5 rd ||| place 11 5 ra ||| place 16 5 rb
  | .evmhesmia rd ra rb => 0x10000429#32 ||| place 6 5 rd ||| place 11 5 ra ||| place 16 5 rb
  | .evmhesmiaaw rd ra rb => 0x10000509#32 ||| place 6 5 rd ||| place 11 5 ra ||| place 16 5 rb
  | .evmhesmianw rd ra rb => 0x10000589#32 ||| place 6 5 rd ||| place 11 5 ra ||| place 16 5 rb
  | .evmhessf rd ra rb => 0x10000403#32 ||| place 6 5 rd ||| place 11 5 ra ||| place 16 5 rb
  | .evmhessfa rd ra rb => 0x10000423#32 ||| place 6 5 rd ||| place 11 5 ra ||| place 16 5 rb
  | .evmhessfaaw rd ra rb => 0x10000503#32 ||| place 6 5 rd ||| place 11 5 ra ||| place 16 5 rb
  | .evmhessfanw rd ra rb => 0x10000583#32 ||| place 6 5 rd ||| place 11 5 ra ||| place 16 5 rb
  | .evmhessiaaw rd ra rb => 0x10000501#32 ||| place 6 5 rd ||| place 11 5 ra ||| place 16 5 rb
  | .evmhessianw rd ra rb => 0x10000581#32 ||| place 6 5 rd ||| place 11 5 ra ||| place 16 5 rb
  | .evmheumi rd ra rb => 0x10000408#32 ||| place 6 5 rd ||| place 11 5 ra ||| place 16 5 rb
  | .evmheumia rd ra rb => 0x10000428#32 ||| place 6 5 rd ||| place 11 5 ra ||| place 16 5 rb
  | .evmheumiaaw rd ra rb => 0x10000508#32 ||| place 6 5 rd ||| place 11 5 ra ||| place 16 5 rb
  | .evmheumianw rd ra rb => 0x10000588#32 ||| place 6 5 rd ||| place 11 5 ra ||| place 16 5 rb
  | .evmheusiaaw rd ra rb => 0x10000500#32 ||| place 6 5 rd ||| place 11 5 ra ||| place 16 5 rb
  | .evmheusianw rd ra rb => 0x10000580#32 ||| place 6 5 rd ||| place 11 5 ra ||| place 16 5 rb
  | .evmhogsmfaa rd ra rb => 0x1000052F#32 ||| place 6 5 rd ||| place 11 5 ra ||| place 16 5 rb
  | .evmhogsmfan rd ra rb => 0x100005AF#32 ||| place 6 5 rd ||| place 11 5 ra ||| place 16 5 rb
  | .evmhogsmiaa rd ra rb => 0x1000052D#32 ||| place 6 5 rd ||| place 11 5 ra ||| place 16 5 rb
  | .evmhogsmian rd ra rb => 0x100005AD#32 ||| place 6 5 rd ||| place 11 5 ra ||| place 16 5 rb
  | .evmhogumiaa rd ra rb => 0x1000052C#32 ||| place 6 5 rd ||| place 11 5 ra ||| place 16 5 rb
  | .evmhogumian rd ra rb => 0x100005AC#32 ||| place 6 5 rd ||| place 11 5 ra ||| place 16 5 rb
  | .evmhosmf rd ra rb => 0x1000040F#32 ||| place 6 5 rd ||| place 11 5 ra ||| place 16 5 rb
  | .evmhosmfa rd ra rb => 0x1000042F#32 ||| place 6 5 rd ||| place 11 5 ra ||| place 16 5 rb
  | .evmhosmfaaw rd ra rb => 0x1000050F#32 ||| place 6 5 rd ||| place 11 5 ra ||| place 16 5 rb
  | .evmhosmfanw rd ra rb => 0x1000058F#32 ||| place 6 5 rd ||| place 11 5 ra ||| place 16 5 rb
  | .evmhosmi rd ra rb => 0x1000040D#32 ||| place 6 5 rd ||| place 11 5 ra ||| place 16 5 rb
  | .evmhosmia rd ra rb => 0x1000042D#32 ||| place 6 5 rd ||| place 11 5 ra ||| place 16 5 rb
  | .evmhosmiaaw rd ra rb => 0x1000050D#32 ||| place 6 5 rd ||| place 11 5 ra ||| place 16 5 rb
  | .evmhosmianw rd ra rb => 0x1000058D#32 ||| place 6 5 rd ||| place 11 5 ra ||| place 16 5 rb
  | .evmhossf rd ra rb => 0x10000407#32 ||| place 6 5 rd ||| place 11 5 ra ||| place 16 5 rb
  | .evmhossfa rd ra rb => 0x10000427#32 ||| place 6 5 rd ||| place 11 5 ra ||| place 16 5 rb
  | .evmhossfaaw rd ra rb => 0x10000507#32 ||| place 6 5 rd ||| place 11 5 ra ||| place 16 5 rb
  | .evmhossfanw rd ra rb => 0x10000587#32 ||| place 6 5 rd ||| place 11 5 ra ||| place 16 5 rb
  | .evmhossiaaw rd ra rb => 0x10000505#32 ||| place 6 5 rd ||| place 11 5 ra ||| place 16 5 rb
  | .evmhossianw rd ra rb => 0x10000585#32 ||| place 6 5 rd ||| place 11 5 ra ||| place 16 5 rb
  | .evmhoumi rd ra rb => 0x1000040C#32 ||| place 6 5 rd ||| place 11 5 ra ||| place 16 5 rb
  | .evmhoumia rd ra rb => 0x1000042C#32 ||| place 6 5 rd ||| place 11 5 ra ||| place 16 5 rb
  | .evmhoumiaaw rd ra rb => 0x1000050C#32 ||| place 6 5 rd ||| place 11 5 ra ||| place 16 5 rb
  | .evmhoumianw rd ra rb => 0x1000058C#32 ||| place 6 5 rd ||| place 11 5 ra ||| place 16 5 rb
  | .evmhousiaaw rd ra rb => 0x10000504#32 ||| place 6 5 rd ||| place 11 5 ra ||| place 16 5 rb
  | .evmhousianw rd ra rb => 0x10000584#32 ||| place 6 5 rd ||| place 11 5 ra ||| place 16 5 rb
  | .evldd rd ra uimm => 0x10000301#32 ||| place 6 5 rd ||| place 11 5 ra ||| place 16 5 uimm
  | .evlddx rd ra rb => 0x10000300#32 ||| place 6 5 rd ||| place 11 5 ra ||| place 16 5 rb
  | .evldw rd ra uimm => 0x10000303#32 ||| place 6 5 rd ||| place 11 5 ra ||| place 16 5 uimm
  | .evldwx rd ra rb => 0x10000302#32 ||| place 6 5 rd ||| place 11 5 ra ||| place 16 5 rb
  | .evldh rd ra uimm => 0x10000305#32 ||| place 6 5 rd ||| place 11 5 ra ||| place 16 5 uimm
  | .evldhx rd ra rb => 0x10000304#32 ||| place 6 5 rd ||| place 11 5 ra ||| place 16 5 rb
  | .evlwhe rd ra uimm => 0x10000311#32 ||| place 6 5 rd ||| place 11 5 ra ||| place 16 5 uimm
  | .evlwhex rd ra rb => 0x10000310#32 ||| place 6 5 rd ||| place 11 5 ra ||| place 16 5 rb
  | .evlwhou rd ra uimm => 0x10000315#32 ||| place 6 5 rd ||| place 11 5 ra ||| place 16 5 uimm
  | .evlwhoux rd ra rb => 0x10000314#32 ||| place 6 5 rd ||| place 11 5 ra ||| place 16 5 rb
  | .evlwhos rd ra uimm => 0x10000317#32 ||| place 6 5 rd ||| place 11 5 ra ||| place 16 5 uimm
  | .evlwhosx rd ra rb => 0x10000316#32 ||| place 6 5 rd ||| place 11 5 ra ||| place 16 5 rb
  | .evlwwsplat rd ra uimm => 0x10000319#32 ||| place 6 5 rd ||| place 11 5 ra ||| place 16 5 uimm
  | .evlwwsplatx rd ra rb => 0x10000318#32 ||| place 6 5 rd ||| place 11 5 ra ||| place 16 5 rb
  | .evlwhsplat rd ra uimm => 0x1000031D#32 ||| place 6 5 rd ||| place 11 5 ra ||| place 16 5 uimm
  | .evlwhsplatx rd ra rb => 0x1000031C#32 ||| place 6 5 rd ||| place 11 5 ra ||| place 16 5 rb
  | .evlhhesplat rd ra uimm => 0x10000309#32 ||| place 6 5 rd ||| place 11 5 ra ||| place 16 5 uimm
  | .evlhhesplatx rd ra rb => 0x10000308#32 ||| place 6 5 rd ||| place 11 5 ra ||| place 16 5 rb
  | .evlhhousplat rd ra uimm => 0x1000030D#32 ||| place 6 5 rd ||| place 11 5 ra ||| place 16 5 uimm
  | .evlhhousplatx rd ra rb => 0x1000030C#32 ||| place 6 5 rd ||| place 11 5 ra ||| place 16 5 rb
  | .evlhhossplat rd ra uimm => 0x1000030F#32 ||| place 6 5 rd ||| place 11 5 ra ||| place 16 5 uimm
  | .evlhhossplatx rd ra rb => 0x1000030E#32 ||| place 6 5 rd ||| place 11 5 ra ||| place 16 5 rb
  | .evstdd rs ra uimm => 0x10000321#32 ||| place 6 5 rs ||| place 11 5 ra ||| place 16 5 uimm
  | .evstddx rs ra rb => 0x10000320#32 ||| place 6 5 rs ||| place 11 5 ra ||| place 16 5 rb
  | .evstdw rs ra uimm => 0x10000323#32 ||| place 6 5 rs ||| place 11 5 ra ||| place 16 5 uimm
  | .evstdwx rs ra rb => 0x10000322#32 ||| place 6 5 rs ||| place 11 5 ra ||| place 16 5 rb
  | .evstdh rs ra uimm => 0x10000325#32 ||| place 6 5 rs ||| place 11 5 ra ||| place 16 5 uimm
  | .evstdhx rs ra rb => 0x10000324#32 ||| place 6 5 rs ||| place 11 5 ra ||| place 16 5 rb
  | .evstwhe rs ra uimm => 0x10000331#32 ||| place 6 5 rs ||| place 11 5 ra ||| place 16 5 uimm
  | .evstwhex rs ra rb => 0x10000330#32 ||| place 6 5 rs ||| place 11 5 ra ||| place 16 5 rb
  | .evstwho rs ra uimm => 0x10000335#32 ||| place 6 5 rs ||| place 11 5 ra ||| place 16 5 uimm
  | .evstwhox rs ra rb => 0x10000334#32 ||| place 6 5 rs ||| place 11 5 ra ||| place 16 5 rb
  | .evstwwe rs ra uimm => 0x10000339#32 ||| place 6 5 rs ||| place 11 5 ra ||| place 16 5 uimm
  | .evstwwex rs ra rb => 0x10000338#32 ||| place 6 5 rs ||| place 11 5 ra ||| place 16 5 rb
  | .evstwwo rs ra uimm => 0x1000033D#32 ||| place 6 5 rs ||| place 11 5 ra ||| place 16 5 uimm
  | .evstwwox rs ra rb => 0x1000033C#32 ||| place 6 5 rs ||| place 11 5 ra ||| place 16 5 rb

/-- The instruction is 16 bits long (mnemonics that begin with se_). -/
def Instr.isShort : Instr → Bool
  | .seIsync | .seSc | .seRfi | .seRfci | .seRfdi | .seRfmci | .seDnh => true
  | .add .. | .addRc .. | .addc .. | .addcRc .. | .addco .. | .addcoRc .. | .adde .. | .addeRc .. | .addeo ..
  | .addeoRc .. | .addi .. | .addic .. | .addicRc .. | .addis .. | .addme .. | .addmeRc .. | .addmeo ..
  | .addmeoRc .. | .addo .. | .addoRc .. | .addze .. | .addzeRc .. | .addzeo .. | .addzeoRc .. | .and ..
  | .andRc .. | .andc .. | .andcRc .. | .andiRc .. | .andisRc .. | .b .. | .ba .. | .bc .. | .bca .. | .bcctr ..
  | .bcctrl .. | .bcl .. | .bcla .. | .bclr .. | .bclrl .. | .bl .. | .bla .. | .cmp .. | .cmpi .. | .cmpl ..
  | .cmpli .. | .cntlzw .. | .cntlzwRc .. | .crand .. | .crandc .. | .creqv .. | .crnand .. | .crnor .. | .cror ..
  | .crorc .. | .crxor .. | .dcba .. | .dcbf .. | .dcbi .. | .dcblc .. | .dcbst .. | .dcbt .. | .dcbtls ..
  | .dcbtst .. | .dcbtstls .. | .dcbz .. | .divw .. | .divwRc .. | .divwo .. | .divwoRc .. | .divwu ..
  | .divwuRc .. | .divwuo .. | .divwuoRc .. | .eqv .. | .eqvRc .. | .extsb .. | .extsbRc .. | .extsh ..
  | .extshRc .. | .icbi .. | .icblc .. | .icbt .. | .icbtls .. | .isel .. | .isync | .lbz .. | .lbzu .. | .lbzux ..
  | .lbzx .. | .lha .. | .lhau .. | .lhaux .. | .lhax .. | .lhbrx .. | .lhz .. | .lhzu .. | .lhzux .. | .lhzx ..
  | .lmw .. | .lwarx .. | .lwbrx .. | .lwz .. | .lwzu .. | .lwzux .. | .lwzx .. | .mbar .. | .mcrf .. | .mcrxr ..
  | .mfcr .. | .mfdcr .. | .mfmsr .. | .mfspr .. | .msync | .mtcrf .. | .mtdcr .. | .mtmsr .. | .mtspr ..
  | .mulhw .. | .mulhwRc .. | .mulhwu .. | .mulhwuRc .. | .mulli .. | .mullw .. | .mullwRc .. | .mullwo ..
  | .mullwoRc .. | .nand .. | .nandRc .. | .neg .. | .negRc .. | .nego .. | .negoRc .. | .nor .. | .norRc ..
  | .or .. | .orRc .. | .orc .. | .orcRc .. | .ori .. | .oris .. | .rfci | .rfdi | .rfi | .rfmci | .rlwimi ..
  | .rlwimiRc .. | .rlwinm .. | .rlwinmRc .. | .rlwnm .. | .rlwnmRc .. | .sc | .slw .. | .slwRc .. | .sraw ..
  | .srawRc .. | .srawi .. | .srawiRc .. | .srw .. | .srwRc .. | .stb .. | .stbu .. | .stbux .. | .stbx ..
  | .sth .. | .sthbrx .. | .sthu .. | .sthux .. | .sthx .. | .stmw .. | .stw .. | .stwbrx .. | .stwcxRc ..
  | .stwu .. | .stwux .. | .stwx .. | .subf .. | .subfRc .. | .subfc .. | .subfcRc .. | .subfco .. | .subfcoRc ..
  | .subfe .. | .subfeRc .. | .subfeo .. | .subfeoRc .. | .subfic .. | .subfme .. | .subfmeRc .. | .subfmeo ..
  | .subfmeoRc .. | .subfo .. | .subfoRc .. | .subfze .. | .subfzeRc .. | .subfzeo .. | .subfzeoRc .. | .tlbivax ..
  | .tlbre | .tlbsx .. | .tlbsync | .tlbwe | .tw .. | .twi .. | .wrtee .. | .wrteei .. | .xor .. | .xorRc ..
  | .xori .. | .xoris .. | .wait | .lbarx .. | .lharx .. | .stbcxRc .. | .sthcxRc .. | .dnh .. | .eDnh ..
  | .eLmvgprw .. | .eStmvgprw .. | .eLmvsprw .. | .eStmvsprw .. | .eLmvsrrw .. | .eStmvsrrw .. | .eLmvcsrrw ..
  | .eStmvcsrrw .. | .eLmvdsrrw .. | .eStmvdsrrw .. | .eLmvmcsrrw .. | .eStmvmcsrrw .. | .eLmw .. | .eStmw ..
  | .efsabs .. | .efsnabs .. | .efsneg .. | .efsadd .. | .efssub .. | .efsmul .. | .efsdiv .. | .efsmadd ..
  | .efsmsub .. | .efsnmadd .. | .efsnmsub .. | .efssqrt .. | .efsmax .. | .efsmin .. | .efscmpgt .. | .efscmplt ..
  | .efscmpeq .. | .efststgt .. | .efststlt .. | .efststeq .. | .efscfui .. | .efscfsi .. | .efscfuf ..
  | .efscfsf .. | .efscfh .. | .efsctui .. | .efsctsi .. | .efsctuiz .. | .efsctsiz .. | .efsctuf .. | .efsctsf ..
  | .efscth .. | .evfsabs .. | .evfsnabs .. | .evfsneg .. | .evfsadd .. | .evfssub .. | .evfsaddsub ..
  | .evfssubadd .. | .evfsaddx .. | .evfssubx .. | .evfsaddsubx .. | .evfssubaddx .. | .evfssum .. | .evfsdiff ..
  | .evfssumdiff .. | .evfsdiffsum .. | .evfsmul .. | .evfsmule .. | .evfsmulo .. | .evfsmulx .. | .evfsdiv ..
  | .evfsmadd .. | .evfsmsub .. | .evfsnmadd .. | .evfsnmsub .. | .evfssqrt .. | .evfsmax .. | .evfsmin ..
  | .evfscmpgt .. | .evfscmplt .. | .evfscmpeq .. | .evfststgt .. | .evfststlt .. | .evfststeq .. | .evfscfui ..
  | .evfscfsi .. | .evfscfuf .. | .evfscfsf .. | .evfscfh .. | .evfscth .. | .evfsctui .. | .evfsctsi ..
  | .evfsctuiz .. | .evfsctsiz .. | .evfsctuf .. | .evfsctsf .. | .brinc .. | .evabs .. | .evaddiw .. | .evaddw ..
  | .evneg .. | .evsubfw .. | .evsubifw .. | .evand .. | .evandc .. | .eveqv .. | .evnand .. | .evnor .. | .evor ..
  | .evorc .. | .evxor .. | .evcmpeq .. | .evcmpgts .. | .evcmpgtu .. | .evcmplts .. | .evcmpltu .. | .evcntlsw ..
  | .evcntlzw .. | .evextsb .. | .evextsh .. | .evmergehi .. | .evmergehilo .. | .evmergelo .. | .evmergelohi ..
  | .evrlw .. | .evrlwi .. | .evrndw .. | .evsel .. | .evslw .. | .evslwi .. | .evsrwis .. | .evsrwiu ..
  | .evsrws .. | .evsrwu .. | .evsplatfi .. | .evsplati .. | .evdivws .. | .evdivwu .. | .evmwhsmf ..
  | .evmwhsmfa .. | .evmwhsmi .. | .evmwhsmia .. | .evmwhssf .. | .evmwhssfa .. | .evmwhumi .. | .evmwhumia ..
  | .evmwlsmiaaw .. | .evmwlsmianw .. | .evmwlssiaaw .. | .evmwlssianw .. | .evmwlumi .. | .evmwlumia ..
  | .evmwlumiaaw .. | .evmwlumianw .. | .evmwlusiaaw .. | .evmwlusianw .. | .evmwsmf .. | .evmwsmfa ..
  | .evmwsmfaa .. | .evmwsmfan .. | .evmwsmi .. | .evmwsmia .. | .evmwsmiaa .. | .evmwsmian .. | .evmwssf ..
  | .evmwssfa .. | .evmwssfaa .. | .evmwssfan .. | .evmwumi .. | .evmwumia .. | .evmwumiaa .. | .evmwumian ..
  | .evaddsmiaaw .. | .evaddssiaaw .. | .evaddumiaaw .. | .evaddusiaaw .. | .evsubfsmiaaw .. | .evsubfssiaaw ..
  | .evsubfumiaaw .. | .evsubfusiaaw .. | .evmra .. | .evmhegsmfaa .. | .evmhegsmfan .. | .evmhegsmiaa ..
  | .evmhegsmian .. | .evmhegumiaa .. | .evmhegumian .. | .evmhesmf .. | .evmhesmfa .. | .evmhesmfaaw ..
  | .evmhesmfanw .. | .evmhesmi .. | .evmhesmia .. | .evmhesmiaaw .. | .evmhesmianw .. | .evmhessf ..
  | .evmhessfa .. | .evmhessfaaw .. | .evmhessfanw .. | .evmhessiaaw .. | .evmhessianw .. | .evmheumi ..
  | .evmheumia .. | .evmheumiaaw .. | .evmheumianw .. | .evmheusiaaw .. | .evmheusianw .. | .evmhogsmfaa ..
  | .evmhogsmfan .. | .evmhogsmiaa .. | .evmhogsmian .. | .evmhogumiaa .. | .evmhogumian .. | .evmhosmf ..
  | .evmhosmfa .. | .evmhosmfaaw .. | .evmhosmfanw .. | .evmhosmi .. | .evmhosmia .. | .evmhosmiaaw ..
  | .evmhosmianw .. | .evmhossf .. | .evmhossfa .. | .evmhossfaaw .. | .evmhossfanw .. | .evmhossiaaw ..
  | .evmhossianw .. | .evmhoumi .. | .evmhoumia .. | .evmhoumiaaw .. | .evmhoumianw .. | .evmhousiaaw ..
  | .evmhousianw .. | .evldd .. | .evlddx .. | .evldw .. | .evldwx .. | .evldh .. | .evldhx .. | .evlwhe ..
  | .evlwhex .. | .evlwhou .. | .evlwhoux .. | .evlwhos .. | .evlwhosx .. | .evlwwsplat .. | .evlwwsplatx ..
  | .evlwhsplat .. | .evlwhsplatx .. | .evlhhesplat .. | .evlhhesplatx .. | .evlhhousplat .. | .evlhhousplatx ..
  | .evlhhossplat .. | .evlhhossplatx .. | .evstdd .. | .evstddx .. | .evstdw .. | .evstdwx .. | .evstdh ..
  | .evstdhx .. | .evstwhe .. | .evstwhex .. | .evstwho .. | .evstwhox .. | .evstwwe .. | .evstwwex ..
  | .evstwwo .. | .evstwwox ..
    => false

/-- The instruction exists only on VLE pages (the rows the table marks VLE). -/
def Instr.isVleOnly : Instr → Bool
  | .seIsync | .seSc | .seRfi | .seRfci | .seRfdi | .seRfmci | .seDnh | .eDnh .. | .eLmvgprw .. | .eStmvgprw ..
  | .eLmvsprw .. | .eStmvsprw .. | .eLmvsrrw .. | .eStmvsrrw .. | .eLmvcsrrw .. | .eStmvcsrrw .. | .eLmvdsrrw ..
  | .eStmvdsrrw .. | .eLmvmcsrrw .. | .eStmvmcsrrw .. | .eLmw .. | .eStmw ..
    => true
  | .add .. | .addRc .. | .addc .. | .addcRc .. | .addco .. | .addcoRc .. | .adde .. | .addeRc .. | .addeo ..
  | .addeoRc .. | .addi .. | .addic .. | .addicRc .. | .addis .. | .addme .. | .addmeRc .. | .addmeo ..
  | .addmeoRc .. | .addo .. | .addoRc .. | .addze .. | .addzeRc .. | .addzeo .. | .addzeoRc .. | .and ..
  | .andRc .. | .andc .. | .andcRc .. | .andiRc .. | .andisRc .. | .b .. | .ba .. | .bc .. | .bca .. | .bcctr ..
  | .bcctrl .. | .bcl .. | .bcla .. | .bclr .. | .bclrl .. | .bl .. | .bla .. | .cmp .. | .cmpi .. | .cmpl ..
  | .cmpli .. | .cntlzw .. | .cntlzwRc .. | .crand .. | .crandc .. | .creqv .. | .crnand .. | .crnor .. | .cror ..
  | .crorc .. | .crxor .. | .dcba .. | .dcbf .. | .dcbi .. | .dcblc .. | .dcbst .. | .dcbt .. | .dcbtls ..
  | .dcbtst .. | .dcbtstls .. | .dcbz .. | .divw .. | .divwRc .. | .divwo .. | .divwoRc .. | .divwu ..
  | .divwuRc .. | .divwuo .. | .divwuoRc .. | .eqv .. | .eqvRc .. | .extsb .. | .extsbRc .. | .extsh ..
  | .extshRc .. | .icbi .. | .icblc .. | .icbt .. | .icbtls .. | .isel .. | .isync | .lbz .. | .lbzu .. | .lbzux ..
  | .lbzx .. | .lha .. | .lhau .. | .lhaux .. | .lhax .. | .lhbrx .. | .lhz .. | .lhzu .. | .lhzux .. | .lhzx ..
  | .lmw .. | .lwarx .. | .lwbrx .. | .lwz .. | .lwzu .. | .lwzux .. | .lwzx .. | .mbar .. | .mcrf .. | .mcrxr ..
  | .mfcr .. | .mfdcr .. | .mfmsr .. | .mfspr .. | .msync | .mtcrf .. | .mtdcr .. | .mtmsr .. | .mtspr ..
  | .mulhw .. | .mulhwRc .. | .mulhwu .. | .mulhwuRc .. | .mulli .. | .mullw .. | .mullwRc .. | .mullwo ..
  | .mullwoRc .. | .nand .. | .nandRc .. | .neg .. | .negRc .. | .nego .. | .negoRc .. | .nor .. | .norRc ..
  | .or .. | .orRc .. | .orc .. | .orcRc .. | .ori .. | .oris .. | .rfci | .rfdi | .rfi | .rfmci | .rlwimi ..
  | .rlwimiRc .. | .rlwinm .. | .rlwinmRc .. | .rlwnm .. | .rlwnmRc .. | .sc | .slw .. | .slwRc .. | .sraw ..
  | .srawRc .. | .srawi .. | .srawiRc .. | .srw .. | .srwRc .. | .stb .. | .stbu .. | .stbux .. | .stbx ..
  | .sth .. | .sthbrx .. | .sthu .. | .sthux .. | .sthx .. | .stmw .. | .stw .. | .stwbrx .. | .stwcxRc ..
  | .stwu .. | .stwux .. | .stwx .. | .subf .. | .subfRc .. | .subfc .. | .subfcRc .. | .subfco .. | .subfcoRc ..
  | .subfe .. | .subfeRc .. | .subfeo .. | .subfeoRc .. | .subfic .. | .subfme .. | .subfmeRc .. | .subfmeo ..
  | .subfmeoRc .. | .subfo .. | .subfoRc .. | .subfze .. | .subfzeRc .. | .subfzeo .. | .subfzeoRc .. | .tlbivax ..
  | .tlbre | .tlbsx .. | .tlbsync | .tlbwe | .tw .. | .twi .. | .wrtee .. | .wrteei .. | .xor .. | .xorRc ..
  | .xori .. | .xoris .. | .wait | .lbarx .. | .lharx .. | .stbcxRc .. | .sthcxRc .. | .dnh .. | .efsabs ..
  | .efsnabs .. | .efsneg .. | .efsadd .. | .efssub .. | .efsmul .. | .efsdiv .. | .efsmadd .. | .efsmsub ..
  | .efsnmadd .. | .efsnmsub .. | .efssqrt .. | .efsmax .. | .efsmin .. | .efscmpgt .. | .efscmplt ..
  | .efscmpeq .. | .efststgt .. | .efststlt .. | .efststeq .. | .efscfui .. | .efscfsi .. | .efscfuf ..
  | .efscfsf .. | .efscfh .. | .efsctui .. | .efsctsi .. | .efsctuiz .. | .efsctsiz .. | .efsctuf .. | .efsctsf ..
  | .efscth .. | .evfsabs .. | .evfsnabs .. | .evfsneg .. | .evfsadd .. | .evfssub .. | .evfsaddsub ..
  | .evfssubadd .. | .evfsaddx .. | .evfssubx .. | .evfsaddsubx .. | .evfssubaddx .. | .evfssum .. | .evfsdiff ..
  | .evfssumdiff .. | .evfsdiffsum .. | .evfsmul .. | .evfsmule .. | .evfsmulo .. | .evfsmulx .. | .evfsdiv ..
  | .evfsmadd .. | .evfsmsub .. | .evfsnmadd .. | .evfsnmsub .. | .evfssqrt .. | .evfsmax .. | .evfsmin ..
  | .evfscmpgt .. | .evfscmplt .. | .evfscmpeq .. | .evfststgt .. | .evfststlt .. | .evfststeq .. | .evfscfui ..
  | .evfscfsi .. | .evfscfuf .. | .evfscfsf .. | .evfscfh .. | .evfscth .. | .evfsctui .. | .evfsctsi ..
  | .evfsctuiz .. | .evfsctsiz .. | .evfsctuf .. | .evfsctsf .. | .brinc .. | .evabs .. | .evaddiw .. | .evaddw ..
  | .evneg .. | .evsubfw .. | .evsubifw .. | .evand .. | .evandc .. | .eveqv .. | .evnand .. | .evnor .. | .evor ..
  | .evorc .. | .evxor .. | .evcmpeq .. | .evcmpgts .. | .evcmpgtu .. | .evcmplts .. | .evcmpltu .. | .evcntlsw ..
  | .evcntlzw .. | .evextsb .. | .evextsh .. | .evmergehi .. | .evmergehilo .. | .evmergelo .. | .evmergelohi ..
  | .evrlw .. | .evrlwi .. | .evrndw .. | .evsel .. | .evslw .. | .evslwi .. | .evsrwis .. | .evsrwiu ..
  | .evsrws .. | .evsrwu .. | .evsplatfi .. | .evsplati .. | .evdivws .. | .evdivwu .. | .evmwhsmf ..
  | .evmwhsmfa .. | .evmwhsmi .. | .evmwhsmia .. | .evmwhssf .. | .evmwhssfa .. | .evmwhumi .. | .evmwhumia ..
  | .evmwlsmiaaw .. | .evmwlsmianw .. | .evmwlssiaaw .. | .evmwlssianw .. | .evmwlumi .. | .evmwlumia ..
  | .evmwlumiaaw .. | .evmwlumianw .. | .evmwlusiaaw .. | .evmwlusianw .. | .evmwsmf .. | .evmwsmfa ..
  | .evmwsmfaa .. | .evmwsmfan .. | .evmwsmi .. | .evmwsmia .. | .evmwsmiaa .. | .evmwsmian .. | .evmwssf ..
  | .evmwssfa .. | .evmwssfaa .. | .evmwssfan .. | .evmwumi .. | .evmwumia .. | .evmwumiaa .. | .evmwumian ..
  | .evaddsmiaaw .. | .evaddssiaaw .. | .evaddumiaaw .. | .evaddusiaaw .. | .evsubfsmiaaw .. | .evsubfssiaaw ..
  | .evsubfumiaaw .. | .evsubfusiaaw .. | .evmra .. | .evmhegsmfaa .. | .evmhegsmfan .. | .evmhegsmiaa ..
  | .evmhegsmian .. | .evmhegumiaa .. | .evmhegumian .. | .evmhesmf .. | .evmhesmfa .. | .evmhesmfaaw ..
  | .evmhesmfanw .. | .evmhesmi .. | .evmhesmia .. | .evmhesmiaaw .. | .evmhesmianw .. | .evmhessf ..
  | .evmhessfa .. | .evmhessfaaw .. | .evmhessfanw .. | .evmhessiaaw .. | .evmhessianw .. | .evmheumi ..
  | .evmheumia .. | .evmheumiaaw .. | .evmheumianw .. | .evmheusiaaw .. | .evmheusianw .. | .evmhogsmfaa ..
  | .evmhogsmfan .. | .evmhogsmiaa .. | .evmhogsmian .. | .evmhogumiaa .. | .evmhogumian .. | .evmhosmf ..
  | .evmhosmfa .. | .evmhosmfaaw .. | .evmhosmfanw .. | .evmhosmi .. | .evmhosmia .. | .evmhosmiaaw ..
  | .evmhosmianw .. | .evmhossf .. | .evmhossfa .. | .evmhossfaaw .. | .evmhossfanw .. | .evmhossiaaw ..
  | .evmhossianw .. | .evmhoumi .. | .evmhoumia .. | .evmhoumiaaw .. | .evmhoumianw .. | .evmhousiaaw ..
  | .evmhousianw .. | .evldd .. | .evlddx .. | .evldw .. | .evldwx .. | .evldh .. | .evldhx .. | .evlwhe ..
  | .evlwhex .. | .evlwhou .. | .evlwhoux .. | .evlwhos .. | .evlwhosx .. | .evlwwsplat .. | .evlwwsplatx ..
  | .evlwhsplat .. | .evlwhsplatx .. | .evlhhesplat .. | .evlhhesplatx .. | .evlhhousplat .. | .evlhhousplatx ..
  | .evlhhossplat .. | .evlhhossplatx .. | .evstdd .. | .evstddx .. | .evstdw .. | .evstdwx .. | .evstdh ..
  | .evstdhx .. | .evstwhe .. | .evstwhex .. | .evstwho .. | .evstwhox .. | .evstwwe .. | .evstwwex ..
  | .evstwwo .. | .evstwwox ..
    => false

/-- The page kind an instruction is encoded for: VLE for the VLE-only rows, Book E for the others. -/
def Instr.page (i : Instr) : Page := if i.isVleOnly then .vle else .bookE

/-- The length of an instruction in bytes (spec/10_state.md R53). -/
def Instr.size (i : Instr) : Nat := if i.isShort then 2 else 4

/-- The bytes of an instruction, the one at the lowest address first. -/
def encode (i : Instr) : List Byte :=
  if i.isShort then halfBytes ((encodeWord i).setWidth 16) else wordBytes (encodeWord i)

/-- The instruction the decoder reads from a row's bits, numbered as spec/opcode_table.json numbers them: 16 bits are a VLE
half word; 32 bits are read as a Book E word and, where that is no instruction, as a VLE word (spec/30_encoding.md R500). -/
noncomputable def decodeTableWord (nbits w : Nat) : Option Instr :=
  if nbits = 16 then
    match decodeBytes .vle (halfBytes (BitVec.ofNat 16 w)) with
    | .ok (i, []) => some i
    | _ => none
  else if nbits = 32 then
    match decodeBytes .bookE (wordBytes (BitVec.ofNat 32 w)) with
    | .ok (i, _) => some i
    | .error _ =>
      match decodeBytes .vle (wordBytes (BitVec.ofNat 32 w)) with
      | .ok (i, []) => some i
      | _ => none
  else none

end Sys2Proof
end

