-- ==== Sys2Proof/Machine/Fetch.lean ====
section
/-! DEFINITION. Fetching an instruction's bytes, the exceptions of a word that is no instruction, and what is done after an
instruction (spec/20_memory.md R411, spec/60_exceptions.md R2023, R2034, R2055, spec/61_debug.md R2210 to R2225). -/

namespace Sys2Proof.Machine

/-- A fault on the first fetch of a handler: MCSR[EXCP_ERR] with the address, and an error report machine check (R2055). -/
def State.handlerFault (s : State) (extra address : Word) (effective : Bool) : State :=
  (s.asyncCheck (oneBit 4 ||| extra) address effective).errorReport (oneBit 15)

/-- Instruction TLB error for address ea; `second` says it is the second half of a 32-bit VLE instruction (R2034). -/
def State.instrTlbError (s : State) (ea : Word) (second : Bool) : State :=
  if s.firstFetch then s.handlerFault 0 ea true
  else ((s.setEsr (when second (oneBit 30))).loadMissMas (bit s.msr 26) ea).raise 14

/-- Instruction storage interrupt with the ESR cause bits given; `real` is the real address of the fetch (R2023). -/
def State.instrStorage (s : State) (cause real : Word) : State :=
  if s.firstFetch then s.handlerFault 0 real false
  else (s.setEsr (cause ||| s.vlemi)).raise 3

/-- A bus or cache error on the fetch (R2050, R2052, R2055). -/
def State.fetchError (s : State) (async address : Word) : State :=
  if s.firstFetch && bit async 27 then s.handlerFault async address false
  else (s.asyncCheck async address false).errorReport (oneBit 15)

/-- The bytes of the instruction at pc and the kind of its page; or the state after the exception its fetch raised; or a
stop. -/
inductive Fetched where
  | bytes (bs : List Byte) (page : Page) (s : State)
  | raised (s : State)
  | stop (f : Fault)

/-- Go on with fetched bytes. -/
def Fetch.andThen (x : Fetch) (f : List Byte → State → Fetched) : Fetched :=
  match x with
  | .bytes bs s => f bs s
  | .check async address s => .raised (s.fetchError async address)
  | .stop e => .stop e

/-- The second half word of a 32-bit VLE instruction, which may lie in the next page (R411 step 3). A lookup that hits more
than one TLB entry, for the first page or the second, has free attributes and raises no exception
(spec/11_state_mmu_cache.md R206), so the page kinds are compared only where each lookup hits one entry
(assumption log entry 24). -/
def State.fetchSecond (s : State) (m : Mapping) (first : List Byte) : Fetched :=
  let a := s.pc + 2
  if m.samePage s.pc a then
    (s.fetchBytes a (m.real a) 2 m.entry).andThen fun bs t => .bytes (first ++ bs) .vle t
  else match s.lookup (bit s.msr 26) a with
    | none => .raised (s.instrTlbError a true)
    | some m2 =>
      let t := s.usedMapping m2
      if !m2.mayExecute s.userMode then .raised (t.instrStorage 0 (m2.real a))
      else if !m.multi && !m2.multi && (!m2.entry.vle || m2.entry.e) then .raised (t.instrStorage (oneBit 14) (m2.real a))
      else (t.fetchBytes a (m2.real a) 2 m2.entry).andThen fun bs u => .bytes (first ++ bs) .vle u

/-- The instruction fetch of R411. A fetch that hits more than one TLB entry raises no exception
(spec/11_state_mmu_cache.md R206): at an odd half word it reads the aligned word of its free address. -/
def State.fetch (s : State) : Fetched :=
  match s.lookup (bit s.msr 26) s.pc with
  | none => .raised (s.instrTlbError s.pc false)
  | some m =>
    let t := { s.usedMapping m with cur.vle := m.entry.vle }
    let real := m.real s.pc
    if !m.mayExecute s.userMode then .raised (t.instrStorage 0 real)
    else if !m.entry.vle then
      if bit s.pc 30 && !m.multi then .raised (t.instrStorage (oneBit 30) real)
      else
        let a := if m.multi then clearLow s.pc 2 else s.pc
        (t.fetchBytes a (m.real a) 4 m.entry).andThen fun bs u => .bytes (inOrder m.entry.e bs) .bookE u
    else if m.entry.e && !m.multi then .raised (t.instrStorage (oneBit 14) real)
    else (t.fetchBytes s.pc real 2 m.entry).andThen fun bs u =>
      if isLongVle (ofBytes bs |>.setWidth 16) then u.fetchSecond m bs else .bytes bs .vle u

/-- The exception of a word that is no instruction (spec/30_encoding.md R560 to R575, spec/45_efpu_scalar.md R1190). -/
def State.reject (s : State) (r : Reject) : Host.Outcome State Fault Refusal :=
  match r with
  | .illegal => .next s.illegal
  | .unimplemented => .next (s.unimplemented false)
  | .floatingPoint => .next (if bit s.msr 18 then s.unimplemented true else s.fpUnavailable)
  | .doublePrecision => .next (if s.speOn then s.unimplemented false else s.speUnavailable)
  | .vleOutside => .refused .vleOutsideSpecification
  | .truncated => .refused .vleOutsideSpecification

/-- The instruction address compare hits of the instruction at pc; for a fetch that misses in the TLB a Book E page is
assumed (spec/61_debug.md R2210). -/
def State.withIacHits (s : State) : State :=
  let vle := match s.lookup (bit s.msr 26) s.pc with
    | none => false
    | some m => m.entry.vle
  { s with cur.vle := vle, cur.iacHits := iacHits s.dbg s.msr s.pc vle }

/-- The events recorded after an instruction: data address compares and instruction complete. `before` is the state the
instruction ran in (spec/61_debug.md R2211, R2212). DBCR0[ICMP] and DBCR0[IDM] count as they were before it, so an mtspr to
DBCR0 that clears one of them while MSR[DE] = 1 still records ICMP; R2212 fixes which MSR[DE] counts and names only
instructions that set the bits. An instruction that itself clears MSR[DE] (mtmsr, or a return that loads DE = 0) records ICMP
without IDE, and the interrupt waits until MSR[DE] is 1 again, as R2205 has it: R2212 says that the interrupt is taken after the
instruction, and does not name the case (DESIGN CHOICE, both, assumption log entry 42, unsafe). -/
def State.postEvents (s before : State) : State :=
  let d := before.dbg
  let done := s.cur.executed && !s.cur.suppressed
  let dac := if done then dacEventsAll d before.msr s.cur.iacHits s.cur.accesses else 0
  let icmp := when (done && bit before.msr 22 && bit d.dbcr0 4) (oneBit 4)
  let ide := when (dac != 0 && !bit before.msr 22) (oneBit 0) ||| when (icmp != 0 && s.cur.efpRound) (oneBit 0)
  if bit d.dbcr0 1 && (dac ||| icmp) != 0 then
    { s with dbg.dbsr := s.dbg.dbsr ||| dac ||| icmp ||| ide ||| when s.cur.vle (oneBit 27) }
  else s

/-- The end of a step: events after the instruction, the counters, the bus requests, the watchpoints. `before` is the state
the instruction ran in. -/
def State.finish (s before : State) : State :=
  let t := (s.postEvents before).countEvents before.dbg (bit before.msr 22) (instructionEvents before.dbg before.msr s.cur)
  { t with outputs := t.outputs ++ t.cur.signals ++ t.watchpoints before.dbg before.msr }

/-- The end of a step, for an outcome. -/
def finishOutcome (before : State) (o : Host.Outcome State Fault Refusal) : Host.Outcome State Fault Refusal :=
  match o with
  | .next s => .next (s.finish before)
  | .fault f => .fault f
  | .refused r => .refused r

/-- The beginning of a step: the record of the current instruction and the outputs cleared, inputs left from the last
step and host events delivered, pin levels applied. -/
def State.begin (s : State) : State := { s with cur := Current.idle, outputs := [] }.settle.deliver.pinLevels

end Sys2Proof.Machine
end

