-- ==== Sys2Proof/Machine/Step.lean ====
section
/-! DEFINITION. One step of the machine (spec/10_state.md R52, spec/60_exceptions.md R2061, spec/61_debug.md R2210,
spec/62_timers_power_platform.md R2170), and where the host puts an instruction it wants to run. -/

namespace Sys2Proof.Machine

/-- Run the instruction that the bytes at pc stand for, or take the exception of bytes that are no instruction. -/
noncomputable def State.execute (s : State) (page : Page) (bs : List Byte) : Host.Outcome State Fault Refusal :=
  match decodeBytes page bs with
  | .ok r => exec r.1 s
  | .error r => s.reject r

/-- The instruction at pc, its instruction address compares already noted: the debug interrupt they cause, or the exception
its fetch raises, or its execution (spec/60_exceptions.md R2061, spec/20_memory.md R411). `before` is the state the step
began in. -/
noncomputable def State.attempt (s before : State) : Host.Outcome State Fault Refusal :=
  let events := iacEvents s.dbg s.cur.iacHits
  let t := s.record events true
  if events != 0 && s.idm && s.de then .next ((t.takeDebug s.pc).suppress.finish before)
  else match t.fetch with
    | .raised u => .next (u.suppress.finish before)
    | .stop f => .fault f
    | .bytes bs page u => finishOutcome before ({ u with firstFetch := false, cur.executed := true }.execute page bs)

/-- One step after the host events of its boundary: nothing in the halted, stopped or debug state, or in the waiting state
without m_clk, since no interrupt is sampled then (R2170); else an asynchronous interrupt; else nothing in the waiting state;
else one instruction. The first fetch of a handler is attempted only here, so an asynchronous interrupt that is pending at its
boundary, or an instruction address compare at the vector, comes before a fault of that fetch, and after the return the fetch
is an ordinary one; spec/60_exceptions.md R2050 and R2061 allow it without saying so (DESIGN CHOICE, assumption log entry 18,
unsafe). -/
noncomputable def State.proceed (s : State) : Host.Outcome State Fault Refusal :=
  if s.suspended || !s.clocked then .next s
  else match s.pending with
    | some p => .next ((s.takePending p).finish s)
    | none =>
      if s.waiting then .next s
      else if s.debugReserved then .refused .reservedDebugConfiguration
      else s.withIacHits.attempt s

/-- One step of the machine. -/
noncomputable def step (s : State) : Host.Outcome State Fault Refusal := s.begin.proceed

/-! ## Placing an instruction -/

/-- The instruction of nbits bits is placed in a VLE page: a half word, or a word that only a VLE page decodes. -/
noncomputable def placedInVle (nbits w : Nat) : Bool :=
  if nbits = 16 then true
  else
    match decodeBytes .bookE (wordBytes (BitVec.ofNat 32 w)) with
    | .ok _ => false
    | .error _ =>
      match decodeBytes .vle (wordBytes (BitVec.ofNat 32 w)) with
      | .ok _ => true
      | .error _ => false

/-- The four bytes placed at ascending addresses: a half word is followed by zeros. -/
def placedBytes (nbits w : Nat) : List Byte :=
  if nbits = 16 then halfBytes (BitVec.ofNat 16 w) ++ [0, 0] else wordBytes (BitVec.ofNat 32 w)

/-- The state with the instruction stored where the next step fetches it: its bytes at the real address of pc, and the VLE
attribute of the page that maps pc as the instruction needs it (a VLE page is big-endian, spec/20_memory.md R411). It stands
for a program loaded from outside (assumption log entry 14). -/
noncomputable def State.withFetchWord (s : State) (nbits w : Nat) : State :=
  match s.mmu.tlb.toList.findIdx? (fun e => e.hit (bit s.msr 26) (bits 24 8 s.soft.pid0) s.pins s.pc) with
  | none => s
  | some k =>
    let e := s.mmu.tlb.toList.getD k zeroTlbEntry
    let vle := placedInVle nbits w
    let e' := if vle then { e with vle := true, e := false } else { e with vle := false }
    let real := ({ entry := e', flip := 0, multi := false } : Mapping).real s.pc
    let bytes := inOrder e'.e (placedBytes nbits w)
    { s with
      mmu.tlb := s.mmu.tlb.setIfInBounds k e'
      mem := s.mem.writeAll (bytes.mapIdx fun j b => (real + BitVec.ofNat 32 j, b)) }

end Sys2Proof.Machine
end

