-- ==== Sys2Proof/Safety.lean ====
section
/-! DEFINITION. The terms in which claims are stated: the states the machine can be in, the accesses that complete, and what
an instruction leaves alone. -/

namespace Sys2Proof.Machine

/-! ## States -/

/-- The XER bits with storage: SO, OV, CA and the byte count (spec/10_state.md R56). -/
def xerMask : Word := 0xE000007F

/-- The state is one the machine can hold: memory is in its canonical form (spec/20_memory.md R400), the program counter is
even (spec/10_state.md R53), and the bits of MSR and XER without storage are 0 (R70, R56). -/
structure State.Legal (s : State) : Prop where
  /-- Memory lists addresses in rising order and no byte that an unlisted address reads as. -/
  memory : s.mem.wf = true
  /-- The program counter has its low bit 0. -/
  evenPc : bit s.pc 31 = false
  /-- Only implemented MSR bits are 1. -/
  msrBits : s.msr &&& ~~~msrMask = 0
  /-- Only implemented XER bits are 1. -/
  xerBits : s.xer &&& ~~~xerMask = 0

/-- While m_clk runs, the levels p_nmi_b and p_mcp_b were last sampled at are those they have: no edge of the two inputs is
still to be seen (spec/62_timers_power_platform.md R2160; that jd_mclk_on says whether the clock runs, and that the levels at
reset count as seen, is assumption log entry 43). -/
def State.SamplesPins (s : State) : Prop := s.clocked = true → s.sampled = { nmi := s.pins.nmi, mcp := s.pins.mcp }

/-- Nothing but the instruction at pc can happen in the next step, whose boundary leaves the machine in state b: no
suspension, no pending interrupt, not waiting, no reserved debug code in use (spec/60_exceptions.md R2061). -/
structure State.Ready (s b : State) : Prop where
  boundary : s.begin = b
  running : b.suspended = false
  noInterrupt : b.pending = none
  awake : b.waiting = false
  debugCodes : b.debugReserved = false

/-! ## Outcomes -/

/-- The instruction runs and leaves a state of which P holds. -/
def Runs (i : Instr) (s : State) (P : State → Prop) : Prop := ∃ t, exec i s = .next t ∧ P t

/-! ## Data accesses that complete -/

/-- The n bytes at ea are mapped, each page by a single TLB entry: mapping m holds the first byte; m2 the bytes beyond m's
page, which has the same byte order, and is m when there are none (spec/20_memory.md R410, R418, R419, R430). -/
structure State.MapsData (s : State) (ea : Word) (n : Nat) (m m2 : Mapping) : Prop where
  first : s.lookup (bit s.msr 27) ea = some m
  single : m.multi = false
  within : m.samePage ea (ea + BitVec.ofNat 32 (n - 1)) = true → m2 = m
  second : m.samePage ea (ea + BitVec.ofNat 32 (n - 1)) = false → s.lookup (bit s.msr 27) (m.nextPage ea) = some m2
  single2 : m2.multi = false
  sameOrder : m2.entry.e = m.entry.e

/-- A load of the n bytes at ea completes: mapped, permitted in the current mode, and no bus error (R410, R412, R432). -/
structure State.CanLoad (s : State) (ea : Word) (n : Nat) (m m2 : Mapping) : Prop where
  maps : s.MapsData ea n m m2
  permitted : m.mayRead s.userMode = true ∧ m2.mayRead s.userMode = true
  noError : s.busError .load (realAddresses m m2 ea n) = false

/-- A store of the n bytes at ea completes. -/
structure State.CanStore (s : State) (ea : Word) (n : Nat) (m m2 : Mapping) : Prop where
  maps : s.MapsData ea n m m2
  permitted : m.mayWrite s.userMode = true ∧ m2.mayWrite s.userMode = true
  noError : s.busError .store (realAddresses m m2 ea n) = false

/-- The n bytes of memory behind the effective addresses from ea. -/
def State.bytesAt (s : State) (m m2 : Mapping) (ea : Word) (n : Nat) : List Byte :=
  (realAddresses m m2 ea n).map s.byteAt

/-- The n-byte scalar at ea in the byte order of its page (spec/20_memory.md R405). -/
def State.scalarAt (s : State) (m m2 : Mapping) (ea : Word) (n : Nat) : Dword :=
  ofBytes (inOrder m.entry.e (s.bytesAt m m2 ea n))

/-! ## What an instruction leaves alone -/

/-- Every general register but those listed keeps all its 64 bits. -/
def State.KeepsRegisters (s t : State) (changed : List Reg) : Prop := ∀ r, r ∉ changed → t.r64 r = s.r64 r

/-- Every general register keeps its upper half (spec/10_state.md R51). -/
def State.KeepsUpper (s t : State) : Prop := ∀ r, hi (t.r64 r) = hi (s.r64 r)

/-- Apart from general registers, pc, CR and XER nothing changes: no other register, no byte of memory, no mode. -/
def State.OnlyCore (s t : State) : Prop := t = { s with gpr := t.gpr, pc := t.pc, cr := t.cr, xer := t.xer }

/-- The signature unit keeps its registers while it is off for loads (bit 29 of PSCR) or stores (bit 30)
(spec/62_timers_power_platform.md R2190). -/
def State.KeepsSignature (s t : State) (enable : Nat) : Prop := bit s.psu.pscr enable = false → t.psu = s.psu

/-- What a completed load may touch: general registers, pc, the signature unit, and what the step remembers of its accesses.
No byte of memory changes. -/
def State.OnlyLoad (s t : State) : Prop :=
  t = { s with gpr := t.gpr, pc := t.pc, psu := t.psu, cur := t.cur } ∧ s.KeepsSignature t 29

/-- What a completed store may touch beside memory. -/
def State.OnlyStore (s t : State) : Prop :=
  t = { s with gpr := t.gpr, pc := t.pc, mem := t.mem, psu := t.psu, cur := t.cur } ∧ s.KeepsSignature t 30

/-- Memory after bytes were stored at the real addresses listed, in this order: an address reads as the last byte stored to it
if the platform holds a byte store there; every other byte reads as before (spec/20_memory.md R410, R480). That a store to a
read-only or device region changes nothing is the model's choice (DESIGN CHOICE, assumption log entry 38). -/
def State.Stores (s t : State) (addresses : List Word) (bytes : List Byte) : Prop :=
  (∀ a, a ∉ addresses ∨ s.holds a = false → t.byteAt a = s.byteAt a) ∧
  ∀ k, k < addresses.length → s.holds (addresses.getD k 0) = true → addresses.getD k 0 ∉ addresses.drop (k + 1) →
    t.byteAt (addresses.getD k 0) = bytes.getD k 0

end Sys2Proof.Machine
end

