-- ==== Sys2Proof/Claims/Results.lean ====
section
/-! DEFINITION. What claims say of a state after an instruction: each result with everything the instruction leaves alone.
Values are written over integers and natural numbers where the meanings use bit vectors. -/

namespace Sys2Proof.Machine

/-! ## Integer results -/

/-- A signed integer as a word, modulo 2^32. -/
def wordOf (z : Int) : Word := BitVec.ofInt 32 z

/-- A CR field from the sign of an integer and a summary overflow bit: LT, GT, EQ, SO (spec/10_state.md R55). -/
def fieldOfSign (z : Int) (so : Bool) : BitVec 4 := crBits (decide (z < 0)) (decide (0 < z)) (decide (z = 0)) so

/-- An integer instruction of form f has written v to the low half of rt, with carry ca and overflow ov where the form writes
them; everything else is as before (spec/40_integer.md R600 to R603, spec/10_state.md R51). -/
structure State.IntegerResult (s t : State) (f : Form) (rt : Reg) (v : Word) (ca ov : Bool) : Prop where
  result : t.r rt = v
  upper : s.KeepsUpper t
  others : s.KeepsRegisters t [rt]
  carry : bit t.xer 2 = if f.ca then ca else bit s.xer 2
  overflow : bit t.xer 1 = if f.ov then ov else bit s.xer 1
  summary : bit t.xer 0 = (bit s.xer 0 || (f.ov && ov))
  count : ∀ k, 3 ≤ k → k < 32 → bit t.xer k = bit s.xer k
  record : t.crField 0 = if f.rc then fieldOfSign v.toInt (bit t.xer 0) else s.crField 0
  fields : ∀ k : CrField, k ≠ 0 → t.crField k = s.crField k
  next : t.pc = s.pc + 4
  frame : s.OnlyCore t

/-- The sum of two words and a carry of form f: modulo 2^32, carry out of bit 0, and overflow when both addends have the same
sign and the sum the other (R602 to R604). -/
def State.SumResult (s t : State) (f : Form) (rt : Reg) (a b : Word) (c : Bool) : Prop :=
  let v := BitVec.ofNat 32 (a.toNat + b.toNat + c.toNat)
  s.IntegerResult t f rt v (decide (2 ^ 32 ≤ a.toNat + b.toNat + c.toNat)) (a.msb == b.msb && v.msb != a.msb)

/-- A result with no carry and no overflow; rc says whether CR0 is recorded. -/
def State.PlainResult (s t : State) (rc : Bool) (rt : Reg) (v : Word) : Prop :=
  s.IntegerResult t ⟨false, false, rc⟩ rt v false false

/-- A result whose bit i is given by f. -/
def State.BitsResult (s t : State) (rc : Bool) (rt : Reg) (f : Nat → Bool) : Prop :=
  s.PlainResult t rc rt (t.r rt) ∧ ∀ i, i < 32 → bit (t.r rt) i = f i

/-- The low word of a signed product; ov says that the product does not fit in a word (R602, R630). -/
def State.ProductResult (s t : State) (f : Form) (rt : Reg) (a b : Word) : Prop :=
  s.IntegerResult t f rt (wordOf (a.toInt * b.toInt)) false
    (decide (a.toInt * b.toInt < -2147483648 ∨ 2147483647 < a.toInt * b.toInt))

/-- A division whose quotient the spec leaves undefined: any value in rt, any LT, GT, EQ when recording; all else is fixed
(R634, R635). -/
structure State.UndefinedQuotient (s t : State) (f : Form) (rt : Reg) : Prop where
  upper : s.KeepsUpper t
  others : s.KeepsRegisters t [rt]
  overflow : bit t.xer 1 = if f.ov then true else bit s.xer 1
  summary : bit t.xer 0 = (bit s.xer 0 || f.ov)
  carryAndCount : ∀ k, 2 ≤ k → k < 32 → bit t.xer k = bit s.xer k
  record : f.rc = true → bit t.cr 3 = bit t.xer 0
  noRecord : f.rc = false → t.cr = s.cr
  fields : ∀ k : CrField, k ≠ 0 → t.crField k = s.crField k
  next : t.pc = s.pc + 4
  frame : t = { s with gpr := t.gpr, pc := t.pc, cr := t.cr, xer := t.xer, freeCtr := t.freeCtr }

/-- Bit i belongs to MASK(mb, me) (spec/40_integer.md R659). -/
def inMask (mb me : BitVec 5) (i : Nat) : Bool :=
  if mb.toNat ≤ me.toNat then decide (mb.toNat ≤ i) && decide (i ≤ me.toNat) else decide (mb.toNat ≤ i) || decide (i ≤ me.toNat)

/-- Bit i of a word rotated left by n. -/
def rotatedBit (w : Word) (n i : Nat) : Bool := bit w ((i + n) % 32)

/-- A shift right algebraic by n: the floor of the quotient by 2^n, and CA when a negative number loses a one (R665, R666). -/
def State.AlgebraicResult (s t : State) (rc : Bool) (ra : Reg) (v : Word) (n : Nat) : Prop :=
  s.IntegerResult t ⟨true, false, rc⟩ ra (wordOf (v.toInt / 2 ^ n)) (decide (v.toInt < 0 ∧ v.toInt % 2 ^ n ≠ 0)) false

/-- The trap condition of tw and twi holds; TO[0] is the most significant bit (R680). -/
def Traps (tcond : BitVec 5) (a b : Word) : Prop :=
  (tcond.getMsbD 0 = true ∧ a.toInt < b.toInt) ∨ (tcond.getMsbD 1 = true ∧ b.toInt < a.toInt) ∨
  (tcond.getMsbD 2 = true ∧ a = b) ∨ (tcond.getMsbD 3 = true ∧ a.toNat < b.toNat) ∨
  (tcond.getMsbD 4 = true ∧ b.toNat < a.toNat)

/-! ## Condition register results -/

/-- Only CR field f is written, with v; pc moves past the instruction. -/
def State.FieldResult (s t : State) (f : CrField) (v : BitVec 4) : Prop :=
  t.crField f = v ∧ (∀ k : CrField, k ≠ f → t.crField k = s.crField k) ∧ t = { s with cr := t.cr, pc := s.pc + 4 }

/-- Only pc moves, and the instruction shows on the bus (spec/62_timers_power_platform.md R2185). -/
def State.Signalled (s t : State) : Prop := t = { s with cur.signals := t.cur.signals, pc := s.pc + 4 }

/-- Only CR bit b is written, with v. -/
def State.BitResult (s t : State) (b : CrBit) (v : Bool) : Prop :=
  t.crBit b = v ∧ (∀ k : CrBit, k ≠ b → t.crBit k = s.crBit k) ∧ t = { s with cr := t.cr, pc := s.pc + 4 }

/-! ## Branches -/

/-- Whether a conditional branch is taken: steps (1) to (4) of spec/41_branch_cr.md R700, read as its table does. -/
def Taken (s : State) (bo : BitVec 5) (bi : CrBit) : Prop :=
  (bo.getMsbD 2 = true ∨ (s.ctr - 1 = 0 ↔ bo.getMsbD 3 = true)) ∧ (bo.getMsbD 0 = true ∨ s.crBit bi = bo.getMsbD 1)

/-- A branch: pc, LR and CTR are all that may change. -/
structure State.BranchResult (s t : State) (taken : Prop) (link : Bool) (ctr target : Word) : Prop where
  goes : taken → t.pc = target
  falls : ¬taken → t.pc = s.pc + 4
  link : t.lr = if link then s.pc + 4 else s.lr
  count : t.ctr = ctr
  frame : t = { s with pc := t.pc, lr := t.lr, ctr := t.ctr }

/-- CTR after a conditional branch: decremented when BO[2] = 0 (R700). -/
def countAfter (bo : BitVec 5) (ctr : Word) : Word := if bo.getMsbD 2 then ctr else wordOf ((ctr.toNat : Int) - 1)

/-- A register target: only bit 31 is dropped (spec/41_branch_cr.md R701). -/
def registerTarget (w : Word) : Word := bits 0 31 w ++ 0#1

/-! ## Interrupts -/

/-- What an interrupt taken by an instruction leaves of the program's registers and memory: all of it. -/
def State.KeepsProgram (s t : State) : Prop :=
  t.gpr = s.gpr ∧ t.cr = s.cr ∧ t.xer = s.xer ∧ t.lr = s.lr ∧ t.ctr = s.ctr ∧ t.acc = s.acc ∧ t.spefscr = s.spefscr ∧
  t.mem = s.mem ∧ t.reserve = s.reserve

/-- The non-critical interrupt of IVOR index n was taken with the save address given, ESR as given and DEAR as given
(spec/60_exceptions.md R2005, R2008, R2009). A TLB error (IVOR13, IVOR14) loads MAS registers too (spec/20_memory.md R440). Beside
them only DBSR, and the model's own record of the step and its free-value counter, may change. -/
structure State.Interrupted (s t : State) (n : Nat) (address esr dear : Word) : Prop where
  saved : t.int = { s.int with srr0 := address, srr1 := s.msr, esr := esr, dear := dear }
  mode : t.msr = s.msr &&& 0x00021202
  vector : t.pc = bits 0 16 s.int.ivpr ++ bits 16 12 (s.ivorAt n) ++ 0#4
  awake : t.waiting = false
  program : s.KeepsProgram t
  translation : t.mmu = if n = 13 ∨ n = 14
    then { s.mmu with
      mas0 := t.mmu.mas0, mas1 := t.mmu.mas1, mas2 := t.mmu.mas2, mas3 := t.mmu.mas3, mas6 := t.mmu.mas6 }
    else s.mmu
  frame : t = { s with
    pc := t.pc, msr := t.msr, int := t.int, waiting := t.waiting, firstFetch := t.firstFetch, cur := t.cur, mmu := t.mmu,
    dbg := { s.dbg with dbsr := t.dbg.dbsr }, freeCtr := t.freeCtr }

/-! ## Words that are no instruction -/

/-- lswx, lswi, stswx, stswi, mfdcrx, mtdcrx and mfapidi, by primary and extended opcode (spec/30_encoding.md R565 (a)). -/
def UnimplementedWord (w : Word) : Prop :=
  w.toNat / 2 ^ 26 = 31 ∧ w.toNat / 2 % 1024 ∈ [533, 597, 661, 725, 259, 387, 275]

/-- A floating-point instruction of the Power ISA (spec/30_encoding.md R565 (b)). -/
def FloatingPointWord (w : Word) : Prop :=
  w.toNat / 2 ^ 26 ∈ [48, 49, 50, 51, 52, 53, 54, 55, 59, 63] ∨
    (w.toNat / 2 ^ 26 = 31 ∧ w.toNat / 2 % 1024 ∈ [535, 567, 599, 631, 663, 695, 727, 759, 983])

/-- The reserved double-precision space: primary opcode 4 with bits 21:28 = 0101 0111 or 0101 11xx, and efscfd
(spec/45_efpu_scalar.md R1190). -/
def DoublePrecisionWord (w : Word) : Prop :=
  w.toNat / 2 ^ 26 = 4 ∧ (w.toNat / 8 % 256 = 0x57 ∨ w.toNat / 32 % 64 = 0x17 ∨ w.toNat % 2048 = 0x2CF)

/-! ## Translation -/

/-- The page of an entry holds an effective address: EPN and the address agree above the 10 + SIZE low-order bits
(spec/11_state_mmu_cache.md R202). No page has a SIZE above 22 (assumption log entry 8). -/
abbrev TlbEntry.Holds (e : TlbEntry) (ea : Word) : Prop :=
  e.size.toNat ≤ 22 ∧ ea.toNat / 2 ^ (10 + e.size.toNat) = e.epn.toNat / 2 ^ e.size.toNat

/-- An entry serves a process: TID is 0 or the process id; while p_extpid_en is asserted, a TID of the form 0b1111xxxx has its two
low-order bits compared with p_extpid, and 11 with nothing (spec/11_state_mmu_cache.md R203, R204). -/
def TlbEntry.Serves (e : TlbEntry) (pid : BitVec 8) (p : Pins) : Prop :=
  e.tid = 0 ∨
    if p.extpidEn = true ∧ e.tid.toNat / 16 = 15 then
      e.tid.toNat / 4 = pid.toNat / 4 ∧ (e.tid.toNat % 4 = 3 ∨ e.tid.toNat % 4 = p.extpid.toNat)
    else e.tid = pid

/-- An entry matches an effective address in an address space for a process (spec/20_memory.md R430). -/
def TlbEntry.Maps (e : TlbEntry) (as : Bool) (pid : BitVec 8) (p : Pins) (ea : Word) : Prop :=
  e.v = true ∧ e.ts = as ∧ e.Serves pid p ∧ e.Holds ea

/-- A mapping is that of one entry: its real addresses are RPN above the page offset, its page has 2^(10 + SIZE) bytes, and it
gives the entry's permissions (R202, spec/20_memory.md R430, R432). -/
structure Mapping.Through (m : Mapping) (e : TlbEntry) : Prop where
  entry : m.entry = e
  single : m.multi = false
  real : ∀ a : Word, (m.real a).toNat =
    e.rpn.toNat / 2 ^ e.size.toNat * 2 ^ (10 + e.size.toNat) + a.toNat % 2 ^ (10 + e.size.toNat)
  page : ∀ a b : Word, m.samePage a b = true ↔
    a.toNat / 2 ^ (10 + e.size.toNat) = b.toNat / 2 ^ (10 + e.size.toNat)
  next : ∀ a : Word, (m.nextPage a).toNat =
    (a.toNat / 2 ^ (10 + e.size.toNat) + 1) * 2 ^ (10 + e.size.toNat) % 2 ^ 32
  read : ∀ user, m.mayRead user = if user then e.ur else e.sr
  write : ∀ user, m.mayWrite user = if user then e.uw else e.sw
  execute : ∀ user, m.mayExecute user = if user then e.ux else e.sx

/-- Translation of an address of the current process: by the one entry that matches, or a miss if none does. More than one give a
free address and free attributes (spec/11_state_mmu_cache.md R206, assumption log entry 24), of which nothing is said here. -/
structure State.Translates (s : State) (as : Bool) (ea : Word) : Prop where
  none : (∀ k, ¬(s.mmu.entry k).Maps as (bits 24 8 s.soft.pid0) s.pins ea) → s.lookup as ea = none
  one : ∀ k, (s.mmu.entry k).Maps as (bits 24 8 s.soft.pid0) s.pins ea →
    (∀ j, j ≠ k → ¬(s.mmu.entry j).Maps as (bits 24 8 s.soft.pid0) s.pins ea) →
    ∃ m, s.lookup as ea = some m ∧ m.Through (s.mmu.entry k)
  many : ∀ j k, j ≠ k → (s.mmu.entry j).Maps as (bits 24 8 s.soft.pid0) s.pins ea →
    (s.mmu.entry k).Maps as (bits 24 8 s.soft.pid0) s.pins ea → ∃ m, s.lookup as ea = some m ∧ m.multi = true

/-- What a TLB miss of effective address ea in address space `as` loads into the MAS registers; nothing else of the unit changes
(spec/20_memory.md R440). -/
structure State.MissLoaded (s t : State) (as : Bool) (ea : Word) : Prop where
  select : bits 2 2 t.mmu.mas0 = bits 2 2 s.mmu.mas4 ∧ bits 12 4 t.mmu.mas0 = bits 28 4 s.mmu.mas0 ∧
    ∀ k, k < 32 → k ∉ [2, 3, 12, 13, 14, 15] → bit t.mmu.mas0 k = bit s.mmu.mas0 k
  valid : bit t.mmu.mas1 0 = true ∧ bit t.mmu.mas1 1 = false
  space : bit t.mmu.mas1 19 = as
  size : bits 20 5 t.mmu.mas1 = bits 20 5 s.mmu.mas4
  process : (bits 14 2 s.mmu.mas4 = 0 → bits 8 8 t.mmu.mas1 = bits 24 8 s.soft.pid0) ∧
    (bits 14 2 s.mmu.mas4 = 3 → bits 8 8 t.mmu.mas1 = 0)
  page : bits 0 22 t.mmu.mas2 = bits 0 22 ea ∧ bits 22 4 t.mmu.mas2 = 0 ∧ bits 26 6 t.mmu.mas2 = bits 26 6 s.mmu.mas4
  real : t.mmu.mas3 = 0
  search : t.mmu.mas6 = 0#8 ++ bits 24 8 s.soft.pid0 ++ 0#15 ++ BitVec.ofBool as
  reserved : bits 2 6 t.mmu.mas1 = 0 ∧ bits 16 3 t.mmu.mas1 = 0 ∧ bits 25 7 t.mmu.mas1 = 0
  rest : t.mmu = { s.mmu with
    mas0 := t.mmu.mas0, mas1 := t.mmu.mas1, mas2 := t.mmu.mas2, mas3 := t.mmu.mas3, mas6 := t.mmu.mas6 }

/-- The debug interrupt was taken instead of the instruction, for the DBSR event at the bit given: the pair of the debug
class, or of the critical class while HID0[DAPUEN] = 0 (spec/60_exceptions.md R2001, R2035). -/
structure State.DebugTaken (s t : State) (event : Nat) : Prop where
  saved : t.int =
    if bit s.hid.hid0 23 then { s.int with dsrr0 := s.pc, dsrr1 := s.msr } else { s.int with csrr0 := s.pc, csrr1 := s.msr }
  recorded : bit t.dbg.dbsr event = true
  supervisor : bit t.msr 17 = false
  disabled : bit t.msr 22 = false
  vector : t.pc = bits 0 16 s.int.ivpr ++ bits 16 12 (s.ivorAt 15) ++ 0#4
  program : s.KeepsProgram t

/-- MSR bit k survives the entry of an interrupt of class c: the table of spec/60_exceptions.md R2009. -/
def keepsMsrBit (hid0 : Word) (c : IntClass) (k : Nat) : Bool :=
  let held (control : Nat) : Bool := bit hid0 23 && !bit hid0 control
  match c with
  | .nonCritical => k == 14 || k == 19 || k == 22 || k == 30
  | .critical => k == 19 || k == 30 || (k == 22 && held 21)
  | .debug => k == 19 || k == 30 || (k == 14 && held 20) || (k == 16 && held 19)
  | .machineCheck => k == 22 && held 22

/-- A return from interrupt with the pair (x0, x1) (spec/43_system.md R854). -/
structure State.Returned (s t : State) (x0 x1 : Word) : Prop where
  mode : t.msr = x1 &&& 0x0606FB32
  target : t.pc = registerTarget x0
  program : s.KeepsProgram t
  pairs : t.int = s.int
  control : t.soft = s.soft ∧ t.tim = s.tim ∧ t.hid = s.hid ∧ t.mmu = s.mmu ∧ t.ic = s.ic
  events : s.idm = false → t.dbg = s.dbg

/-! ## Loads and stores -/

/-- A load has written v to rt, after an update form wrote the address to its base register. -/
structure State.Loaded (s t : State) (rt : Reg) (update : Option Reg) (ea v : Word) : Prop where
  result : t.r rt = v
  updated : ∀ ra, update = some ra → ra ≠ rt → t.r ra = ea
  upper : s.KeepsUpper t
  others : s.KeepsRegisters t (rt :: update.toList)
  next : t.pc = s.pc + 4
  frame : s.OnlyLoad t

/-- The load at ea completes whenever its n bytes can be loaded, with the value f makes of the scalar and its bytes. -/
def LoadsInto (i : Instr) (s : State) (n : Nat) (rt : Reg) (update : Option Reg) (ea : Word)
    (f : Bool → List Byte → Word) : Prop :=
  ∀ m m2, s.CanLoad ea n m m2 → Runs i s fun t => s.Loaded t rt update ea (f m.entry.e (s.bytesAt m m2 ea n))

/-- The number of bytes in a byte order, zero-extended. -/
def zeroExtended (e : Bool) (bs : List Byte) : Word := lo (ofBytes (inOrder e bs))

/-- A half word in a byte order, sign-extended. -/
def signExtended (e : Bool) (bs : List Byte) : Word := wordOf ((ofBytes (inOrder e bs)).setWidth 16).toInt

/-- The number the bytes stand for in the opposite byte order. -/
def reversed (e : Bool) (bs : List Byte) : Word := zeroExtended (!e) bs

/-- A store has written bytes at the real addresses given; an update form has written the address to its base register. -/
structure State.Stored (s t : State) (update : Option Reg) (ea : Word) (addresses : List Word) (bytes : List Byte) : Prop where
  stores : s.Stores t addresses bytes
  updated : ∀ ra, update = some ra → t.r ra = ea
  upper : s.KeepsUpper t
  others : s.KeepsRegisters t update.toList
  next : t.pc = s.pc + 4
  frame : s.OnlyStore t

/-- The store at ea completes whenever its bytes can be stored: `image e` at ascending addresses in a page of order e. -/
def StoresFrom (i : Instr) (s : State) (n : Nat) (update : Option Reg) (ea : Word) (image : Bool → List Byte) : Prop :=
  ∀ m m2, s.CanStore ea n m m2 →
    Runs i s fun t => s.Stored t update ea (realAddresses m m2 ea n) (image m.entry.e)

/-- Byte k of a word, byte 0 the most significant. -/
def wordByte (w : Word) (k : Nat) : Byte := bits (8 * k) 8 w

/-- The last n bytes of a word as ascending addresses receive them. -/
def lowBytes (n : Nat) (w : Word) (e : Bool) : List Byte := inOrder e ((List.range n).map fun k => wordByte w (4 - n + k))

/-- The words at ea and after it, one for each item, each in a page of its own mapping. -/
def State.CanLoadWords (s : State) (ea : Word) (n : Nat) (m : Nat → Mapping) : Prop :=
  ∀ k, k < n → s.CanLoad (ea + BitVec.ofNat 32 (4 * k)) 4 (m k) (m k)

/-- The same for stores. -/
def State.CanStoreWords (s : State) (ea : Word) (n : Nat) (m : Nat → Mapping) : Prop :=
  ∀ k, k < n → s.CanStore (ea + BitVec.ofNat 32 (4 * k)) 4 (m k) (m k)

/-- Word k at ea. -/
def State.wordAt (s : State) (m : Nat → Mapping) (ea : Word) (k : Nat) : Word :=
  zeroExtended (m k).entry.e (s.bytesAt (m k) (m k) (ea + BitVec.ofNat 32 (4 * k)) 4)

/-- The real addresses of n words at ea. -/
def wordAddresses (m : Nat → Mapping) (ea : Word) (n : Nat) : List Word :=
  (List.range n).flatMap fun k => realAddresses (m k) (m k) (ea + BitVec.ofNat 32 (4 * k)) 4

/-- The bytes of a list of words as memory receives them. -/
def wordImages (m : Nat → Mapping) (vs : List Word) : List Byte :=
  vs.zipIdx.flatMap fun p => lowBytes 4 p.1 (m p.2).entry.e

/-- The external input is asserted after j of the n transfers of the instruction that runs next, with external interrupts enabled
and nothing else pending; p_nmi_b and p_mcp_b are as last sampled, so that no edge of theirs comes with it
(spec/60_exceptions.md R2011; assumption log entries 6 and 43). -/
def State.InputInside (s : State) (j n : Nat) : Prop :=
  s.midway = [{ after := j, ticks := 0, pins := { s.pins with extint := true } }] ∧ j < n ∧ bit s.msr 16 = true ∧
    s.pending = none ∧ s.SamplesPins

/-- The instruction was abandoned for the external input interrupt, with its own address saved (R2011, R2024). -/
def State.AbandonedFor (s t : State) : Prop :=
  t.int = { s.int with srr0 := s.pc, srr1 := s.msr } ∧ t.msr = s.msr &&& 0x00021202 ∧
    t.pc = (if s.pins.avec then bits 0 16 s.int.ivpr ++ bits 16 12 (s.ivorAt 4) ++ 0#4
      else bits 0 16 s.int.ivpr ++ (s.pins.voffset &&& 0xFFF0)) ∧
    t.midway = []

/-! ## SPE results -/

/-- A 64-bit result in rd and nothing else. -/
structure State.VectorResult (s t : State) (rd : Reg) (v : Dword) : Prop where
  result : t.r64 rd = v
  others : s.KeepsRegisters t [rd]
  frame : t = { s with gpr := t.gpr, pc := s.pc + 4 }

/-- SPEFSCR after SetOV: OV and SOV, OVH and SOVH; no other bit changes (spec/13_state_spe.md R1054). -/
def State.SetsOverflow (s t : State) (h l : Bool) : Prop :=
  bit t.spefscr 1 = h ∧ bit t.spefscr 0 = (bit s.spefscr 0 || h) ∧ bit t.spefscr 17 = l ∧
  bit t.spefscr 16 = (bit s.spefscr 16 || l) ∧
  ∀ k, k < 32 → k ≠ 0 → k ≠ 1 → k ≠ 16 → k ≠ 17 → bit t.spefscr k = bit s.spefscr k

/-- A multiply or accumulate result: rD, ACC when the form writes it, SetOV when it saturates
(spec/48_spe_mac.md R1506, R1507). -/
structure State.MacResult (s t : State) (rd : Reg) (toAcc : Bool) (v : Dword) (ov : Option (Bool × Bool)) : Prop where
  result : t.r64 rd = v
  others : s.KeepsRegisters t [rd]
  accumulator : t.acc = if toAcc then v else s.acc
  saturating : ∀ o, ov = some o → s.SetsOverflow t o.1 o.2
  modulo : ov = none → t.spefscr = s.spefscr
  frame : t = { s with gpr := t.gpr, acc := t.acc, spefscr := t.spefscr, pc := s.pc + 4 }

/-- Two elements from integers, modulo 2^32. -/
def pairOf (h l : Int) : Dword := wordOf h ++ wordOf l

/-- The first n bits of a word, and no more, are b. -/
def LeadingRun (w : Word) (b : Bool) (n : Nat) : Prop :=
  n ≤ 32 ∧ (∀ i, i < n → bit w i = b) ∧ (n < 32 → bit w n = !b)

/-- The value of half word n of a double word, as a signed or an unsigned integer. -/
def sHalf (d : Dword) (n : Nat) : Int := (halfOf d n).toInt
def uHalf (d : Dword) (n : Nat) : Int := (halfOf d n).toNat

/-- The value of the high or low word of a double word. -/
def sHigh (d : Dword) : Int := (hi d).toInt
def sLow (d : Dword) : Int := (lo d).toInt
def uHigh (d : Dword) : Int := (hi d).toNat
def uLow (d : Dword) : Int := (lo d).toNat

/-- An integer brought into an interval, and whether it lay outside. -/
def clamp (low high z : Int) : Int × Bool := if high < z then (high, true) else if z < low then (low, true) else (z, false)

/-- Saturation to a signed word, an unsigned word, a signed double word. -/
def satS32 : Int → Int × Bool := clamp (-2147483648) 2147483647
def satU32 : Int → Int × Bool := clamp 0 4294967295
def satS64 : Int → Int × Bool := clamp (-9223372036854775808) 9223372036854775807

/-- The low 32 bits of an integer, as a signed and as an unsigned integer. -/
def low32S (z : Int) : Int := (wordOf z).toInt
def low32U (z : Int) : Int := (wordOf z).toNat

/-- Two 32-bit results of a saturating form. -/
def State.MacSaturated (s t : State) (rd : Reg) (toAcc : Bool) (h l : Int × Bool) : Prop :=
  s.MacResult t rd toAcc (pairOf h.1 l.1) (some (h.2, l.2))

/-- A saturated sum of a value that may itself have been saturated. -/
def satSum (sat : Int → Int × Bool) (acc : Int) (sign : Int) (p : Int × Bool) : Int × Bool :=
  let r := sat (acc + sign * p.1)
  (r.1, p.2 || r.2)

/-- The high word of a saturating fractional product (spec/48_spe_mac.md R1604). -/
def fracHigh (p : Int) : Int × Bool := if 9223372036854775807 < 2 * p then (2147483647, true) else (2 * p / 4294967296, false)

/-- The element divides: quotient toward zero, and the saturated values (spec/47_spe_simple.md R1390, R1391). -/
def divS (x y : Int) : Int × Bool :=
  if y = 0 then (if x < 0 then -2147483648 else 2147483647, true)
  else if x = -2147483648 ∧ y = -1 then (2147483647, true) else (x.tdiv y, false)
def divU (x y : Int) : Int × Bool := if y = 0 then (4294967295, true) else (x / y, false)

/-- A vector load has written v to rd. -/
structure State.VectorLoaded (s t : State) (rd : Reg) (v : Dword) : Prop where
  result : t.r64 rd = v
  others : s.KeepsRegisters t [rd]
  next : t.pc = s.pc + 4
  frame : s.OnlyLoad t

/-- The vector load of n bytes at ea completes whenever its bytes can be loaded and it is not a double-word form at an address
that is no multiple of 4 (spec/49_spe_loadstore.md R1805). -/
def VectorLoads (i : Instr) (s : State) (strict : Bool) (n : Nat) (rd : Reg) (ea : Word)
    (f : Bool → List Byte → Dword) : Prop :=
  s.speOn = true → (strict = true → ea.toNat % 4 = 0) → ∀ m m2, s.CanLoad ea n m m2 →
    Runs i s fun t => s.VectorLoaded t rd (f m.entry.e (s.bytesAt m m2 ea n))

/-- The vector store of n bytes at ea completes under the same conditions. -/
def VectorStores (i : Instr) (s : State) (strict : Bool) (n : Nat) (ea : Word) (image : Bool → List Byte) : Prop :=
  s.speOn = true → (strict = true → ea.toNat % 4 = 0) → ∀ m m2, s.CanStore ea n m m2 →
    Runs i s fun t => s.Stored t none ea (realAddresses m m2 ea n) (image m.entry.e)

/-- The half word at byte offset k of the bytes read, in byte order e. -/
def halfAt (e : Bool) (bs : List Byte) (k : Nat) : Half :=
  if e then bs.getD (k + 1) 0 ++ bs.getD k 0 else bs.getD k 0 ++ bs.getD (k + 1) 0

/-- The word at byte offset k of the bytes read, in byte order e. -/
def wordOfBytes (e : Bool) (bs : List Byte) (k : Nat) : Word :=
  if e then halfAt e bs (k + 2) ++ halfAt e bs k else halfAt e bs k ++ halfAt e bs (k + 2)

/-- The double word of eight bytes read, in byte order e. -/
def dwordOfBytes (e : Bool) (bs : List Byte) : Dword :=
  if e then wordOfBytes e bs 4 ++ wordOfBytes e bs 0 else wordOfBytes e bs 0 ++ wordOfBytes e bs 4

/-- The bytes of half word n of a double word, in byte order e. -/
def halfImage (e : Bool) (d : Dword) (n : Nat) : List Byte := inOrder e [byteOf d (2 * n), byteOf d (2 * n + 1)]

/-- The bytes of word n of a double word, in byte order e. -/
def wordImage (e : Bool) (d : Dword) (n : Nat) : List Byte :=
  inOrder e [byteOf d (4 * n), byteOf d (4 * n + 1), byteOf d (4 * n + 2), byteOf d (4 * n + 3)]

/-! ## Floating-point results -/

/-- The elements raise no interrupt that SPEFSCR enables: no enabled data exception, and no round exception
(spec/45_efpu_scalar.md R1110, R1115, R1117). -/
def State.NoFpTrap (s : State) (h l : ElementResult) : Prop :=
  ((h.inv || l.inv) && bit s.spefscr 26) = false ∧ ((h.dbz || l.dbz) && bit s.spefscr 27) = false ∧
  ((h.unf || l.unf) && bit s.spefscr 28) = false ∧ ((h.ovf || l.ovf) && bit s.spefscr 29) = false ∧
  (((h.g || h.x || h.ovf || h.unf) || (l.g || l.x || l.ovf || l.unf)) && bit s.spefscr 25) = false

/-- The status bits a floating-point instruction without an interrupt leaves, from its high and low element
(spec/45_efpu_scalar.md R1110, spec/46_efpu_vector.md R1200). -/
structure State.FpStatus (s t : State) (h l : ElementResult) : Prop where
  guard : bit t.spefscr 2 = h.g ∧ bit t.spefscr 18 = l.g
  sticky : bit t.spefscr 3 = h.x ∧ bit t.spefscr 19 = l.x
  invalid : bit t.spefscr 4 = h.inv ∧ bit t.spefscr 20 = l.inv ∧ bit t.spefscr 11 = (bit s.spefscr 11 || h.inv || l.inv)
  divideByZero : bit t.spefscr 5 = h.dbz ∧ bit t.spefscr 21 = l.dbz ∧ bit t.spefscr 12 = (bit s.spefscr 12 || h.dbz || l.dbz)
  underflow : bit t.spefscr 6 = h.unf ∧ bit t.spefscr 22 = l.unf ∧ bit t.spefscr 13 = (bit s.spefscr 13 || h.unf || l.unf)
  overflow : bit t.spefscr 7 = h.ovf ∧ bit t.spefscr 23 = l.ovf ∧ bit t.spefscr 14 = (bit s.spefscr 14 || h.ovf || l.ovf)
  inexact : bit t.spefscr 10 =
    (bit s.spefscr 10 || (h.g || h.x || h.ovf || h.unf) || (l.g || l.x || l.ovf || l.unf))
  rest : ∀ k, k < 32 → k ∉ [2, 3, 4, 5, 6, 7, 10, 11, 12, 13, 14, 18, 19, 20, 21, 22, 23] →
    bit t.spefscr k = bit s.spefscr k

/-- A scalar floating-point instruction without an interrupt has delivered element result e. -/
structure State.ScalarFp (s t : State) (rd : Reg) (e : ElementResult) : Prop where
  result : t.r rd = e.v
  upper : s.KeepsUpper t
  others : s.KeepsRegisters t [rd]
  status : s.FpStatus t noElement e
  frame : t = { s with gpr := t.gpr, spefscr := t.spefscr, pc := s.pc + 4 }

/-- A vector floating-point instruction without an interrupt has delivered two element results. -/
structure State.VectorFp (s t : State) (rd : Reg) (h l : ElementResult) : Prop where
  result : t.r64 rd = h.v ++ l.v
  others : s.KeepsRegisters t [rd]
  status : s.FpStatus t h l
  frame : t = { s with gpr := t.gpr, spefscr := t.spefscr, pc := s.pc + 4 }

/-- A scalar compare or test: the second bit of the CR field; its other three bits may be anything
(spec/93_implementation_defined.md U30). -/
def State.ScalarCompared (s t : State) (crfD : CrField) (c : Bool) : Prop :=
  (t.crField crfD).getMsbD 1 = c ∧ (∀ k : CrField, k ≠ crfD → t.crField k = s.crField k) ∧
  t = { s with cr := t.cr, spefscr := t.spefscr, freeCtr := t.freeCtr, pc := s.pc + 4 }

/-- A vector compare or test: high, low, either, both (spec/46_efpu_vector.md R1203, spec/47_spe_simple.md R1304). -/
def State.VectorCompared (s t : State) (crfD : CrField) (h l : Bool) : Prop :=
  t.crField crfD = crBits h l (h || l) (h && l) ∧ (∀ k : CrField, k ≠ crfD → t.crField k = s.crField k) ∧
  t = { s with cr := t.cr, spefscr := t.spefscr, pc := s.pc + 4 }

/-- A vector compare of integers: SPEFSCR is not touched either. -/
def State.IntegerCompared (s t : State) (crfD : CrField) (h l : Bool) : Prop :=
  s.VectorCompared t crfD h l ∧ t.spefscr = s.spefscr

/-- A compare has status bits; its operands may be Inf, NaN or Denorm. -/
def invalidOf (a b : Word) : ElementResult := plainElement 0 (fpSpecial a || fpSpecial b)

/-- An enabled data exception ended a floating-point instruction: the EFP data interrupt was taken, nothing was written but
SPEFSCR, whose guard and sticky bits are cleared and whose flags follow the elements (spec/45_efpu_scalar.md R1110, R1115). -/
structure State.FpDataTaken (s t : State) (h l : ElementResult) : Prop where
  taken : { s with spefscr := t.spefscr }.Interrupted t 17 s.pc (0x80 ||| if s.cur.vle then 0x20 else 0) s.int.dear
  cleared : bit t.spefscr 2 = false ∧ bit t.spefscr 3 = false ∧ bit t.spefscr 18 = false ∧ bit t.spefscr 19 = false
  invalid : bit t.spefscr 4 = h.inv ∧ bit t.spefscr 20 = l.inv ∧ bit t.spefscr 11 = (bit s.spefscr 11 || h.inv || l.inv)
  divideByZero : bit t.spefscr 5 = h.dbz ∧ bit t.spefscr 21 = l.dbz ∧ bit t.spefscr 12 = (bit s.spefscr 12 || h.dbz || l.dbz)
  underflow : bit t.spefscr 6 = h.unf ∧ bit t.spefscr 22 = l.unf ∧ bit t.spefscr 13 = (bit s.spefscr 13 || h.unf || l.unf)
  overflow : bit t.spefscr 7 = h.ovf ∧ bit t.spefscr 23 = l.ovf ∧ bit t.spefscr 14 = (bit s.spefscr 14 || h.ovf || l.ovf)
  rest : ∀ k, k < 32 → k ∉ [2, 3, 4, 5, 6, 7, 11, 12, 13, 14, 18, 19, 20, 21, 22, 23] → bit t.spefscr k = bit s.spefscr k

/-- The EFP round interrupt was taken after an instruction that left the registers as in u (R1117). -/
def State.FpRoundTaken (s t u : State) : Prop :=
  { u with spefscr := t.spefscr }.Interrupted t 18 (s.pc + 4) (0x80 ||| if s.cur.vle then 0x20 else 0) s.int.dear

/-! ## Floating-point values -/

/-- The number a single-precision Norm stands for: its sign, 24-bit significand and scale (spec/45_efpu_scalar.md R1101). -/
def fpValue (x : Word) : Rat := (if fpSign x then -1 else 1) * (fpSig x : Rat) * (2 : Rat) ^ fpScale x

/-- The biased exponent of a half-precision number (R1102). -/
def halfExp (f : Half) : Nat := (f.extractLsb' 10 5).toNat

/-- The number a normal half-precision number stands for (R1102). -/
def halfValue (f : Half) : Rat :=
  (if f.getMsbD 0 then -1 else 1) * (1024 + (f.extractLsb' 0 10).toNat : Rat) * (2 : Rat) ^ ((halfExp f : Int) - 25)

/-- y, a multiple of u, is the one that the rounding mode chooses for x; `even` says that it is an even multiple
(R1104, R1105). -/
def Nearest (mode : Rounding) (x y u : ℝ) (even : Prop) : Prop :=
  match mode with
  | .nearest => |y - x| ≤ u / 2 ∧ (|y - x| = u / 2 → even)
  | .towardZero => 0 ≤ x * y ∧ |y| ≤ |x| ∧ |x| < |y| + u
  | .up => x ≤ y ∧ y < x + u
  | .down => y ≤ x ∧ x < y + u

/-- The non-zero real x rounded to p significant bits, with an unbounded exponent, is y (R1105). -/
def RoundsTo (p : Nat) (mode : Rounding) (x y : ℝ) : Prop :=
  ∃ e n : Int, (2 : ℝ) ^ e ≤ |x| ∧ |x| < (2 : ℝ) ^ (e + 1) ∧ y = n * (2 : ℝ) ^ (e - p + 1) ∧
    Nearest mode x y ((2 : ℝ) ^ (e - p + 1)) (n % 2 = 0)

/-- The record stands for the real x: what it holds is all of x, or the most significant bits of it with something lost. -/
structure Exact.Represents (r : Exact) (x : ℝ) : Prop where
  nonzero : r.mag ≠ 0
  sign : r.neg = true ↔ x < 0
  exact : r.lost = false → |x| = r.mag * (2 : ℝ) ^ r.exp
  lost : r.lost = true → 16777216 ≤ r.mag ∧ r.mag * (2 : ℝ) ^ r.exp < |x| ∧ |x| < (r.mag + 1) * (2 : ℝ) ^ r.exp

/-- No flag is set. -/
def ElementResult.Flagless (e : ElementResult) : Prop :=
  e.inv = false ∧ e.dbz = false ∧ e.ovf = false ∧ e.unf = false

/-- The element result is the non-zero real x rounded to single precision, or the default of an overflow or underflow
(R1105 to R1107). -/
structure ElementResult.IsRounded (e : ElementResult) (mode : Rounding) (f : Family) (x : ℝ) : Prop where
  valid : e.inv = false ∧ e.dbz = false
  rounded : ∃ y, RoundsTo 24 mode x y ∧ (e.ovf = true ↔ (2 : ℝ) ^ (128 : Int) ≤ |y|) ∧
    (e.unf = true ↔ |y| < (2 : ℝ) ^ (-126 : Int)) ∧
    (e.ovf = false → e.unf = false → fpClass e.v = .norm ∧ (fpValue e.v : ℝ) = y ∧
      ((e.g = true ∨ e.x = true) ↔ y ≠ x) ∧
      ((2 : ℝ) ^ (-126 : Int) ≤ |x| → RoundsTo 24 .towardZero x (fpValue e.t)))
  overflow : e.ovf = true → (x < 0 → e.v = 0xFF7FFFFF) ∧ (0 < x → e.v = 0x7F7FFFFF)
  underflow : e.unf = true → e.v = (match f with
    | .sum => if mode = .down then 0x80000000 else 0
    | .negated => if mode = .down then 0 else 0x80000000
    | .product => e.v) ∧ (f = .product → (x < 0 → e.v = 0x80000000) ∧ (0 < x → e.v = 0))
  default : e.ovf = true ∨ e.unf = true → e.t = e.v ∧ e.g = false ∧ e.x = false

/-! ## Special-purpose registers -/

/-- The register number of an SPRN or DCRN field: its two halves are exchanged (spec/43_system.md R866, R868). -/
def numberOf (f : BitVec 10) : Nat := 32 * (f.toNat % 32) + f.toNat / 32

/-- The SPR numbers mfspr can read (spec/10_state.md R101). -/
def readableSprs : List Nat :=
  [1, 8, 9, 22, 26, 27, 48, 54, 58, 59, 61, 62, 63, 256, 260, 261, 262, 263, 268, 269, 272, 273, 274, 275, 276, 277, 278, 279,
   286, 287, 304, 308, 309, 310, 312, 313, 314, 315, 316, 317, 318, 319, 336, 340, 400, 401, 402, 403, 404, 405, 406, 407, 408,
   409, 410, 411, 412, 413, 414, 415, 512, 515, 516, 528, 529, 530, 561, 562, 563, 564, 565, 566, 567, 568, 569, 570, 571, 572,
   573, 574, 575, 576, 603, 604, 605, 624, 625, 626, 627, 628, 630, 688, 689, 959, 975, 976, 1008, 1009, 1010, 1011, 1012, 1013,
   1015, 1023]

/-- The numbers in it that are read-only; 284 and 285 can only be written (R101, spec/43_system.md R870). -/
def readOnlySprs : List Nat := [260, 261, 262, 263, 268, 269, 287, 515, 516, 569, 688, 689, 1015, 1023]

/-- The SPR numbers mtspr can write. -/
def writableSprs : List Nat := 284 :: 285 :: readableSprs.filter fun n => !readOnlySprs.contains n

/-- What mfspr reads from each of them that has 32 bits: the register of that name, a constant, or the value an input gives. Two
numbers read one register where R102 says so. L1CFG0 is the parameter of spec/11_state_mmu_cache.md R240 (assumption log entry
5), DDAM reads 0 (spec/12_state_debug.md R300), and HID1[ATS] shows the reservation (R123). -/
def State.sprTable (s : State) : List (Nat × Word) :=
  [(1, s.xer), (8, s.lr), (9, s.ctr), (22, s.tim.dec), (26, s.int.srr0), (27, s.int.srr1), (48, s.soft.pid0),
   (54, s.tim.decar), (58, s.int.csrr0), (59, s.int.csrr1), (61, s.int.dear), (62, s.int.esr), (63, s.int.ivpr),
   (256, s.soft.usprg0), (260, s.soft.sprg[4]), (261, s.soft.sprg[5]), (262, s.soft.sprg[6]), (263, s.soft.sprg[7]),
   (268, lo s.tim.tb), (269, hi s.tim.tb), (272, s.soft.sprg[0]), (273, s.soft.sprg[1]), (274, s.soft.sprg[2]),
   (275, s.soft.sprg[3]), (276, s.soft.sprg[4]), (277, s.soft.sprg[5]), (278, s.soft.sprg[6]), (279, s.soft.sprg[7]),
   (286, s.soft.pir), (287, 0x8155#16 ++ s.pins.pvrin), (304, s.dbg.dbsr), (308, s.dbg.dbcr0), (309, s.dbg.dbcr1),
   (310, s.dbg.dbcr2), (312, s.dbg.iac[0]), (313, s.dbg.iac[1]), (314, s.dbg.iac[2]), (315, s.dbg.iac[3]),
   (316, s.dbg.dac1), (317, s.dbg.dac2), (336, s.tim.tsr), (340, s.tim.tcr), (400, s.int.ivor[0]), (401, s.int.ivor[1]),
   (402, s.int.ivor[2]), (403, s.int.ivor[3]), (404, s.int.ivor[4]), (405, s.int.ivor[5]), (406, s.int.ivor[6]),
   (407, s.int.ivor[7]), (408, s.int.ivor[8]), (409, s.int.ivor[9]), (410, s.int.ivor[10]), (411, s.int.ivor[11]),
   (412, s.int.ivor[12]), (413, s.int.ivor[13]), (414, s.int.ivor[14]), (415, s.int.ivor[15]), (512, s.spefscr),
   (515, Config.l1cfg0Value), (516, if bit s.ic.l1csr1 27 then 0x08581804 else 0x08580804), (528, s.int.ivor[16]),
   (529, s.int.ivor[17]), (530, s.int.ivor[18]), (561, s.dbg.dbcr3), (562, s.dbg.dbcnt), (563, s.dbg.dbcr4),
   (564, s.dbg.dbcr5), (565, s.dbg.iac[4]), (566, s.dbg.iac[5]), (567, s.dbg.iac[6]), (568, s.dbg.iac[7]),
   (569, s.dbg.dberc0), (570, s.int.mcsrr0), (571, s.int.mcsrr1), (572, s.int.mcsr), (573, s.int.mcar),
   (574, s.int.dsrr0), (575, s.int.dsrr1), (576, 0), (603, s.dbg.dbcr6), (604, s.soft.sprg[8]), (605, s.soft.sprg[9]),
   (624, s.mmu.mas0), (625, s.mmu.mas1), (626, s.mmu.mas2), (627, s.mmu.mas3), (628, s.mmu.mas4), (630, s.mmu.mas6),
   (688, 0), (689, 0x100BE010), (959, s.ic.l1finv1), (975, s.dbg.devent &&& 0xFF000000), (976, s.ic.hdbcr0),
   (1008, s.hid.hid0), (1009, s.hid.hid1 ||| if s.reserve then 0x80 else 0), (1010, s.ic.l1csr0), (1011, s.ic.l1csr1),
   (1012, s.mmu.mmucsr0), (1013, s.hid.bucsr), (1015, 0x004009C4), (1023, s.pins.sysvers)]

/-- Registers that read back what is written: SPR number and the bits with storage, the others reading 0 (spec/10_state.md R101
and the rules it names). -/
def plainSprs : List (Nat × Word) :=
  [(1, 0xE000007F), (8, 0xFFFFFFFF), (9, 0xFFFFFFFF), (22, 0xFFFFFFFF), (26, 0xFFFFFFFF), (27, 0xFFFFFFFF), (48, 0xFF),
   (54, 0xFFFFFFFF), (58, 0xFFFFFFFF), (59, 0xFFFFFFFF), (61, 0xFFFFFFFF), (62, 0x0FB600A2), (63, 0xFFFF0000),
   (256, 0xFFFFFFFF), (272, 0xFFFFFFFF), (273, 0xFFFFFFFF), (274, 0xFFFFFFFF), (275, 0xFFFFFFFF), (276, 0xFFFFFFFF),
   (277, 0xFFFFFFFF), (278, 0xFFFFFFFF), (279, 0xFFFFFFFF), (286, 0xFFFFFFFF), (312, 0xFFFFFFFF), (313, 0xFFFFFFFF),
   (314, 0xFFFFFFFF), (315, 0xFFFFFFFF), (316, 0xFFFFFFFF), (317, 0xFFFFFFFF), (400, 0xFFF0), (401, 0xFFF0), (402, 0xFFF0),
   (403, 0xFFF0), (404, 0xFFF0), (405, 0xFFF0), (406, 0xFFF0), (407, 0xFFF0), (408, 0xFFF0), (409, 0xFFF0), (410, 0xFFF0),
   (411, 0xFFF0), (412, 0xFFF0), (413, 0xFFF0), (414, 0xFFF0), (415, 0xFFF0), (512, 0xFF3EFF7F), (528, 0xFFF0), (529, 0xFFF0),
   (530, 0xFFF0), (562, 0xFFFFFFFF), (565, 0xFFFFFFFF), (566, 0xFFFFFFFF), (567, 0xFFFFFFFF), (568, 0xFFFFFFFF),
   (570, 0xFFFFFFFF), (571, 0xFFFFFFFF), (573, 0xFFFFFFFF), (574, 0xFFFFFFFF), (575, 0xFFFFFFFF), (604, 0xFFFFFFFF),
   (605, 0xFFFFFFFF), (624, 0x300F000F), (625, 0xC0FF1F80), (626, 0xFFFFFC3F), (627, 0xFFFFFFFF), (628, 0x30030FBF),
   (630, 0x00FF0001), (309, 0xFFC0FFC0), (310, 0xFFFFFFFF), (561, 0xFFFFFFFF), (563, 0x5000FF00), (564, 0xFFC0FFC0),
   (603, 0xFFFFFFFF), (975, 0xFF000000), (976, 1), (1008, 0x80E37F01), (1010, 0xF0000000), (1011, 0x0001B6F5), (1013, 0x37)]

end Sys2Proof.Machine
end

