-- ==== Sys2Proof/Claims/Cache.lean ====
section
/-! DEFINITION. What claims say of the instruction cache and of the time base: the way a fill takes, a line filled, the machine
check of a cache instruction, a line after its check bits are seen to, the timer status of a new time base. -/

namespace Sys2Proof.Machine

/-! ## Line fills -/

/-- A way a fill may take: L1CSR0[WID] leaves it enabled and its line in the set is not locked, or locked lines may go too
(spec/20_memory.md R472, R478). -/
def ICache.Available (c : ICache) (set : Nat) (overLocked : Bool) (w : Nat) : Prop :=
  bit c.l1csr0 w = false ∧ (overLocked = true ∨ (c.line set w).l = false)

/-- The way a fill takes: the first available one, from the way the replacement counter names upwards, modulo the number of
ways (R472). -/
def ICache.NextWay (c : ICache) (set : Nat) (overLocked : Bool) (w : Nat) : Prop :=
  ∃ j, j < c.ways ∧ w = (c.replace.toNat + j) % c.ways ∧ c.Available set overLocked w ∧
    ∀ i, i < j → ¬c.Available set overLocked ((c.replace.toNat + i) % c.ways)

/-- Every line but that of way w of a set is as before. -/
def State.KeepsOtherLines (s t : State) (set w : Nat) : Prop :=
  ∀ j k, j < s.ic.sets → k < s.ic.ways → (j ≠ set ∨ k ≠ w) → t.ic.line j k = s.ic.line j k

/-- Every line of the other sets is as before. -/
def State.KeepsOtherSets (s t : State) (set : Nat) : Prop :=
  ∀ j k, j < s.ic.sets → k < s.ic.ways → j ≠ set → t.ic.line j k = s.ic.line j k

/-- Way w of a set has received the 32 bytes of memory around a real address; no other line changed (R472). The check bits fit,
those of the data unless L1CSR1[ICEI] asks for wrong ones (spec/11_state_mmu_cache.md R234, R243). -/
structure State.LineFilled (s t : State) (set w : Nat) (real : Word) (lock : Bool) : Prop where
  tag : (t.ic.line set w).tag = bits 0 22 real
  valid : (t.ic.line set w).v = true
  locked : (t.ic.line set w).l = lock
  data : ∀ j, j < 32 →
    byteOf ((t.ic.line set w).data.toList.getD (j / 8) 0) (j % 8) = s.byteAt (clearLow real 5 + BitVec.ofNat 32 j)
  tagCheck : checkTag s.ic.edt (t.ic.line set w) = .good
  dataCheck : bit s.ic.l1csr1 16 = false → ∀ k, k < 4 →
    (t.ic.line set w).dchk.toList.getD k 0 = dataCheck s.ic.edt 0 ((t.ic.line set w).data.toList.getD k 0)
  others : s.KeepsOtherLines t set w

/-- The line was filled and the replacement counter names the next way (R472; after a skipped way, assumption log entry 33). -/
structure State.Filled (s t : State) (set w : Nat) (real : Word) (lock : Bool) : Prop
    extends State.LineFilled s t set w real lock where
  next : t.ic.replace.toNat = (w + 1) % s.ic.ways

/-- Way w of a set is invalid and its tag check bits fit (assumption log entry 16, DEDUCED); the line keeps its tag, lock bit
and data, and every other line is as before. -/
def State.Dropped (s t : State) (set w : Nat) : Prop :=
  t.ic.line set w = { s.ic.line set w with v := false, tchk := (t.ic.line set w).tchk } ∧
    checkTag s.ic.edt (t.ic.line set w) = .good ∧ s.KeepsOtherLines t set w

/-! ## Check-bit errors -/

/-- A line after the correction cycle of ICEA = 01: a single-bit error corrected, an uncorrectable line invalid unless it is
locked and `spare` (R476). -/
def ICache.corrected (c : ICache) (spare : Bool) (l : CacheLine) : CacheLine :=
  match checkTag c.edt l with
  | .good => l
  | .corrected l' => l'
  | .bad => if spare && l.l then l else invalidated c.edt 0 l

/-- The machine check of a cache instruction was taken: MCSR[IF], the asynchronous bits given, and the real address in MCAR
unless MCSR[MAV] holds an older one (R478, spec/60_exceptions.md R2050 to R2053). -/
structure State.CacheChecked (s t : State) (async real : Word) : Prop where
  program : s.KeepsProgram t
  awake : t.waiting = false
  vector : t.pc = bits 0 16 s.int.ivpr ++ bits 16 12 (s.ivorAt 1) ++ 0#4
  mode : t.msr = (if bit s.hid.hid0 23 = true ∧ bit s.hid.hid0 22 = false then s.msr &&& 0x200 else 0)
  saved : t.int = { s.int with
    mcsrr0 := s.pc
    mcsrr1 := s.msr
    mcsr := (if bit s.int.mcsr 12 then s.int.mcsr else (s.int.mcsr ||| 0x00080000) &&& ~~~0x00040000#32) ||| async |||
      0x00010000
    mcar := if bit s.int.mcsr 12 then s.int.mcar else real }

/-! ## The time base -/

/-- TSR after the time base went from one value to another: FIS when the selected bit went from 0 to 1, and a watchdog time-out
when the watchdog's bit did (spec/62_timers_power_platform.md R2144, R2146). -/
structure TimeBaseMoved (tcr tsr tsr' : Word) (old new : Dword) : Prop where
  fixedInterval : bit tsr' 5 = true ↔ bit tsr 5 = true ∨
    (old.getMsbD (4 * (bits 15 4 tcr).toNat + (bits 6 2 tcr).toNat) = false ∧
      new.getMsbD (4 * (bits 15 4 tcr).toNat + (bits 6 2 tcr).toNat) = true)
  quiet : ¬(old.getMsbD (4 * (bits 11 4 tcr).toNat + (bits 0 2 tcr).toNat) = false ∧
    new.getMsbD (4 * (bits 11 4 tcr).toNat + (bits 0 2 tcr).toNat) = true) → bits 0 4 tsr' = bits 0 4 tsr
  watchdog : old.getMsbD (4 * (bits 11 4 tcr).toNat + (bits 0 2 tcr).toNat) = false →
    new.getMsbD (4 * (bits 11 4 tcr).toNat + (bits 0 2 tcr).toNat) = true →
    bit tsr' 0 = true ∧ (bit tsr 0 = true → bit tsr' 1 = true) ∧ (bit tsr 0 = false → bit tsr' 1 = bit tsr 1) ∧
      bits 2 2 tsr' = (if bit tsr 0 = true ∧ bit tsr 1 = true ∧ bits 2 2 tcr ≠ 0 then bits 2 2 tcr else bits 2 2 tsr)
  others : bit tsr' 4 = bit tsr 4 ∧ bits 6 26 tsr' = bits 6 26 tsr

end Sys2Proof.Machine
end

