-- ==== Sys2Proof/Claims/Classes.lean ====
section
/-! DEFINITION. Classes of instructions that the spec's rules name. -/

namespace Sys2Proof

/-- The instruction tests MSR[SPE]: every SPE and vector floating-point instruction but `brinc`
(spec/60_exceptions.md R2043). -/
def Instr.usesSpe : Instr → Bool
  | .evfsabs .. | .evfsnabs .. | .evfsneg .. | .evfsadd .. | .evfssub .. | .evfsaddsub .. | .evfssubadd ..
  | .evfsaddx .. | .evfssubx .. | .evfsaddsubx .. | .evfssubaddx .. | .evfssum .. | .evfsdiff .. | .evfssumdiff ..
  | .evfsdiffsum .. | .evfsmul .. | .evfsmule .. | .evfsmulo .. | .evfsmulx .. | .evfsdiv .. | .evfsmadd ..
  | .evfsmsub .. | .evfsnmadd .. | .evfsnmsub .. | .evfssqrt .. | .evfsmax .. | .evfsmin .. | .evfscmpgt ..
  | .evfscmplt .. | .evfscmpeq .. | .evfststgt .. | .evfststlt .. | .evfststeq .. | .evfscfui .. | .evfscfsi ..
  | .evfscfuf .. | .evfscfsf .. | .evfscfh .. | .evfscth .. | .evfsctui .. | .evfsctsi .. | .evfsctuiz ..
  | .evfsctsiz .. | .evfsctuf .. | .evfsctsf .. | .evabs .. | .evaddiw .. | .evaddw .. | .evneg .. | .evsubfw ..
  | .evsubifw .. | .evand .. | .evandc .. | .eveqv .. | .evnand .. | .evnor .. | .evor .. | .evorc .. | .evxor ..
  | .evcmpeq .. | .evcmpgts .. | .evcmpgtu .. | .evcmplts .. | .evcmpltu .. | .evcntlsw .. | .evcntlzw .. | .evextsb ..
  | .evextsh .. | .evmergehi .. | .evmergehilo .. | .evmergelo .. | .evmergelohi .. | .evrlw .. | .evrlwi ..
  | .evrndw .. | .evsel .. | .evslw .. | .evslwi .. | .evsrwis .. | .evsrwiu .. | .evsrws .. | .evsrwu ..
  | .evsplatfi .. | .evsplati .. | .evdivws .. | .evdivwu .. | .evmwhsmf .. | .evmwhsmfa .. | .evmwhsmi ..
  | .evmwhsmia .. | .evmwhssf .. | .evmwhssfa .. | .evmwhumi .. | .evmwhumia .. | .evmwlsmiaaw .. | .evmwlsmianw ..
  | .evmwlssiaaw .. | .evmwlssianw .. | .evmwlumi .. | .evmwlumia .. | .evmwlumiaaw .. | .evmwlumianw ..
  | .evmwlusiaaw .. | .evmwlusianw .. | .evmwsmf .. | .evmwsmfa .. | .evmwsmfaa .. | .evmwsmfan .. | .evmwsmi ..
  | .evmwsmia .. | .evmwsmiaa .. | .evmwsmian .. | .evmwssf .. | .evmwssfa .. | .evmwssfaa .. | .evmwssfan ..
  | .evmwumi .. | .evmwumia .. | .evmwumiaa .. | .evmwumian .. | .evaddsmiaaw .. | .evaddssiaaw .. | .evaddumiaaw ..
  | .evaddusiaaw .. | .evsubfsmiaaw .. | .evsubfssiaaw .. | .evsubfumiaaw .. | .evsubfusiaaw .. | .evmra ..
  | .evmhegsmfaa .. | .evmhegsmfan .. | .evmhegsmiaa .. | .evmhegsmian .. | .evmhegumiaa .. | .evmhegumian ..
  | .evmhesmf .. | .evmhesmfa .. | .evmhesmfaaw .. | .evmhesmfanw .. | .evmhesmi .. | .evmhesmia .. | .evmhesmiaaw ..
  | .evmhesmianw .. | .evmhessf .. | .evmhessfa .. | .evmhessfaaw .. | .evmhessfanw .. | .evmhessiaaw ..
  | .evmhessianw .. | .evmheumi .. | .evmheumia .. | .evmheumiaaw .. | .evmheumianw .. | .evmheusiaaw ..
  | .evmheusianw .. | .evmhogsmfaa .. | .evmhogsmfan .. | .evmhogsmiaa .. | .evmhogsmian .. | .evmhogumiaa ..
  | .evmhogumian .. | .evmhosmf .. | .evmhosmfa .. | .evmhosmfaaw .. | .evmhosmfanw .. | .evmhosmi .. | .evmhosmia ..
  | .evmhosmiaaw .. | .evmhosmianw .. | .evmhossf .. | .evmhossfa .. | .evmhossfaaw .. | .evmhossfanw ..
  | .evmhossiaaw .. | .evmhossianw .. | .evmhoumi .. | .evmhoumia .. | .evmhoumiaaw .. | .evmhoumianw ..
  | .evmhousiaaw .. | .evmhousianw .. | .evldd .. | .evlddx .. | .evldw .. | .evldwx .. | .evldh .. | .evldhx ..
  | .evlwhe .. | .evlwhex .. | .evlwhou .. | .evlwhoux .. | .evlwhos .. | .evlwhosx .. | .evlwwsplat ..
  | .evlwwsplatx .. | .evlwhsplat .. | .evlwhsplatx .. | .evlhhesplat .. | .evlhhesplatx .. | .evlhhousplat ..
  | .evlhhousplatx .. | .evlhhossplat .. | .evlhhossplatx .. | .evstdd .. | .evstddx .. | .evstdw .. | .evstdwx ..
  | .evstdh .. | .evstdhx .. | .evstwhe .. | .evstwhex .. | .evstwho .. | .evstwhox .. | .evstwwe .. | .evstwwex ..
  | .evstwwo .. | .evstwwox .. => true
  | _ => false

/-- The integer SPE instructions that call SetOV, as spec/13_state_spe.md R1054 lists them. -/
def Instr.setsOverflow : Instr → Bool
  | .evdivws .. | .evdivwu .. | .evmwhssf .. | .evmwhssfa .. | .evmwlssiaaw .. | .evmwlssianw .. | .evmwlusiaaw ..
  | .evmwlusianw .. | .evmwssf .. | .evmwssfa .. | .evmwssfaa .. | .evmwssfan .. | .evaddssiaaw .. | .evaddusiaaw ..
  | .evsubfssiaaw .. | .evsubfusiaaw .. | .evmhessf .. | .evmhessfa .. | .evmhessfaaw .. | .evmhessfanw ..
  | .evmhessiaaw .. | .evmhessianw .. | .evmheusiaaw .. | .evmheusianw .. | .evmhossf .. | .evmhossfa ..
  | .evmhossfaaw .. | .evmhossfanw .. | .evmhossiaaw .. | .evmhossianw .. | .evmhousiaaw .. | .evmhousianw .. => true
  | _ => false

/-- The embedded floating-point instructions, which write status bits of SPEFSCR (spec/45_efpu_scalar.md R1110). -/
def Instr.isFloating : Instr → Bool
  | .efsabs .. | .efsnabs .. | .efsneg .. | .efsadd .. | .efssub .. | .efsmul .. | .efsdiv .. | .efsmadd ..
  | .efsmsub .. | .efsnmadd .. | .efsnmsub .. | .efssqrt .. | .efsmax .. | .efsmin .. | .efscmpgt .. | .efscmplt ..
  | .efscmpeq .. | .efststgt .. | .efststlt .. | .efststeq .. | .efscfui .. | .efscfsi .. | .efscfuf .. | .efscfsf ..
  | .efscfh .. | .efsctui .. | .efsctsi .. | .efsctuiz .. | .efsctsiz .. | .efsctuf .. | .efsctsf .. | .efscth ..
  | .evfsabs .. | .evfsnabs .. | .evfsneg .. | .evfsadd .. | .evfssub .. | .evfsaddsub .. | .evfssubadd ..
  | .evfsaddx .. | .evfssubx .. | .evfsaddsubx .. | .evfssubaddx .. | .evfssum .. | .evfsdiff .. | .evfssumdiff ..
  | .evfsdiffsum .. | .evfsmul .. | .evfsmule .. | .evfsmulo .. | .evfsmulx .. | .evfsdiv .. | .evfsmadd ..
  | .evfsmsub .. | .evfsnmadd .. | .evfsnmsub .. | .evfssqrt .. | .evfsmax .. | .evfsmin .. | .evfscmpgt ..
  | .evfscmplt .. | .evfscmpeq .. | .evfststgt .. | .evfststlt .. | .evfststeq .. | .evfscfui .. | .evfscfsi ..
  | .evfscfuf .. | .evfscfsf .. | .evfscfh .. | .evfscth .. | .evfsctui .. | .evfsctsi .. | .evfsctuiz ..
  | .evfsctsiz .. | .evfsctuf .. | .evfsctsf .. => true
  | _ => false

/-- The instructions that are privileged whatever their operands (spec/60_exceptions.md R2080, spec/43_system.md); `rfdi` and
`mfspr`, `mtspr` have conditions of their own. -/
def Instr.isPrivileged : Instr → Bool
  | .dcbi .. | .mfdcr .. | .mtdcr .. | .mfmsr .. | .mtmsr .. | .wrtee .. | .wrteei .. | .rfi | .rfci | .rfmci | .seRfi
  | .seRfci | .seRfmci | .tlbre | .tlbwe | .tlbsx .. | .tlbivax .. | .tlbsync | .eLmvsrrw .. | .eStmvsrrw ..
  | .eLmvcsrrw .. | .eStmvcsrrw .. | .eLmvdsrrw .. | .eStmvdsrrw .. | .eLmvmcsrrw .. | .eStmvmcsrrw .. => true
  | _ => false

/-- The instructions that act on the reservation (spec/20_memory.md R450). -/
def Instr.isReservation : Instr → Bool
  | .lwarx .. | .lharx .. | .lbarx .. | .stwcxRc .. | .sthcxRc .. | .stbcxRc .. => true
  | _ => false

end Sys2Proof
end

