-- ==== Sys2Proof/Claims/Debug.lean ====
section
/-! DEFINITION. What claims say of the debug unit: which compare hits, what an instruction records, how the counters step, which
watchpoint outputs pulse (spec/61_debug.md R2205 to R2240, spec/12_state_debug.md R281 to R298). -/

namespace Sys2Proof.Machine

/-! ## Recording -/

/-- DBSR went from old to new by the events P: their bits, IDE (bit 0) with them if `imprecise`, VLES (bit 27) with them if `vle`;
no other bit changed (spec/61_debug.md R2205). -/
def Recorded (old new : Word) (P : Nat → Prop) (imprecise vle : Bool) : Prop :=
  ∀ k, k < 32 → (bit new k = true ↔ bit old k = true ∨ P k ∨
    ((∃ j, j < 32 ∧ P j) ∧ ((k = 0 ∧ imprecise = true) ∨ (k = 27 ∧ vle = true))))

/-- The non-critical interrupt of IVOR index n is all that happened: of DBSR, only the event of its being taken may be recorded
(spec/61_debug.md R2214). -/
structure State.OnlyInterrupted (s t : State) (n : Nat) (address esr dear : Word) : Prop
    extends State.Interrupted s t n address esr dear where
  events : Recorded s.dbg.dbsr t.dbg.dbsr (fun k => s.idm = true ∧ k = 6 ∧ bit s.dbg.dbcr0 6 = true) (!bit s.msr 22) false

/-! ## Instruction address compares -/

/-- Two addresses agree above their k low-order bits. -/
def sameAbove (k : Nat) (a b : Word) : Prop := a.toNat / 2 ^ k = b.toNat / 2 ^ k

/-- The US field admits the mode and the ER field the address space (R282). -/
def Qualified (us er : BitVec 2) (user space : Bool) : Prop :=
  (us = 0 ∨ (us = 2 ∧ user = false) ∨ (us = 3 ∧ user = true)) ∧
  (er = 0 ∨ (er = 2 ∧ space = false) ∨ (er = 3 ∧ space = true))

/-- Register IAC n + 1 hits the address a; g is 2 on a Book E page and 1 on a VLE page (R2210). -/
def DebugRegs.IacHit (d : DebugRegs) (msr a : Word) (g n : Nat) : Prop :=
  let c := if n < 4 then d.dbcr1 else d.dbcr5
  let own := d.iac.toList.getD n 0
  let other := d.iac.toList.getD (n + 1) 0
  let mode := bits (if n % 4 < 2 then 8 else 24) 2 c
  let inside : Prop := own.toNat / 2 ^ g ≤ a.toNat / 2 ^ g ∧ a.toNat / 2 ^ g < other.toNat / 2 ^ g
  Qualified (bits ([0, 4, 16, 20].getD (n % 4) 0) 2 c) (bits ([2, 6, 18, 22].getD (n % 4) 0) 2 c) (bit msr 17) (bit msr 26) ∧
    ((mode = 0 ∧ sameAbove (max g (bits (4 * n) 4 d.dbcr6).toNat) a own) ∨
     (n % 2 = 0 ∧ mode = 1 ∧ sameAbove g (a &&& other) (own &&& other)) ∨
     (n % 2 = 0 ∧ n < 4 ∧ mode = 2 ∧ inside) ∨ (n % 2 = 0 ∧ n < 4 ∧ mode = 3 ∧ ¬inside))

/-- DACn + 1 is linked to IAC1 or IAC3: DBCR2[DAC1LNK], or DBCR2[DAC2LNK] with the exact address compare (R2217). -/
def DebugRegs.Linked (d : DebugRegs) (n : Nat) : Prop :=
  (n = 0 ∧ bit d.dbcr2 10 = true) ∨ (n = 1 ∧ bit d.dbcr2 11 = true ∧ bits 8 2 d.dbcr2 = 0)

/-- The event of IAC n + 1 among the hits given: enabled in DBCR0, but for IAC1 while DBCR2[DAC1LNK] = 1 and IAC3 while
DBCR2[DAC2LNK] = 1 (R2210, R2217, spec/12_state_debug.md R283). -/
def DebugRegs.OwnIacEvent (d : DebugRegs) (hits : BitVec 8) (n : Nat) : Prop :=
  hits.getLsbD n = true ∧ ((n < 4 ∧ bit d.dbcr0 (8 + n) = true) ∨ (4 ≤ n ∧ bit d.dbcr0 (13 + n) = true)) ∧
    ¬(n = 0 ∧ bit d.dbcr2 10 = true) ∧ ¬(n = 2 ∧ bit d.dbcr2 11 = true)

/-- The hits given set DBSR bit k: IAC1 to IAC3 at 8 to 10, IAC4 to IAC8 at 11 (R2210). -/
def DebugRegs.IacEvent (d : DebugRegs) (hits : BitVec 8) (k : Nat) : Prop :=
  (k = 8 ∧ d.OwnIacEvent hits 0) ∨ (k = 9 ∧ d.OwnIacEvent hits 1) ∨ (k = 10 ∧ d.OwnIacEvent hits 2) ∨
  (k = 11 ∧ ∃ n, 3 ≤ n ∧ n < 8 ∧ d.OwnIacEvent hits n)

/-! ## Data address compares -/

/-- The address part of DAC n + 1 (R2211). -/
def DebugRegs.DacAddress (d : DebugRegs) (msr ea : Word) (n : Nat) : Prop :=
  let mode := bits 8 2 d.dbcr2
  let inside : Prop := d.dac1.toNat ≤ ea.toNat ∧ ea.toNat < d.dac2.toNat
  Qualified (bits (4 * n) 2 d.dbcr2) (bits (4 * n + 2) 2 d.dbcr2) (bit msr 17) (bit msr 27) ∧
    ((mode = 0 ∧ sameAbove (bits (16 + 4 * n) 4 d.dbcr4).toNat ea (if n = 0 then d.dac1 else d.dac2)) ∨
     (n = 0 ∧ mode = 1 ∧ ea &&& d.dac2 = d.dac1 &&& d.dac2) ∨ (n = 0 ∧ mode = 2 ∧ inside) ∨ (n = 0 ∧ mode = 3 ∧ ¬inside))

/-- Byte lane k takes part in the value compare of DAC n + 1: the access transfers a byte on it in its first transfer, and DVCnBE
selects it (R2211). -/
def DebugRegs.TakesPart (d : DebugRegs) (n : Nat) (x : DataAccess) (k : Nat) : Prop :=
  k < 8 ∧ x.ea.toNat % 8 ≤ k ∧ k < x.ea.toNat % 8 + x.bytes.length ∧ bit d.dbcr2 (16 + 8 * n + k) = true

/-- The byte transferred on lane k equals byte k of DVC n + 1. -/
def DebugRegs.LaneMatches (d : DebugRegs) (n : Nat) (x : DataAccess) (k : Nat) : Prop :=
  x.bytes.getD (k - x.ea.toNat % 8) 0 = byteOf (if n = 0 then d.dvc1 else d.dvc2) k

/-- The value part of DAC n + 1 (R2211, R283). That a half-word pair in which no lane takes part does not match, and that with DVCnBE
all clear there is a hit in both polarities, is assumption log entry 33. -/
def DebugRegs.DacValue (d : DebugRegs) (n : Nat) (x : DataAccess) : Prop :=
  let mode := bits (12 + 2 * n) 2 d.dbcr2
  let inverted := bit d.dbcr4 (1 + 2 * n)
  mode = 0 ∨ bits (16 + 8 * n) 8 d.dbcr2 = 0 ∨
  (inverted = false ∧ mode = 1 ∧ ∀ k, k < 8 → d.TakesPart n x k → d.LaneMatches n x k) ∨
  (inverted = false ∧ mode = 2 ∧ ∃ k, k < 8 ∧ d.TakesPart n x k ∧ d.LaneMatches n x k) ∨
  (inverted = false ∧ mode = 3 ∧ ∃ h, h < 4 ∧ (∃ k, k < 8 ∧ k / 2 = h ∧ d.TakesPart n x k) ∧
    ∀ k, k < 8 → k / 2 = h → d.TakesPart n x k → d.LaneMatches n x k) ∨
  (inverted = true ∧ mode = 1 ∧ ∃ k, k < 8 ∧ d.TakesPart n x k ∧ ¬d.LaneMatches n x k) ∨
  (inverted = true ∧ mode = 2 ∧ ∀ k, k < 8 → d.TakesPart n x k → ¬d.LaneMatches n x k)

/-- DAC n + 1 hits an access that was made; `iac` holds the instruction address compare hits of the same instruction (R2211,
R2217). -/
def DebugRegs.DacHit (d : DebugRegs) (msr : Word) (iac : BitVec 8) (n : Nat) (x : DataAccess) : Prop :=
  d.DacAddress msr x.ea n ∧ d.DacValue n x ∧ (d.Linked n → iac.getLsbD (2 * n) = true)

/-- DAC n + 1 hits an access that faulted: by its address, and only if no value is asked for (R2211). -/
def DebugRegs.DacFaultHit (d : DebugRegs) (msr : Word) (iac : BitVec 8) (n : Nat) (ea : Word) : Prop :=
  d.DacAddress msr ea n ∧ bits (12 + 2 * n) 2 d.dbcr2 = 0 ∧ (d.Linked n → iac.getLsbD (2 * n) = true)

/-- DBCR0[DACn] enables the event of DAC n + 1 for a store or a load: 01 stores, 10 loads, 11 both (R281). -/
def DebugRegs.DacEnabled (d : DebugRegs) (n : Nat) (store : Bool) : Prop :=
  bits (12 + 2 * n) 2 d.dbcr0 = 3 ∨ bits (12 + 2 * n) 2 d.dbcr0 = if store then 1 else 2

/-- A store or a load of the accesses given sets its DBSR bit of DAC n + 1. -/
def DebugRegs.DacRecorded (d : DebugRegs) (msr : Word) (iac : BitVec 8) (xs : List DataAccess) (n : Nat) (store : Bool) : Prop :=
  d.DacEnabled n store ∧ ∃ x ∈ xs, x.store = store ∧ d.DacHit msr iac n x

/-- A store or a load of the instruction is seen by the counters and the watchpoint of DAC n + 1: DBCR0[DACn] = 00 admits both
kinds (R2225 item 2, R2240). -/
def DebugRegs.DacSeen (d : DebugRegs) (msr : Word) (c : Current) (n : Nat) (store : Bool) : Prop :=
  (d.DacEnabled n store ∨ bits (12 + 2 * n) 2 d.dbcr0 = 0) ∧
    ((∃ x ∈ c.accesses, x.store = store ∧ d.DacHit msr c.iacHits n x) ∨
     ∃ x ∈ c.faulted, x.store = store ∧ d.DacFaultHit msr c.iacHits n x.ea)

/-- No data value compare has the reserved combination DVCnC = 1, DVCnM = 11 (spec/93_implementation_defined.md U52). -/
def DebugRegs.ValueCodes (d : DebugRegs) : Prop :=
  ∀ n, n < 2 → ¬(bit d.dbcr4 (1 + 2 * n) = true ∧ bits (12 + 2 * n) 2 d.dbcr2 = 3)

/-! ## Counters -/

/-- A counter goes from old to new: one less if it counts and is not 0; `zero` says that it reached 0 (R2225, R2230). -/
def CountsDown {n : Nat} (old new : BitVec n) (counts : Prop) (zero : Bool) : Prop :=
  (counts → old ≠ 0 → new.toNat + 1 = old.toNat) ∧ (¬counts ∨ old = 0 → new = old) ∧
  (zero = true ↔ counts ∧ old.toNat = 1)

/-- One step of the counters. `ev` numbers the events as bits 0 to 12 of DBCR3 do: DEVT1, DEVT2, ICMP, IAC1 to IAC4, DAC1R, DAC1W,
DAC2R, DAC2W, IRPT, RET; zero1 and zero2 say that a counter reached 0, trig that counter 1 was triggered (R2225, R284). -/
structure CounterStepped (dbcr3 old new : Word) (triggered : Bool) (ev : Nat → Prop) (zero1 zero2 trig : Bool) : Prop where
  trigger : trig = true ↔ (bit dbcr3 24 = true ∧ ev 0) ∨ (bit dbcr3 25 = true ∧ ev 1) ∨ (bit dbcr3 26 = true ∧ ev 3) ∨
    (bit dbcr3 27 = true ∧ ev 5) ∨ (bit dbcr3 28 = true ∧ ev 7) ∨ (bit dbcr3 29 = true ∧ ev 8) ∨
    (bit dbcr3 30 = true ∧ zero2 = true)
  second : bit dbcr3 31 = false →
    CountsDown (bits 16 16 old) (bits 16 16 new) (∃ k, k < 11 ∧ bit dbcr3 (13 + k) = true ∧ ev k) zero2
  first : bit dbcr3 31 = false →
    CountsDown (bits 0 16 old) (bits 0 16 new)
      ((∃ k, k < 13 ∧ bit dbcr3 k = true ∧ ev k) ∧ (bits 24 7 dbcr3 = 0 ∨ triggered = true ∨ trig = true)) zero1
  joined : bit dbcr3 31 = true → zero2 = false ∧
    CountsDown old new
      ((∃ k, k < 13 ∧ bit dbcr3 k = true ∧ ev k) ∧ (bits 24 7 dbcr3 = 0 ∨ triggered = true ∨ trig = true)) zero1

/-- The instruction completed. -/
def Current.Done (c : Current) : Prop := c.executed = true ∧ c.suppressed = false

/-- The events of an instruction in the numbering of CounterStepped; d and msr are the debug registers and the MSR it began with
(R2225 items 2 and 3). -/
def Current.Event (c : Current) (d : DebugRegs) (msr : Word) : Nat → Prop
  | 2 => c.Done ∧ bit msr 22 = true
  | 3 => c.iacHits.getLsbD 0 = true ∧ c.abandoned = false
  | 4 => c.iacHits.getLsbD 1 = true ∧ c.abandoned = false
  | 5 => c.iacHits.getLsbD 2 = true ∧ c.abandoned = false
  | 6 => c.iacHits.getLsbD 3 = true ∧ c.abandoned = false
  | 7 => d.DacSeen msr c 0 false
  | 8 => d.DacSeen msr c 0 true
  | 9 => d.DacSeen msr c 1 false
  | 10 => d.DacSeen msr c 1 true
  | 11 => c.irpt = true
  | 12 => c.ret = true
  | _ => False

/-! ## The end of an instruction -/

/-- Watchpoint output n pulses for the instruction (R2240; for 17 and 19 see assumption log entry 42). -/
def Current.Pulses (c : Current) (d : DebugRegs) (msr : Word) (zero1 zero2 : Bool) : Nat → Prop
  | 0 => c.iacHits.getLsbD 0 = true
  | 1 => c.iacHits.getLsbD 1 = true
  | 2 => c.iacHits.getLsbD 2 = true
  | 3 => c.iacHits.getLsbD 3 = true
  | 4 => d.DacSeen msr c 0 true ∨ d.DacSeen msr c 0 false
  | 5 => d.DacSeen msr c 1 true ∨ d.DacSeen msr c 1 false
  | 6 => zero1 = true
  | 7 => zero2 = true
  | 8 => c.iacHits.getLsbD 4 = true
  | 9 => c.iacHits.getLsbD 5 = true
  | 14 => c.iacHits.getLsbD 6 = true
  | 15 => c.iacHits.getLsbD 7 = true
  | 16 => c.irpt = true
  | 17 => c.ret = true
  | 18 => c.cirpt = true
  | 19 => c.cret = true
  | _ => False

/-- The instruction recorded by s, which began with the debug registers d and the MSR given, causes a data address compare
event. -/
def State.DacDone (s : State) (d : DebugRegs) (msr : Word) (n : Nat) (store : Bool) : Prop :=
  s.cur.Done ∧ d.DacRecorded msr s.cur.iacHits s.cur.accesses n store

/-- Some data address compare event. -/
def State.SomeDac (s : State) (d : DebugRegs) (msr : Word) : Prop := ∃ n, n < 2 ∧ (s.DacDone d msr n false ∨ s.DacDone d msr n true)

/-- The instruction causes an instruction complete event (R2212). -/
def State.IcmpDone (s : State) (d : DebugRegs) (msr : Word) : Prop :=
  s.cur.Done ∧ bit msr 22 = true ∧ bit d.dbcr0 4 = true

/-- With internal debug mode on, t is the state s after the debug unit has seen the instruction that began with the debug
registers d and the MSR given; the counters went from the old counts to new (R2205, R2211, R2212, R2225, R2230, R2240). -/
structure State.Finished (s t : State) (d : DebugRegs) (msr new : Word) (zero1 zero2 trig : Bool) : Prop where
  loads : ∀ n, n < 2 → (bit t.dbg.dbsr (12 + 2 * n) = true ↔ bit s.dbg.dbsr (12 + 2 * n) = true ∨ s.DacDone d msr n false)
  stores : ∀ n, n < 2 → (bit t.dbg.dbsr (13 + 2 * n) = true ↔ bit s.dbg.dbsr (13 + 2 * n) = true ∨ s.DacDone d msr n true)
  complete : bit t.dbg.dbsr 4 = true ↔ bit s.dbg.dbsr 4 = true ∨ s.IcmpDone d msr
  vle : bit t.dbg.dbsr 27 = true ↔
    bit s.dbg.dbsr 27 = true ∨ (s.cur.vle = true ∧ (s.SomeDac d msr ∨ s.IcmpDone d msr))
  imprecise : bit t.dbg.dbsr 0 = true ↔ bit s.dbg.dbsr 0 = true ∨ (bit msr 22 = false ∧ s.SomeDac d msr) ∨
    (s.cur.efpRound = true ∧ s.IcmpDone d msr) ∨
    (bit msr 22 = false ∧ ((zero1 = true ∧ bit d.dbcr0 23 = true) ∨ (zero2 = true ∧ bit d.dbcr0 24 = true)))
  counters : CounterStepped d.dbcr3 (if s.cur.wroteDbcnt then d.dbcnt else s.dbg.dbcnt) new
    (bit d.dbsr 31 || bit s.dbg.dbsr 31) (s.cur.Event d msr) zero1 zero2 trig
  counts : t.dbg.dbcnt = if s.cur.wroteDbcnt then s.dbg.dbcnt else new
  zeros : (bit t.dbg.dbsr 23 = true ↔ bit s.dbg.dbsr 23 = true ∨ (zero1 = true ∧ bit d.dbcr0 23 = true)) ∧
    (bit t.dbg.dbsr 24 = true ↔ bit s.dbg.dbsr 24 = true ∨ (zero2 = true ∧ bit d.dbcr0 24 = true)) ∧
    (bit t.dbg.dbsr 31 = true ↔ bit s.dbg.dbsr 31 = true ∨ trig = true)
  status : ∀ k, k < 32 → k ∉ [0, 4, 12, 13, 14, 15, 23, 24, 27, 31] → bit t.dbg.dbsr k = bit s.dbg.dbsr k
  outputs : ∀ o, o ∈ t.outputs ↔ o ∈ s.outputs ∨ o ∈ s.cur.signals ∨
    ∃ n, n < 22 ∧ o = .watchpoint n ∧ s.cur.Pulses d msr zero1 zero2 n
  frame : t = { s with dbg := { s.dbg with dbsr := t.dbg.dbsr, dbcnt := t.dbg.dbcnt }, outputs := t.outputs }

/-! ## Debug interrupts -/

/-- The debug interrupt was taken with the address of the current instruction: its pair, MSR and pc; ESR, DEAR and the MAS
registers keep their values (spec/60_exceptions.md R2001, R2009, R2035, R2211). -/
structure State.DebugInterrupted (s t : State) : Prop where
  saved : t.int =
    if bit s.hid.hid0 23 then { s.int with dsrr0 := s.pc, dsrr1 := s.msr } else { s.int with csrr0 := s.pc, csrr1 := s.msr }
  mode : ∀ k, k < 32 → bit t.msr k = (keepsMsrBit s.hid.hid0 .debug k && bit s.msr k)
  vector : t.pc = bits 0 16 s.int.ivpr ++ bits 16 12 (s.ivorAt 15) ++ 0#4
  awake : t.waiting = false
  program : s.KeepsProgram t
  translation : t.mmu = s.mmu

/-- A data access that faults sets the DBSR bit of DAC n + 1 for a load or a store: an earlier transfer of the same instruction
hit, or the access itself by its address (R2211). -/
def State.FaultRecords (s : State) (ea : Word) (store : Bool) (n : Nat) (bitOfStore : Bool) : Prop :=
  s.dbg.DacRecorded s.msr s.cur.iacHits s.cur.accesses n bitOfStore ∨
  (bitOfStore = store ∧ s.dbg.DacEnabled n store ∧ s.dbg.DacFaultHit s.msr s.cur.iacHits n ea)

/-- DBSR after a faulting access: the DAC bits of FaultRecords, and IDE if there is one. -/
structure State.FaultRecorded (s t : State) (ea : Word) (store : Bool) : Prop where
  loads : ∀ n, n < 2 →
    (bit t.dbg.dbsr (12 + 2 * n) = true ↔ bit s.dbg.dbsr (12 + 2 * n) = true ∨ s.FaultRecords ea store n false)
  stores : ∀ n, n < 2 →
    (bit t.dbg.dbsr (13 + 2 * n) = true ↔ bit s.dbg.dbsr (13 + 2 * n) = true ∨ s.FaultRecords ea store n true)
  imprecise : (∃ n, n < 2 ∧ ∃ b, s.FaultRecords ea store n b) → bit t.dbg.dbsr 0 = true

/-- A data access at ea whose translation fails, with IVOR index `vector` for the fault and ESR as given: with a data address
compare hit and MSR[DE] = 1 the debug interrupt instead, else the fault (R2211). -/
def State.FaultsWithDebug (s t : State) (ea : Word) (store : Bool) (vector : Nat) (esr : Word) : Prop :=
  s.FaultRecorded t ea store ∧
  ((∃ n, n < 2 ∧ ∃ b, s.FaultRecords ea store n b) → bit s.msr 22 = true → s.DebugInterrupted t) ∧
  (¬(∃ n, n < 2 ∧ ∃ b, s.FaultRecords ea store n b) ∨ bit s.msr 22 = false → s.Interrupted t vector s.pc esr ea)

end Sys2Proof.Machine
end

