-- ==== Sys2Proof/Claims/Elements.lean ====
section
/-! DEFINITION. Which element results each floating-point instruction commits (spec/45_efpu_scalar.md R1120 to R1151,
spec/46_efpu_vector.md R1210 to R1254), and when SPEFSCR enables an exception of them. -/

namespace Sys2Proof.Machine

/-! ## The element results of an instruction -/

/-- The register a scalar instruction writes and its element result (spec/45_efpu_scalar.md R1120 to R1133, R1140 to
R1151). -/
def State.scalarElement (s : State) : Instr → Option (Reg × ElementResult)
  | .efsabs rd ra => some (rd, elemSign .abs (s.r ra))
  | .efsnabs rd ra => some (rd, elemSign .nabs (s.r ra))
  | .efsneg rd ra => some (rd, elemSign .neg (s.r ra))
  | .efsadd rd ra rb => some (rd, elemAdd s.rounding (s.r ra) (s.r rb))
  | .efssub rd ra rb => some (rd, elemSub s.rounding (s.r ra) (s.r rb))
  | .efsmul rd ra rb => some (rd, elemMul s.rounding (s.r ra) (s.r rb))
  | .efsdiv rd ra rb => some (rd, elemDiv s.rounding (s.r ra) (s.r rb))
  | .efsmadd rd ra rb => some (rd, elemFma s.rounding (s.r ra) (s.r rb) (s.r rd) false false)
  | .efsmsub rd ra rb => some (rd, elemFma s.rounding (s.r ra) (s.r rb) (s.r rd) true false)
  | .efsnmadd rd ra rb => some (rd, elemFma s.rounding (s.r ra) (s.r rb) (s.r rd) false true)
  | .efsnmsub rd ra rb => some (rd, elemFma s.rounding (s.r ra) (s.r rb) (s.r rd) true true)
  | .efssqrt rd ra => some (rd, elemSqrt s.rounding (s.r ra))
  | .efsmax rd ra rb => some (rd, elemExtreme false (s.r ra) (s.r rb))
  | .efsmin rd ra rb => some (rd, elemExtreme true (s.r ra) (s.r rb))
  | .efscfui rd rb => some (rd, elemFromInt s.rounding .ui (s.r rb))
  | .efscfsi rd rb => some (rd, elemFromInt s.rounding .si (s.r rb))
  | .efscfuf rd rb => some (rd, elemFromInt s.rounding .uf (s.r rb))
  | .efscfsf rd rb => some (rd, elemFromInt s.rounding .sf (s.r rb))
  | .efscfh rd rb => some (rd, elemFromHalf ((s.r rb).setWidth 16))
  | .efsctui rd rb => some (rd, elemToInt s.rounding .ui (s.r rb))
  | .efsctsi rd rb => some (rd, elemToInt s.rounding .si (s.r rb))
  | .efsctuf rd rb => some (rd, elemToInt s.rounding .uf (s.r rb))
  | .efsctsf rd rb => some (rd, elemToInt s.rounding .sf (s.r rb))
  | .efsctuiz rd rb => some (rd, elemToInt .towardZero .ui (s.r rb))
  | .efsctsiz rd rb => some (rd, elemToInt .towardZero .si (s.r rb))
  | .efscth rd rb => some (rd, elemToHalf s.rounding (s.r rb))
  | _ => none

/-- The register a vector instruction writes and its high and low element results (spec/46_efpu_vector.md R1210 to R1236,
R1243 to R1254). -/
def State.vectorElements (s : State) : Instr → Option (Reg × ElementResult × ElementResult)
  | .evfsabs rd ra => some (rd, elemSign .abs (hi (s.r64 ra)), elemSign .abs (lo (s.r64 ra)))
  | .evfsnabs rd ra => some (rd, elemSign .nabs (hi (s.r64 ra)), elemSign .nabs (lo (s.r64 ra)))
  | .evfsneg rd ra => some (rd, elemSign .neg (hi (s.r64 ra)), elemSign .neg (lo (s.r64 ra)))
  | .evfsadd rd ra rb =>
    some (rd, elemAdd s.rounding (hi (s.r64 ra)) (hi (s.r64 rb)),
      elemAdd s.rounding (lo (s.r64 ra)) (lo (s.r64 rb)))
  | .evfssub rd ra rb =>
    some (rd, elemSub s.rounding (hi (s.r64 ra)) (hi (s.r64 rb)),
      elemSub s.rounding (lo (s.r64 ra)) (lo (s.r64 rb)))
  | .evfsaddsub rd ra rb =>
    some (rd, elemAdd s.rounding (hi (s.r64 ra)) (hi (s.r64 rb)),
      elemSub s.rounding (lo (s.r64 ra)) (lo (s.r64 rb)))
  | .evfssubadd rd ra rb =>
    some (rd, elemSub s.rounding (hi (s.r64 ra)) (hi (s.r64 rb)),
      elemAdd s.rounding (lo (s.r64 ra)) (lo (s.r64 rb)))
  | .evfsaddx rd ra rb =>
    some (rd, elemAdd s.rounding (lo (s.r64 ra)) (hi (s.r64 rb)),
      elemAdd s.rounding (hi (s.r64 ra)) (lo (s.r64 rb)))
  | .evfssubx rd ra rb =>
    some (rd, elemSub s.rounding (lo (s.r64 ra)) (hi (s.r64 rb)),
      elemSub s.rounding (hi (s.r64 ra)) (lo (s.r64 rb)))
  | .evfsaddsubx rd ra rb =>
    some (rd, elemAdd s.rounding (lo (s.r64 ra)) (hi (s.r64 rb)),
      elemSub s.rounding (hi (s.r64 ra)) (lo (s.r64 rb)))
  | .evfssubaddx rd ra rb =>
    some (rd, elemSub s.rounding (lo (s.r64 ra)) (hi (s.r64 rb)),
      elemAdd s.rounding (hi (s.r64 ra)) (lo (s.r64 rb)))
  | .evfssum rd ra rb =>
    some (rd, elemAdd s.rounding (hi (s.r64 ra)) (lo (s.r64 ra)),
      elemAdd s.rounding (hi (s.r64 rb)) (lo (s.r64 rb)))
  | .evfsdiff rd ra rb =>
    some (rd, elemSub s.rounding (hi (s.r64 ra)) (lo (s.r64 ra)),
      elemSub s.rounding (hi (s.r64 rb)) (lo (s.r64 rb)))
  | .evfssumdiff rd ra rb =>
    some (rd, elemAdd s.rounding (hi (s.r64 ra)) (lo (s.r64 ra)),
      elemSub s.rounding (hi (s.r64 rb)) (lo (s.r64 rb)))
  | .evfsdiffsum rd ra rb =>
    some (rd, elemSub s.rounding (hi (s.r64 ra)) (lo (s.r64 ra)),
      elemAdd s.rounding (hi (s.r64 rb)) (lo (s.r64 rb)))
  | .evfsmul rd ra rb =>
    some (rd, elemMul s.rounding (hi (s.r64 ra)) (hi (s.r64 rb)),
      elemMul s.rounding (lo (s.r64 ra)) (lo (s.r64 rb)))
  | .evfsmule rd ra rb =>
    some (rd, elemMul s.rounding (hi (s.r64 ra)) (hi (s.r64 rb)),
      elemMul s.rounding (hi (s.r64 ra)) (lo (s.r64 rb)))
  | .evfsmulo rd ra rb =>
    some (rd, elemMul s.rounding (lo (s.r64 ra)) (hi (s.r64 rb)),
      elemMul s.rounding (lo (s.r64 ra)) (lo (s.r64 rb)))
  | .evfsmulx rd ra rb =>
    some (rd, elemMul s.rounding (lo (s.r64 ra)) (hi (s.r64 rb)),
      elemMul s.rounding (hi (s.r64 ra)) (lo (s.r64 rb)))
  | .evfsdiv rd ra rb =>
    some (rd, elemDiv s.rounding (hi (s.r64 ra)) (hi (s.r64 rb)),
      elemDiv s.rounding (lo (s.r64 ra)) (lo (s.r64 rb)))
  | .evfsmadd rd ra rb =>
    some (rd, elemFma s.rounding (hi (s.r64 ra)) (hi (s.r64 rb)) (hi (s.r64 rd)) false false,
      elemFma s.rounding (lo (s.r64 ra)) (lo (s.r64 rb)) (lo (s.r64 rd)) false false)
  | .evfsmsub rd ra rb =>
    some (rd, elemFma s.rounding (hi (s.r64 ra)) (hi (s.r64 rb)) (hi (s.r64 rd)) true false,
      elemFma s.rounding (lo (s.r64 ra)) (lo (s.r64 rb)) (lo (s.r64 rd)) true false)
  | .evfsnmadd rd ra rb =>
    some (rd, elemFma s.rounding (hi (s.r64 ra)) (hi (s.r64 rb)) (hi (s.r64 rd)) false true,
      elemFma s.rounding (lo (s.r64 ra)) (lo (s.r64 rb)) (lo (s.r64 rd)) false true)
  | .evfsnmsub rd ra rb =>
    some (rd, elemFma s.rounding (hi (s.r64 ra)) (hi (s.r64 rb)) (hi (s.r64 rd)) true true,
      elemFma s.rounding (lo (s.r64 ra)) (lo (s.r64 rb)) (lo (s.r64 rd)) true true)
  | .evfssqrt rd ra => some (rd, elemSqrt s.rounding (hi (s.r64 ra)), elemSqrt s.rounding (lo (s.r64 ra)))
  | .evfsmax rd ra rb =>
    some (rd, elemExtreme false (hi (s.r64 ra)) (hi (s.r64 rb)),
      elemExtreme false (lo (s.r64 ra)) (lo (s.r64 rb)))
  | .evfsmin rd ra rb =>
    some (rd, elemExtreme true (hi (s.r64 ra)) (hi (s.r64 rb)),
      elemExtreme true (lo (s.r64 ra)) (lo (s.r64 rb)))
  | .evfscfui rd rb => some (rd, elemFromInt s.rounding .ui (hi (s.r64 rb)), elemFromInt s.rounding .ui (lo (s.r64 rb)))
  | .evfscfsi rd rb => some (rd, elemFromInt s.rounding .si (hi (s.r64 rb)), elemFromInt s.rounding .si (lo (s.r64 rb)))
  | .evfscfuf rd rb => some (rd, elemFromInt s.rounding .uf (hi (s.r64 rb)), elemFromInt s.rounding .uf (lo (s.r64 rb)))
  | .evfscfsf rd rb => some (rd, elemFromInt s.rounding .sf (hi (s.r64 rb)), elemFromInt s.rounding .sf (lo (s.r64 rb)))
  | .evfscfh rd rb => some (rd, elemFromHalf ((hi (s.r64 rb)).setWidth 16), elemFromHalf ((lo (s.r64 rb)).setWidth 16))
  | .evfsctui rd rb => some (rd, elemToInt s.rounding .ui (hi (s.r64 rb)), elemToInt s.rounding .ui (lo (s.r64 rb)))
  | .evfsctsi rd rb => some (rd, elemToInt s.rounding .si (hi (s.r64 rb)), elemToInt s.rounding .si (lo (s.r64 rb)))
  | .evfsctuf rd rb => some (rd, elemToInt s.rounding .uf (hi (s.r64 rb)), elemToInt s.rounding .uf (lo (s.r64 rb)))
  | .evfsctsf rd rb => some (rd, elemToInt s.rounding .sf (hi (s.r64 rb)), elemToInt s.rounding .sf (lo (s.r64 rb)))
  | .evfsctuiz rd rb => some (rd, elemToInt .towardZero .ui (hi (s.r64 rb)), elemToInt .towardZero .ui (lo (s.r64 rb)))
  | .evfsctsiz rd rb => some (rd, elemToInt .towardZero .si (hi (s.r64 rb)), elemToInt .towardZero .si (lo (s.r64 rb)))
  | .evfscth rd rb => some (rd, elemToHalf s.rounding (hi (s.r64 rb)), elemToHalf s.rounding (lo (s.r64 rb)))
  | _ => none

/-- The status elements of a scalar compare: its operands may be Inf, NaN or Denorm (spec/45_efpu_scalar.md R1134 to
R1136). -/
def State.comparedElement (s : State) : Instr → Option ElementResult
  | .efscmpgt _ ra rb => some (invalidOf (s.r ra) (s.r rb))
  | .efscmplt _ ra rb => some (invalidOf (s.r ra) (s.r rb))
  | .efscmpeq _ ra rb => some (invalidOf (s.r ra) (s.r rb))
  | _ => none

/-- The high and low status elements of a vector compare (spec/46_efpu_vector.md R1237 to R1239). -/
def State.comparedElements (s : State) : Instr → Option (ElementResult × ElementResult)
  | .evfscmpgt _ ra rb =>
    some (invalidOf (hi (s.r64 ra)) (hi (s.r64 rb)), invalidOf (lo (s.r64 ra)) (lo (s.r64 rb)))
  | .evfscmplt _ ra rb =>
    some (invalidOf (hi (s.r64 ra)) (hi (s.r64 rb)), invalidOf (lo (s.r64 ra)) (lo (s.r64 rb)))
  | .evfscmpeq _ ra rb =>
    some (invalidOf (hi (s.r64 ra)) (hi (s.r64 rb)), invalidOf (lo (s.r64 ra)) (lo (s.r64 rb)))
  | _ => none

/-! ## Exceptions that SPEFSCR enables -/

/-- An element raises a data exception that SPEFSCR enables (spec/45_efpu_scalar.md R1115). -/
def State.dataTrap (s : State) (h l : ElementResult) : Bool :=
  (h.inv || l.inv) && bit s.spefscr 26 || (h.dbz || l.dbz) && bit s.spefscr 27 || (h.unf || l.unf) && bit s.spefscr 28 ||
    (h.ovf || l.ovf) && bit s.spefscr 29

/-- No enabled data exception, but an inexact element with the round exception enabled (spec/45_efpu_scalar.md R1117). -/
def State.roundTrap (s : State) (h l : ElementResult) : Bool :=
  !s.dataTrap h l && ((h.g || h.x || h.ovf || h.unf) || (l.g || l.x || l.ovf || l.unf)) && bit s.spefscr 25

/-! ## The order of compares -/

/-- The number a compare takes an element for: zero for both zeros; every other element, infinities, NaNs and denormalized
numbers among them, by its exponent and fraction as if it were a Norm (spec/45_efpu_scalar.md R1109). -/
def fpOrder (x : Word) : Rat :=
  if fpExp x = 0 ∧ fpFrac x = 0 then 0
  else (if fpSign x then -1 else 1) * ((8388608 + fpFrac x : Nat) : Rat) * (2 : Rat) ^ ((fpExp x : Int) - 150)

end Sys2Proof.Machine
end

