-- ==== Sys2Proof/Claims/Fetch.lean ====
section
/-! DEFINITION. What claims say of an instruction fetch: where its bytes come from, with the instruction cache off and on, what a
check-bit error or a bus error makes of it, and how the parts of an instruction are put together (spec/20_memory.md R411, R412,
R470 to R476). -/

namespace Sys2Proof.Machine

/-! ## The bytes -/

/-- The n bytes of memory from a real address. -/
def State.codeAt (s : State) (real : Word) (n : Nat) : List Byte :=
  (List.range n).map fun k => s.byteAt (real + BitVec.ofNat 32 k)

/-- The instruction bus answers some of these n bytes with ERROR (R412). -/
def State.codeError (s : State) (real : Word) (n : Nat) : Bool :=
  s.busError .fetch ((List.range n).map fun k => real + BitVec.ofNat 32 k)

/-- The n bytes that a line of the cache holds for an address. -/
def CacheLine.bytesAt (l : CacheLine) (ea : Word) (n : Nat) : List Byte :=
  (List.range n).map fun k => byteOf (l.data.toList.getD (ea.toNat / 8 % 4) 0) (ea.toNat % 8 + k)

/-- The check bits of the double word that holds an address do not fit it (R476). -/
def State.DataError (s : State) (l : CacheLine) (ea : Word) : Prop :=
  s.ic.checking = true ∧
    l.dchk.toList.getD (ea.toNat / 8 % 4) 0 ≠ dataCheck s.ic.edt 0 (l.data.toList.getD (ea.toNat / 8 % 4) 0)

/-- The fetch delivers the bytes of memory, or the bus error of their transfer, and leaves a state of which P holds (R412). -/
def Fetch.FromMemory (x : Fetch) (s : State) (real : Word) (n : Nat) (P : State → Prop) : Prop :=
  (s.codeError real n = false → ∃ t, x = .bytes (s.codeAt real n) t ∧ P t) ∧
  (s.codeError real n = true → ∃ t, x = .check 0x10 real t ∧ P t)

/-- The fetch ends in the machine check of the asynchronous bits given, in a state of which P holds. -/
def Fetch.Fails (x : Fetch) (async real : Word) (P : State → Prop) : Prop := ∃ t, x = .check async real t ∧ P t

/-- The fetch delivers bytes or ends in a machine check, and P holds of the state it leaves. -/
def Fetch.Leaves (x : Fetch) (P : State → Prop) : Prop :=
  match x with
  | .bytes _ t => P t
  | .check _ _ t => P t
  | .stop _ => False

/-- The fetch drives one more request on the instruction port, with the attributes of R2185 of
spec/62_timers_power_platform.md for a page with the attributes of e, its M attribute (spec/20_memory.md R433), and of which P
holds. -/
def State.DrivesFetch (s : State) (x : Fetch) (e : TlbEntry) (P : BusRequest → Prop) : Prop :=
  x.Leaves fun t => ∃ r, t.cur.signals = s.cur.signals ++ [.request r] ∧ P r ∧ r.port = .instruction ∧ r.write = false ∧
    r.unaligned = false ∧ r.data = [] ∧ r.master = s.pins.masterid ∧ r.hprot.getLsbD 0 = false ∧
    r.hprot.getLsbD 1 = !s.userMode ∧ r.hprot.extractLsb' 2 3 = (if e.i then 0 else 6) ∧ r.hprot.getLsbD 5 = false ∧ r.coherent = e.m

/-! ## The lookup -/

/-- Nothing but the bus and the cache error outputs shows that the fetch took place. -/
def State.OnlySignals (s t : State) : Prop := t = { s with cur.signals := t.cur.signals }

/-- Nothing but lines of the cache changed. -/
def State.OnlyLines (s t : State) : Prop := t = { s with ic.lines := t.ic.lines, cur.signals := t.cur.signals }

/-- Nothing but the line of way w of a set changed: it is invalid. -/
def State.OnlyDropped (s t : State) (set w : Nat) : Prop := s.Dropped t set w ∧ s.OnlyLines t

/-- A line fill into way w of a set met a bus error: the line is invalid, MCSR has BUS_IRERR, and MCAR the address given unless
MCSR[MAV] holds an older one; nothing else changed (R412, R472, spec/10_state.md R74, spec/60_exceptions.md R2053). That the
address is the one the fetch wants is assumption log entry 46. -/
def State.LineRefused (s t : State) (set w : Nat) (real : Word) : Prop :=
  s.Dropped t set w ∧
    t = { s with
      ic.lines := t.ic.lines
      cur.signals := t.cur.signals
      int := { s.int with
        mcsr := (if bit s.int.mcsr 12 then s.int.mcsr else (s.int.mcsr ||| 0x00080000) &&& ~~~0x00040000#32) ||| 0x10
        mcar := if bit s.int.mcsr 12 then s.int.mcar else real } }

/-- The lines of the set of ea went through the correction cycle of ICEA = 01, the other lines are as before (R476). -/
def State.SetCorrected (s t : State) (ea : Word) : Prop :=
  (∀ k, k < s.ic.ways → t.ic.line (s.ic.setOf ea) k = s.ic.corrected false (s.ic.line (s.ic.setOf ea) k)) ∧
    s.KeepsOtherSets t (s.ic.setOf ea) ∧ s.OnlyLines t

/-- What a fetch x of n bytes makes of a set whose tags have no error: a hit delivers the bytes of its line unless they have a
data error, a miss of a cacheable page fills the next way, and memory answers the rest (R470, R472, R476). -/
structure State.FetchesClean (s : State) (ea real : Word) (n : Nat) (inhibited : Bool) (x : Fetch) : Prop where
  hit : ∀ w, s.ic.hitWay ea real = some w → ¬s.DataError (s.ic.line (s.ic.setOf ea) w) ea →
    x = .bytes ((s.ic.line (s.ic.setOf ea) w).bytesAt ea n) s
  dataInhibited : ∀ w, s.ic.hitWay ea real = some w → s.DataError (s.ic.line (s.ic.setOf ea) w) ea → inhibited = true →
    x.FromMemory s real n s.OnlySignals
  dataChecked : ∀ w, s.ic.hitWay ea real = some w → s.DataError (s.ic.line (s.ic.setOf ea) w) ea → inhibited = false →
    s.ic.action = 0 → x.Fails 0x40000000 real s.OnlySignals
  dataRefilled : ∀ w, s.ic.hitWay ea real = some w → s.DataError (s.ic.line (s.ic.setOf ea) w) ea → inhibited = false →
    s.ic.action = 1 → s.lineError real = false →
    ∃ t, x = .bytes (s.codeAt real n) t ∧ s.OnlyLines t ∧
      s.LineFilled t (s.ic.setOf ea) w real (s.ic.line (s.ic.setOf ea) w).l
  dataLost : ∀ w, s.ic.hitWay ea real = some w → s.DataError (s.ic.line (s.ic.setOf ea) w) ea → inhibited = false →
    s.ic.action = 1 → s.lineError real = true →
    ((s.ic.line (s.ic.setOf ea) w).l = true → x.Fails 0x01000010 real (s.OnlyDropped · (s.ic.setOf ea) w)) ∧
    ((s.ic.line (s.ic.setOf ea) w).l = false → x.FromMemory s real n (s.LineRefused · (s.ic.setOf ea) w real))
  dataReserved : ∀ w, s.ic.hitWay ea real = some w → s.DataError (s.ic.line (s.ic.setOf ea) w) ea → inhibited = false →
    2 ≤ s.ic.action → x = .stop .reservedCacheMode
  missInhibited : s.ic.hitWay ea real = none → inhibited = true → x.FromMemory s real n s.OnlySignals
  missNoWay : s.ic.hitWay ea real = none → (∀ k, k < s.ic.ways → ¬s.ic.Available (s.ic.setOf ea) false k) →
    x.FromMemory s real n s.OnlySignals
  missFilled : ∀ w, s.ic.hitWay ea real = none → inhibited = false → s.ic.NextWay (s.ic.setOf ea) false w →
    s.lineError real = false →
    ∃ t, x = .bytes (s.codeAt real n) t ∧ s.Filled t (s.ic.setOf ea) w real false ∧ t.ic.hitWay ea real = some w ∧
      t = { s with ic.lines := t.ic.lines, ic.replace := t.ic.replace, cur.signals := t.cur.signals }
  missDropped : ∀ w, s.ic.hitWay ea real = none → inhibited = false → s.ic.NextWay (s.ic.setOf ea) false w →
    s.lineError real = true →
    x.FromMemory s real n (s.LineRefused · (s.ic.setOf ea) w real)

/-- The tag of some way of the set of ea has an error. -/
def State.TagError (s : State) (ea : Word) : Prop :=
  s.ic.checking = true ∧ ∃ k, k < s.ic.ways ∧ tagError s.ic.edt (s.ic.line (s.ic.setOf ea) k) = true

/-- The tag of some locked way of the set of ea has an error that cannot be corrected. -/
def State.LockedTagLost (s : State) (ea : Word) : Prop :=
  ∃ k, k < s.ic.ways ∧ checkTag s.ic.edt (s.ic.line (s.ic.setOf ea) k) = .bad ∧ (s.ic.line (s.ic.setOf ea) k).l = true

/-- Where the n bytes of a fetch at ea, real address real, come from (R470, R476). With ICEA = 01 a cache-inhibited page is
spared the correction only if a way of the set is locked: assumption log entry 33. -/
structure State.FetchesBytes (s : State) (ea real : Word) (n : Nat) (e : TlbEntry) : Prop where
  off : s.ic.enabled = false → (s.fetchBytes ea real n e).FromMemory s real n s.OnlySignals
  reservedCode : s.ic.enabled = true → s.ic.checking = true → 2 ≤ s.ic.edt →
    s.fetchBytes ea real n e = .stop .reservedCacheMode
  clean : s.ic.enabled = true → s.ic.edt < 2 → ¬s.TagError ea →
    s.FetchesClean ea real n e.i (s.fetchBytes ea real n e)
  reservedAction : s.ic.enabled = true → s.ic.edt < 2 → s.TagError ea → 2 ≤ s.ic.action →
    s.fetchBytes ea real n e = .stop .reservedCacheMode
  tagInhibited : s.ic.enabled = true → s.ic.edt < 2 → s.TagError ea → s.ic.action < 2 → e.i = true →
    (s.fetchBytes ea real n e).FromMemory s real n fun t =>
      if s.ic.action = 1 ∧ ∀ k, k < s.ic.ways → (s.ic.line (s.ic.setOf ea) k).l = false then s.SetCorrected t ea
      else s.OnlySignals t
  tagChecked : s.ic.enabled = true → s.ic.edt < 2 → s.TagError ea → s.ic.action = 0 → e.i = false →
    (s.fetchBytes ea real n e).Fails 0x04000000 real s.OnlySignals
  tagLost : s.ic.enabled = true → s.ic.edt < 2 → s.TagError ea → s.ic.action = 1 → e.i = false → s.LockedTagLost ea →
    (s.fetchBytes ea real n e).Fails 0x05000000 real fun t => s.SetCorrected t ea
  tagCorrected : s.ic.enabled = true → s.ic.edt < 2 → s.TagError ea → s.ic.action = 1 → e.i = false →
    ¬s.LockedTagLost ea →
    ∃ u, s.SetCorrected u ea ∧ u.FetchesClean ea real n e.i (s.fetchBytes ea real n e)

/-! ## The instruction -/

/-- The machine check of a fetch was taken in state s: MCSR[IF] and the asynchronous bits given, with MCSR[EXCP_ERR] for a bus
error on the first fetch of a handler; what the fetch did to the cache stays (R412, spec/60_exceptions.md R2050, R2055). -/
def State.FetchFailed (s t : State) (async real : Word) : Prop :=
  s.CacheChecked t (async ||| if s.firstFetch = true ∧ bit async 27 = true then 0x08000000 else 0) real ∧ t.ic = s.ic

/-- The machine check of a first fetch of a handler that its address forbids: MCSR[EXCP_ERR] and MCSR[IF], with the address in
MCAR, an effective or a real one (spec/60_exceptions.md R2052, R2053, R2055). -/
structure State.HandlerLost (s t : State) (address : Word) (effective : Bool) : Prop where
  program : s.KeepsProgram t
  vector : t.pc = bits 0 16 s.int.ivpr ++ bits 16 12 (s.ivorAt 1) ++ 0#4
  saved : t.int = { s.int with
    mcsrr0 := s.pc
    mcsrr1 := s.msr
    mcsr := (if bit s.int.mcsr 12 then s.int.mcsr else if effective then s.int.mcsr ||| 0x000C0000
      else (s.int.mcsr ||| 0x00080000) &&& ~~~0x00040000#32) ||| 0x08010000
    mcar := if bit s.int.mcsr 12 then s.int.mcar else address }

/-- The fetch of s goes on with the bytes of x, or ends as x does. -/
def State.GoesOn (s : State) (x : Fetch) (P : List Byte → State → Prop) : Prop :=
  match x with
  | .bytes bs u => P bs u
  | .check async a u => ∃ t, s.fetch = .raised t ∧ u.FetchFailed t async a
  | .stop f => s.fetch = .stop f

/-- How an instruction is read through the mapping m of its first byte: four bytes in a Book E page; in a VLE page a half word,
and a second one after the first half of a long instruction, from the same page or from the next (R411). -/
structure State.FetchesThrough (s : State) (m : Mapping) : Prop where
  bookE : m.entry.vle = false → bit s.pc 30 = false →
    s.GoesOn ({ s with cur.vle := false }.fetchBytes s.pc (m.real s.pc) 4 m.entry) fun bs u =>
      s.fetch = .bytes (inOrder m.entry.e bs) .bookE u
  vle : m.entry.vle = true → m.entry.e = false →
    s.GoesOn ({ s with cur.vle := true }.fetchBytes s.pc (m.real s.pc) 2 m.entry) fun bs u =>
      let long : Bool := isLongVle (bs.getD 0 0 ++ bs.getD 1 0)
      let a := s.pc + 2
      (long = false → s.fetch = .bytes bs .vle u) ∧
      (long = true → m.samePage s.pc a = true →
        s.GoesOn (u.fetchBytes a (m.real a) 2 m.entry) fun more w => s.fetch = .bytes (bs ++ more) .vle w) ∧
      (long = true → m.samePage s.pc a = false →
        (u.lookup (bit s.msr 26) a = none → ∃ t, s.fetch = .raised t ∧
          (s.firstFetch = false → u.Interrupted t 14 s.pc 0x2 s.int.dear ∧ u.MissLoaded t (bit s.msr 26) a) ∧
          (s.firstFetch = true → u.HandlerLost t a true)) ∧
        ∀ m2 : Mapping, u.lookup (bit s.msr 26) a = some m2 → m2.multi = false →
          (m2.mayExecute s.userMode = false → ∃ t, s.fetch = .raised t ∧
            (s.firstFetch = false → u.Interrupted t 3 s.pc 0x20 s.int.dear) ∧
            (s.firstFetch = true → u.HandlerLost t (m2.real a) false)) ∧
          (m2.mayExecute s.userMode = true → m2.entry.vle = false ∨ m2.entry.e = true → ∃ t, s.fetch = .raised t ∧
            (s.firstFetch = false → u.Interrupted t 3 s.pc 0x00020020 s.int.dear) ∧
            (s.firstFetch = true → u.HandlerLost t (m2.real a) false)) ∧
          (m2.mayExecute s.userMode = true → m2.entry.vle = true → m2.entry.e = false →
            s.GoesOn (u.fetchBytes a (m2.real a) 2 m2.entry) fun more w => s.fetch = .bytes (bs ++ more) .vle w))

end Sys2Proof.Machine
end

