-- ==== Sys2Proof/Laws/Encoding.lean ====
section
/-! SUPPORT. Fields of an encoded word, bytes and words, and looking a word up in rows that exclude one another. -/

namespace Sys2Proof

/-! ## Fields -/

/-- The bits of a placed field. -/
theorem place_getLsbD (a n : Nat) (x : BitVec n) (i : Nat) (h : a + n ≤ 32) :
    (place a n x).getLsbD i = (decide (32 - a - n ≤ i ∧ i < 32 - a) && x.getLsbD (i - (32 - a - n))) := by
  unfold place
  rw [BitVec.getLsbD_shiftLeft, BitVec.getLsbD_setWidth]
  by_cases h1 : 32 - a - n ≤ i ∧ i < 32 - a
  · have e1 : i < 32 := by omega
    have e2 : ¬i < 32 - a - n := by omega
    have e3 : i - (32 - a - n) < 32 := by omega
    simp [h1, e1, e2, e3]
  · rw [decide_eq_false h1, Bool.false_and]
    by_cases h2 : i < 32
    · by_cases h3 : i < 32 - a - n
      · simp [h3]
      · have : n ≤ i - (32 - a - n) := by omega
        simp [BitVec.getLsbD_of_ge _ _ this]
    · simp [h2]

/-- A field of a word in which it was placed. -/
theorem field_place_same (a n : Nat) (x : BitVec n) (h : a + n ≤ 32) : field a n (place a n x) = x := by
  apply BitVec.eq_of_getLsbD_eq
  intro i hi
  unfold field
  rw [BitVec.getLsbD_extractLsb', place_getLsbD _ _ _ _ h]
  have e1 : 32 - a - n ≤ 32 - a - n + i ∧ 32 - a - n + i < 32 - a := by omega
  have e2 : 32 - a - n + i - (32 - a - n) = i := by omega
  simp [hi, e1, e2]

/-- A field of a word in which only another field was placed. -/
theorem field_place_other (a n b m : Nat) (x : BitVec m) (h : a + n ≤ 32) (hb : b + m ≤ 32) (hd : a + n ≤ b ∨ b + m ≤ a) :
    field a n (place b m x) = 0 := by
  apply BitVec.eq_of_getLsbD_eq
  intro i hi
  unfold field
  rw [BitVec.getLsbD_extractLsb', place_getLsbD _ _ _ _ hb]
  have e1 : ¬(32 - b - m ≤ 32 - a - n + i ∧ 32 - a - n + i < 32 - b) := by omega
  rw [decide_eq_false e1]
  simp

/-- Fields are read from each part of a word. -/
theorem field_or (a n : Nat) (v w : Word) : field a n (v ||| w) = field a n v ||| field a n w := by
  apply BitVec.eq_of_getLsbD_eq
  intro i hi
  simp [field, hi]

/-- A placed field under a mask that does not reach it. -/
theorem place_and_of_disjoint (a n : Nat) (x : BitVec n) (m : Word) (h : a + n ≤ 32)
    (hm : place a n (BitVec.allOnes n) &&& m = 0) : place a n x &&& m = 0 := by
  apply BitVec.eq_of_getLsbD_eq
  intro i hi
  have hi' := congrArg (fun w : Word => w.getLsbD i) hm
  simp only [BitVec.getLsbD_and, place_getLsbD _ _ _ _ h] at hi' ⊢
  by_cases h1 : 32 - a - n ≤ i ∧ i < 32 - a
  · have e : i - (32 - a - n) < n := by omega
    have hz : m.getLsbD i = false := by simpa [h1, e] using hi'
    rw [hz]
    simp
  · rw [decide_eq_false h1]
    simp

/-! ## Bytes -/

/-- The bytes of a word make the word again. -/
theorem wordBytes_append (w : Word) : field 0 8 w ++ field 8 8 w ++ field 16 8 w ++ field 24 8 w = w := by
  apply BitVec.eq_of_getLsbD_eq
  intro i hi
  simp only [BitVec.getLsbD_append, field, BitVec.getLsbD_extractLsb']
  by_cases h1 : i < 8
  · simp [h1]
  · by_cases h2 : i - 8 < 8
    · have : 8 + (i - 8) = i := by omega
      simp [h1, h2, this]
    · by_cases h3 : i - 8 - 8 < 8
      · have : 16 + (i - 8 - 8) = i := by omega
        simp [h1, h2, h3, this]
      · have e : i - 8 - 8 - 8 < 8 := by omega
        have : 24 + (i - 8 - 8 - 8) = i := by omega
        simp [h1, h2, h3, e, this]

/-- The bytes of a half word make the half word again. -/
theorem halfBytes_append (h : Half) : h.extractLsb' 8 8 ++ h.extractLsb' 0 8 = h := by
  apply BitVec.eq_of_getLsbD_eq
  intro i hi
  simp only [BitVec.getLsbD_append, BitVec.getLsbD_extractLsb']
  by_cases h1 : i < 8
  · simp [h1]
  · have e : i - 8 < 8 := by omega
    have : 8 + (i - 8) = i := by omega
    simp [h1, e, this]

/-! ## Rows -/

/-- No word is held by both rows. -/
def Row.excludes (r q : Row) : Bool := (r.mask &&& q.mask) &&& (r.bits ^^^ q.bits) != 0

/-- Rows that exclude one another do not both hold a word. -/
theorem Row.excludes_not_hit (r q : Row) (w : Word) (h : r.excludes q = true) (hr : r.hit w = true) : q.hit w = false := by
  by_contra hq
  rw [Bool.not_eq_false] at hq
  unfold Row.hit at hr hq
  rw [beq_iff_eq] at hr hq
  unfold Row.excludes at h
  rw [← hr, ← hq] at h
  have e : (r.mask &&& q.mask) &&& ((w &&& r.mask) ^^^ (w &&& q.mask)) = 0 := by
    apply BitVec.eq_of_getLsbD_eq
    intro i hi
    simp only [BitVec.getLsbD_and, BitVec.getLsbD_xor]
    cases w.getLsbD i <;> cases r.mask.getLsbD i <;> cases q.mask.getLsbD i <;> simp
  rw [e] at h
  simp at h

/-- In rows that exclude one another, a row that holds a word is the one found. -/
theorem find_of_hit (rows : List Row) (hp : rows.Pairwise fun r q => r.excludes q = true) (r : Row) (hr : r ∈ rows) (w : Word)
    (h : r.hit w = true) : rows.find? (fun q => q.hit w) = some r := by
  induction rows with
  | nil => simp at hr
  | cons q rows ih =>
    rw [List.pairwise_cons] at hp
    rcases List.mem_cons.1 hr with rfl | hr
    · simp [h]
    · have hq : q.hit w = false := by
        by_contra hq
        rw [Bool.not_eq_false] at hq
        have := Row.excludes_not_hit q r w (hp.1 r hr) hq
        rw [h] at this
        cases this
      rw [List.find?_cons, hq]
      exact ih hp.2 hr

end Sys2Proof
end

