-- ==== Sys2Proof/Certificates/Slice0/Obligations.lean ====
section
/-! DEFINITION. The statements for the provers. Each docstring names the rule of spec/ it formalises; OBLIGATIONS.json gives
its title and its full sense in words. -/

open Sys2Proof Sys2Proof.Machine

/-- Right after reset the control registers hold the values the spec gives. The reset table, with the pins idle
(assumption log entry 2). -/
def Obligations.ResetState : Prop :=
  let s := State.reset
  s.pc = 0 ∧ s.msr = 0 ∧ s.xer = 0 ∧ s.int.esr = 0 ∧ s.int.mcsr = 0 ∧ s.soft.pid0 = 0 ∧ s.tim.tcr = 0 ∧ s.tim.tsr = 0 ∧
  s.hid.hid0 = 0 ∧ s.hid1Value = 0 ∧ s.hid.bucsr = 0 ∧ s.ic.l1csr0 = 0 ∧ s.ic.l1csr1 = 0 ∧ s.ic.l1finv1 = 0 ∧
  s.spefscr = 0 ∧ s.dbg.dbcr0 = 0 ∧ s.dbg.dbcr1 = 0 ∧ s.dbg.dbcr2 = 0 ∧ s.dbg.dbcr3 = 0 ∧ s.dbg.dbcr4 = 0 ∧
  s.dbg.dbcr5 = 0 ∧ s.dbg.dbcr6 = 0 ∧ s.dbg.dbsr = 0x10000000 ∧ s.reserve = false ∧
  s.mmu.entry 0 = { v := true, ts := false, tid := 0, epn := 0, rpn := 0, size := 2, ux := true, sx := true, uw := true,
                    sw := true, ur := true, sr := true, w := false, i := true, m := false, g := false, e := false, u := 0,
                    iprot := true, vle := false } ∧
  ∀ k : BitVec 4, k ≠ 0 → (s.mmu.entry k).v = false

/-- A processor reset forces the registers of the reset table and leaves the unaffected ones. The reset event in any
state: the table of spec/10_state.md R190; R289 for the debug registers, R310 for the signature unit, R250 for CDACNTL.
That ACC, which the table does not list, keeps its value is its note of N6. That IAC1 to IAC8, DAC1 and DAC2 become 0, as R190
and R289 say, and do not keep any value, as spec/93_implementation_defined.md U1 says, is the model's choice (assumption log
entry 1, DESIGN CHOICE). -/
def Obligations.ResetEvent : Prop :=
  ∀ s : State, bit s.dbg.dbcr0 0 = false →
    let t := s.applyEvent .reset
    t.pc = s.pins.rstbase ++ 0#2 ∧ t.msr = 0 ∧ t.xer = 0 ∧ t.spefscr = 0 ∧ t.int.esr = 0 ∧ t.int.mcsr = 0 ∧
    t.soft.pid0 = 0 ∧ t.soft.pir = zext s.pins.cpuid ∧ t.tim.tcr = 0 ∧ t.tim.tsr = 0 ∧ t.hid.hid0 = 0 ∧
    t.hid1Value = 0 ∧ t.hid.bucsr = 0 ∧ t.ic.l1csr0 = 0 ∧ t.ic.l1csr1 = 0 ∧ t.ic.l1finv1 = 0 ∧ t.ic.cdacntl = 0 ∧
    t.reserve = false ∧
    t.dbg = { s.dbg with
      dbcr0 := 0, dbcr1 := 0, dbcr2 := 0, dbcr3 := 0, dbcr4 := 0, dbcr5 := 0, dbcr6 := 0, dbsr := 0x10000000,
      iac := Vector.replicate 8 0, dac1 := 0, dac2 := 0, devent := 0, ddam := 0 } ∧
    t.psu = { s.psu with pscr := 0 } ∧ t.ic.cdadata = s.ic.cdadata ∧ t.acc = s.acc ∧
    t.mmu.entry 0 = resetTlbEntry0 s.pins ∧ (∀ k : BitVec 4, k ≠ 0 → (t.mmu.entry k).v = false) ∧
    t.gpr = s.gpr ∧ t.cr = s.cr ∧ t.lr = s.lr ∧ t.ctr = s.ctr ∧ t.int = { s.int with esr := 0, mcsr := 0 } ∧
    t.soft.sprg = s.soft.sprg ∧ t.soft.usprg0 = s.soft.usprg0 ∧ t.tim.tb = s.tim.tb ∧ t.tim.dec = s.tim.dec ∧
    t.tim.decar = s.tim.decar ∧ t.mmu = { s.mmu with tlb := t.mmu.tlb, mmucsr0 := 0 } ∧ t.ic.lines = s.ic.lines ∧
    t.mem = s.mem

/-- The state right after reset is legal and has sampled its edge-sensitive pins. The invariants of LegalIsKept hold at the
start. That the levels of p_nmi_b and p_mcp_b at reset count as seen is the model's choice (assumption log entry 43, DESIGN
CHOICE). -/
def Obligations.ResetIsLegal : Prop :=
  State.reset.Legal ∧ State.reset.SamplesPins

/-- Every step keeps the state legal and the samples of the edge-sensitive pins. pc stays even (R53), the reserved bits of
MSR (R70) and XER (R56) stay 0, memory stays canonical, from every legal state; and while m_clk runs, the levels p_nmi_b and
p_mcp_b were last sampled at are those they have (R2160), from every state of which this holds. That jd_mclk_on shows whether
m_clk runs, and that the levels at reset count as seen, is the model's choice (assumption log entry 43, DESIGN CHOICE). -/
def Obligations.LegalIsKept : Prop :=
  ∀ s t : State, step s = .next t → (s.Legal → t.Legal) ∧ (s.SamplesPins → t.SamplesPins)

/-- A step runs the instruction that the bytes at pc decode to, or takes the exception of bytes that are none. The
per-instruction statements reach a run through this one, and so do those of DecodedIsWellFormed. -/
def Obligations.StepRunsDecoded : Prop :=
  ∀ (s b u : State) (page : Page) (bs : List Byte), s.Ready b →
    let w := b.withIacHits
    let events := iacEvents w.dbg w.cur.iacHits
    ¬(events ≠ 0 ∧ w.idm = true ∧ w.de = true) → (w.record events true).fetch = .bytes bs page u →
    let v := { u with firstFetch := false, cur.executed := true }
    (∀ i rest, decodeBytes page bs = .ok (i, rest) → step s = finishOutcome b (exec i v)) ∧
    ∀ e, decodeBytes page bs = .error e → step s = finishOutcome b (v.reject e)

/-- Fetch reads the instruction at pc from memory or the instruction cache, or raises the interrupt of its address. MemFetch
(R411) without the cache, for both kinds of page and both lengths, with R2023 and R2034 for what it raises; then how the parts
of an instruction are put together, with the machine check of a bus error or a check-bit error (R412, R2050, R2055); then where
its bytes come from with the cache off and on (R470, R472, R476). The model's own choices: the tag check bits that are
rewritten when a line is dropped after a failed fill or invalidated by the correction (assumption log entry 16, DEDUCED: R234
and R474 say it of the flash invalidation only); what a cache-inhibited page means for locked ways, the lowest of two ways with
one tag, and the counter after skipped ways (entry 33, DESIGN CHOICE); a counter beyond the ways (entry 15, DESIGN CHOICE); that a
bus error of a line fill sets BUS_IRERR whichever beat met it, with the address the fetch wants, and is reported to the fetch
only if its own bytes met it (entry 46, DESIGN CHOICE: R74 and R2187 beside the table of R2052); and that the reserved
codes of L1CSR1[ICEDT] and [ICEA] stop the model (entry 9, DESIGN CHOICE). -/
def Obligations.FetchReadsMemory : Prop :=
  (∀ s : State, s.ic.enabled = false →
    let at' (m : Mapping) (a : Word) (n : Nat) : List Word := (List.range n).map fun k => m.real a + BitVec.ofNat 32 k
    let reads (bs : List Byte) (page : Page) (vle : Bool) : Prop :=
      ∃ u, s.fetch = .bytes bs page u ∧ u = { s with cur.vle := vle, cur.signals := u.cur.signals }
    let takes (n : Nat) (esr : Word) : Prop :=
      s.firstFetch = false → ∃ u, s.fetch = .raised u ∧ s.Interrupted u n s.pc esr s.int.dear
    let misses (esr a : Word) : Prop :=
      s.firstFetch = false → ∃ u, s.fetch = .raised u ∧ s.Interrupted u 14 s.pc esr s.int.dear ∧
        s.MissLoaded u (bit s.msr 26) a
    (s.lookup (bit s.msr 26) s.pc = none → misses 0 s.pc) ∧
    ∀ m : Mapping, s.lookup (bit s.msr 26) s.pc = some m → m.multi = false →
      (m.mayExecute s.userMode = false → takes 3 (if m.entry.vle then 0x20 else 0)) ∧
      (m.mayExecute s.userMode = true →
        (m.entry.vle = false → bit s.pc 30 = true → takes 3 0x2) ∧
        (m.entry.vle = false → bit s.pc 30 = false → s.busError .fetch (at' m s.pc 4) = false →
          reads (inOrder m.entry.e ((at' m s.pc 4).map s.byteAt)) .bookE false) ∧
        (m.entry.vle = true → m.entry.e = true → takes 3 0x00020020) ∧
        (m.entry.vle = true → m.entry.e = false → s.busError .fetch (at' m s.pc 2) = false →
          let first : List Byte := (at' m s.pc 2).map s.byteAt
          let long : Bool := isLongVle (s.byteAt (m.real s.pc) ++ s.byteAt (m.real s.pc + 1))
          let a := s.pc + 2
          (long = false → reads first .vle true) ∧
          (long = true → m.samePage s.pc a = true → s.busError .fetch (at' m a 2) = false →
            reads (first ++ (at' m a 2).map s.byteAt) .vle true) ∧
          (long = true → m.samePage s.pc a = false →
            (s.lookup (bit s.msr 26) a = none → misses 0x2 a) ∧
            ∀ m2 : Mapping, s.lookup (bit s.msr 26) a = some m2 → m2.multi = false →
              (m2.mayExecute s.userMode = false → takes 3 0x20) ∧
              (m2.mayExecute s.userMode = true → (m2.entry.vle = false ∨ m2.entry.e = true) → takes 3 0x00020020) ∧
              (m2.mayExecute s.userMode = true → m2.entry.vle = true → m2.entry.e = false →
                s.busError .fetch (at' m2 a 2) = false → reads (first ++ (at' m2 a 2).map s.byteAt) .vle true))))) ∧
  (∀ (s : State) (m : Mapping), s.lookup (bit s.msr 26) s.pc = some m → m.multi = false →
    (m.mayExecute s.userMode = true → s.FetchesThrough m) ∧
    (s.firstFetch = true → m.mayExecute s.userMode = false ∨ (m.entry.vle = false ∧ bit s.pc 30 = true) ∨
      (m.entry.vle = true ∧ m.entry.e = true) → ∃ t, s.fetch = .raised t ∧ s.HandlerLost t (m.real s.pc) false)) ∧
  ∀ (s : State) (ea real : Word) (n : Nat) (e : TlbEntry), ea.toNat % 1024 = real.toNat % 1024 →
    ea.toNat % 8 + n ≤ 8 → 0 < n → s.FetchesBytes ea real n e

/-- Words the spec writes out decode to the instructions it names. A sanity statement: the words stand in the rules cited. -/
def Obligations.SpecWordsDecode : Prop :=
  decodeTableWord 32 0x7C642A14 = some (.add 3 4 5) ∧
  decodeTableWord 32 0x3860FFFF = some (.addi 3 0 0xFFFF) ∧
  decodeTableWord 32 0x4BFFFFFD = some (.bl 0xFFFFFF) ∧
  decodeTableWord 32 0x41820010 = some (.bc 12 2 4) ∧
  decodeTableWord 32 0x4E800421 = some (.bcctrl 20 0) ∧
  decodeTableWord 32 0x4C411382 = some (.cror 2 1 2) ∧
  decodeTableWord 32 0x8C640004 = some (.lbzu 3 4 4) ∧
  decodeTableWord 32 0x7C60212D = some (.stwcxRc 3 0 4) ∧
  decodeTableWord 32 0x44000002 = some .sc ∧
  decodeTableWord 32 0x7C6802A6 = some (.mfspr 3 0x100) ∧
  decodeTableWord 32 0x7C9E5386 = some (.mtdcr 4 0x3CA) ∧
  decodeTableWord 32 0x7C008146 = some (.wrteei 1) ∧
  decodeTableWord 32 0x7C00007C = some .wait

/-- No word belongs to two rows of the opcode table. What the decode procedure rests on: "no two rows overlap" (R575). -/
def Obligations.RowsExcludeOneAnother : Prop :=
  ∀ p : Page, (rowsOf p).Pairwise fun r q => r.excludes q = true

/-- Decoding the encoding of a well-formed instruction gives it back. No bit of an operand is lost between the encoder and
the decoder, for all 488 instructions. -/
def Obligations.DecodeInvertsEncode : Prop :=
  ∀ i : Instr, i.wellFormed = true → decodeBytes i.page (encode i) = .ok (i, [])

/-- The decoder gives only well-formed instructions and takes exactly their bytes, and a word that is no instruction takes the
interrupt of its class. R575: what is no instruction, such as mbar with MO above 2 (R560), an unimplemented instruction and a
floating-point instruction (R565), the double-precision space (R1190), and words of a VLE page that the spec does not give
(R951), with the ESR of R2026, R2027 and R2043. The model's own choices: the string instructions, mfapidi, mfdcrx and mtdcrx are
an unimplemented operation and no illegal instruction (assumption log entry 34, DESIGN CHOICE); a non-zero reserved field is
illegal (entry 45, DESIGN CHOICE); on a VLE page a word of primary opcode 4 that is none is illegal (entry 35, DEDUCED); the
refusal (entry 9, DESIGN CHOICE). -/
def Obligations.DecodedIsWellFormed : Prop :=
  (∀ (p : Page) (bs rest : List Byte) (i : Instr), decodeBytes p bs = .ok (i, rest) →
    i.wellFormed = true ∧ rest = bs.drop i.size ∧ i.size ≤ bs.length) ∧
  ∀ (s : State) (w : Word),
    let vlemi : Word := if s.cur.vle then 0x20 else 0
    let program (cause : Word) (t : State) : Prop := s.Interrupted t 6 s.pc (cause ||| vlemi) s.int.dear
    let rejected (p : Page) (bs : List Byte) (P : State → Prop) : Prop :=
      ∃ e t, decodeBytes p bs = .error e ∧ s.reject e = .next t ∧ P t
    (UnimplementedWord w → rejected .bookE (wordBytes w) (program 0x00040000)) ∧
    (FloatingPointWord w → rejected .bookE (wordBytes w) fun t =>
      if bit s.msr 18 then program 0x01040000 t else s.Interrupted t 7 s.pc s.int.esr s.int.dear) ∧
    (DoublePrecisionWord w → ∀ p : Page, rejected p (wordBytes w) fun t =>
      if s.speOn then program 0x00040000 t else s.Interrupted t 16 s.pc (0x80 ||| vlemi) s.int.dear) ∧
    (¬UnimplementedWord w → ¬FloatingPointWord w → ¬DoublePrecisionWord w →
      (∀ i rest, decodeBytes .bookE (wordBytes w) ≠ .ok (i, rest)) → rejected .bookE (wordBytes w) (program 0x08000000)) ∧
    (w.toNat / 2 ^ 26 = 4 → ¬DoublePrecisionWord w → (∀ i rest, decodeBytes .vle (wordBytes w) ≠ .ok (i, rest)) →
      rejected .vle (wordBytes w) (program 0x08000000)) ∧
    (∀ rest : List Byte, rejected .vle (0 :: 0 :: rest) (program 0x08000000)) ∧
    ∀ (bs : List Byte) (e : Reject), decodeBytes .vle bs = .error e → bs.take 2 ≠ [0, 0] → (bs.getD 0 0).toNat / 4 ≠ 4 →
      s.reject e = .refused .vleOutsideSpecification

/-- Taking an interrupt saves the context, clears MSR as the table says, and goes to the vector. TakeInterrupt (R2008)
with NewMSR (R2009), for every class. -/
def Obligations.InterruptEntry : Prop :=
  ∀ (s : State) (c : IntClass) (vector address : Word), bit vector 31 = false →
    let t := s.takeInterrupt c vector address
    t.int = (match c with
      | .nonCritical => { s.int with srr0 := address, srr1 := s.msr }
      | .critical => { s.int with csrr0 := address, csrr1 := s.msr }
      | .debug => if bit s.hid.hid0 23 then { s.int with dsrr0 := address, dsrr1 := s.msr }
          else { s.int with csrr0 := address, csrr1 := s.msr }
      | .machineCheck => { s.int with mcsrr0 := address, mcsrr1 := s.msr }) ∧
    (∀ k, k < 32 → bit t.msr k = (keepsMsrBit s.hid.hid0 c k && bit s.msr k)) ∧ t.pc = vector ∧ s.KeepsProgram t

/-- sc and se_sc take the system call interrupt with the address after them. R2028, for sc and se_sc. -/
def Obligations.SystemCalls : Prop :=
  ∀ s : State,
    (Runs .sc s fun t => s.Interrupted t 8 (s.pc + 4) (if s.cur.vle then 0x20 else 0) s.int.dear) ∧
    (Runs .seSc s fun t => s.Interrupted t 8 (s.pc + 2) (if s.cur.vle then 0x20 else 0) s.int.dear)

/-- The return instructions restore MSR and pc from their pair. The common part R854, and the illegal case of rfdi. -/
def Obligations.ReturnsFromInterrupt : Prop :=
  ∀ s : State,
    (s.userMode = false →
      (s.debugNow 16 = false → Runs .rfi s fun t => s.Returned t s.int.srr0 s.int.srr1) ∧
      (s.debugNow 16 = false → Runs .seRfi s fun t => s.Returned t s.int.srr0 s.int.srr1) ∧
      (s.debugNow 26 = false → Runs .rfci s fun t => s.Returned t s.int.csrr0 s.int.csrr1) ∧
      (s.debugNow 26 = false → Runs .seRfci s fun t => s.Returned t s.int.csrr0 s.int.csrr1) ∧
      (Runs .rfmci s fun t => s.Returned t s.int.mcsrr0 s.int.mcsrr1) ∧
      (Runs .seRfmci s fun t => s.Returned t s.int.mcsrr0 s.int.mcsrr1) ∧
      (bit s.hid.hid0 23 = true → Runs .rfdi s fun t => s.Returned t s.int.dsrr0 s.int.dsrr1) ∧
      (bit s.hid.hid0 23 = true → Runs .seRfdi s fun t => s.Returned t s.int.dsrr0 s.int.dsrr1)) ∧
    (bit s.hid.hid0 23 = false →
      (Runs .rfdi s fun t => s.Interrupted t 6 s.pc (0x08000000 ||| if s.cur.vle then 0x20 else 0) s.int.dear) ∧
      (Runs .seRfdi s fun t => s.Interrupted t 6 s.pc (0x08000000 ||| if s.cur.vle then 0x20 else 0) s.int.dear))

/-- A privileged instruction in user mode takes the privileged-instruction interrupt and does nothing else. R2080: user
mode cannot execute a privileged instruction. Every register and array of the machine keeps its value but what the entry
writes, and DBSR may record the interrupt taken (OnlyInterrupted). -/
def Obligations.PrivilegedInstructionsTrap : Prop :=
  ∀ s : State, s.userMode = true →
    let trapped (t : State) : Prop :=
      s.OnlyInterrupted t 6 s.pc (0x04000000 ||| if s.cur.vle then 0x20 else 0) s.int.dear
    (∀ i : Instr, i.isPrivileged = true → Runs i s trapped) ∧
    (bit s.hid.hid0 23 = true → Runs .rfdi s trapped ∧ Runs .seRfdi s trapped) ∧
    ∀ (r : Reg) (f : BitVec 10), (numberOf f).testBit 4 = true → Runs (.mfspr r f) s trapped ∧ Runs (.mtspr r f) s trapped

/-- No instruction in user mode changes translation, vectors, timers or debug control, and MSR only by an interrupt.
Privilege as a property of the whole instruction set: an instruction that broke it would be found here. What arrives
from outside inside a multiple (assumption log entry 6) is not the instruction's doing. -/
def Obligations.UserModeKeepsControl : Prop :=
  ∀ (i : Instr) (s t : State), s.userMode = true → s.midway = [] → exec i s = .next t →
    t.mmu.tlb = s.mmu.tlb ∧ t.soft = { s.soft with usprg0 := t.soft.usprg0 } ∧ t.int.ivpr = s.int.ivpr ∧
    t.int.ivor = s.int.ivor ∧ t.hid = s.hid ∧ t.tim = s.tim ∧ t.psu.pscr = s.psu.pscr ∧ t.ic.l1csr0 = s.ic.l1csr0 ∧
    t.dbg = { s.dbg with dbsr := t.dbg.dbsr, devent := t.dbg.devent, ddam := t.dbg.ddam } ∧
    (t.msr = s.msr ∨ ∃ c : IntClass, t.msr = newMsr s.hid.hid0 c s.msr)

/-- External, critical, watchdog, fixed-interval and decrementer interrupts are taken at the next boundary by priority and
end the waiting state. The order of R2061 and the entries R2020, R2024, R2030 to R2032. The model's own choices: that
the interrupt is taken at the very next boundary (assumption log entry 6; R2071 and D15 would allow a later one), the
waiting state (entry 31), the suspended conditions (entries 23 and 26), that jd_mclk_on shows whether m_clk runs
(entry 43), and which of two requests at one boundary goes
first where R2061 leaves it open (entry 18). Machine check and debug are MachineCheckAndDebugInterrupts. -/
def Obligations.AsynchronousInterrupts : Prop :=
  ∀ s b : State, s.begin = b →
    let ivor (n : Nat) : Word := bits 0 16 b.int.ivpr ++ bits 16 12 (b.ivorAt n) ++ 0#4
    let input (n : Nat) : Word := if b.pins.avec then ivor n else bits 0 16 b.int.ivpr ++ (b.pins.voffset &&& 0xFFF0)
    let critical : Prop := b.pins.critint = true ∧ bit b.msr 14 = true
    let watchdog : Prop := bit b.tim.tsr 1 = true ∧ bit b.tim.tcr 4 = true ∧ bit b.msr 14 = true
    let external : Prop := b.pins.extint = true ∧ bit b.msr 16 = true
    let fixed : Prop := bit b.tim.tsr 5 = true ∧ bit b.tim.tcr 8 = true ∧ bit b.msr 16 = true
    let decrementer : Prop := bit b.tim.tsr 4 = true ∧ bit b.tim.tcr 5 = true ∧ bit b.msr 16 = true
    let before : Prop := b.pending ≠ some .machineCheck ∧ b.pending ≠ some .debug
    let clock : Prop := b.pins.mclkOn = true ∨ b.waiting = false
    (b.suspended = true → step s = .next b) ∧
    (b.waiting = true → b.pins.mclkOn = false → step s = .next b) ∧
    (b.suspended = false → b.pending = none → b.waiting = true → step s = .next b) ∧
    (before →
      (b.pending = some .criticalInput ↔ critical) ∧ (b.pending = some .watchdog ↔ ¬critical ∧ watchdog) ∧
      (b.pending = some .externalInput ↔ ¬critical ∧ ¬watchdog ∧ external) ∧
      (b.pending = some .fixedInterval ↔ ¬critical ∧ ¬watchdog ∧ ¬external ∧ fixed) ∧
      (b.pending = some .decrementer ↔ ¬critical ∧ ¬watchdog ∧ ¬external ∧ ¬fixed ∧ decrementer)) ∧
    (b.suspended = false → clock →
      (b.pending = some .criticalInput → ∃ t, step s = .next t ∧ b.KeepsProgram t ∧ t.waiting = false ∧
      t.int = { b.int with csrr0 := b.pc, csrr1 := b.msr } ∧ t.msr = newMsr b.hid.hid0 .critical b.msr ∧ t.pc = input 0) ∧
      (b.pending = some .watchdog → ∃ t, step s = .next t ∧ b.KeepsProgram t ∧ t.waiting = false ∧
      t.int = { b.int with csrr0 := b.pc, csrr1 := b.msr } ∧ t.msr = newMsr b.hid.hid0 .critical b.msr ∧ t.pc = ivor 12) ∧
      (b.pending = some .externalInput → ∃ t, step s = .next t ∧ b.KeepsProgram t ∧ t.waiting = false ∧
      t.int = { b.int with srr0 := b.pc, srr1 := b.msr } ∧ t.msr = newMsr b.hid.hid0 .nonCritical b.msr ∧ t.pc = input 4) ∧
      (b.pending = some .fixedInterval → ∃ t, step s = .next t ∧ b.KeepsProgram t ∧ t.waiting = false ∧
      t.int = { b.int with srr0 := b.pc, srr1 := b.msr } ∧ t.msr = newMsr b.hid.hid0 .nonCritical b.msr ∧ t.pc = ivor 11) ∧
      (b.pending = some .decrementer → ∃ t, step s = .next t ∧ b.KeepsProgram t ∧ t.waiting = false ∧
      t.int = { b.int with srr0 := b.pc, srr1 := b.msr } ∧ t.msr = newMsr b.hid.hid0 .nonCritical b.msr ∧ t.pc = ivor 10))

/-- A tick counts the time base up and the decrementer down, and sets the interrupt status they cause. R2140 to R2146, for
one tick of the clock; R2146 for the watchdog. The ticks that items 1 to 5 of R2140 stop leave the state as it is. That
jd_mclk_on shows whether m_clk runs is the model's choice (assumption log entry 43, DESIGN CHOICE). -/
def Obligations.TimerTick : Prop :=
  ∀ (s : State) (c : TimeBaseClock),
    let t := s.applyEvent (.tick c)
    let selected : Nat := 4 * (bits 15 4 s.tim.tcr).toNat + (bits 6 2 s.tim.tcr).toNat
    let watched : Nat := 4 * (bits 11 4 s.tim.tcr).toNat + (bits 0 2 s.tim.tcr).toNat
    let rose (k : Nat) : Prop := s.tim.tb.getMsbD k = false ∧ t.tim.tb.getMsbD k = true
    let counts : Prop := c = if bit s.hid.hid0 18 then .tbclk else .mclk
    let frozen : Prop := bit s.dbg.dbcr0 31 = true ∧ ∃ k, k < 31 ∧ k ≠ 2 ∧ k ≠ 3 ∧ bit s.dbg.dbsr k = true
    let active : Prop := s.waiting = false ∧ s.debugHalt = false ∧ s.pins.halt = false ∧ s.pins.stop = false
    let dft := bits 2 2 s.once.edbcr0
    let tbRuns : Prop := s.debugHalt = false ∨ dft = 2 ∨ dft = 3
    let decRuns : Prop := s.debugHalt = false ∨ dft = 1 ∨ dft = 3
    (¬counts ∨ bit s.hid.hid0 17 = false ∨ s.pins.tbdisable = true ∨ frozen ∨
      (c = .mclk ∧ s.pins.mclkOn = false ∧ ¬active) ∨ (¬tbRuns ∧ ¬decRuns) → t = s) ∧
    (counts → bit s.hid.hid0 17 = true → s.pins.tbdisable = false → ¬frozen →
      c = .tbclk ∨ s.pins.mclkOn = true ∨ active →
      (tbRuns → t.tim.tb.toNat = (s.tim.tb.toNat + 1) % 2 ^ 64) ∧
      (¬tbRuns → t.tim.tb = s.tim.tb) ∧
      (¬decRuns ∨ s.tim.dec = 0 → t.tim.dec = s.tim.dec) ∧
      (decRuns → s.tim.dec = 1 →
        t.tim.dec = (if bit s.tim.tcr 9 then s.tim.decar else 0) ∧ bit t.tim.tsr 4 = true) ∧
      (decRuns → 1 < s.tim.dec.toNat → t.tim.dec.toNat + 1 = s.tim.dec.toNat) ∧
      (¬decRuns ∨ s.tim.dec ≠ 1 → bit t.tim.tsr 4 = bit s.tim.tsr 4) ∧
      (bit t.tim.tsr 5 = true ↔ bit s.tim.tsr 5 = true ∨ rose selected) ∧
      (¬rose watched → bits 0 4 t.tim.tsr = bits 0 4 s.tim.tsr) ∧
      (rose watched →
        (bit s.tim.tsr 0 = false → bit t.tim.tsr 0 = true ∧ bits 1 3 t.tim.tsr = bits 1 3 s.tim.tsr) ∧
        (bit s.tim.tsr 0 = true → bit s.tim.tsr 1 = false →
          bits 0 2 t.tim.tsr = 3#2 ∧ bits 2 2 t.tim.tsr = bits 2 2 s.tim.tsr) ∧
        (bit s.tim.tsr 0 = true → bit s.tim.tsr 1 = true →
          bits 0 2 t.tim.tsr = 3#2 ∧
          bits 2 2 t.tim.tsr = if bits 2 2 s.tim.tcr = 0 then bits 2 2 s.tim.tsr else bits 2 2 s.tim.tcr)) ∧
      bits 6 26 t.tim.tsr = bits 6 26 s.tim.tsr ∧
      t = { s with tim := { s.tim with tb := t.tim.tb, dec := t.tim.dec, tsr := t.tim.tsr } })

/-- The reservation, the upper register halves and SPEFSCR change only by the instructions the rules name. R450: nothing
else clears it, not ordinary stores, not interrupts, not rfi; R51 and the second half of R1054 for the whole
instruction set: SPEFSCR changes by a floating-point instruction, by one that calls SetOV, and by mtspr to SPR 512. That mfspr
of DVC1 and DVC2 writes the upper half is the model's choice (assumption log entry 44, DESIGN CHOICE: R297 against R51). An
input that arrives inside a multiple (assumption log entry 6) may clear the reservation. -/
def Obligations.OnlyTheirInstructionsChange : Prop :=
  ∀ (i : Instr) (s t : State), exec i s = .next t →
    (i.isReservation = false → s.midway = [] → t.reserve = s.reserve) ∧
    (i.usesSpe = false → (∀ r f, i ≠ .mfspr r f) → s.KeepsUpper t) ∧
    (i.isFloating = false → i.setsOverflow = false → (∀ r f, i = .mtspr r f → numberOf f ≠ 512) → t.spefscr = s.spefscr)

/-- NMI, asynchronous machine checks, debug interrupts and bus errors are taken with their registers as the rules say.
R2021, R2035, R2050 to R2055. The model's own choices: the interrupt is taken at the very next boundary (assumption
log entry 6), what suspends the core (entries 23 and 26), that jd_mclk_on shows whether m_clk runs (entry 43), which stores are
precise (entry 20, DEDUCED), that every event recorded in DBSR, those of priority 24 to 26 included, makes debug pending ahead
of the critical, external and timer interrupts (entry 18, DESIGN CHOICE: R2061 and D15 leave it open), and that these interrupts
end the waiting state (entry 31, DEDUCED). -/
def Obligations.MachineCheckAndDebugInterrupts : Prop :=
  (∀ s b : State, s.begin = b →
    let ivor (n : Nat) : Word := bits 0 16 b.int.ivpr ++ bits 16 12 (b.ivorAt n) ++ 0#4
    (b.pending = some .machineCheck ↔ b.nmiPending = true ∨ (b.int.mcsr &&& 0xCC00001C ≠ 0 ∧ bit b.msr 19 = true)) ∧
    (b.pending = some .debug ↔ b.pending ≠ some .machineCheck ∧ bit b.dbg.dbcr0 1 = true ∧ bit b.msr 22 = true ∧
      b.dbg.dbsr &&& 0xCFFF87E0 ≠ 0) ∧
    (b.suspended = false → b.pins.mclkOn = true ∨ b.waiting = false →
      (b.pending = some .machineCheck → ∃ t, step s = .next t ∧ b.KeepsProgram t ∧ t.waiting = false ∧
        t.nmiPending = false ∧ t.dbg = b.dbg ∧ t.pc = ivor 1 ∧
        t.msr = (if bit b.hid.hid0 23 = true ∧ bit b.hid.hid0 22 = false then b.msr &&& 0x200 else 0) ∧
        t.int = { b.int with
          mcsrr0 := b.pc, mcsrr1 := b.msr, mcsr := b.int.mcsr ||| if b.nmiPending then 0x00100000 else 0 }) ∧
      (b.pending = some .debug → ∃ t, step s = .next t ∧ b.KeepsProgram t ∧ t.waiting = false ∧ t.dbg = b.dbg ∧
        t.pc = ivor 15 ∧ (∀ k, k < 32 → bit t.msr k = (keepsMsrBit b.hid.hid0 .debug k && bit b.msr k)) ∧
        t.int = if bit b.hid.hid0 23 then { b.int with dsrr0 := b.pc, dsrr1 := b.msr }
          else { b.int with csrr0 := b.pc, csrr1 := b.msr }))) ∧
  (∀ (s : State) (p : Pins),
    let t := s.applyEvent (.pins p)
    let clock : Prop := p.mclkOn = true ∨ (s.waiting = false ∧ s.debugHalt = false ∧ p.halt = false ∧ p.stop = false)
    (clock →
      (t.nmiPending = true ↔ s.nmiPending = true ∨ (s.sampled.nmi = false ∧ p.nmi = true)) ∧
      (bit t.int.mcsr 0 = true ↔
        bit s.int.mcsr 0 = true ∨ (s.sampled.mcp = false ∧ p.mcp = true ∧ bit s.hid.hid0 0 = true)) ∧
      t.sampled = { nmi := p.nmi, mcp := p.mcp }) ∧
    (¬clock → t.nmiPending = s.nmiPending ∧ t.int.mcsr = s.int.mcsr ∧ t.sampled = s.sampled) ∧
    t.int = { s.int with mcsr := t.int.mcsr } ∧ (∀ k, 1 ≤ k → k < 32 → bit t.int.mcsr k = bit s.int.mcsr k)) ∧
  (∀ (s : State) (ea : Word) (n : Nat) (value : Dword) (kind : AccessKind) (m m2 : Mapping), 0 < n →
    ea.toNat % 8 + n ≤ 8 → s.idm = false → s.MapsData ea n m m2 →
    let kept : Word := if bit s.int.mcsr 12 then s.int.mcsr else (s.int.mcsr ||| 0x00080000) &&& ~~~0x00040000#32
    let address : Word := if bit s.int.mcsr 12 then s.int.mcar else m.real ea
    let reported (t : State) (report : Word) : Prop := s.KeepsProgram t ∧
      t.pc = bits 0 16 s.int.ivpr ++ bits 16 12 (s.ivorAt 1) ++ 0#4 ∧
      t.int = { s.int with
        mcsrr0 := s.pc, mcsrr1 := s.msr, mcsr := kept ||| report ||| (if m.entry.g then 0x2000 else 0), mcar := address }
    (m.mayRead s.userMode = true → m2.mayRead s.userMode = true →
      s.busError .load (realAddresses m m2 ea n) = true → ∃ t, s.load ea n kind = .raised t ∧ reported t 0x00008008) ∧
    (m.mayWrite s.userMode = true → m2.mayWrite s.userMode = true →
      s.busError .store (realAddresses m m2 ea n) = true →
      (m.entry.g = true ∧ (kind = .atomic ∨ m.entry.i = true) →
        ∃ t, s.store ea n value kind = .raised t ∧ reported t 0x00004004) ∧
      (¬(m.entry.g = true ∧ (kind = .atomic ∨ m.entry.i = true)) →
        ∃ t, s.store ea n value kind = .done true t ∧ s.KeepsProgram t ∧ t.pc = s.pc ∧ t.msr = s.msr ∧
          t.int = { s.int with mcsr := kept ||| 0x4, mcar := address }))) ∧
  (∀ (s : State) (m : Mapping), s.lookup (bit s.msr 26) s.pc = some m → m.multi = false → m.mayExecute s.userMode = true →
    s.ic.enabled = false → s.codeError (m.real s.pc) (if m.entry.vle then 2 else 4) = true →
    (m.entry.vle = false → bit s.pc 30 = false) → (m.entry.vle = true → m.entry.e = false) →
    ∃ t, s.fetch = .raised t ∧ s.FetchFailed t 0x10 (m.real s.pc)) ∧
  ∀ s : State, s.firstFetch = true → s.lookup (bit s.msr 26) s.pc = none →
    ∃ t, s.fetch = .raised t ∧ s.KeepsProgram t ∧ t.pc = bits 0 16 s.int.ivpr ++ bits 16 12 (s.ivorAt 1) ++ 0#4 ∧
      t.int = { s.int with
        mcsrr0 := s.pc, mcsrr1 := s.msr,
        mcsr := (if bit s.int.mcsr 12 then s.int.mcsr else s.int.mcsr ||| 0x000C0000) ||| 0x08010000,
        mcar := if bit s.int.mcsr 12 then s.int.mcar else s.pc }

/-- Debug events are recorded, counted and signalled as their rules say, and an instruction address compare, branch-taken, trap
or return event takes the debug interrupt instead of the instruction. R2205 to R2240 and R299 for internal debug mode: first
what an event suppresses, then the instruction address compares, the end of an instruction (data address compares, instruction
complete, counters, watchpoints), what it is judged by, a data access that faults, an interrupt taken, the debug pins, and
DEVENT. The model's own choices: which of several things comes first at a boundary (assumption log entry 18), that the hit of
an earlier transfer turns the fault of a later one into the debug interrupt (entry 19, DEDUCED), that counters and watchpoints
are judged by the registers the instruction began with and by the kinds of access the enable field admits, and that a debug
session freezes the counters (entry 30, DEDUCED), that the reserved code of a value compare stops the model and so is left out
(entry 9), a half-word pair of a value compare in which no lane takes part, and that a value compare with no byte enabled
hits in both polarities (entry 33, DESIGN CHOICE), what an abandoned multiple counts (entry 40), the DBCR0 an instruction
complete event is judged by, that one recorded by an instruction which clears MSR[DE] sets no IDE and waits, and the watchpoints
of a return that the debug interrupt replaces (entry 42), and that the debug pins need no m_clk (entry 43). -/
def Obligations.DebugEventsInstead : Prop :=
  (∀ (s : State) (li : BitVec 24) (bo bi : BitVec 5) (bd : BitVec 14) (tcond : BitVec 5) (ra rb : Reg) (si : BitVec 16),
    (s.debugNow 5 = true →
      (Runs (.b li) s fun t => s.DebugTaken t 5) ∧
      (Runs (.ba li) s fun t => s.DebugTaken t 5) ∧
      (Runs (.bl li) s fun t => s.DebugTaken t 5) ∧
      (Runs (.bla li) s fun t => s.DebugTaken t 5) ∧
      (Taken s bo bi →
        (Runs (.bc bo bi bd) s fun t => s.DebugTaken t 5) ∧
        (Runs (.bca bo bi bd) s fun t => s.DebugTaken t 5) ∧
        (Runs (.bcl bo bi bd) s fun t => s.DebugTaken t 5) ∧
        (Runs (.bcla bo bi bd) s fun t => s.DebugTaken t 5) ∧
        (Runs (.bclr bo bi) s fun t => s.DebugTaken t 5) ∧
        (Runs (.bclrl bo bi) s fun t => s.DebugTaken t 5) ∧
        (Runs (.bcctr bo bi) s fun t => s.DebugTaken t 5) ∧
        (Runs (.bcctrl bo bi) s fun t => s.DebugTaken t 5))) ∧
    (s.debugNow 7 = true →
      (Traps tcond (s.r ra) (s.r rb) → Runs (.tw tcond ra rb) s fun t => s.DebugTaken t 7) ∧
      (Traps tcond (s.r ra) (wordOf si.toInt) → Runs (.twi tcond ra si) s fun t => s.DebugTaken t 7)) ∧
    (s.userMode = false → s.debugNow 16 = true →
      (Runs .rfi s fun t => s.DebugTaken t 16) ∧ (Runs .seRfi s fun t => s.DebugTaken t 16)) ∧
    (s.userMode = false → s.debugNow 26 = true →
      (Runs .rfci s fun t => s.DebugTaken t 26) ∧ (Runs .seRfci s fun t => s.DebugTaken t 26)) ∧
    (bit s.msr 22 = false →
      let delayed (t : State) (event : Nat) (interrupts : Bool) : Prop := Recorded s.dbg.dbsr t.dbg.dbsr
        (fun k => s.idm = true ∧ ((k = event ∧ bit s.dbg.dbcr0 event = true) ∨
          (k = 6 ∧ interrupts = true ∧ bit s.dbg.dbcr0 6 = true))) true (bit s.dbg.dbcr0 event && s.cur.vle)
      (Traps tcond (s.r ra) (s.r rb) → Runs (.tw tcond ra rb) s fun t => delayed t 7 true) ∧
      (Traps tcond (s.r ra) (wordOf si.toInt) → Runs (.twi tcond ra si) s fun t => delayed t 7 true) ∧
      (s.userMode = false →
        (Runs .rfi s fun t => delayed t 16 false ∧ t.cur.ret = true) ∧
        (Runs .seRfi s fun t => delayed t 16 false ∧ t.cur.ret = true) ∧
        (Runs .rfci s fun t => delayed t 26 false ∧ t.cur.cret = true) ∧
        (Runs .seRfci s fun t => delayed t 26 false ∧ t.cur.cret = true)))) ∧
  (∀ s : State,
    let w := s.withIacHits
    let v := w.record (iacEvents w.dbg w.cur.iacHits) true
    (∀ n, n < 8 → (w.cur.iacHits.getLsbD n = true ↔ s.dbg.IacHit s.msr s.pc (if w.cur.vle then 1 else 2) n)) ∧
    w.cur.vle = (s.lookup (bit s.msr 26) s.pc).any (fun m => m.entry.vle) ∧
    w = { s with cur.vle := w.cur.vle, cur.iacHits := w.cur.iacHits } ∧
    Recorded s.dbg.dbsr v.dbg.dbsr (fun k => s.idm = true ∧ s.dbg.IacEvent w.cur.iacHits k) (!bit s.msr 22) w.cur.vle ∧
    v = { w with dbg.dbsr := v.dbg.dbsr }) ∧
  (∀ s b : State, s.Ready b → b.idm = true → bit b.msr 22 = true →
    (∃ k, k < 32 ∧ b.dbg.IacEvent b.withIacHits.cur.iacHits k) →
    ∃ t, step s = .next t ∧ b.DebugInterrupted t ∧
      ∀ k, 8 ≤ k → k < 12 →
        (bit t.dbg.dbsr k = true ↔ bit b.dbg.dbsr k = true ∨ b.dbg.IacEvent b.withIacHits.cur.iacHits k)) ∧
  (∀ s before : State,
    (before.idm = false → s.finish before = { s with outputs := s.outputs ++ s.cur.signals }) ∧
    (before.idm = true → before.dbg.ValueCodes →
      ∃ new zero1 zero2 trig, s.Finished (s.finish before) before.dbg before.msr new zero1 zero2 trig)) ∧
  (∀ (s : State) (ea : Word) (n : Nat) (kind : AccessKind) (m m2 : Mapping) (image : Bool → List Byte),
    let made (t : State) (store : Bool) (bytes : List Byte) : Prop :=
      t.cur.accesses = s.cur.accesses ++ [{ ea := ea, store := store, bytes := bytes }]
    (s.CanLoad ea n m m2 →
      ∃ t, s.loadBytes ea n kind = .done (s.bytesAt m m2 ea n, m) t ∧ made t false (s.bytesAt m m2 ea n)) ∧
    (s.CanStore ea n m m2 → ∃ ok t, s.storeImage ea n image kind = .done ok t ∧ made t true (image m.entry.e))) ∧
  (∀ (s : State) (ea : Word) (n : Nat) (value : Dword) (kind : AccessKind),
    s.idm = true → s.dbg.dbcr3 = 0 → s.dbg.ValueCodes →
    let esr (store : Bool) : Word :=
      (if store then 0x00800000 else 0) ||| (if kind = .spe then 0x80 else 0) ||| if s.cur.vle then 0x20 else 0
    (s.lookup (bit s.msr 27) ea = none →
      (∃ t, s.load ea n kind = .raised t ∧ s.FaultsWithDebug t ea false 13 (esr false)) ∧
      ∃ t, s.store ea n value kind = .raised t ∧ s.FaultsWithDebug t ea true 13 (esr true)) ∧
    ∀ m : Mapping, s.lookup (bit s.msr 27) ea = some m →
      (m.mayRead s.userMode = false →
        ∃ t, s.load ea n kind = .raised t ∧ s.FaultsWithDebug t ea false 2 (esr false)) ∧
      (m.mayWrite s.userMode = false →
        ∃ t, s.store ea n value kind = .raised t ∧ s.FaultsWithDebug t ea true 2 (esr true))) ∧
  (∀ (s : State) (c : IntClass) (vector address : Word),
    let t := s.takeInterrupt c vector address
    t.cur = { s.cur with
      irpt := s.cur.irpt || decide (c = .nonCritical), cirpt := s.cur.cirpt || decide (c = .critical) } ∧
    Recorded s.dbg.dbsr t.dbg.dbsr
      (fun k => s.idm = true ∧ ((k = 6 ∧ c = .nonCritical ∧ bit s.dbg.dbcr0 6 = true) ∨
        (k = 25 ∧ c = .critical ∧ bit s.dbg.dbcr0 25 = true))) (!bit t.msr 22) false ∧
    t.dbg = { s.dbg with dbsr := t.dbg.dbsr }) ∧
  (∀ (s : State) (p : Pins), s.cur.wroteDbcnt = false →
    let t := s.applyEvent (.pins p)
    let edge (k : Nat) : Prop :=
      (k = 0 ∧ s.pins.devt1 = false ∧ p.devt1 = true) ∨ (k = 1 ∧ s.pins.devt2 = false ∧ p.devt2 = true)
    t.dbg = { s.dbg with dbsr := t.dbg.dbsr, dbcnt := t.dbg.dbcnt } ∧
    (s.idm = false → t.dbg = s.dbg ∧ t.outputs = s.outputs) ∧
    (s.idm = true → ∃ zero1 zero2 trig,
      (s.debugHalt = true → t.dbg.dbcnt = s.dbg.dbcnt ∧ zero1 = false ∧ zero2 = false ∧ trig = false) ∧
      (s.debugHalt = false →
        CounterStepped s.dbg.dbcr3 s.dbg.dbcnt t.dbg.dbcnt (bit s.dbg.dbsr 31) edge zero1 zero2 trig) ∧
      Recorded (s.dbg.dbsr ||| if trig then 1 else 0) t.dbg.dbsr
        (fun k => (k = 1 ∧ s.pins.ude = false ∧ p.ude = true) ∨ (k = 21 ∧ edge 0 ∧ bit s.dbg.dbcr0 21 = true) ∨
          (k = 22 ∧ edge 1 ∧ bit s.dbg.dbcr0 22 = true) ∨ (k = 23 ∧ zero1 = true ∧ bit s.dbg.dbcr0 23 = true) ∨
          (k = 24 ∧ zero2 = true ∧ bit s.dbg.dbcr0 24 = true)) (!bit s.msr 22) false ∧
      ∀ o, o ∈ t.outputs ↔ o ∈ s.outputs ∨ (o = .watchpoint 10 ∧ edge 0) ∨ (o = .watchpoint 11 ∧ edge 1) ∨
        (o = .watchpoint 6 ∧ zero1 = true) ∨ (o = .watchpoint 7 ∧ zero2 = true))) ∧
  ∀ (s : State) (r : Reg) (f : BitVec 10), numberOf f = 975 →
    Runs (.mtspr r f) s fun t =>
      (∀ o, o ∈ t.outputs ↔ o ∈ s.outputs ∨ (o = .devnt (bits 24 8 (s.r r)) ∧ bits 24 8 (s.r r) ≠ 0) ∨
        ∃ k, k < 4 ∧ bit (s.r r) (31 - k) = true ∧ o = .watchpoint ([12, 13, 20, 21].getD k 0)) ∧
      t = { s with dbg.devent := s.r r &&& 0xFF000000, outputs := t.outputs, pc := s.pc + 4 }

/-- The accesses that must be aligned take the alignment interrupt when they are not; dcbz always does. Causes (a) to (e)
of R2025. Nothing else happens: every register and array keeps its value but what the entry writes, and DBSR may record the
interrupt taken (OnlyInterrupted). -/
def Obligations.AlignmentInterrupts : Prop :=
  ∀ (s : State) (r ra rb : Reg) (d : BitVec 16) (d8 : BitVec 8) (uimm : BitVec 5),
    let v : Word := if s.cur.vle then 0x20 else 0
    (Runs (.dcbz ra rb) s fun t => s.OnlyInterrupted t 5 s.pc v (s.eaX ra rb)) ∧
    ((s.eaD ra d).toNat % 4 ≠ 0 → Runs (.lmw r ra d) s fun t => s.OnlyInterrupted t 5 s.pc (0 ||| v) (s.eaD ra d)) ∧
    ((s.eaD ra d).toNat % 4 ≠ 0 → Runs (.stmw r ra d) s fun t => s.OnlyInterrupted t 5 s.pc (0x00800000 ||| v) (s.eaD ra d)) ∧
    ((s.eaD8 ra d8).toNat % 4 ≠ 0 → Runs (.eLmw r ra d8) s fun t => s.OnlyInterrupted t 5 s.pc (0 ||| v) (s.eaD8 ra d8)) ∧
    ((s.eaD8 ra d8).toNat % 4 ≠ 0 → Runs (.eStmw r ra d8) s fun t =>
      s.OnlyInterrupted t 5 s.pc (0x00800000 ||| v) (s.eaD8 ra d8)) ∧
    ((s.eaD8 ra d8).toNat % 4 ≠ 0 → Runs (.eLmvgprw ra d8) s fun t => s.OnlyInterrupted t 5 s.pc (0 ||| v) (s.eaD8 ra d8)) ∧
    ((s.eaD8 ra d8).toNat % 4 ≠ 0 → Runs (.eStmvgprw ra d8) s fun t =>
      s.OnlyInterrupted t 5 s.pc (0x00800000 ||| v) (s.eaD8 ra d8)) ∧
    ((s.eaD8 ra d8).toNat % 4 ≠ 0 → Runs (.eLmvsprw ra d8) s fun t => s.OnlyInterrupted t 5 s.pc (0 ||| v) (s.eaD8 ra d8)) ∧
    ((s.eaD8 ra d8).toNat % 4 ≠ 0 → Runs (.eStmvsprw ra d8) s fun t =>
      s.OnlyInterrupted t 5 s.pc (0x00800000 ||| v) (s.eaD8 ra d8)) ∧
    ((s.eaX ra rb).toNat % 4 ≠ 0 → Runs (.lwarx r ra rb) s fun t => s.OnlyInterrupted t 5 s.pc (0 ||| v) (s.eaX ra rb)) ∧
    ((s.eaX ra rb).toNat % 2 ≠ 0 → Runs (.lharx r ra rb) s fun t => s.OnlyInterrupted t 5 s.pc (0 ||| v) (s.eaX ra rb)) ∧
    (s.reserve = true → (s.eaX ra rb).toNat % 4 ≠ 0 → Runs (.stwcxRc r ra rb) s fun t =>
      s.OnlyInterrupted t 5 s.pc (0x00800000 ||| v) (s.eaX ra rb)) ∧
    (s.reserve = true → (s.eaX ra rb).toNat % 2 ≠ 0 → Runs (.sthcxRc r ra rb) s fun t =>
      s.OnlyInterrupted t 5 s.pc (0x00800000 ||| v) (s.eaX ra rb)) ∧
    (s.userMode = false →
      ((s.eaD8 ra d8).toNat % 4 ≠ 0 → Runs (.eLmvsrrw ra d8) s fun t => s.OnlyInterrupted t 5 s.pc (0 ||| v) (s.eaD8 ra d8)) ∧
      ((s.eaD8 ra d8).toNat % 4 ≠ 0 → Runs (.eStmvsrrw ra d8) s fun t =>
        s.OnlyInterrupted t 5 s.pc (0x00800000 ||| v) (s.eaD8 ra d8)) ∧
      ((s.eaD8 ra d8).toNat % 4 ≠ 0 → Runs (.eLmvcsrrw ra d8) s fun t => s.OnlyInterrupted t 5 s.pc (0 ||| v) (s.eaD8 ra d8)) ∧
      ((s.eaD8 ra d8).toNat % 4 ≠ 0 → Runs (.eStmvcsrrw ra d8) s fun t =>
        s.OnlyInterrupted t 5 s.pc (0x00800000 ||| v) (s.eaD8 ra d8)) ∧
      ((s.eaD8 ra d8).toNat % 4 ≠ 0 → Runs (.eLmvdsrrw ra d8) s fun t => s.OnlyInterrupted t 5 s.pc (0 ||| v) (s.eaD8 ra d8)) ∧
      ((s.eaD8 ra d8).toNat % 4 ≠ 0 → Runs (.eStmvdsrrw ra d8) s fun t =>
        s.OnlyInterrupted t 5 s.pc (0x00800000 ||| v) (s.eaD8 ra d8)) ∧
      ((s.eaD8 ra d8).toNat % 4 ≠ 0 → Runs (.eLmvmcsrrw ra d8) s fun t => s.OnlyInterrupted t 5 s.pc (0 ||| v) (s.eaD8 ra d8)) ∧
      ((s.eaD8 ra d8).toNat % 4 ≠ 0 → Runs (.eStmvmcsrrw ra d8) s fun t =>
        s.OnlyInterrupted t 5 s.pc (0x00800000 ||| v) (s.eaD8 ra d8))) ∧
    (s.speOn = true →
      ((s.eaScaled ra uimm 8).toNat % 4 ≠ 0 → Runs (.evldd r ra uimm) s fun t =>
        s.OnlyInterrupted t 5 s.pc (0x80 ||| v) (s.eaScaled ra uimm 8)) ∧
      ((s.eaX ra rb).toNat % 4 ≠ 0 → Runs (.evlddx r ra rb) s fun t => s.OnlyInterrupted t 5 s.pc (0x80 ||| v) (s.eaX ra rb)) ∧
      ((s.eaScaled ra uimm 8).toNat % 4 ≠ 0 → Runs (.evldw r ra uimm) s fun t =>
        s.OnlyInterrupted t 5 s.pc (0x80 ||| v) (s.eaScaled ra uimm 8)) ∧
      ((s.eaX ra rb).toNat % 4 ≠ 0 → Runs (.evldwx r ra rb) s fun t => s.OnlyInterrupted t 5 s.pc (0x80 ||| v) (s.eaX ra rb)) ∧
      ((s.eaScaled ra uimm 8).toNat % 4 ≠ 0 → Runs (.evldh r ra uimm) s fun t =>
        s.OnlyInterrupted t 5 s.pc (0x80 ||| v) (s.eaScaled ra uimm 8)) ∧
      ((s.eaX ra rb).toNat % 4 ≠ 0 → Runs (.evldhx r ra rb) s fun t => s.OnlyInterrupted t 5 s.pc (0x80 ||| v) (s.eaX ra rb)) ∧
      ((s.eaScaled ra uimm 8).toNat % 4 ≠ 0 → Runs (.evstdd r ra uimm) s fun t =>
        s.OnlyInterrupted t 5 s.pc (0x00800080 ||| v) (s.eaScaled ra uimm 8)) ∧
      ((s.eaX ra rb).toNat % 4 ≠ 0 → Runs (.evstddx r ra rb) s fun t =>
        s.OnlyInterrupted t 5 s.pc (0x00800080 ||| v) (s.eaX ra rb)) ∧
      ((s.eaScaled ra uimm 8).toNat % 4 ≠ 0 → Runs (.evstdw r ra uimm) s fun t =>
        s.OnlyInterrupted t 5 s.pc (0x00800080 ||| v) (s.eaScaled ra uimm 8)) ∧
      ((s.eaX ra rb).toNat % 4 ≠ 0 → Runs (.evstdwx r ra rb) s fun t =>
        s.OnlyInterrupted t 5 s.pc (0x00800080 ||| v) (s.eaX ra rb)) ∧
      ((s.eaScaled ra uimm 8).toNat % 4 ≠ 0 → Runs (.evstdh r ra uimm) s fun t =>
        s.OnlyInterrupted t 5 s.pc (0x00800080 ||| v) (s.eaScaled ra uimm 8)) ∧
      ((s.eaX ra rb).toNat % 4 ≠ 0 → Runs (.evstdhx r ra rb) s fun t =>
        s.OnlyInterrupted t 5 s.pc (0x00800080 ||| v) (s.eaX ra rb)))

/-- A data access that misses the TLB, lacks permission or crosses pages of two byte orders takes its interrupt and changes
no register or memory. Steps 2 to 4 of the data access procedure (R410) for both pages (R418, R419), and the MAS registers
of a miss (R440); for MAS4[TIDSELD] = 01 and 10 the TID of MAS1 may be anything (U43, assumption log entry 4). That a page
mapped by more than one entry raises no byte-order exception is the model's choice (entry 24). -/
def Obligations.TranslationFaults : Prop :=
  ∀ (s : State) (ea : Word) (n : Nat) (value : Dword) (kind : AccessKind), s.idm = false →
    let esr (store : Bool) : Word :=
      (if store then 0x00800000 else 0) ||| (if kind = .spe then 0x80 else 0) ||| if s.cur.vle then 0x20 else 0
    let missed (t : State) (store : Bool) (a : Word) : Prop :=
      s.Interrupted t 13 s.pc (esr store) a ∧ s.MissLoaded t (bit s.msr 27) a
    let refused (t : State) (cause a : Word) : Prop := s.Interrupted t 2 s.pc cause a ∧ t.mmu = s.mmu
    (s.lookup (bit s.msr 27) ea = none →
      (∃ t, s.load ea n kind = .raised t ∧ missed t false ea) ∧
      ∃ t, s.store ea n value kind = .raised t ∧ missed t true ea) ∧
    ∀ m : Mapping, s.lookup (bit s.msr 27) ea = some m →
      (m.mayRead s.userMode = false → ∃ t, s.load ea n kind = .raised t ∧ refused t (esr false) ea) ∧
      (m.mayWrite s.userMode = false → ∃ t, s.store ea n value kind = .raised t ∧ refused t (esr true) ea) ∧
      (m.samePage ea (ea + BitVec.ofNat 32 (n - 1)) = false →
        let second := m.nextPage ea
        (s.lookup (bit s.msr 27) second = none →
          (m.mayRead s.userMode = true → ∃ t, s.load ea n kind = .raised t ∧ missed t false second) ∧
          (m.mayWrite s.userMode = true → ∃ t, s.store ea n value kind = .raised t ∧ missed t true second)) ∧
        ∀ m2 : Mapping, s.lookup (bit s.msr 27) second = some m2 →
          let split : Prop := m.multi = false ∧ m2.multi = false ∧ m.entry.e ≠ m2.entry.e
          (m.mayRead s.userMode = true → m2.mayRead s.userMode = false →
            ∃ t, s.load ea n kind = .raised t ∧ refused t (esr false) second) ∧
          (m.mayWrite s.userMode = true → m2.mayWrite s.userMode = false →
            ∃ t, s.store ea n value kind = .raised t ∧ refused t (esr true) second) ∧
          (m.mayRead s.userMode = true → m2.mayRead s.userMode = true → split →
            ∃ t, s.load ea n kind = .raised t ∧ refused t (esr false ||| 0x00020000) second) ∧
          (m.mayWrite s.userMode = true → m2.mayWrite s.userMode = true → split →
            ∃ t, s.store ea n value kind = .raised t ∧ refused t (esr true ||| 0x00020000) second))

/-- With MSR[SPE] = 0 every SPE and vector floating-point instruction takes the SPE unavailable interrupt. R2043, by case
analysis over the instruction set. -/
def Obligations.SpeUnavailable : Prop :=
  ∀ s : State, s.speOn = false →
    let unavailable (t : State) : Prop := s.Interrupted t 16 s.pc (0x80 ||| if s.cur.vle then 0x20 else 0) s.int.dear
    (∀ i : Instr, i.usesSpe = true → Runs i s unavailable) ∧ ∃ t, s.reject .doublePrecision = .next t ∧ unavailable t

/-- Every add instruction writes its sum, CA, OV, SO and CR0 as its form says, and nothing else. R610 to R618 with the
common rules R600 to R604. -/
def Obligations.AddInstructions : Prop :=
  ∀ (s : State) (rt ra rb : Reg) (si : BitVec 16),
    (Runs (.add rt ra rb) s fun t => s.SumResult t .plain rt (s.r ra) (s.r rb) (false)) ∧
    (Runs (.addRc rt ra rb) s fun t => s.SumResult t .record rt (s.r ra) (s.r rb) (false)) ∧
    (Runs (.addo rt ra rb) s fun t => s.SumResult t .overflow rt (s.r ra) (s.r rb) (false)) ∧
    (Runs (.addoRc rt ra rb) s fun t => s.SumResult t .overflowRecord rt (s.r ra) (s.r rb) (false)) ∧
    (Runs (.addc rt ra rb) s fun t => s.SumResult t .carry rt (s.r ra) (s.r rb) (false)) ∧
    (Runs (.addcRc rt ra rb) s fun t => s.SumResult t .carryRecord rt (s.r ra) (s.r rb) (false)) ∧
    (Runs (.addco rt ra rb) s fun t => s.SumResult t .carryOverflow rt (s.r ra) (s.r rb) (false)) ∧
    (Runs (.addcoRc rt ra rb) s fun t => s.SumResult t .carryOverflowRecord rt (s.r ra) (s.r rb) (false)) ∧
    (Runs (.adde rt ra rb) s fun t => s.SumResult t .carry rt (s.r ra) (s.r rb) (bit s.xer 2)) ∧
    (Runs (.addeRc rt ra rb) s fun t => s.SumResult t .carryRecord rt (s.r ra) (s.r rb) (bit s.xer 2)) ∧
    (Runs (.addeo rt ra rb) s fun t => s.SumResult t .carryOverflow rt (s.r ra) (s.r rb) (bit s.xer 2)) ∧
    (Runs (.addeoRc rt ra rb) s fun t => s.SumResult t .carryOverflowRecord rt (s.r ra) (s.r rb) (bit s.xer 2)) ∧
    (Runs (.addme rt ra) s fun t => s.SumResult t .carry rt (s.r ra) (-1) (bit s.xer 2)) ∧
    (Runs (.addmeRc rt ra) s fun t => s.SumResult t .carryRecord rt (s.r ra) (-1) (bit s.xer 2)) ∧
    (Runs (.addmeo rt ra) s fun t => s.SumResult t .carryOverflow rt (s.r ra) (-1) (bit s.xer 2)) ∧
    (Runs (.addmeoRc rt ra) s fun t => s.SumResult t .carryOverflowRecord rt (s.r ra) (-1) (bit s.xer 2)) ∧
    (Runs (.addze rt ra) s fun t => s.SumResult t .carry rt (s.r ra) (0) (bit s.xer 2)) ∧
    (Runs (.addzeRc rt ra) s fun t => s.SumResult t .carryRecord rt (s.r ra) (0) (bit s.xer 2)) ∧
    (Runs (.addzeo rt ra) s fun t => s.SumResult t .carryOverflow rt (s.r ra) (0) (bit s.xer 2)) ∧
    (Runs (.addzeoRc rt ra) s fun t => s.SumResult t .carryOverflowRecord rt (s.r ra) (0) (bit s.xer 2)) ∧
    (Runs (.addi rt ra si) s fun t => s.PlainResult t false rt (s.base ra + wordOf si.toInt)) ∧
    (Runs (.addis rt ra si) s fun t => s.PlainResult t false rt (s.base ra + wordOf (65536 * si.toNat))) ∧
    (Runs (.addic rt ra si) s fun t => s.SumResult t .carry rt (s.r ra) (wordOf si.toInt) false) ∧
    (Runs (.addicRc rt ra si) s fun t => s.SumResult t .carryRecord rt (s.r ra) (wordOf si.toInt) false)

/-- Every subtract and negate instruction writes its difference, CA, OV, SO and CR0 as its form says, and nothing else.
R620 to R626: a subtraction a - b is performed as not b + a + 1. -/
def Obligations.SubtractInstructions : Prop :=
  ∀ (s : State) (rt ra rb : Reg) (si : BitVec 16),
    (Runs (.subf rt ra rb) s fun t => s.SumResult t .plain rt (~~~(s.r ra)) (s.r rb) (true)) ∧
    (Runs (.subfRc rt ra rb) s fun t => s.SumResult t .record rt (~~~(s.r ra)) (s.r rb) (true)) ∧
    (Runs (.subfo rt ra rb) s fun t => s.SumResult t .overflow rt (~~~(s.r ra)) (s.r rb) (true)) ∧
    (Runs (.subfoRc rt ra rb) s fun t => s.SumResult t .overflowRecord rt (~~~(s.r ra)) (s.r rb) (true)) ∧
    (Runs (.subfc rt ra rb) s fun t => s.SumResult t .carry rt (~~~(s.r ra)) (s.r rb) (true)) ∧
    (Runs (.subfcRc rt ra rb) s fun t => s.SumResult t .carryRecord rt (~~~(s.r ra)) (s.r rb) (true)) ∧
    (Runs (.subfco rt ra rb) s fun t => s.SumResult t .carryOverflow rt (~~~(s.r ra)) (s.r rb) (true)) ∧
    (Runs (.subfcoRc rt ra rb) s fun t => s.SumResult t .carryOverflowRecord rt (~~~(s.r ra)) (s.r rb) (true)) ∧
    (Runs (.subfe rt ra rb) s fun t => s.SumResult t .carry rt (~~~(s.r ra)) (s.r rb) (bit s.xer 2)) ∧
    (Runs (.subfeRc rt ra rb) s fun t => s.SumResult t .carryRecord rt (~~~(s.r ra)) (s.r rb) (bit s.xer 2)) ∧
    (Runs (.subfeo rt ra rb) s fun t => s.SumResult t .carryOverflow rt (~~~(s.r ra)) (s.r rb) (bit s.xer 2)) ∧
    (Runs (.subfeoRc rt ra rb) s fun t => s.SumResult t .carryOverflowRecord rt (~~~(s.r ra)) (s.r rb) (bit s.xer 2)) ∧
    (Runs (.subfme rt ra) s fun t => s.SumResult t .carry rt (~~~(s.r ra)) (-1) (bit s.xer 2)) ∧
    (Runs (.subfmeRc rt ra) s fun t => s.SumResult t .carryRecord rt (~~~(s.r ra)) (-1) (bit s.xer 2)) ∧
    (Runs (.subfmeo rt ra) s fun t => s.SumResult t .carryOverflow rt (~~~(s.r ra)) (-1) (bit s.xer 2)) ∧
    (Runs (.subfmeoRc rt ra) s fun t => s.SumResult t .carryOverflowRecord rt (~~~(s.r ra)) (-1) (bit s.xer 2)) ∧
    (Runs (.subfze rt ra) s fun t => s.SumResult t .carry rt (~~~(s.r ra)) (0) (bit s.xer 2)) ∧
    (Runs (.subfzeRc rt ra) s fun t => s.SumResult t .carryRecord rt (~~~(s.r ra)) (0) (bit s.xer 2)) ∧
    (Runs (.subfzeo rt ra) s fun t => s.SumResult t .carryOverflow rt (~~~(s.r ra)) (0) (bit s.xer 2)) ∧
    (Runs (.subfzeoRc rt ra) s fun t => s.SumResult t .carryOverflowRecord rt (~~~(s.r ra)) (0) (bit s.xer 2)) ∧
    (Runs (.neg rt ra) s fun t => s.SumResult t .plain rt (~~~(s.r ra)) (0) (true)) ∧
    (Runs (.negRc rt ra) s fun t => s.SumResult t .record rt (~~~(s.r ra)) (0) (true)) ∧
    (Runs (.nego rt ra) s fun t => s.SumResult t .overflow rt (~~~(s.r ra)) (0) (true)) ∧
    (Runs (.negoRc rt ra) s fun t => s.SumResult t .overflowRecord rt (~~~(s.r ra)) (0) (true)) ∧
    (Runs (.subfic rt ra si) s fun t => s.SumResult t .carry rt (~~~(s.r ra)) (wordOf si.toInt) true) ∧
    (∀ t, exec (.subf rt ra rb) s = .next t → t.r rt = wordOf ((s.r rb).toInt - (s.r ra).toInt)) ∧
    (∀ t, exec (.subfc rt ra rb) s = .next t → bit t.xer 2 = decide ((s.r ra).toNat ≤ (s.r rb).toNat)) ∧
    (∀ t, exec (.nego rt ra) s = .next t → bit t.xer 1 = decide (s.r ra = 0x80000000))

/-- The multiplies deliver the low or high word of the product, the divides the quotient toward zero. R630 to R635, over
the integers; the undefined quotient holds for every value (assumption log entry 4). -/
def Obligations.MultiplyDivideInstructions : Prop :=
  ∀ (s : State) (rt ra rb : Reg) (si : BitVec 16),
    let a := s.r ra
    let b := s.r rb
    (Runs (.mullw rt ra rb) s fun t => s.ProductResult t .plain rt (s.r ra) (s.r rb)) ∧
    (Runs (.mullwRc rt ra rb) s fun t => s.ProductResult t .record rt (s.r ra) (s.r rb)) ∧
    (Runs (.mullwo rt ra rb) s fun t => s.ProductResult t .overflow rt (s.r ra) (s.r rb)) ∧
    (Runs (.mullwoRc rt ra rb) s fun t => s.ProductResult t .overflowRecord rt (s.r ra) (s.r rb)) ∧
    (Runs (.mulli rt ra si) s fun t => s.ProductResult t .plain rt (s.r ra) (wordOf si.toInt)) ∧
    (Runs (.mulhw rt ra rb) s fun t => s.PlainResult t false rt (wordOf ((s.r ra).toInt * (s.r rb).toInt / 4294967296))) ∧
    (Runs (.mulhwu rt ra rb) s fun t =>
      s.PlainResult t false rt (BitVec.ofNat 32 ((s.r ra).toNat * (s.r rb).toNat / 4294967296))) ∧
    (Runs (.mulhwRc rt ra rb) s fun t => s.PlainResult t true rt (wordOf ((s.r ra).toInt * (s.r rb).toInt / 4294967296))) ∧
    (Runs (.mulhwuRc rt ra rb) s fun t =>
      s.PlainResult t true rt (BitVec.ofNat 32 ((s.r ra).toNat * (s.r rb).toNat / 4294967296))) ∧
    (¬(b = 0 ∨ (a = 0x80000000 ∧ b = 0xFFFFFFFF)) →
      (Runs (.divw rt ra rb) s fun t => s.IntegerResult t .plain rt (wordOf (a.toInt.tdiv b.toInt)) false false) ∧
      (Runs (.divwRc rt ra rb) s fun t => s.IntegerResult t .record rt (wordOf (a.toInt.tdiv b.toInt)) false false) ∧
      (Runs (.divwo rt ra rb) s fun t => s.IntegerResult t .overflow rt (wordOf (a.toInt.tdiv b.toInt)) false false) ∧
      (Runs (.divwoRc rt ra rb) s fun t =>
        s.IntegerResult t .overflowRecord rt (wordOf (a.toInt.tdiv b.toInt)) false false)) ∧
    (b = 0 ∨ (a = 0x80000000 ∧ b = 0xFFFFFFFF) →
      (Runs (.divw rt ra rb) s fun t => s.UndefinedQuotient t .plain rt) ∧
      (Runs (.divwRc rt ra rb) s fun t => s.UndefinedQuotient t .record rt) ∧
      (Runs (.divwo rt ra rb) s fun t => s.UndefinedQuotient t .overflow rt) ∧
      (Runs (.divwoRc rt ra rb) s fun t => s.UndefinedQuotient t .overflowRecord rt)) ∧
    (b ≠ 0 →
      (Runs (.divwu rt ra rb) s fun t => s.IntegerResult t .plain rt (BitVec.ofNat 32 (a.toNat / b.toNat)) false false) ∧
      (Runs (.divwuRc rt ra rb) s fun t => s.IntegerResult t .record rt (BitVec.ofNat 32 (a.toNat / b.toNat)) false false) ∧
      (Runs (.divwuo rt ra rb) s fun t =>
        s.IntegerResult t .overflow rt (BitVec.ofNat 32 (a.toNat / b.toNat)) false false) ∧
      (Runs (.divwuoRc rt ra rb) s fun t =>
        s.IntegerResult t .overflowRecord rt (BitVec.ofNat 32 (a.toNat / b.toNat)) false false)) ∧
    (b = 0 →
      (Runs (.divwu rt ra rb) s fun t => s.UndefinedQuotient t .plain rt) ∧
      (Runs (.divwuRc rt ra rb) s fun t => s.UndefinedQuotient t .record rt) ∧
      (Runs (.divwuo rt ra rb) s fun t => s.UndefinedQuotient t .overflow rt) ∧
      (Runs (.divwuoRc rt ra rb) s fun t => s.UndefinedQuotient t .overflowRecord rt))

/-- The logical instructions compute each bit from the source bits; extsb, extsh and cntlzw deliver their results. R640 to
R656, bit by bit. -/
def Obligations.LogicalInstructions : Prop :=
  ∀ (s : State) (rs ra rb : Reg) (ui : BitVec 16),
    (Runs (.and rs ra rb) s fun t => s.BitsResult t false ra fun i => bit (s.r rs) i && bit (s.r rb) i) ∧
    (Runs (.andRc rs ra rb) s fun t => s.BitsResult t true ra fun i => bit (s.r rs) i && bit (s.r rb) i) ∧
    (Runs (.andc rs ra rb) s fun t => s.BitsResult t false ra fun i => bit (s.r rs) i && !bit (s.r rb) i) ∧
    (Runs (.andcRc rs ra rb) s fun t => s.BitsResult t true ra fun i => bit (s.r rs) i && !bit (s.r rb) i) ∧
    (Runs (.or rs ra rb) s fun t => s.BitsResult t false ra fun i => bit (s.r rs) i || bit (s.r rb) i) ∧
    (Runs (.orRc rs ra rb) s fun t => s.BitsResult t true ra fun i => bit (s.r rs) i || bit (s.r rb) i) ∧
    (Runs (.orc rs ra rb) s fun t => s.BitsResult t false ra fun i => bit (s.r rs) i || !bit (s.r rb) i) ∧
    (Runs (.orcRc rs ra rb) s fun t => s.BitsResult t true ra fun i => bit (s.r rs) i || !bit (s.r rb) i) ∧
    (Runs (.xor rs ra rb) s fun t => s.BitsResult t false ra fun i => bit (s.r rs) i != bit (s.r rb) i) ∧
    (Runs (.xorRc rs ra rb) s fun t => s.BitsResult t true ra fun i => bit (s.r rs) i != bit (s.r rb) i) ∧
    (Runs (.nand rs ra rb) s fun t => s.BitsResult t false ra fun i => !(bit (s.r rs) i && bit (s.r rb) i)) ∧
    (Runs (.nandRc rs ra rb) s fun t => s.BitsResult t true ra fun i => !(bit (s.r rs) i && bit (s.r rb) i)) ∧
    (Runs (.nor rs ra rb) s fun t => s.BitsResult t false ra fun i => !(bit (s.r rs) i || bit (s.r rb) i)) ∧
    (Runs (.norRc rs ra rb) s fun t => s.BitsResult t true ra fun i => !(bit (s.r rs) i || bit (s.r rb) i)) ∧
    (Runs (.eqv rs ra rb) s fun t => s.BitsResult t false ra fun i => bit (s.r rs) i == bit (s.r rb) i) ∧
    (Runs (.eqvRc rs ra rb) s fun t => s.BitsResult t true ra fun i => bit (s.r rs) i == bit (s.r rb) i) ∧
    (Runs (.andiRc rs ra ui) s fun t =>
      s.BitsResult t true ra fun i => bit (s.r rs) i && bit (BitVec.ofNat 32 ui.toNat) i) ∧
    (Runs (.andisRc rs ra ui) s fun t =>
      s.BitsResult t true ra fun i => bit (s.r rs) i && bit (BitVec.ofNat 32 (65536 * ui.toNat)) i) ∧
    (Runs (.ori rs ra ui) s fun t => s.BitsResult t false ra fun i => bit (s.r rs) i || bit (BitVec.ofNat 32 ui.toNat) i) ∧
    (Runs (.oris rs ra ui) s fun t =>
      s.BitsResult t false ra fun i => bit (s.r rs) i || bit (BitVec.ofNat 32 (65536 * ui.toNat)) i) ∧
    (Runs (.xori rs ra ui) s fun t => s.BitsResult t false ra fun i => bit (s.r rs) i != bit (BitVec.ofNat 32 ui.toNat) i) ∧
    (Runs (.xoris rs ra ui) s fun t =>
      s.BitsResult t false ra fun i => bit (s.r rs) i != bit (BitVec.ofNat 32 (65536 * ui.toNat)) i) ∧
    (Runs (.extsb rs ra) s fun t => s.PlainResult t false ra (wordOf ((s.r rs).setWidth 8).toInt)) ∧
    (Runs (.extsh rs ra) s fun t => s.PlainResult t false ra (wordOf ((s.r rs).setWidth 16).toInt)) ∧
    (Runs (.cntlzw rs ra) s fun t => ∃ n, s.PlainResult t false ra (BitVec.ofNat 32 n) ∧ LeadingRun (s.r rs) false n) ∧
    (Runs (.extsbRc rs ra) s fun t => s.PlainResult t true ra (wordOf ((s.r rs).setWidth 8).toInt)) ∧
    (Runs (.extshRc rs ra) s fun t => s.PlainResult t true ra (wordOf ((s.r rs).setWidth 16).toInt)) ∧
    (Runs (.cntlzwRc rs ra) s fun t => ∃ n, s.PlainResult t true ra (BitVec.ofNat 32 n) ∧ LeadingRun (s.r rs) false n)

/-- The rotates insert or keep the bits under the mask,
  and the shifts multiply or divide by a power of two. R659 to R666. -/
def Obligations.RotateAndShiftInstructions : Prop :=
  ∀ (s : State) (rs ra rb : Reg) (sh mb me : BitVec 5),
    (Runs (.rlwimi rs ra sh mb me) s fun t => s.BitsResult t false ra fun i =>
      if inMask mb me i then rotatedBit (s.r rs) sh.toNat i else bit (s.r ra) i) ∧
    (Runs (.rlwinm rs ra sh mb me) s fun t =>
      s.BitsResult t false ra fun i => inMask mb me i && rotatedBit (s.r rs) sh.toNat i) ∧
    (Runs (.rlwnm rs ra rb mb me) s fun t =>
      s.BitsResult t false ra fun i => inMask mb me i && rotatedBit (s.r rs) ((s.r rb).toNat % 32) i) ∧
    (Runs (.rlwimiRc rs ra sh mb me) s fun t => s.BitsResult t true ra fun i =>
      if inMask mb me i then rotatedBit (s.r rs) sh.toNat i else bit (s.r ra) i) ∧
    (Runs (.rlwinmRc rs ra sh mb me) s fun t =>
      s.BitsResult t true ra fun i => inMask mb me i && rotatedBit (s.r rs) sh.toNat i) ∧
    (Runs (.rlwnmRc rs ra rb mb me) s fun t =>
      s.BitsResult t true ra fun i => inMask mb me i && rotatedBit (s.r rs) ((s.r rb).toNat % 32) i) ∧
    (Runs (.slw rs ra rb) s fun t => s.PlainResult t false ra
      (if (s.r rb).toNat % 64 < 32 then BitVec.ofNat 32 ((s.r rs).toNat * 2 ^ ((s.r rb).toNat % 64)) else 0)) ∧
    (Runs (.srw rs ra rb) s fun t => s.PlainResult t false ra
      (if (s.r rb).toNat % 64 < 32 then BitVec.ofNat 32 ((s.r rs).toNat / 2 ^ ((s.r rb).toNat % 64)) else 0)) ∧
    (Runs (.sraw rs ra rb) s fun t => s.AlgebraicResult t false ra (s.r rs) ((s.r rb).toNat % 64)) ∧
    (Runs (.srawi rs ra sh) s fun t => s.AlgebraicResult t false ra (s.r rs) sh.toNat) ∧
    (Runs (.slwRc rs ra rb) s fun t => s.PlainResult t true ra
      (if (s.r rb).toNat % 64 < 32 then BitVec.ofNat 32 ((s.r rs).toNat * 2 ^ ((s.r rb).toNat % 64)) else 0)) ∧
    (Runs (.srwRc rs ra rb) s fun t => s.PlainResult t true ra
      (if (s.r rb).toNat % 64 < 32 then BitVec.ofNat 32 ((s.r rs).toNat / 2 ^ ((s.r rb).toNat % 64)) else 0)) ∧
    (Runs (.srawRc rs ra rb) s fun t => s.AlgebraicResult t true ra (s.r rs) ((s.r rb).toNat % 64)) ∧
    (Runs (.srawiRc rs ra sh) s fun t => s.AlgebraicResult t true ra (s.r rs) sh.toNat)

/-- The compares write one CR field; tw and twi trap exactly when a selected condition holds. R670 to R673, R680, R681. -/
def Obligations.CompareAndTrapInstructions : Prop :=
  ∀ (s : State) (bf : CrField) (tcond : BitVec 5) (ra rb : Reg) (si : BitVec 16),
    let trapped (t : State) : Prop := s.Interrupted t 6 s.pc (0x02000000 ||| if s.cur.vle then 0x20 else 0) s.int.dear
    (Runs (.cmp bf ra rb) s fun t => s.FieldResult t bf
      (crBits (decide ((s.r ra).toInt < (s.r rb).toInt)) (decide ((s.r rb).toInt < (s.r ra).toInt)) (decide ((s.r ra).toInt = (s.r rb).toInt)) (bit s.xer 0))) ∧
    (Runs (.cmpi bf ra si) s fun t => s.FieldResult t bf
      (crBits (decide ((s.r ra).toInt < si.toInt)) (decide (si.toInt < (s.r ra).toInt)) (decide ((s.r ra).toInt = si.toInt)) (bit s.xer 0))) ∧
    (Runs (.cmpl bf ra rb) s fun t => s.FieldResult t bf
      (crBits (decide ((s.r ra).toNat < (s.r rb).toNat)) (decide ((s.r rb).toNat < (s.r ra).toNat)) (decide ((s.r ra).toNat = (s.r rb).toNat)) (bit s.xer 0))) ∧
    (Runs (.cmpli bf ra si) s fun t => s.FieldResult t bf
      (crBits (decide ((s.r ra).toNat < si.toNat)) (decide (si.toNat < (s.r ra).toNat)) (decide ((s.r ra).toNat = si.toNat)) (bit s.xer 0))) ∧
    (¬Traps tcond (s.r ra) (s.r rb) → Runs (.tw tcond ra rb) s fun t => t = { s with pc := s.pc + 4 }) ∧
    (¬Traps tcond (s.r ra) (wordOf si.toInt) → Runs (.twi tcond ra si) s fun t => t = { s with pc := s.pc + 4 }) ∧
    (s.debugNow 7 = false →
      (Traps tcond (s.r ra) (s.r rb) → Runs (.tw tcond ra rb) s trapped) ∧
      (Traps tcond (s.r ra) (wordOf si.toInt) → Runs (.twi tcond ra si) s trapped))

/-- Branches go where the spec says, count CTR, and link. R700 to R705. That bclr and bcctr drop only the lowest bit of their
target, as R701, R704, R705 and R53 say, against two rows of spec/95_test_vectors.md that drop two, is the model's choice
(assumption log entry 27, DEDUCED). -/
def Obligations.BranchInstructions : Prop :=
  ∀ (s : State) (li : BitVec 24) (bo bi : BitVec 5) (bd : BitVec 14), bit s.pc 31 = false → s.debugNow 5 = false →
    (Runs (.b li) s fun t => s.BranchResult t True false s.ctr (s.pc + wordOf (4 * li.toInt))) ∧
    (Runs (.ba li) s fun t => s.BranchResult t True false s.ctr (wordOf (4 * li.toInt))) ∧
    (Runs (.bl li) s fun t => s.BranchResult t True true s.ctr (s.pc + wordOf (4 * li.toInt))) ∧
    (Runs (.bla li) s fun t => s.BranchResult t True true s.ctr (wordOf (4 * li.toInt))) ∧
    (Runs (.bc bo bi bd) s fun t =>
      s.BranchResult t (Taken s bo bi) false (countAfter bo s.ctr) (s.pc + wordOf (4 * bd.toInt))) ∧
    (Runs (.bca bo bi bd) s fun t => s.BranchResult t (Taken s bo bi) false (countAfter bo s.ctr) (wordOf (4 * bd.toInt))) ∧
    (Runs (.bcl bo bi bd) s fun t =>
      s.BranchResult t (Taken s bo bi) true (countAfter bo s.ctr) (s.pc + wordOf (4 * bd.toInt))) ∧
    (Runs (.bcla bo bi bd) s fun t => s.BranchResult t (Taken s bo bi) true (countAfter bo s.ctr) (wordOf (4 * bd.toInt))) ∧
    (Runs (.bclr bo bi) s fun t => s.BranchResult t (Taken s bo bi) false (countAfter bo s.ctr) (registerTarget s.lr)) ∧
    (Runs (.bclrl bo bi) s fun t => s.BranchResult t (Taken s bo bi) true (countAfter bo s.ctr) (registerTarget s.lr)) ∧
    (Runs (.bcctr bo bi) s fun t => s.BranchResult t (Taken s bo bi) false (countAfter bo s.ctr) (registerTarget s.ctr)) ∧
    (Runs (.bcctrl bo bi) s fun t => s.BranchResult t (Taken s bo bi) true (countAfter bo s.ctr) (registerTarget s.ctr))

/-- The CR logical and move instructions and isel write exactly the bits they name. R709 to R725. -/
def Obligations.ConditionRegisterInstructions : Prop :=
  ∀ (s : State) (bt ba bb : CrBit) (bf bfa : CrField) (rs rt ra rb : Reg) (fxm : BitVec 8),
    (Runs (.crand bt ba bb) s fun t => s.BitResult t bt (bit s.cr ba.toNat && bit s.cr bb.toNat)) ∧
    (Runs (.crandc bt ba bb) s fun t => s.BitResult t bt (bit s.cr ba.toNat && !bit s.cr bb.toNat)) ∧
    (Runs (.creqv bt ba bb) s fun t => s.BitResult t bt (bit s.cr ba.toNat == bit s.cr bb.toNat)) ∧
    (Runs (.crnand bt ba bb) s fun t => s.BitResult t bt (!(bit s.cr ba.toNat && bit s.cr bb.toNat))) ∧
    (Runs (.crnor bt ba bb) s fun t => s.BitResult t bt (!(bit s.cr ba.toNat || bit s.cr bb.toNat))) ∧
    (Runs (.cror bt ba bb) s fun t => s.BitResult t bt (bit s.cr ba.toNat || bit s.cr bb.toNat)) ∧
    (Runs (.crorc bt ba bb) s fun t => s.BitResult t bt (bit s.cr ba.toNat || !bit s.cr bb.toNat)) ∧
    (Runs (.crxor bt ba bb) s fun t => s.BitResult t bt (bit s.cr ba.toNat != bit s.cr bb.toNat)) ∧
    (Runs (.mcrf bf bfa) s fun t => s.FieldResult t bf (s.crField bfa)) ∧
    (Runs (.mcrxr bf) s fun t => t.crField bf = bits 0 4 s.xer ∧ (∀ k : CrField, k ≠ bf → t.crField k = s.crField k) ∧
      (∀ k, k < 4 → bit t.xer k = false) ∧ (∀ k, 4 ≤ k → k < 32 → bit t.xer k = bit s.xer k) ∧
      t = { s with cr := t.cr, xer := t.xer, pc := s.pc + 4 }) ∧
    (Runs (.mtcrf rs fxm) s fun t => (∀ k : CrField,
      t.crField k = if fxm.getMsbD k.toNat then bits (4 * k.toNat) 4 (s.r rs) else s.crField k) ∧
      t = { s with cr := t.cr, pc := s.pc + 4 }) ∧
    (Runs (.mfcr rt) s fun t => s.PlainResult t false rt s.cr) ∧
    (Runs (.isel rt ra rb bt) s fun t => s.PlainResult t false rt (if bit s.cr bt.toNat then s.base ra else s.r rb))

/-- Every integer load delivers its bytes in the page's order, updates its base, and changes nothing else. R750 to R775,
R800, R801. That an update form with RA = 0 uses base 0 and writes GPR0 is the model's choice (assumption log entry
28, DEDUCED from D78). -/
def Obligations.LoadInstructions : Prop :=
  ∀ (s : State) (rt ra rb : Reg) (d : BitVec 16),
    (s.eaD ra d = (if ra = 0 then 0 else s.r ra) + wordOf d.toInt) ∧
    (s.eaX ra rb = (if ra = 0 then 0 else s.r ra) + s.r rb) ∧
    LoadsInto (.lbz rt ra d) s 1 rt none (s.eaD ra d) zeroExtended ∧
    LoadsInto (.lbzu rt ra d) s 1 rt (some ra) (s.eaD ra d) zeroExtended ∧
    LoadsInto (.lbzx rt ra rb) s 1 rt none (s.eaX ra rb) zeroExtended ∧
    LoadsInto (.lbzux rt ra rb) s 1 rt (some ra) (s.eaX ra rb) zeroExtended ∧
    LoadsInto (.lhz rt ra d) s 2 rt none (s.eaD ra d) zeroExtended ∧
    LoadsInto (.lhzu rt ra d) s 2 rt (some ra) (s.eaD ra d) zeroExtended ∧
    LoadsInto (.lhzx rt ra rb) s 2 rt none (s.eaX ra rb) zeroExtended ∧
    LoadsInto (.lhzux rt ra rb) s 2 rt (some ra) (s.eaX ra rb) zeroExtended ∧
    LoadsInto (.lha rt ra d) s 2 rt none (s.eaD ra d) signExtended ∧
    LoadsInto (.lhau rt ra d) s 2 rt (some ra) (s.eaD ra d) signExtended ∧
    LoadsInto (.lhax rt ra rb) s 2 rt none (s.eaX ra rb) signExtended ∧
    LoadsInto (.lhaux rt ra rb) s 2 rt (some ra) (s.eaX ra rb) signExtended ∧
    LoadsInto (.lwz rt ra d) s 4 rt none (s.eaD ra d) zeroExtended ∧
    LoadsInto (.lwzu rt ra d) s 4 rt (some ra) (s.eaD ra d) zeroExtended ∧
    LoadsInto (.lwzx rt ra rb) s 4 rt none (s.eaX ra rb) zeroExtended ∧
    LoadsInto (.lwzux rt ra rb) s 4 rt (some ra) (s.eaX ra rb) zeroExtended ∧
    LoadsInto (.lhbrx rt ra rb) s 2 rt none (s.eaX ra rb) reversed ∧
    LoadsInto (.lwbrx rt ra rb) s 4 rt none (s.eaX ra rb) reversed

/-- Every integer store writes its bytes in the page's order, updates its base, and changes no other byte. R750 to R752,
R780 to R791, R802, R803. That an update form with RA = 0 uses base 0 and writes GPR0 is the model's choice
(assumption log entry 28, DEDUCED from D78). That a byte which the model's memory does not hold, in a read-only or device
region of the platform, keeps its value is the model's choice (assumption log entry 38, DESIGN CHOICE). -/
def Obligations.StoreInstructions : Prop :=
  ∀ (s : State) (rs ra rb : Reg) (d : BitVec 16),
    StoresFrom (.stb rs ra d) s 1 none (s.eaD ra d) (lowBytes 1 (s.r rs)) ∧
    StoresFrom (.stbu rs ra d) s 1 (some ra) (s.eaD ra d) (lowBytes 1 (s.r rs)) ∧
    StoresFrom (.stbx rs ra rb) s 1 none (s.eaX ra rb) (lowBytes 1 (s.r rs)) ∧
    StoresFrom (.stbux rs ra rb) s 1 (some ra) (s.eaX ra rb) (lowBytes 1 (s.r rs)) ∧
    StoresFrom (.sth rs ra d) s 2 none (s.eaD ra d) (lowBytes 2 (s.r rs)) ∧
    StoresFrom (.sthu rs ra d) s 2 (some ra) (s.eaD ra d) (lowBytes 2 (s.r rs)) ∧
    StoresFrom (.sthx rs ra rb) s 2 none (s.eaX ra rb) (lowBytes 2 (s.r rs)) ∧
    StoresFrom (.sthux rs ra rb) s 2 (some ra) (s.eaX ra rb) (lowBytes 2 (s.r rs)) ∧
    StoresFrom (.stw rs ra d) s 4 none (s.eaD ra d) (lowBytes 4 (s.r rs)) ∧
    StoresFrom (.stwu rs ra d) s 4 (some ra) (s.eaD ra d) (lowBytes 4 (s.r rs)) ∧
    StoresFrom (.stwx rs ra rb) s 4 none (s.eaX ra rb) (lowBytes 4 (s.r rs)) ∧
    StoresFrom (.stwux rs ra rb) s 4 (some ra) (s.eaX ra rb) (lowBytes 4 (s.r rs)) ∧
    StoresFrom (.sthbrx rs ra rb) s 2 none (s.eaX ra rb) (fun e => lowBytes 2 (s.r rs) (!e)) ∧
    StoresFrom (.stwbrx rs ra rb) s 4 none (s.eaX ra rb) (fun e => lowBytes 4 (s.r rs) (!e))

/-- lmw, stmw, e_lmw, e_stmw move registers RT or RS to r31 and consecutive words; an interrupt inside them leaves a
prefix done. R810, R811, R992; R2011 for the interrupt inside. That the host says after which transfer it arrives is the
model's choice (assumption log entry 6); it brings no edge of p_nmi_b or p_mcp_b, since the pins are as sampled (SamplesPins,
the invariant of LegalIsKept; assumption log entry 43, DESIGN CHOICE). That a byte which the model's memory does not hold, in a read-only or device
region of the platform, keeps its value is the model's choice (assumption log entry 38, DESIGN CHOICE). -/
def Obligations.MultipleInstructions : Prop :=
  ∀ (s : State) (r ra : Reg) (d : BitVec 16) (d8 : BitVec 8) (m : Nat → Mapping) (j : Nat),
    let interrupted : Prop := s.InputInside j (32 - r.toNat)
    let taken (t : State) : Prop := s.AbandonedFor t ∧ t.cr = s.cr ∧ t.xer = s.xer ∧ t.lr = s.lr ∧ t.ctr = s.ctr
    ((s.eaD ra d).toNat % 4 = 0 →
      (s.midway = [] → s.CanLoadWords (s.eaD ra d) (32 - r.toNat) m →
        Runs (.lmw r ra d) s fun t =>
          (∀ k, k < 32 - r.toNat → t.r (r + BitVec.ofNat 5 k) = s.wordAt m (s.eaD ra d) k) ∧
          (∀ q : Reg, q.toNat < r.toNat → t.r64 q = s.r64 q) ∧ s.KeepsUpper t ∧ t.pc = s.pc + 4 ∧ s.OnlyLoad t) ∧
      (interrupted → s.CanLoadWords (s.eaD ra d) j m →
        Runs (.lmw r ra d) s fun t => taken t ∧
          (∀ k, k < j → t.r (r + BitVec.ofNat 5 k) = s.wordAt m (s.eaD ra d) k) ∧
          (∀ q : Reg, q.toNat < r.toNat ∨ r.toNat + j ≤ q.toNat → t.r64 q = s.r64 q) ∧ s.KeepsUpper t ∧ t.mem = s.mem)) ∧
    ((s.eaD8 ra d8).toNat % 4 = 0 →
      (s.midway = [] → s.CanLoadWords (s.eaD8 ra d8) (32 - r.toNat) m →
        Runs (.eLmw r ra d8) s fun t =>
          (∀ k, k < 32 - r.toNat → t.r (r + BitVec.ofNat 5 k) = s.wordAt m (s.eaD8 ra d8) k) ∧
          (∀ q : Reg, q.toNat < r.toNat → t.r64 q = s.r64 q) ∧ s.KeepsUpper t ∧ t.pc = s.pc + 4 ∧ s.OnlyLoad t) ∧
      (interrupted → s.CanLoadWords (s.eaD8 ra d8) j m →
        Runs (.eLmw r ra d8) s fun t => taken t ∧
          (∀ k, k < j → t.r (r + BitVec.ofNat 5 k) = s.wordAt m (s.eaD8 ra d8) k) ∧
          (∀ q : Reg, q.toNat < r.toNat ∨ r.toNat + j ≤ q.toNat → t.r64 q = s.r64 q) ∧ s.KeepsUpper t ∧ t.mem = s.mem)) ∧
    ((s.eaD ra d).toNat % 4 = 0 →
      (s.midway = [] → s.CanStoreWords (s.eaD ra d) (32 - r.toNat) m →
        Runs (.stmw r ra d) s fun t =>
          s.Stored t none (s.eaD ra d) (wordAddresses m (s.eaD ra d) (32 - r.toNat))
            (wordImages m ((List.range (32 - r.toNat)).map fun k => s.r (r + BitVec.ofNat 5 k)))) ∧
      (interrupted → s.CanStoreWords (s.eaD ra d) j m →
        Runs (.stmw r ra d) s fun t => taken t ∧ t.gpr = s.gpr ∧
          s.Stores t (wordAddresses m (s.eaD ra d) j)
            (wordImages m ((List.range j).map fun k => s.r (r + BitVec.ofNat 5 k))))) ∧
    ((s.eaD8 ra d8).toNat % 4 = 0 →
      (s.midway = [] → s.CanStoreWords (s.eaD8 ra d8) (32 - r.toNat) m →
        Runs (.eStmw r ra d8) s fun t =>
          s.Stored t none (s.eaD8 ra d8) (wordAddresses m (s.eaD8 ra d8) (32 - r.toNat))
            (wordImages m ((List.range (32 - r.toNat)).map fun k => s.r (r + BitVec.ofNat 5 k)))) ∧
      (interrupted → s.CanStoreWords (s.eaD8 ra d8) j m →
        Runs (.eStmw r ra d8) s fun t => taken t ∧ t.gpr = s.gpr ∧
          s.Stores t (wordAddresses m (s.eaD8 ra d8) j)
            (wordImages m ((List.range j).map fun k => s.r (r + BitVec.ofNat 5 k)))))

/-- The load-and-reserve forms set the reservation; the store conditionals store only with one, say so in CR0, and clear
it. R820 to R833, R450 to R452. A bus error on a store conditional is an error report machine check on a guarded page (the
table of R2050). The model's own choices: that on another page it is asynchronous only, and the instruction completes with
nothing written, its CR0 and reservation as R830 says (assumption log entry 20, DEDUCED: R412 names no condition on the page);
XFAIL as a level sampled at the access (entry 23, DESIGN CHOICE); that a byte in a read-only or device region of the platform
keeps its value (entry 38, DESIGN CHOICE). -/
def Obligations.ReservationInstructions : Prop :=
  ∀ (s : State) (r ra rb : Reg) (m m2 : Mapping),
    let reported (t : State) : Prop :=
      s.KeepsProgram t ∧ t.int.mcsrr0 = s.pc ∧ bit t.int.mcsr 17 = true ∧ bit t.int.mcsr 18 = true
    let unreported (t : State) : Prop :=
      t.crField 0 = crBits false false true (bit s.xer 0) ∧ (∀ k : CrField, k ≠ 0 → t.crField k = s.crField k) ∧
      bit t.int.mcsr 29 = true ∧
      t = { s with
        cr := t.cr, pc := s.pc + 4, psu := t.psu, cur := t.cur, reserve := false
        int := { s.int with mcsr := t.int.mcsr, mcar := t.int.mcar } }
    ((s.eaX ra rb).toNat % 4 = 0 → s.CanLoad (s.eaX ra rb) 4 m m2 →
      Runs (.lwarx r ra rb) s fun t =>
        t.r r = zeroExtended m.entry.e (s.bytesAt m m2 (s.eaX ra rb) 4) ∧ s.KeepsUpper t ∧ s.KeepsRegisters t [r] ∧
        t = { s with gpr := t.gpr, pc := s.pc + 4, psu := t.psu, cur := t.cur, reserve := true }) ∧
    ((s.eaX ra rb).toNat % 2 = 0 → s.CanLoad (s.eaX ra rb) 2 m m2 →
      Runs (.lharx r ra rb) s fun t =>
        t.r r = zeroExtended m.entry.e (s.bytesAt m m2 (s.eaX ra rb) 2) ∧ s.KeepsUpper t ∧ s.KeepsRegisters t [r] ∧
        t = { s with gpr := t.gpr, pc := s.pc + 4, psu := t.psu, cur := t.cur, reserve := true }) ∧
    ((s.eaX ra rb).toNat % 1 = 0 → s.CanLoad (s.eaX ra rb) 1 m m2 →
      Runs (.lbarx r ra rb) s fun t =>
        t.r r = zeroExtended m.entry.e (s.bytesAt m m2 (s.eaX ra rb) 1) ∧ s.KeepsUpper t ∧ s.KeepsRegisters t [r] ∧
        t = { s with gpr := t.gpr, pc := s.pc + 4, psu := t.psu, cur := t.cur, reserve := true }) ∧
    (s.reserve = false → Runs (.stwcxRc r ra rb) s fun t => s.FieldResult t 0 (crBits false false false (bit s.xer 0))) ∧
    (s.reserve = true → (s.eaX ra rb).toNat % 4 = 0 → s.CanStore (s.eaX ra rb) 4 m m2 →
      Runs (.stwcxRc r ra rb) s fun t =>
        (if s.pins.xfail then t.mem = s.mem
          else s.Stores t (realAddresses m m2 (s.eaX ra rb) 4) (lowBytes 4 (s.r r) m.entry.e)) ∧
        t.crField 0 = crBits false false (!s.pins.xfail) (bit s.xer 0) ∧
        (∀ k : CrField, k ≠ 0 → t.crField k = s.crField k) ∧
        t = { s with cr := t.cr, pc := s.pc + 4, mem := t.mem, psu := t.psu, cur := t.cur, reserve := false }) ∧
    (s.reserve = true → (s.eaX ra rb).toNat % 4 = 0 → s.MapsData (s.eaX ra rb) 4 m m2 →
      m.mayWrite s.userMode = true → m2.mayWrite s.userMode = true →
      s.busError .store (realAddresses m m2 (s.eaX ra rb) 4) = true →
      (m.entry.g = true → s.idm = false → Runs (.stwcxRc r ra rb) s fun t => reported t) ∧
      (m.entry.g = false → Runs (.stwcxRc r ra rb) s fun t => unreported t)) ∧
    (s.reserve = false → Runs (.sthcxRc r ra rb) s fun t => s.FieldResult t 0 (crBits false false false (bit s.xer 0))) ∧
    (s.reserve = true → (s.eaX ra rb).toNat % 2 = 0 → s.CanStore (s.eaX ra rb) 2 m m2 →
      Runs (.sthcxRc r ra rb) s fun t =>
        (if s.pins.xfail then t.mem = s.mem
          else s.Stores t (realAddresses m m2 (s.eaX ra rb) 2) (lowBytes 2 (s.r r) m.entry.e)) ∧
        t.crField 0 = crBits false false (!s.pins.xfail) (bit s.xer 0) ∧
        (∀ k : CrField, k ≠ 0 → t.crField k = s.crField k) ∧
        t = { s with cr := t.cr, pc := s.pc + 4, mem := t.mem, psu := t.psu, cur := t.cur, reserve := false }) ∧
    (s.reserve = true → (s.eaX ra rb).toNat % 2 = 0 → s.MapsData (s.eaX ra rb) 2 m m2 →
      m.mayWrite s.userMode = true → m2.mayWrite s.userMode = true →
      s.busError .store (realAddresses m m2 (s.eaX ra rb) 2) = true →
      (m.entry.g = true → s.idm = false → Runs (.sthcxRc r ra rb) s fun t => reported t) ∧
      (m.entry.g = false → Runs (.sthcxRc r ra rb) s fun t => unreported t)) ∧
    (s.reserve = false → Runs (.stbcxRc r ra rb) s fun t => s.FieldResult t 0 (crBits false false false (bit s.xer 0))) ∧
    (s.reserve = true → (s.eaX ra rb).toNat % 1 = 0 → s.CanStore (s.eaX ra rb) 1 m m2 →
      Runs (.stbcxRc r ra rb) s fun t =>
        (if s.pins.xfail then t.mem = s.mem
          else s.Stores t (realAddresses m m2 (s.eaX ra rb) 1) (lowBytes 1 (s.r r) m.entry.e)) ∧
        t.crField 0 = crBits false false (!s.pins.xfail) (bit s.xer 0) ∧
        (∀ k : CrField, k ≠ 0 → t.crField k = s.crField k) ∧
        t = { s with cr := t.cr, pc := s.pc + 4, mem := t.mem, psu := t.psu, cur := t.cur, reserve := false }) ∧
    (s.reserve = true → (s.eaX ra rb).toNat % 1 = 0 → s.MapsData (s.eaX ra rb) 1 m m2 →
      m.mayWrite s.userMode = true → m2.mayWrite s.userMode = true →
      s.busError .store (realAddresses m m2 (s.eaX ra rb) 1) = true →
      (m.entry.g = true → s.idm = false → Runs (.stbcxRc r ra rb) s fun t => reported t) ∧
      (m.entry.g = false → Runs (.stbcxRc r ra rb) s fun t => unreported t))

/-- Barriers, isync and the data cache instructions only advance pc; wait enters the waiting state. One core that executes
in order has nothing to wait for. -/
def Obligations.InstructionsWithoutEffect : Prop :=
  ∀ (s : State) (mo ct : BitVec 5) (ra rb : Reg),
    (Runs .msync s fun t => t = { s with pc := s.pc + 4 }) ∧
    (Runs .isync s fun t => t = { s with pc := s.pc + 4 }) ∧
    (Runs (.dcba ra rb) s fun t => t = { s with pc := s.pc + 4 }) ∧
    (Runs (.dcbf ra rb) s fun t => t = { s with pc := s.pc + 4 }) ∧
    (Runs (.dcbst ra rb) s fun t => t = { s with pc := s.pc + 4 }) ∧
    (Runs (.dcbt ct ra rb) s fun t => t = { s with pc := s.pc + 4 }) ∧
    (Runs (.dcbtst ct ra rb) s fun t => t = { s with pc := s.pc + 4 }) ∧
    (Runs (.dcbtls ct ra rb) s fun t => t = { s with pc := s.pc + 4 }) ∧
    (Runs (.dcbtstls ct ra rb) s fun t => t = { s with pc := s.pc + 4 }) ∧
    (Runs (.dcblc ct ra rb) s fun t => t = { s with pc := s.pc + 4 }) ∧
    (Runs .seIsync s fun t => t = { s with pc := s.pc + 2 }) ∧
    (mo.toNat ≤ 2 → Runs (.mbar mo) s fun t => t = { s with pc := s.pc + 4 }) ∧
    (2 < mo.toNat → Runs (.mbar mo) s fun t =>
      s.Interrupted t 6 s.pc (0x08000000 ||| if s.cur.vle then 0x20 else 0) s.int.dear) ∧
    (Runs .wait s fun t => t = { s with pc := s.pc + 4, waiting := true }) ∧
    (s.userMode = false →
      (Runs (.dcbi ra rb) s fun t => t = { s with pc := s.pc + 4 }) ∧ (Runs .tlbsync s fun t =>
        t = { s with pc := s.pc + 4 }))

/-- mtmsr, mfmsr, wrtee and wrteei move the implemented MSR bits. R860 to R863. -/
def Obligations.MsrInstructions : Prop :=
  ∀ (s : State) (r : Reg) (e : BitVec 1), s.userMode = false → s.Legal →
    (Runs (.mtmsr r) s fun t => t = { s with msr := s.r r &&& 0x0606FB32, pc := s.pc + 4 }) ∧
    (Runs (.mfmsr r) s fun t => s.PlainResult t false r s.msr) ∧
    (Runs (.wrtee r) s fun t => t = { s with msr := t.msr, pc := s.pc + 4 } ∧
      ∀ k, k < 32 → bit t.msr k = if k = 16 then bit (s.r r) 16 else bit s.msr k) ∧
    (Runs (.wrteei e) s fun t => t = { s with msr := t.msr, pc := s.pc + 4 } ∧
      ∀ k, k < 32 → bit t.msr k = if k = 16 then decide (e = 1) else bit s.msr k)

/-- mfspr and mtspr perform every access the register list allows and refuse every other as an illegal instruction. The
checks (2) to (5) of R870; (1) is PrivilegedInstructionsTrap. That mtspr to DBERC0, SPR 569, is an illegal instruction, as
step 3 of R870 says, and not one without effect, as R291 says, is the model's choice (assumption log entry 39, DESIGN CHOICE),
and so is that DVC1 and DVC2 move 64 bits, as R297 and R868 say against R1051 (entry 44, DESIGN CHOICE). What each register reads
is State.sprTable. mtspr to L1FINV1 is CacheConditionsAndCommands. -/
def Obligations.SprAccessChecks : Prop :=
  ∀ (s : State) (r : Reg) (f : BitVec 10), ((numberOf f).testBit 4 = true → s.userMode = false) →
    let n := numberOf f
    let illegal (t : State) : Prop := s.Interrupted t 6 s.pc (0x08000000 ||| if s.cur.vle then 0x20 else 0) s.int.dear
    (n ∈ readableSprs → n ≠ 318 → n ≠ 319 →
      ∃ v, s.readSpr n = some v ∧ Runs (.mfspr r f) s fun t => s.PlainResult t false r v) ∧
    (∀ p ∈ s.sprTable, p.1 = n → Runs (.mfspr r f) s fun t => s.PlainResult t false r p.2) ∧
    (n = 318 → Runs (.mfspr r f) s fun t => s.VectorResult t r s.dbg.dvc1) ∧
    (n = 319 → Runs (.mfspr r f) s fun t => s.VectorResult t r s.dbg.dvc2) ∧
    (n ∉ readableSprs → Runs (.mfspr r f) s illegal) ∧
    (n ∈ writableSprs → n ≠ 959 → Runs (.mtspr r f) s fun t => t.gpr = s.gpr ∧ t.mem = s.mem ∧ t.pc = s.pc + 4) ∧
    (n ∉ writableSprs → Runs (.mtspr r f) s illegal)

/-- A storing SPR reads back what mtspr wrote and the others keep their values; the time base, DVC, DDAM and the flash commands
have their own effect. No two of the storing registers share storage, and no reserved bit is stored. The flash commands
are those of MMUCSR0 and L1CSR1. The effects: R85, R2144 and R2146 for the time base, R297, R300, R223, R474, R475. That each WRC
bit of TCR stays by itself is the model's choice (assumption log entry 11, DEDUCED), and so is that DVC1 and DVC2 take 64 bits
(entry 44, DESIGN CHOICE: R297 against R1051). -/
def Obligations.SprReadsBack : Prop :=
  ∀ (s : State) (r : Reg) (f : BitVec 10), ((numberOf f).testBit 4 = true → s.userMode = false) →
    let n := numberOf f
    let reads (v : Word) : Prop := Runs (.mtspr r f) s fun t =>
      t.readSpr n = some v ∧ (∀ p ∈ plainSprs, p.1 ≠ n → t.readSpr p.1 = s.readSpr p.1) ∧
      t.gpr = s.gpr ∧ t.mem = s.mem ∧ t.cr = s.cr ∧ t.msr = s.msr ∧ t.pc = s.pc + 4
    (∀ p ∈ plainSprs, p.1 = n → reads (s.r r &&& p.2)) ∧
    (n = 340 → reads ((s.r r &&& 0xFFDFE000) ||| (s.tim.tcr &&& 0x30000000))) ∧
    (n = 1009 → reads ((s.r r &&& 0xFF00) ||| if s.reserve then 0x80 else 0)) ∧
    (n = 308 → reads ((s.r r &&& 0x7FFFFFE1) ||| (s.dbg.dbcr0 &&& 0x80000000))) ∧
    (n = 284 ∨ n = 285 → Runs (.mtspr r f) s fun t =>
      t.tim.tb = (if n = 284 then hi s.tim.tb ++ s.r r else s.r r ++ lo s.tim.tb) ∧
      TimeBaseMoved s.tim.tcr s.tim.tsr t.tim.tsr s.tim.tb t.tim.tb ∧
      t = { s with tim := { s.tim with tb := t.tim.tb, tsr := t.tim.tsr }, pc := s.pc + 4 }) ∧
    (n = 318 → Runs (.mtspr r f) s fun t => t = { s with dbg.dvc1 := s.r64 r, pc := s.pc + 4 }) ∧
    (n = 319 → Runs (.mtspr r f) s fun t => t = { s with dbg.dvc2 := s.r64 r, pc := s.pc + 4 }) ∧
    (n = 576 → Runs (.mtspr r f) s fun t => t.readSpr 576 = some 0 ∧
      t = { s with
        dbg.ddam := s.r r, outputs := s.outputs ++ [.ddam (bits 0 8 s.dbg.devent) (s.r r)], pc := s.pc + 4 }) ∧
    (n = 1012 → Runs (.mtspr r f) s fun t =>
      (∀ k : BitVec 4, t.mmu.entry k =
        if bit (s.r r) 30 = true ∧ (s.mmu.entry k).iprot = false then { s.mmu.entry k with v := false }
        else s.mmu.entry k) ∧
      t.readSpr 1012 = s.readSpr 1012 ∧ t = { s with mmu.tlb := t.mmu.tlb, pc := s.pc + 4 }) ∧
    (n = 1011 → Runs (.mtspr r f) s fun t =>
      (∀ k : Fin 128, t.ic.lines[k] =
        { s.ic.lines[k] with
          v := s.ic.lines[k].v && !bit (s.r r) 30
          l := s.ic.lines[k].l && !bit (s.r r) 23
          tchk := if bit (s.r r) 30 then t.ic.lines[k].tchk else s.ic.lines[k].tchk }) ∧
      (bit (s.r r) 30 = true → t.ic.edt < 2 → ∀ k : Fin 128, checkTag t.ic.edt t.ic.lines[k] = .good) ∧
      t.ic.replace = (if bit (s.r r) 30 then 0 else s.ic.replace) ∧ t.ic.l1csr1 = s.r r &&& 0x0001B6F5 ∧
      t = { s with
        ic := { s.ic with lines := t.ic.lines, l1csr1 := t.ic.l1csr1, replace := t.ic.replace }
        freeCtr := t.freeCtr
        pc := s.pc + 4 })

/-- mtspr of DBSR, MCSR and TSR clears the bits that are one in the source and sets none. R103. -/
def Obligations.WriteOneToClear : Prop :=
  ∀ (s : State) (r : Reg) (f : BitVec 10), s.userMode = false →
    (numberOf f = 304 → Runs (.mtspr r f) s fun t => t = { s with dbg.dbsr := s.dbg.dbsr &&& ~~~(s.r r), pc := s.pc + 4 }) ∧
    (numberOf f = 572 → Runs (.mtspr r f) s fun t => t = { s with int.mcsr := s.int.mcsr &&& ~~~(s.r r), pc := s.pc + 4 }) ∧
    (numberOf f = 336 → Runs (.mtspr r f) s fun t => t = { s with tim.tsr := s.tim.tsr &&& ~~~(s.r r), pc := s.pc + 4 })

/-- mfdcr and mtdcr reach exactly the nine device control registers, accumulate signatures and access the cache arrays.
R866, R867, R310, R250 to R252 and the signature step of R2190 (D89). The model's own choices: the stop for a way or set
beyond the organisation (assumption log entry 9), and that a tag write with a reserved L1CSR1[ICEDT] = 1x stores all six check
bits as in EDC mode, and that CDACNTL keeps its bits 16:23 as written in every mode, those reserved for a tag access too (entry
33, DESIGN CHOICE: R250 gives the parity and the EDC layout only and does not say what reserved bits read). -/
def Obligations.DcrInstructions : Prop :=
  ∀ (s : State) (r : Reg) (f : BitVec 10), s.userMode = false →
    let n := numberOf f
    let v := s.r r
    let signature (x : Word) : Word := (x <<< 1) ^^^ (if bit x 0 then 0xC0000401 else 0) ^^^ v
    let supported : List Nat := [272, 273, 274, 275, 276, 277, 278, 350, 351]
    let illegal (t : State) : Prop := s.Interrupted t 6 s.pc (0x08000000 ||| if s.cur.vle then 0x20 else 0) s.int.dear
    (∀ p ∈ [(272, s.psu.pscr), (273, s.psu.pssr), (274, s.psu.pshr), (275, s.psu.pslr), (276, s.psu.psctr), (277, 0),
        (278, 0), (350, s.ic.cdadata), (351, s.ic.cdacntl)],
      n = p.1 → Runs (.mfdcr r f) s fun t => s.PlainResult t false r p.2) ∧
    (n ∉ supported → Runs (.mfdcr r f) s illegal ∧ Runs (.mtdcr r f) s illegal) ∧
    (n = 272 → Runs (.mtdcr r f) s fun t => t.psu.pscr = s.r r &&& 0x26 ∧ t.psu.pssr = s.psu.pssr ∧
      (bit (s.r r) 31 = true → t.psu.pshr = 0 ∧ t.psu.pslr = 0 ∧ t.psu.psctr = 0) ∧
      (bit (s.r r) 31 = false → t.psu = { s.psu with pscr := t.psu.pscr }) ∧ t = { s with psu := t.psu, pc := s.pc + 4 }) ∧
    (n = 273 → Runs (.mtdcr r f) s fun t => t = { s with psu.pssr := s.psu.pssr &&& ~~~(s.r r &&& 1), pc := s.pc + 4 }) ∧
    (n = 274 → Runs (.mtdcr r f) s fun t => t = { s with psu.pshr := s.r r, pc := s.pc + 4 }) ∧
    (n = 275 → Runs (.mtdcr r f) s fun t => t = { s with psu.pslr := s.r r, pc := s.pc + 4 }) ∧
    (n = 276 → Runs (.mtdcr r f) s fun t => t = { s with psu.psctr := s.r r, pc := s.pc + 4 }) ∧
    (n = 350 → Runs (.mtdcr r f) s fun t => t = { s with ic.cdadata := s.r r, pc := s.pc + 4 }) ∧
    (n = 277 → Runs (.mtdcr r f) s fun t => t = { s with psu.pshr := signature s.psu.pshr, pc := s.pc + 4 }) ∧
    (n = 278 → Runs (.mtdcr r f) s fun t => t = { s with
      psu.pslr := signature s.psu.pslr
      psu.psctr := if bit s.psu.pscr 26 then s.psu.psctr + 1 else s.psu.psctr
      pc := s.pc + 4 }) ∧
    (n = 351 → bits 30 2 v = 1 → bit v 28 = false → Runs (.mtdcr r f) s fun t =>
      t = { s with ic.cdacntl := v &&& 0xB1FFFF0C, pc := s.pc + 4 }) ∧
    (n = 351 → bits 30 2 v = 1 → bit v 28 = true →
      let way := (bits 2 2 v).toNat
      let set := (bits 7 6 v).toNat
      let k := (bits 13 2 v).toNat
      let high := bit v 15 = false
      let line := s.ic.line set way
      let data (l : CacheLine) (j : Nat) : Dword := l.data.toList.getD j 0
      let check (l : CacheLine) (j : Nat) : Byte := l.dchk.toList.getD j 0
      (s.ic.ways ≤ way ∨ s.ic.sets ≤ set → exec (.mtdcr r f) s = .fault .undefinedCacheCommand) ∧
      (way < s.ic.ways → set < s.ic.sets →
        (bit v 0 = true → bit v 29 = true → Runs (.mtdcr r f) s fun t =>
          t.ic.cdadata = line.tag ++ 0#1 ++ BitVec.ofBool line.v ++ BitVec.ofBool line.l ++ 0#7 ∧
          t = { s with ic.cdadata := t.ic.cdadata, ic.cdacntl := v &&& 0xB1FFFF0C, pc := s.pc + 4 }) ∧
        (bit v 0 = false → bit v 29 = true → Runs (.mtdcr r f) s fun t =>
          (high → t.ic.cdadata = hi (data line k)) ∧ (¬high → t.ic.cdadata = lo (data line k)) ∧
          bits 16 8 t.ic.cdacntl = check line k ∧ bits 0 16 t.ic.cdacntl = bits 0 16 (v &&& 0xB1FFFF0C) ∧
          bits 24 8 t.ic.cdacntl = bits 24 8 (v &&& 0xB1FFFF0C) ∧
          t = { s with ic.cdadata := t.ic.cdadata, ic.cdacntl := t.ic.cdacntl, pc := s.pc + 4 }) ∧
        (bit v 29 = false → Runs (.mtdcr r f) s fun t =>
          let new := t.ic.line set way
          (bit v 0 = true → new.tag = bits 0 22 s.ic.cdadata ∧ new.v = bit s.ic.cdadata 23 ∧
            new.l = bit s.ic.cdadata 24 ∧ bits 16 2 v = new.tchk.extractLsb' 4 2 ∧
            (s.ic.edt ≠ 0 → new.tchk = bits 16 6 v) ∧ new.data = line.data ∧ new.dchk = line.dchk) ∧
          (bit v 0 = false →
            data new k = (if bit v 15 then hi (data line k) ++ s.ic.cdadata else s.ic.cdadata ++ lo (data line k)) ∧
            check new k = bits 16 8 v ∧ (∀ j, j ≠ k → data new j = data line j ∧ check new j = check line j) ∧
            new.tag = line.tag ∧ new.v = line.v ∧ new.l = line.l ∧ new.tchk = line.tchk) ∧
          (∀ j w, j < s.ic.sets → w < s.ic.ways → (j ≠ set ∨ w ≠ way) → t.ic.line j w = s.ic.line j w) ∧
          t = { s with ic.lines := t.ic.lines, ic.cdacntl := v &&& 0xB1FFFF0C, pc := s.pc + 4 })))

/-- icbi, icbt, icbtls and icblc act on the line of their address and on nothing outside the cache. R900 to R904 in the
cases without tag errors, checked or not, R472 for a fill. The step also drives the bus requests of R2185.
An address that more than one TLB entry maps is left out. The model's own choices: the tag check bits that fit after icbi
(assumption log entry 16, DEDUCED: R900 is silent, R234 and R474 say it of the flash invalidation only); the permission icbt
needs, that of two ways with one tag the lowest hits and is locked or unlocked (R231), and where the replacement counter stands
after ways were skipped (entry 33, DESIGN CHOICE); a counter beyond the ways (entry 15, DESIGN CHOICE); that the word write of
the command (R2185) leaves the signature unit alone, with PSCR[WREN] = 1 too (entry 29, DESIGN CHOICE: R2190 is silent). -/
def Obligations.CacheInstructions : Prop :=
  ∀ (s : State) (ra rb : Reg) (m : Mapping) (w : Nat),
    let ea := s.eaX ra rb
    let real := m.real ea
    let set := s.ic.setOf ea
    let cacheOnly (t : State) : Prop :=
      t = { s with ic.lines := t.ic.lines, ic.replace := t.ic.replace, cur.signals := t.cur.signals, pc := s.pc + 4 }
    (s.ic.enabled = false →
      (Runs (.icbi ra rb) s fun t => s.Signalled t) ∧
      (Runs (.icbt 0 ra rb) s fun t => s.Signalled t) ∧
      (Runs (.icblc 0 ra rb) s fun t => s.Signalled t) ∧
      (Runs (.icbtls 0 ra rb) s fun t =>
        t = { s with ic.l1csr1 := s.ic.l1csr1 ||| 0x400, cur.signals := t.cur.signals, pc := s.pc + 4 })) ∧
    (s.ic.enabled = true → ¬s.TagError ea → s.ic.edt < 2 → s.lookup (bit s.msr 27) ea = some m → m.multi = false →
      let touch : Prop := m.mayRead s.userMode = true ∨ m.mayExecute s.userMode = true
      (m.mayRead s.userMode = true → Runs (.icbi ra rb) s fun t =>
        (∀ k, k < s.ic.ways →
          if s.ic.tagMatches (s.ic.line set k) real then
            t.ic.line set k = { s.ic.line set k with v := false, l := false, tchk := (t.ic.line set k).tchk } ∧
              checkTag s.ic.edt (t.ic.line set k) = .good
          else t.ic.line set k = s.ic.line set k) ∧
        s.KeepsOtherSets t set ∧ t.ic.replace = s.ic.replace ∧ cacheOnly t) ∧
      (touch → s.ic.hitWay ea real = some w →
        (Runs (.icbt 0 ra rb) s fun t => s.Signalled t) ∧
        (s.lockDenied = false → Runs (.icbtls 0 ra rb) s fun t =>
          t.ic.line set w = { s.ic.line set w with l := true } ∧ s.KeepsOtherLines t set w ∧
          t.ic.replace = s.ic.replace ∧ cacheOnly t) ∧
        (s.lockDenied = false → Runs (.icblc 0 ra rb) s fun t =>
          t.ic.line set w = { s.ic.line set w with l := false } ∧ s.KeepsOtherLines t set w ∧
          t.ic.replace = s.ic.replace ∧ cacheOnly t)) ∧
      (touch → s.lockDenied = false → s.ic.hitWay ea real = none → Runs (.icblc 0 ra rb) s fun t => s.Signalled t) ∧
      (touch → s.ic.hitWay ea real = none → m.entry.i = false → s.ic.NextWay set false w → s.lineError real = false →
        (bit s.hid.hid0 31 = false → Runs (.icbt 0 ra rb) s fun t =>
          t.ic.hitWay ea real = some w ∧ s.Filled t set w real false ∧ cacheOnly t) ∧
        (s.lockDenied = false → Runs (.icbtls 0 ra rb) s fun t =>
          t.ic.hitWay ea real = some w ∧ s.Filled t set w real true ∧ cacheOnly t)))

/-- What a cache instruction does when its conditions turn it away, and the commands of L1FINV1 and CDACNTL. The order of
conditions of R478 with the check-bit errors of R476, and the commands of R244 and R250. The model's own choices: that a
reserved check-bit mode and an undefined command stop the model (assumption log entry 9), that DEAR is a free value after
a denied lock (entry 4, U12), the tag check bits that fit after L1FINV1, a failed fill, icbi and the invalidations of ICEA =
01 (entry 16, DEDUCED: R234 and R474 say it of the flash invalidation only), which permission icbt is checked with, that with
ICEA = 01 icbi, icbtls and icblc correct a tag before they look the line up, the lowest of two ways with one tag, the
counter after skipped ways, and that CDACNTL keeps its bits 16:23 as written in every mode (entry 33, DESIGN CHOICE); a counter
beyond the ways (entry 15, DESIGN CHOICE); that the word write of the command (R2185) leaves the signature unit alone, with
PSCR[WREN] = 1 too (entry 29, DESIGN CHOICE: R2190 is silent). -/
def Obligations.CacheConditionsAndCommands : Prop :=
  ∀ (s : State) (ct : BitVec 5) (r ra rb : Reg) (f : BitVec 10),
    let ea := s.eaX ra rb
    let set := s.ic.setOf ea
    let v : Word := if s.cur.vle then 0x20 else 0
    let on : Prop := s.ic.enabled = true
    let line (k : Nat) : CacheLine := s.ic.line set k
    let linesOnly (t : State) : Prop :=
      t = { s with ic.lines := t.ic.lines, cur.signals := t.cur.signals, pc := s.pc + 4 }
    let statusOnly (t : State) (status : Word) : Prop :=
      t = { s with ic.l1csr1 := s.ic.l1csr1 ||| status, cur.signals := t.cur.signals, pc := s.pc + 4 }
    (ct ≠ 0 ∨ s.ic.enabled = false →
      (Runs (.icbt ct ra rb) s fun t => s.Signalled t) ∧
      (Runs (.icblc ct ra rb) s fun t => s.Signalled t) ∧
      (Runs (.icbtls ct ra rb) s fun t => statusOnly t 0x400)) ∧
    (bit s.hid.hid0 31 = true → Runs (.icbt ct ra rb) s fun t => s.Signalled t) ∧
    (on → s.lookup (bit s.msr 27) ea = none →
      (Runs (.icbt 0 ra rb) s fun t => s.Signalled t) ∧
      (Runs (.icbi ra rb) s fun t => s.Interrupted t 13 s.pc v ea) ∧
      (Runs (.icbtls 0 ra rb) s fun t => s.Interrupted t 13 s.pc v ea) ∧
      (Runs (.icblc 0 ra rb) s fun t => s.Interrupted t 13 s.pc v ea)) ∧
    (∀ m : Mapping, on → s.lookup (bit s.msr 27) ea = some m →
      let real := m.real ea
      (m.mayRead s.userMode = false → Runs (.icbi ra rb) s fun t => s.Interrupted t 2 s.pc v ea) ∧
      (m.mayRead s.userMode = false → m.mayExecute s.userMode = false → m.multi = false →
        Runs (.icbt 0 ra rb) s fun t => s.Signalled t) ∧
      (s.lockDenied = true →
        (Runs (.icbtls 0 ra rb) s fun t => ∃ d, s.Interrupted t 2 s.pc (0x00100000 ||| v) d) ∧
        (Runs (.icblc 0 ra rb) s fun t => ∃ d, s.Interrupted t 2 s.pc (0x00100000 ||| v) d)) ∧
      (s.lockDenied = false → m.mayRead s.userMode = false → m.mayExecute s.userMode = false →
        (Runs (.icbtls 0 ra rb) s fun t => s.Interrupted t 2 s.pc v ea) ∧
        (Runs (.icblc 0 ra rb) s fun t => s.Interrupted t 2 s.pc v ea)) ∧
      let touch : Prop := m.mayRead s.userMode = true ∨ m.mayExecute s.userMode = true
      (s.ic.checking = true → 2 ≤ s.ic.edt →
        (m.mayRead s.userMode = true → exec (.icbi ra rb) s = .fault .reservedCacheMode) ∧
        (touch → bit s.hid.hid0 31 = false → exec (.icbt 0 ra rb) s = .fault .reservedCacheMode) ∧
        (touch → s.lockDenied = false → exec (.icbtls 0 ra rb) s = .fault .reservedCacheMode ∧
          exec (.icblc 0 ra rb) s = .fault .reservedCacheMode)) ∧
      (m.multi = false → s.ic.checking = true → s.ic.edt < 2 →
        (∃ k, k < s.ic.ways ∧ tagError s.ic.edt (line k) = true) →
        (Runs (.icbt 0 ra rb) s fun t => s.Signalled t) ∧
        (m.mayRead s.userMode = true → s.ic.action < 2 → Runs (.icbi ra rb) s fun t =>
          (∀ k, k < s.ic.ways →
            let seen := if s.ic.action = 1 then s.ic.corrected true (line k) else line k
            t.ic.line set k =
              if s.ic.tagMatches seen real = true ∧ ¬(tagError s.ic.edt seen = true ∧ seen.l = true) then
                { invalidated s.ic.edt 0 seen with l := false }
              else seen) ∧
          s.KeepsOtherSets t set ∧ linesOnly t) ∧
        (s.lockDenied = false → touch →
          (2 ≤ s.ic.action → exec (.icbtls 0 ra rb) s = .fault .reservedCacheMode ∧
            exec (.icblc 0 ra rb) s = .fault .reservedCacheMode) ∧
          (s.ic.action = 1 → ¬(s.ic.cleanWay ea real = none ∧ s.LockedTagLost ea) → ∀ u : State,
            u = { s with ic.lines := u.ic.lines } → s.KeepsOtherSets u set →
            (∀ k, k < s.ic.ways → u.ic.line set k = s.ic.corrected (s.ic.cleanWay ea real).isSome (line k)) →
            (∀ k, u.ic.cleanWay ea real = some k →
              (Runs (.icbtls 0 ra rb) s fun t =>
                t.ic.line set k = { u.ic.line set k with l := true } ∧ u.KeepsOtherLines t set k ∧ linesOnly t) ∧
              (Runs (.icblc 0 ra rb) s fun t =>
                t.ic.line set k = { u.ic.line set k with l := false } ∧ u.KeepsOtherLines t set k ∧ linesOnly t)) ∧
            (u.ic.cleanWay ea real = none → ¬u.TagError ea ∧
              (Runs (.icbtls 0 ra rb) s fun t => Runs (.icbtls 0 ra rb) u fun v =>
                t = { v with cur.signals := t.cur.signals }) ∧
              (Runs (.icblc 0 ra rb) s fun t => Runs (.icblc 0 ra rb) u fun v =>
                t = { v with cur.signals := t.cur.signals }))) ∧
          (∀ k, s.ic.action = 0 → s.ic.cleanWay ea real = some k →
            (Runs (.icbtls 0 ra rb) s fun t =>
              t.ic.line set k = { line k with l := true } ∧ s.KeepsOtherLines t set k ∧ linesOnly t) ∧
            (Runs (.icblc 0 ra rb) s fun t =>
              t.ic.line set k = { line k with l := false } ∧ s.KeepsOtherLines t set k ∧ linesOnly t)) ∧
          (s.ic.cleanWay ea real = none →
            (s.ic.action = 0 → Runs (.icbtls 0 ra rb) s fun t => s.CacheChecked t 0x04000000 real ∧ t.ic = s.ic) ∧
            (s.ic.action = 0 → (∃ k, k < s.ic.ways ∧ tagError s.ic.edt (line k) = true ∧ (line k).l = true) →
              Runs (.icblc 0 ra rb) s fun t => s.CacheChecked t 0x04000000 real ∧ t.ic = s.ic) ∧
            (s.ic.action = 0 → (∀ k, k < s.ic.ways → tagError s.ic.edt (line k) = true → (line k).l = false) →
              Runs (.icblc 0 ra rb) s fun t => s.Signalled t) ∧
            (s.ic.action = 1 → (∃ k, k < s.ic.ways ∧ checkTag s.ic.edt (line k) = .bad ∧ (line k).l = true) →
              let checked (t : State) : Prop := s.CacheChecked t 0x05000000 real ∧ s.KeepsOtherSets t set ∧
                ∀ k, k < s.ic.ways → t.ic.line set k = s.ic.corrected false (line k)
              Runs (.icbtls 0 ra rb) s checked ∧ Runs (.icblc 0 ra rb) s checked)))) ∧
      (touch → ¬s.TagError ea → s.ic.edt < 2 → m.multi = false → s.ic.hitWay ea real = none →
        (m.entry.i = true →
          (Runs (.icbt 0 ra rb) s fun t => s.Signalled t) ∧
          (s.lockDenied = false → Runs (.icblc 0 ra rb) s fun t => s.Signalled t) ∧
          (s.lockDenied = false → Runs (.icbtls 0 ra rb) s fun t => statusOnly t 0x400)) ∧
        (m.entry.i = false → (∀ k, k < s.ic.ways → ¬s.ic.Available set false k) →
          (Runs (.icbt 0 ra rb) s fun t => s.Signalled t) ∧
          (s.lockDenied = false → (∀ k, k < s.ic.ways → bit s.ic.l1csr0 k = true) →
            Runs (.icbtls 0 ra rb) s fun t => statusOnly t 0x400) ∧
          (∀ w, s.lockDenied = false → s.ic.NextWay set true w →
            (bit s.ic.l1csr1 24 = false → Runs (.icbtls 0 ra rb) s fun t => statusOnly t 0x200) ∧
            (bit s.ic.l1csr1 24 = true → s.lineError real = false → Runs (.icbtls 0 ra rb) s fun t =>
              s.Filled t set w real true ∧
              t = { s with
                ic := { s.ic with lines := t.ic.lines, replace := t.ic.replace, l1csr1 := s.ic.l1csr1 ||| 0x200 }
                cur.signals := t.cur.signals
                pc := s.pc + 4 }))) ∧
        (∀ w, m.entry.i = false → s.ic.NextWay set false w → s.lineError real = true →
          (bit s.hid.hid0 31 = false → Runs (.icbt 0 ra rb) s fun t => s.Dropped t set w ∧ linesOnly t) ∧
          (s.lockDenied = false → Runs (.icbtls 0 ra rb) s fun t =>
            s.CacheChecked t 0x10 real ∧ s.Dropped t set w ∧ t.ic = { s.ic with lines := t.ic.lines })))) ∧
    (s.userMode = false → numberOf f = 959 →
      let way := (bits 6 2 (s.r r)).toNat
      let set := (bits 21 6 (s.r r)).toNat
      let command := bits 30 2 (s.r r)
      let kept := s.r r &&& 0x030007E3
      (way < s.ic.ways → set < s.ic.sets → command = 0 → Runs (.mtspr r f) s fun t =>
        t.ic.line set way = { s.ic.line set way with v := false, tchk := (t.ic.line set way).tchk } ∧
        (s.ic.edt < 2 → checkTag s.ic.edt (t.ic.line set way) = .good) ∧ s.KeepsOtherLines t set way ∧
        t.readSpr 959 = some kept ∧
        t = { s with ic.lines := t.ic.lines, ic.l1finv1 := kept, freeCtr := t.freeCtr, pc := s.pc + 4 }) ∧
      (way < s.ic.ways → set < s.ic.sets → command = 3 → Runs (.mtspr r f) s fun t =>
        t.ic.replace.toNat = way ∧ t.readSpr 959 = some kept ∧
        t = { s with ic.replace := t.ic.replace, ic.l1finv1 := kept, freeCtr := t.freeCtr, pc := s.pc + 4 }) ∧
      (s.ic.ways ≤ way ∨ s.ic.sets ≤ set ∨ command = 1 ∨ command = 2 →
        exec (.mtspr r f) s = .fault .undefinedCacheCommand)) ∧
    (s.userMode = false → numberOf f = 351 →
      (bits 30 2 (s.r r) = 0 → Runs (.mtdcr r f) s fun t =>
        t = { s with ic.cdacntl := s.r r &&& 0xB1FFFF0C, pc := s.pc + 4 }) ∧
      (2 ≤ (bits 30 2 (s.r r)).toNat → exec (.mtdcr r f) s = .fault .undefinedCacheCommand))

/-- The entry that matches translates an address; tlbwe replaces the selected entry, tlbre loads it, tlbsx reports the entry that
matches, tlbivax invalidates. R430 with R202 to R204 for what matches, the real address and the permissions; R442 to R445. The
step also drives the bus requests of R2185. The model's own choices: sizes above 22 match nothing and all sizes up to 4 Gbytes
exist (assumption log entry 8, DESIGN CHOICE); of a lookup that hits several entries nothing is said but that it raises no
miss (R206, entry 24); the word write of the command (R2185) leaves the signature unit alone, with PSCR[WREN] = 1 too (entry 29,
DESIGN CHOICE: R2190 is silent). -/
def Obligations.TlbInstructions : Prop :=
  (∀ (s : State) (as : Bool) (ea : Word), s.Translates as ea) ∧
  (∀ (m m2 : Mapping) (ea : Word) (n k : Nat), k < n →
    (realAddresses m m2 ea n).getD k 0 =
      let a := ea + BitVec.ofNat 32 k
      if m.samePage ea a then m.real a else m2.real a) ∧
  ∀ (s : State) (ra rb : Reg), s.userMode = false →
    let m := s.mmu
    let k : BitVec 4 := bits 12 4 m.mas0
    let ea := s.eaX ra rb
    let matches' (k : BitVec 4) : Prop := (m.entry k).Maps (bit m.mas6 31) (bits 8 8 m.mas6) s.pins ea
    (Runs .tlbwe s fun t =>
      (let e := t.mmu.entry k
       e.v = bit m.mas1 0 ∧ e.iprot = bit m.mas1 1 ∧ e.tid = bits 8 8 m.mas1 ∧ e.ts = bit m.mas1 19 ∧
       e.size = bits 20 5 m.mas1 ∧ e.epn = bits 0 22 m.mas2 ∧ e.vle = bit m.mas2 26 ∧ e.w = bit m.mas2 27 ∧
       e.i = bit m.mas2 28 ∧ e.m = bit m.mas2 29 ∧ e.g = bit m.mas2 30 ∧ e.e = bit m.mas2 31 ∧ e.rpn = bits 0 22 m.mas3 ∧
       e.u = bits 22 4 m.mas3 ∧ e.ux = bit m.mas3 26 ∧ e.sx = bit m.mas3 27 ∧ e.uw = bit m.mas3 28 ∧ e.sw = bit m.mas3 29 ∧
       e.ur = bit m.mas3 30 ∧ e.sr = bit m.mas3 31) ∧
      (∀ j : BitVec 4, j ≠ k → t.mmu.entry j = m.entry j) ∧
      t = { s with mmu.tlb := t.mmu.tlb, cur.signals := t.cur.signals, pc := s.pc + 4 }) ∧
    (Runs .tlbre s fun t =>
      TlbEntry.ofMas t.mmu.mas1 t.mmu.mas2 t.mmu.mas3 = m.entry k ∧ t.mmu.mas1 &&& ~~~0xC0FF1F80 = 0 ∧
      t.mmu.mas2 &&& ~~~0xFFFFFC3F = 0 ∧
      t = { s with
          mmu := { m with mas1 := t.mmu.mas1, mas2 := t.mmu.mas2, mas3 := t.mmu.mas3 }
          cur.signals := t.cur.signals
          pc := s.pc + 4 }) ∧
    (∀ k : BitVec 4, matches' k → (∀ j : BitVec 4, j ≠ k → ¬matches' j) →
      Runs (.tlbsx ra rb) s fun t =>
        bits 2 2 t.mmu.mas0 = 1#2 ∧ bits 12 4 t.mmu.mas0 = k ∧ bit t.mmu.mas1 0 = true ∧
        TlbEntry.ofMas t.mmu.mas1 t.mmu.mas2 t.mmu.mas3 = m.entry k ∧
        t = { s with
          mmu := { m with mas0 := t.mmu.mas0, mas1 := t.mmu.mas1, mas2 := t.mmu.mas2, mas3 := t.mmu.mas3 }
          cur.signals := t.cur.signals
          pc := s.pc + 4 }) ∧
    ((∀ k : BitVec 4, ¬matches' k) →
      Runs (.tlbsx ra rb) s fun t =>
        bits 2 2 t.mmu.mas0 = bits 2 2 m.mas4 ∧ bits 12 4 t.mmu.mas0 = bits 28 4 m.mas0 ∧ bit t.mmu.mas1 0 = false ∧
        bit t.mmu.mas1 1 = false ∧ bits 8 8 t.mmu.mas1 = bits 8 8 m.mas6 ∧ bit t.mmu.mas1 19 = bit m.mas6 31 ∧
        bits 20 5 t.mmu.mas1 = bits 20 5 m.mas4 ∧ bits 0 22 t.mmu.mas2 = bits 0 22 ea ∧
        bits 26 6 t.mmu.mas2 = bits 26 6 m.mas4 ∧ t.mmu.mas3 = 0 ∧
        t = { s with
          mmu := { m with mas0 := t.mmu.mas0, mas1 := t.mmu.mas1, mas2 := t.mmu.mas2, mas3 := t.mmu.mas3 }
          cur.signals := t.cur.signals
          pc := s.pc + 4 }) ∧
    (Runs (.tlbivax ra rb) s fun t =>
      (∀ k : BitVec 4, t.mmu.entry k =
        if (m.entry k).iprot = false ∧ (bit ea 29 = true ∨ (m.entry k).Holds ea)
        then { m.entry k with v := false } else m.entry k) ∧
      t = { s with mmu.tlb := t.mmu.tlb, cur.signals := t.cur.signals, pc := s.pc + 4 })

/-- dnh, se_dnh and e_dnh halt the core when the external debugger enabled them, and are illegal otherwise. R890, R978,
R979. The model's own choices (assumption log entry 26, DESIGN CHOICE): EDBSR0[DNH] is set whatever EDM is, the halting
instruction is not marked complete, se_dnh, which has no dui field, hands out dui = 0 and fills the low half of CPUSCR[IR] with
zeros, and an IAC event in CPUSCR[CTL] is a hit that is enabled, not kept out of DBSR by a link bit and met with
DBCR0[IDM] = 1. -/
def Obligations.DebuggerNotifyHalt : Prop :=
  ∀ (s : State) (dui : BitVec 5) (duis : BitVec 10),
    let seen (k : Nat) : Prop := s.idm = true ∧ ∃ n, n < 8 ∧ s.dbg.OwnIacEvent s.cur.iacHits n ∧ k = if n < 4 then 24 + n else 7 + n
    let halted (ir : Word) (d : BitVec 5) (t : State) : Prop :=
      (∀ k, k < 32 → (bit t.once.cpuCtl k = true ↔ seen k ∨ (k = 30 ∧ s.cur.vle = true))) ∧
      t = { s with
        debugHalt := true
        once := { s.once with
          edbsr0 := s.once.edbsr0 ||| 0x20000000, cpuPc := s.pc, cpuMsr := s.msr, cpuIr := ir, cpuCtl := t.once.cpuCtl }
        outputs := s.outputs ++ [.dnh d]
        cur.suppressed := true }
    let illegal (t : State) : Prop := s.Interrupted t 6 s.pc (0x08000000 ||| if s.cur.vle then 0x20 else 0) s.int.dear
    (bit s.once.edbcr0 1 = true →
      Runs (.dnh dui duis) s (halted (0x13#6 ++ dui ++ duis ++ 0x18C#11) dui) ∧
      Runs (.eDnh dui duis) s (halted (0x1F#6 ++ dui ++ duis ++ 0x0C2#11) dui) ∧ Runs .seDnh s (halted 0x000F0000 0)) ∧
    (bit s.once.edbcr0 1 = false → Runs (.dnh dui duis) s illegal ∧ Runs (.eDnh dui duis) s illegal ∧ Runs .seDnh s illegal)

/-- The volatile context loads and stores move their register group from and to consecutive words; an interrupt inside the groups
of 11 and 4 words leaves a prefix done. R960, R980 to R991; R2011 for the interrupt inside. That the host says after which
transfer it arrives is the model's choice (assumption log entry 6); it brings no edge of p_nmi_b or p_mcp_b (entry 43, DESIGN
CHOICE). That a byte which the model's memory does not hold, in a read-only or device region of the platform, keeps its value is
the model's choice (entry 38, DESIGN CHOICE). -/
def Obligations.VolatileContextMoves : Prop :=
  ∀ (s : State) (ra : Reg) (d8 : BitVec 8) (m : Nat → Mapping) (j : Nat),
    let ea := (if ra = 0 then 0 else s.r ra) + wordOf d8.toInt
    let group : List Reg := [0, 3, 4, 5, 6, 7, 8, 9, 10, 11, 12]
    let keepsSpecial (t : State) : Prop := t.cr = s.cr ∧ t.xer = s.xer ∧ t.lr = s.lr ∧ t.ctr = s.ctr
    ea.toNat % 4 = 0 →
    (s.InputInside j 11 →
      (s.CanLoadWords ea j m → Runs (.eLmvgprw ra d8) s fun t => s.AbandonedFor t ∧ keepsSpecial t ∧
        (∀ k, k < j → t.r (group.getD k 0) = s.wordAt m ea k) ∧ s.KeepsRegisters t (group.take j) ∧ s.KeepsUpper t ∧
        t.mem = s.mem) ∧
      (s.CanStoreWords ea j m → Runs (.eStmvgprw ra d8) s fun t => s.AbandonedFor t ∧ keepsSpecial t ∧ t.gpr = s.gpr ∧
        s.Stores t (wordAddresses m ea j) (wordImages m ((group.take j).map s.r)))) ∧
    (s.InputInside j 4 →
      (s.CanLoadWords ea j m → Runs (.eLmvsprw ra d8) s fun t => s.AbandonedFor t ∧ t.gpr = s.gpr ∧ t.mem = s.mem ∧
        t.cr = (if 0 < j then s.wordAt m ea 0 else s.cr) ∧ t.lr = (if 1 < j then s.wordAt m ea 1 else s.lr) ∧
        t.ctr = (if 2 < j then s.wordAt m ea 2 else s.ctr) ∧ t.xer = s.xer) ∧
      (s.CanStoreWords ea j m → Runs (.eStmvsprw ra d8) s fun t => s.AbandonedFor t ∧ keepsSpecial t ∧ t.gpr = s.gpr ∧
        s.Stores t (wordAddresses m ea j) (wordImages m ([s.cr, s.lr, s.ctr, s.xer].take j)))) ∧
    (s.midway = [] → s.CanLoadWords ea 11 m → Runs (.eLmvgprw ra d8) s fun t =>
      (∀ k, k < 11 → t.r (group.getD k 0) = s.wordAt m ea k) ∧ s.KeepsRegisters t group ∧ s.KeepsUpper t ∧ t.pc = s.pc + 4 ∧ s.OnlyLoad t) ∧
    (s.midway = [] → s.CanLoadWords ea 4 m → Runs (.eLmvsprw ra d8) s fun t =>
      t = { s with cr := s.wordAt m ea 0, lr := s.wordAt m ea 1, ctr := s.wordAt m ea 2,
                   xer := s.wordAt m ea 3 &&& 0xE000007F, pc := s.pc + 4, psu := t.psu, cur := t.cur }) ∧
    (s.userMode = false → s.CanLoadWords ea 2 m →
      (Runs (.eLmvsrrw ra d8) s fun t =>
        t = { s with int.srr0 := s.wordAt m ea 0, int.srr1 := s.wordAt m ea 1,
                     pc := s.pc + 4, psu := t.psu, cur := t.cur }) ∧
      (Runs (.eLmvcsrrw ra d8) s fun t =>
        t = { s with int.csrr0 := s.wordAt m ea 0, int.csrr1 := s.wordAt m ea 1,
                     pc := s.pc + 4, psu := t.psu, cur := t.cur }) ∧
      (Runs (.eLmvdsrrw ra d8) s fun t =>
        t = { s with int.dsrr0 := s.wordAt m ea 0, int.dsrr1 := s.wordAt m ea 1,
                     pc := s.pc + 4, psu := t.psu, cur := t.cur }) ∧
      (Runs (.eLmvmcsrrw ra d8) s fun t =>
        t = { s with int.mcsrr0 := s.wordAt m ea 0, int.mcsrr1 := s.wordAt m ea 1,
                     pc := s.pc + 4, psu := t.psu, cur := t.cur })) ∧
    (s.midway = [] → s.CanStoreWords ea 11 m → Runs (.eStmvgprw ra d8) s fun t =>
      s.Stored t none ea (wordAddresses m ea 11) (wordImages m (group.map s.r))) ∧
    (s.midway = [] → s.CanStoreWords ea 4 m → Runs (.eStmvsprw ra d8) s fun t =>
      s.Stored t none ea (wordAddresses m ea 4) (wordImages m [s.cr, s.lr, s.ctr, s.xer])) ∧
    (s.userMode = false →
      (s.CanStoreWords ea 2 m → Runs (.eStmvsrrw ra d8) s fun t =>
      s.Stored t none ea (wordAddresses m ea 2) (wordImages m [s.int.srr0, s.int.srr1])) ∧
      (s.CanStoreWords ea 2 m → Runs (.eStmvcsrrw ra d8) s fun t =>
      s.Stored t none ea (wordAddresses m ea 2) (wordImages m [s.int.csrr0, s.int.csrr1])) ∧
      (s.CanStoreWords ea 2 m → Runs (.eStmvdsrrw ra d8) s fun t =>
      s.Stored t none ea (wordAddresses m ea 2) (wordImages m [s.int.dsrr0, s.int.dsrr1])) ∧
      (s.CanStoreWords ea 2 m → Runs (.eStmvmcsrrw ra d8) s fun t =>
      s.Stored t none ea (wordAddresses m ea 2) (wordImages m [s.int.mcsrr0, s.int.mcsrr1])))

/-- Every scalar floating-point instruction that takes no interrupt delivers its element result and its status bits.
ScalarCommit (R1110) over the element operations R1160 to R1172. -/
def Obligations.ScalarFloatingPoint : Prop :=
  ∀ (s : State) (rd ra rb : Reg),
    (s.NoFpTrap noElement (elemSign .abs (s.r ra)) → Runs (.efsabs rd ra) s fun t =>
      s.ScalarFp t rd (elemSign .abs (s.r ra))) ∧
    (s.NoFpTrap noElement (elemSign .nabs (s.r ra)) → Runs (.efsnabs rd ra) s fun t =>
      s.ScalarFp t rd (elemSign .nabs (s.r ra))) ∧
    (s.NoFpTrap noElement (elemSign .neg (s.r ra)) → Runs (.efsneg rd ra) s fun t =>
      s.ScalarFp t rd (elemSign .neg (s.r ra))) ∧
    (s.NoFpTrap noElement (elemAdd s.rounding (s.r ra) (s.r rb)) → Runs (.efsadd rd ra rb) s fun t =>
      s.ScalarFp t rd (elemAdd s.rounding (s.r ra) (s.r rb))) ∧
    (s.NoFpTrap noElement (elemSub s.rounding (s.r ra) (s.r rb)) → Runs (.efssub rd ra rb) s fun t =>
      s.ScalarFp t rd (elemSub s.rounding (s.r ra) (s.r rb))) ∧
    (s.NoFpTrap noElement (elemMul s.rounding (s.r ra) (s.r rb)) → Runs (.efsmul rd ra rb) s fun t =>
      s.ScalarFp t rd (elemMul s.rounding (s.r ra) (s.r rb))) ∧
    (s.NoFpTrap noElement (elemDiv s.rounding (s.r ra) (s.r rb)) → Runs (.efsdiv rd ra rb) s fun t =>
      s.ScalarFp t rd (elemDiv s.rounding (s.r ra) (s.r rb))) ∧
    (s.NoFpTrap noElement (elemFma s.rounding (s.r ra) (s.r rb) (s.r rd) false false) →
      Runs (.efsmadd rd ra rb) s fun t => s.ScalarFp t rd (elemFma s.rounding (s.r ra) (s.r rb) (s.r rd) false false)) ∧
    (s.NoFpTrap noElement (elemFma s.rounding (s.r ra) (s.r rb) (s.r rd) true false) →
      Runs (.efsmsub rd ra rb) s fun t => s.ScalarFp t rd (elemFma s.rounding (s.r ra) (s.r rb) (s.r rd) true false)) ∧
    (s.NoFpTrap noElement (elemFma s.rounding (s.r ra) (s.r rb) (s.r rd) false true) →
      Runs (.efsnmadd rd ra rb) s fun t => s.ScalarFp t rd (elemFma s.rounding (s.r ra) (s.r rb) (s.r rd) false true)) ∧
    (s.NoFpTrap noElement (elemFma s.rounding (s.r ra) (s.r rb) (s.r rd) true true) →
      Runs (.efsnmsub rd ra rb) s fun t => s.ScalarFp t rd (elemFma s.rounding (s.r ra) (s.r rb) (s.r rd) true true)) ∧
    (s.NoFpTrap noElement (elemSqrt s.rounding (s.r ra)) → Runs (.efssqrt rd ra) s fun t =>
      s.ScalarFp t rd (elemSqrt s.rounding (s.r ra))) ∧
    (s.NoFpTrap noElement (elemExtreme false (s.r ra) (s.r rb)) → Runs (.efsmax rd ra rb) s fun t =>
      s.ScalarFp t rd (elemExtreme false (s.r ra) (s.r rb))) ∧
    (s.NoFpTrap noElement (elemExtreme true (s.r ra) (s.r rb)) → Runs (.efsmin rd ra rb) s fun t =>
      s.ScalarFp t rd (elemExtreme true (s.r ra) (s.r rb))) ∧
    (s.NoFpTrap noElement (elemFromInt s.rounding .ui (s.r rb)) → Runs (.efscfui rd rb) s fun t =>
      s.ScalarFp t rd (elemFromInt s.rounding .ui (s.r rb))) ∧
    (s.NoFpTrap noElement (elemFromInt s.rounding .si (s.r rb)) → Runs (.efscfsi rd rb) s fun t =>
      s.ScalarFp t rd (elemFromInt s.rounding .si (s.r rb))) ∧
    (s.NoFpTrap noElement (elemFromInt s.rounding .uf (s.r rb)) → Runs (.efscfuf rd rb) s fun t =>
      s.ScalarFp t rd (elemFromInt s.rounding .uf (s.r rb))) ∧
    (s.NoFpTrap noElement (elemFromInt s.rounding .sf (s.r rb)) → Runs (.efscfsf rd rb) s fun t =>
      s.ScalarFp t rd (elemFromInt s.rounding .sf (s.r rb))) ∧
    (s.NoFpTrap noElement (elemFromHalf ((s.r rb).setWidth 16)) → Runs (.efscfh rd rb) s fun t =>
      s.ScalarFp t rd (elemFromHalf ((s.r rb).setWidth 16))) ∧
    (s.NoFpTrap noElement (elemToInt s.rounding .ui (s.r rb)) → Runs (.efsctui rd rb) s fun t =>
      s.ScalarFp t rd (elemToInt s.rounding .ui (s.r rb))) ∧
    (s.NoFpTrap noElement (elemToInt s.rounding .si (s.r rb)) → Runs (.efsctsi rd rb) s fun t =>
      s.ScalarFp t rd (elemToInt s.rounding .si (s.r rb))) ∧
    (s.NoFpTrap noElement (elemToInt s.rounding .uf (s.r rb)) → Runs (.efsctuf rd rb) s fun t =>
      s.ScalarFp t rd (elemToInt s.rounding .uf (s.r rb))) ∧
    (s.NoFpTrap noElement (elemToInt s.rounding .sf (s.r rb)) → Runs (.efsctsf rd rb) s fun t =>
      s.ScalarFp t rd (elemToInt s.rounding .sf (s.r rb))) ∧
    (s.NoFpTrap noElement (elemToInt .towardZero .ui (s.r rb)) → Runs (.efsctuiz rd rb) s fun t =>
      s.ScalarFp t rd (elemToInt .towardZero .ui (s.r rb))) ∧
    (s.NoFpTrap noElement (elemToInt .towardZero .si (s.r rb)) → Runs (.efsctsiz rd rb) s fun t =>
      s.ScalarFp t rd (elemToInt .towardZero .si (s.r rb))) ∧
    (s.NoFpTrap noElement (elemToHalf s.rounding (s.r rb)) → Runs (.efscth rd rb) s fun t =>
      s.ScalarFp t rd (elemToHalf s.rounding (s.r rb)))

/-- The floating-point compares and tests write their CR field by the order of the operands, the compares also their status
bits. R1134 to R1139, R1237 to R1242, R1109 for the order; the open bits hold for every value (assumption log entry
4). That all four bits of a vector compare or test are defined, as R1203 says, though spec/93_implementation_defined.md U30
counts the vector compares among those with open bits, is the model's choice (entry 4, DESIGN CHOICE). -/
def Obligations.FloatingPointComparesAndTests : Prop :=
  (∀ a b : Word, (fpGt a b = true ↔ fpOrder b < fpOrder a) ∧ (fpLt a b = true ↔ fpOrder a < fpOrder b) ∧
    (fpEq a b = true ↔ fpOrder a = fpOrder b)) ∧
  ∀ (s : State) (crfD : CrField) (ra rb : Reg),
    (s.NoFpTrap noElement (invalidOf (s.r ra) (s.r rb)) → Runs (.efscmpgt crfD ra rb) s fun t =>
      s.ScalarCompared t crfD (fpGt (s.r ra) (s.r rb)) ∧ s.FpStatus t noElement (invalidOf (s.r ra) (s.r rb))) ∧
    (Runs (.efststgt crfD ra rb) s fun t => s.ScalarCompared t crfD (fpGt (s.r ra) (s.r rb)) ∧ t.spefscr = s.spefscr) ∧
    (s.NoFpTrap noElement (invalidOf (s.r ra) (s.r rb)) → Runs (.efscmplt crfD ra rb) s fun t =>
      s.ScalarCompared t crfD (fpLt (s.r ra) (s.r rb)) ∧ s.FpStatus t noElement (invalidOf (s.r ra) (s.r rb))) ∧
    (Runs (.efststlt crfD ra rb) s fun t => s.ScalarCompared t crfD (fpLt (s.r ra) (s.r rb)) ∧ t.spefscr = s.spefscr) ∧
    (s.NoFpTrap noElement (invalidOf (s.r ra) (s.r rb)) → Runs (.efscmpeq crfD ra rb) s fun t =>
      s.ScalarCompared t crfD (fpEq (s.r ra) (s.r rb)) ∧ s.FpStatus t noElement (invalidOf (s.r ra) (s.r rb))) ∧
    (Runs (.efststeq crfD ra rb) s fun t => s.ScalarCompared t crfD (fpEq (s.r ra) (s.r rb)) ∧ t.spefscr = s.spefscr) ∧
    (s.speOn = true → s.NoFpTrap (invalidOf (hi (s.r64 ra)) (hi (s.r64 rb))) (invalidOf (lo (s.r64 ra)) (lo (s.r64 rb))) →
      Runs (.evfscmpgt crfD ra rb) s fun t =>
        s.VectorCompared t crfD (fpGt (hi (s.r64 ra)) (hi (s.r64 rb))) (fpGt (lo (s.r64 ra)) (lo (s.r64 rb))) ∧
        s.FpStatus t (invalidOf (hi (s.r64 ra)) (hi (s.r64 rb))) (invalidOf (lo (s.r64 ra)) (lo (s.r64 rb)))) ∧
    (s.speOn = true → Runs (.evfststgt crfD ra rb) s fun t =>
      s.IntegerCompared t crfD (fpGt (hi (s.r64 ra)) (hi (s.r64 rb))) (fpGt (lo (s.r64 ra)) (lo (s.r64 rb)))) ∧
    (s.speOn = true → s.NoFpTrap (invalidOf (hi (s.r64 ra)) (hi (s.r64 rb))) (invalidOf (lo (s.r64 ra)) (lo (s.r64 rb))) →
      Runs (.evfscmplt crfD ra rb) s fun t =>
        s.VectorCompared t crfD (fpLt (hi (s.r64 ra)) (hi (s.r64 rb))) (fpLt (lo (s.r64 ra)) (lo (s.r64 rb))) ∧
        s.FpStatus t (invalidOf (hi (s.r64 ra)) (hi (s.r64 rb))) (invalidOf (lo (s.r64 ra)) (lo (s.r64 rb)))) ∧
    (s.speOn = true → Runs (.evfststlt crfD ra rb) s fun t =>
      s.IntegerCompared t crfD (fpLt (hi (s.r64 ra)) (hi (s.r64 rb))) (fpLt (lo (s.r64 ra)) (lo (s.r64 rb)))) ∧
    (s.speOn = true → s.NoFpTrap (invalidOf (hi (s.r64 ra)) (hi (s.r64 rb))) (invalidOf (lo (s.r64 ra)) (lo (s.r64 rb))) →
      Runs (.evfscmpeq crfD ra rb) s fun t =>
        s.VectorCompared t crfD (fpEq (hi (s.r64 ra)) (hi (s.r64 rb))) (fpEq (lo (s.r64 ra)) (lo (s.r64 rb))) ∧
        s.FpStatus t (invalidOf (hi (s.r64 ra)) (hi (s.r64 rb))) (invalidOf (lo (s.r64 ra)) (lo (s.r64 rb)))) ∧
    (s.speOn = true → Runs (.evfststeq crfD ra rb) s fun t =>
      s.IntegerCompared t crfD (fpEq (hi (s.r64 ra)) (hi (s.r64 rb))) (fpEq (lo (s.r64 ra)) (lo (s.r64 rb))))

/-- Every vector floating-point instruction that takes no interrupt delivers both element results and their status bits.
VectorCommit (R1200). -/
def Obligations.VectorFloatingPoint : Prop :=
  ∀ (s : State) (rd ra rb : Reg), s.speOn = true →
    let a := s.r64 ra
    let b := s.r64 rb
    let d := s.r64 rd
    (s.NoFpTrap (elemSign .abs (hi a)) (elemSign .abs (lo a)) →
      Runs (.evfsabs rd ra) s fun t => s.VectorFp t rd (elemSign .abs (hi a)) (elemSign .abs (lo a))) ∧
    (s.NoFpTrap (elemSign .nabs (hi a)) (elemSign .nabs (lo a)) →
      Runs (.evfsnabs rd ra) s fun t => s.VectorFp t rd (elemSign .nabs (hi a)) (elemSign .nabs (lo a))) ∧
    (s.NoFpTrap (elemSign .neg (hi a)) (elemSign .neg (lo a)) →
      Runs (.evfsneg rd ra) s fun t => s.VectorFp t rd (elemSign .neg (hi a)) (elemSign .neg (lo a))) ∧
    (s.NoFpTrap (elemAdd s.rounding (hi a) (hi b)) (elemAdd s.rounding (lo a) (lo b)) →
      Runs (.evfsadd rd ra rb) s fun t =>
        s.VectorFp t rd (elemAdd s.rounding (hi a) (hi b)) (elemAdd s.rounding (lo a) (lo b))) ∧
    (s.NoFpTrap (elemSub s.rounding (hi a) (hi b)) (elemSub s.rounding (lo a) (lo b)) →
      Runs (.evfssub rd ra rb) s fun t =>
        s.VectorFp t rd (elemSub s.rounding (hi a) (hi b)) (elemSub s.rounding (lo a) (lo b))) ∧
    (s.NoFpTrap (elemAdd s.rounding (hi a) (hi b)) (elemSub s.rounding (lo a) (lo b)) →
      Runs (.evfsaddsub rd ra rb) s fun t =>
        s.VectorFp t rd (elemAdd s.rounding (hi a) (hi b)) (elemSub s.rounding (lo a) (lo b))) ∧
    (s.NoFpTrap (elemSub s.rounding (hi a) (hi b)) (elemAdd s.rounding (lo a) (lo b)) →
      Runs (.evfssubadd rd ra rb) s fun t =>
        s.VectorFp t rd (elemSub s.rounding (hi a) (hi b)) (elemAdd s.rounding (lo a) (lo b))) ∧
    (s.NoFpTrap (elemAdd s.rounding (lo a) (hi b)) (elemAdd s.rounding (hi a) (lo b)) →
      Runs (.evfsaddx rd ra rb) s fun t =>
        s.VectorFp t rd (elemAdd s.rounding (lo a) (hi b)) (elemAdd s.rounding (hi a) (lo b))) ∧
    (s.NoFpTrap (elemSub s.rounding (lo a) (hi b)) (elemSub s.rounding (hi a) (lo b)) →
      Runs (.evfssubx rd ra rb) s fun t =>
        s.VectorFp t rd (elemSub s.rounding (lo a) (hi b)) (elemSub s.rounding (hi a) (lo b))) ∧
    (s.NoFpTrap (elemAdd s.rounding (lo a) (hi b)) (elemSub s.rounding (hi a) (lo b)) →
      Runs (.evfsaddsubx rd ra rb) s fun t =>
        s.VectorFp t rd (elemAdd s.rounding (lo a) (hi b)) (elemSub s.rounding (hi a) (lo b))) ∧
    (s.NoFpTrap (elemSub s.rounding (lo a) (hi b)) (elemAdd s.rounding (hi a) (lo b)) →
      Runs (.evfssubaddx rd ra rb) s fun t =>
        s.VectorFp t rd (elemSub s.rounding (lo a) (hi b)) (elemAdd s.rounding (hi a) (lo b))) ∧
    (s.NoFpTrap (elemAdd s.rounding (hi a) (lo a)) (elemAdd s.rounding (hi b) (lo b)) →
      Runs (.evfssum rd ra rb) s fun t =>
        s.VectorFp t rd (elemAdd s.rounding (hi a) (lo a)) (elemAdd s.rounding (hi b) (lo b))) ∧
    (s.NoFpTrap (elemSub s.rounding (hi a) (lo a)) (elemSub s.rounding (hi b) (lo b)) →
      Runs (.evfsdiff rd ra rb) s fun t =>
        s.VectorFp t rd (elemSub s.rounding (hi a) (lo a)) (elemSub s.rounding (hi b) (lo b))) ∧
    (s.NoFpTrap (elemAdd s.rounding (hi a) (lo a)) (elemSub s.rounding (hi b) (lo b)) →
      Runs (.evfssumdiff rd ra rb) s fun t =>
        s.VectorFp t rd (elemAdd s.rounding (hi a) (lo a)) (elemSub s.rounding (hi b) (lo b))) ∧
    (s.NoFpTrap (elemSub s.rounding (hi a) (lo a)) (elemAdd s.rounding (hi b) (lo b)) →
      Runs (.evfsdiffsum rd ra rb) s fun t =>
        s.VectorFp t rd (elemSub s.rounding (hi a) (lo a)) (elemAdd s.rounding (hi b) (lo b))) ∧
    (s.NoFpTrap (elemMul s.rounding (hi a) (hi b)) (elemMul s.rounding (lo a) (lo b)) →
      Runs (.evfsmul rd ra rb) s fun t =>
        s.VectorFp t rd (elemMul s.rounding (hi a) (hi b)) (elemMul s.rounding (lo a) (lo b))) ∧
    (s.NoFpTrap (elemMul s.rounding (hi a) (hi b)) (elemMul s.rounding (hi a) (lo b)) →
      Runs (.evfsmule rd ra rb) s fun t =>
        s.VectorFp t rd (elemMul s.rounding (hi a) (hi b)) (elemMul s.rounding (hi a) (lo b))) ∧
    (s.NoFpTrap (elemMul s.rounding (lo a) (hi b)) (elemMul s.rounding (lo a) (lo b)) →
      Runs (.evfsmulo rd ra rb) s fun t =>
        s.VectorFp t rd (elemMul s.rounding (lo a) (hi b)) (elemMul s.rounding (lo a) (lo b))) ∧
    (s.NoFpTrap (elemMul s.rounding (lo a) (hi b)) (elemMul s.rounding (hi a) (lo b)) →
      Runs (.evfsmulx rd ra rb) s fun t =>
        s.VectorFp t rd (elemMul s.rounding (lo a) (hi b)) (elemMul s.rounding (hi a) (lo b))) ∧
    (s.NoFpTrap (elemDiv s.rounding (hi a) (hi b)) (elemDiv s.rounding (lo a) (lo b)) →
      Runs (.evfsdiv rd ra rb) s fun t =>
        s.VectorFp t rd (elemDiv s.rounding (hi a) (hi b)) (elemDiv s.rounding (lo a) (lo b))) ∧
    (s.NoFpTrap (elemFma s.rounding (hi a) (hi b) (hi d) false false) (elemFma s.rounding (lo a) (lo b) (lo d) false false) →
      Runs (.evfsmadd rd ra rb) s fun t =>
        s.VectorFp t rd (elemFma s.rounding (hi a) (hi b) (hi d) false false) (elemFma s.rounding (lo a) (lo b) (lo d) false false)) ∧
    (s.NoFpTrap (elemFma s.rounding (hi a) (hi b) (hi d) true false) (elemFma s.rounding (lo a) (lo b) (lo d) true false) →
      Runs (.evfsmsub rd ra rb) s fun t =>
        s.VectorFp t rd (elemFma s.rounding (hi a) (hi b) (hi d) true false) (elemFma s.rounding (lo a) (lo b) (lo d) true false)) ∧
    (s.NoFpTrap (elemFma s.rounding (hi a) (hi b) (hi d) false true) (elemFma s.rounding (lo a) (lo b) (lo d) false true) →
      Runs (.evfsnmadd rd ra rb) s fun t =>
        s.VectorFp t rd (elemFma s.rounding (hi a) (hi b) (hi d) false true) (elemFma s.rounding (lo a) (lo b) (lo d) false true)) ∧
    (s.NoFpTrap (elemFma s.rounding (hi a) (hi b) (hi d) true true) (elemFma s.rounding (lo a) (lo b) (lo d) true true) →
      Runs (.evfsnmsub rd ra rb) s fun t =>
        s.VectorFp t rd (elemFma s.rounding (hi a) (hi b) (hi d) true true) (elemFma s.rounding (lo a) (lo b) (lo d) true true)) ∧
    (s.NoFpTrap (elemSqrt s.rounding (hi a)) (elemSqrt s.rounding (lo a)) →
      Runs (.evfssqrt rd ra) s fun t => s.VectorFp t rd (elemSqrt s.rounding (hi a)) (elemSqrt s.rounding (lo a))) ∧
    (s.NoFpTrap (elemExtreme false (hi a) (hi b)) (elemExtreme false (lo a) (lo b)) →
      Runs (.evfsmax rd ra rb) s fun t =>
        s.VectorFp t rd (elemExtreme false (hi a) (hi b)) (elemExtreme false (lo a) (lo b))) ∧
    (s.NoFpTrap (elemExtreme true (hi a) (hi b)) (elemExtreme true (lo a) (lo b)) →
      Runs (.evfsmin rd ra rb) s fun t =>
        s.VectorFp t rd (elemExtreme true (hi a) (hi b)) (elemExtreme true (lo a) (lo b))) ∧
    (s.NoFpTrap (elemFromInt s.rounding .ui (hi b)) (elemFromInt s.rounding .ui (lo b)) →
      Runs (.evfscfui rd rb) s fun t =>
        s.VectorFp t rd (elemFromInt s.rounding .ui (hi b)) (elemFromInt s.rounding .ui (lo b))) ∧
    (s.NoFpTrap (elemFromInt s.rounding .si (hi b)) (elemFromInt s.rounding .si (lo b)) →
      Runs (.evfscfsi rd rb) s fun t =>
        s.VectorFp t rd (elemFromInt s.rounding .si (hi b)) (elemFromInt s.rounding .si (lo b))) ∧
    (s.NoFpTrap (elemFromInt s.rounding .uf (hi b)) (elemFromInt s.rounding .uf (lo b)) →
      Runs (.evfscfuf rd rb) s fun t =>
        s.VectorFp t rd (elemFromInt s.rounding .uf (hi b)) (elemFromInt s.rounding .uf (lo b))) ∧
    (s.NoFpTrap (elemFromInt s.rounding .sf (hi b)) (elemFromInt s.rounding .sf (lo b)) →
      Runs (.evfscfsf rd rb) s fun t =>
        s.VectorFp t rd (elemFromInt s.rounding .sf (hi b)) (elemFromInt s.rounding .sf (lo b))) ∧
    (s.NoFpTrap (elemFromHalf ((hi b).setWidth 16)) (elemFromHalf ((lo b).setWidth 16)) →
      Runs (.evfscfh rd rb) s fun t =>
        s.VectorFp t rd (elemFromHalf ((hi b).setWidth 16)) (elemFromHalf ((lo b).setWidth 16))) ∧
    (s.NoFpTrap (elemToInt s.rounding .ui (hi b)) (elemToInt s.rounding .ui (lo b)) →
      Runs (.evfsctui rd rb) s fun t =>
        s.VectorFp t rd (elemToInt s.rounding .ui (hi b)) (elemToInt s.rounding .ui (lo b))) ∧
    (s.NoFpTrap (elemToInt s.rounding .si (hi b)) (elemToInt s.rounding .si (lo b)) →
      Runs (.evfsctsi rd rb) s fun t =>
        s.VectorFp t rd (elemToInt s.rounding .si (hi b)) (elemToInt s.rounding .si (lo b))) ∧
    (s.NoFpTrap (elemToInt s.rounding .uf (hi b)) (elemToInt s.rounding .uf (lo b)) →
      Runs (.evfsctuf rd rb) s fun t =>
        s.VectorFp t rd (elemToInt s.rounding .uf (hi b)) (elemToInt s.rounding .uf (lo b))) ∧
    (s.NoFpTrap (elemToInt s.rounding .sf (hi b)) (elemToInt s.rounding .sf (lo b)) →
      Runs (.evfsctsf rd rb) s fun t =>
        s.VectorFp t rd (elemToInt s.rounding .sf (hi b)) (elemToInt s.rounding .sf (lo b))) ∧
    (s.NoFpTrap (elemToInt .towardZero .ui (hi b)) (elemToInt .towardZero .ui (lo b)) →
      Runs (.evfsctuiz rd rb) s fun t =>
        s.VectorFp t rd (elemToInt .towardZero .ui (hi b)) (elemToInt .towardZero .ui (lo b))) ∧
    (s.NoFpTrap (elemToInt .towardZero .si (hi b)) (elemToInt .towardZero .si (lo b)) →
      Runs (.evfsctsiz rd rb) s fun t =>
        s.VectorFp t rd (elemToInt .towardZero .si (hi b)) (elemToInt .towardZero .si (lo b))) ∧
    (s.NoFpTrap (elemToHalf s.rounding (hi b)) (elemToHalf s.rounding (lo b)) →
      Runs (.evfscth rd rb) s fun t => s.VectorFp t rd (elemToHalf s.rounding (hi b)) (elemToHalf s.rounding (lo b)))

/-- An enabled data exception suppresses the result; an enabled inexact result is truncated and the round interrupt taken
after it. R1110, R1200 and R1203, for each instruction with the element results it commits (State.scalarElement,
State.vectorElements) and for the commit itself with any. A compare is never inexact; a test takes neither interrupt
(FloatingPointComparesAndTests). That MSR[RI] is kept is the model's choice (assumption log entry 37). -/
def Obligations.FloatingPointInterrupts : Prop :=
  ∀ s : State,
    (∀ (i : Instr) (rd : Reg) (e : ElementResult), s.scalarElement i = some (rd, e) →
      (s.dataTrap noElement e = true → Runs i s fun t => s.FpDataTaken t noElement e) ∧
      (s.roundTrap noElement e = true → Runs i s fun t =>
        ∃ u, s.PlainResult u false rd e.t ∧ s.FpStatus t noElement e ∧ s.FpRoundTaken t u)) ∧
    (∀ (i : Instr) (e : ElementResult), s.comparedElement i = some e → s.dataTrap noElement e = true →
      Runs i s fun t => s.FpDataTaken t noElement e) ∧
    (s.speOn = true →
      (∀ (i : Instr) (rd : Reg) (h l : ElementResult), s.vectorElements i = some (rd, h, l) →
        (s.dataTrap h l = true → Runs i s fun t => s.FpDataTaken t h l) ∧
        (s.roundTrap h l = true → Runs i s fun t =>
          ∃ u, s.VectorResult u rd (h.t ++ l.t) ∧ s.FpStatus t h l ∧ s.FpRoundTaken t u)) ∧
      (∀ (i : Instr) (h l : ElementResult), s.comparedElements i = some (h, l) → s.dataTrap h l = true →
        Runs i s fun t => s.FpDataTaken t h l)) ∧
    (∀ (rd : Reg) (crfD : CrField) (c : Bool) (rel : Word → Word → Bool) (a b : Word) (x y : Dword) (h l : ElementResult),
      let high := invalidOf (hi x) (hi y)
      let low := invalidOf (lo x) (lo y)
      (s.dataTrap noElement l = true → ∃ t, s.scalarCommit rd l = .next t ∧ s.FpDataTaken t noElement l) ∧
      (s.roundTrap noElement l = true → ∃ t u, s.scalarCommit rd l = .next t ∧ s.PlainResult u false rd l.t ∧
        s.FpStatus t noElement l ∧ s.FpRoundTaken t u) ∧
      (s.dataTrap noElement (invalidOf a b) = true →
        ∃ t, s.scalarCompare crfD c a b = .next t ∧ s.FpDataTaken t noElement (invalidOf a b)) ∧
      (s.speOn = true →
        (s.dataTrap h l = true → ∃ t, s.vectorCommit rd h l = .next t ∧ s.FpDataTaken t h l) ∧
        (s.roundTrap h l = true → ∃ t u, s.vectorCommit rd h l = .next t ∧ s.VectorResult u rd (h.t ++ l.t) ∧
          s.FpStatus t h l ∧ s.FpRoundTaken t u) ∧
        (s.dataTrap high low = true → ∃ t, s.vectorCompare crfD rel x y = .next t ∧ s.FpDataTaken t high low)))

/-- Rounding to single precision gives the nearest number in its mode, and says whether it is exact, too large or too
small. R1105 is a procedure; this is what it is for. Ties to even are R1104's reading of "Round to Nearest" (G10). -/
def Obligations.RoundsCorrectly : Prop :=
  ∀ (mode : Rounding) (r : Exact) (x : ℝ), r.Represents x →
    let q := roundSingle mode r
    ∃ y, RoundsTo 24 mode x y ∧ (q.ovf = true ↔ (2 : ℝ) ^ (128 : Int) ≤ |y|) ∧
      (q.unf = true ↔ |y| < (2 : ℝ) ^ (-126 : Int)) ∧
      (q.ovf = false → q.unf = false → fpClass q.v = .norm ∧ (fpValue q.v : ℝ) = y ∧
        ((q.g = true ∨ q.x = true) ↔ y ≠ x) ∧
        ((2 : ℝ) ^ (-126 : Int) ≤ |x| → RoundsTo 24 .towardZero x (fpValue q.t)))

/-- The element sum, difference, product, quotient, multiply-adds and square root of numbers are the exact result rounded.
R1161 to R1166 on numbers, over the reals; the other operands are ElementSpecialOperands. -/
def Obligations.ElementArithmetic : Prop :=
  ∀ (mode : Rounding) (a b d : Word) (subD negRes : Bool), fpClass a = .norm → fpClass b = .norm → fpClass d = .norm →
    let zero (negative : Bool) : ElementResult := plainElement (if negative then 0x80000000 else 0) false
    let sum : Rat := fpValue a * fpValue b + if subD then -fpValue d else fpValue d
    (fpValue a + fpValue b ≠ 0 → (elemAdd mode a b).IsRounded mode .sum ((fpValue a + fpValue b : Rat) : ℝ)) ∧
    (fpValue a + fpValue b = 0 → elemAdd mode a b = zero (mode == .down)) ∧
    (fpValue a - fpValue b ≠ 0 → (elemSub mode a b).IsRounded mode .sum ((fpValue a - fpValue b : Rat) : ℝ)) ∧
    (fpValue a - fpValue b = 0 → elemSub mode a b = zero (mode == .down)) ∧
    (elemMul mode a b).IsRounded mode .product ((fpValue a * fpValue b : Rat) : ℝ) ∧
    (elemDiv mode a b).IsRounded mode .product ((fpValue a / fpValue b : Rat) : ℝ) ∧
    (sum ≠ 0 → (elemFma mode a b d subD negRes).IsRounded mode (if negRes then .negated else .sum)
      (((if negRes then -sum else sum) : Rat) : ℝ)) ∧
    (sum = 0 → elemFma mode a b d subD negRes = zero ((mode == .down) != negRes)) ∧
    (fpSign a = false → (elemSqrt mode a).IsRounded mode .sum (Real.sqrt ((fpValue a : Rat) : ℝ))) ∧
    (fpSign a = true → elemSqrt mode a = plainElement 0x80000000 true)

/-- The conversions deliver the integer, fraction, single or half precision number their operand rounds to, or the limit.
R1169 to R1172 on numbers, over the reals. That a half precision result underflows exactly when the rounded magnitude is
below 2^-14, so that a number which rounds up to 2^-14 does not and then has its rounded result for the truncated one, is the
model's choice (assumption log entry 13, DEDUCED). The field t is the truncated result, which the round
interrupt of FloatingPointInterrupts delivers. -/
def Obligations.ElementConversions : Prop :=
  ∀ (mode : Rounding) (k : FixedKind) (b : Word) (f : Half),
    let n : Int := match k with | .ui => b.toNat | .uf => b.toNat | .si => b.toInt | .sf => b.toInt
    let scale : Nat := match k with | .ui => 0 | .si => 0 | .uf => 32 | .sf => 31
    let signed : Bool := match k with | .ui => false | .uf => false | .si => true | .sf => true
    let low : Int := if signed then -2147483648 else 0
    let high : Int := if signed then 2147483647 else 4294967295
    let from' := elemFromInt mode k b
    let to' := elemToInt mode k b
    let half := elemToHalf mode b
    (n = 0 → from' = plainElement 0 false) ∧
    (n ≠ 0 → from'.Flagless ∧ fpClass from'.v = .norm ∧ RoundsTo 24 mode ((n : ℝ) / 2 ^ scale) (fpValue from'.v) ∧
      ((from'.g = true ∨ from'.x = true) ↔ (fpValue from'.v : ℝ) ≠ (n : ℝ) / 2 ^ scale) ∧
      fpClass from'.t = .norm ∧ RoundsTo 24 .towardZero ((n : ℝ) / 2 ^ scale) (fpValue from'.t)) ∧
    (fpClass b = .norm → signed = false → fpSign b = true → to' = plainElement 0 false) ∧
    (fpClass b = .norm → (signed = true ∨ fpSign b = false) →
      ∃ z cut : Int, Nearest mode ((fpValue b : ℝ) * 2 ^ scale) z 1 (z % 2 = 0) ∧
        Nearest .towardZero ((fpValue b : ℝ) * 2 ^ scale) cut 1 (cut % 2 = 0) ∧
        (low ≤ z → z ≤ high → to'.v = wordOf z ∧ to'.t = wordOf cut ∧ to'.Flagless ∧
          ((to'.g = true ∨ to'.x = true) ↔ (z : ℝ) ≠ (fpValue b : ℝ) * 2 ^ scale)) ∧
        (high < z → to' = plainElement (wordOf high) true) ∧ (z < low → to' = plainElement (wordOf low) true)) ∧
    (1 ≤ halfExp f → halfExp f ≤ 30 → ∃ v, elemFromHalf f = plainElement v false ∧ fpClass v = .norm ∧
      fpValue v = halfValue f) ∧
    (fpClass b = .norm → half.inv = false ∧ half.dbz = false ∧ ∃ y, RoundsTo 11 mode (fpValue b) y ∧
      (half.ovf = true ↔ (2 : ℝ) ^ (16 : Int) ≤ |y|) ∧ (half.unf = true ↔ |y| < (2 : ℝ) ^ (-14 : Int)) ∧
      (half.ovf = true → half.v = if fpSign b then 0xFBFF else 0x7BFF) ∧
      (half.unf = true → half.v = if fpSign b then 0x8000 else 0) ∧
      (half.ovf = false → half.unf = false → ∃ g : Half, half.v = 0#16 ++ g ∧ 1 ≤ halfExp g ∧ halfExp g ≤ 30 ∧
        (halfValue g : ℝ) = y ∧ ((half.g = true ∨ half.x = true) ↔ y ≠ fpValue b)) ∧
      (half.ovf = true ∨ half.unf = true → half.t = half.v ∧ half.g = false ∧ half.x = false) ∧
      (half.ovf = false → half.unf = false →
        (|(fpValue b : ℝ)| < (2 : ℝ) ^ (-14 : Int) → half.t = half.v) ∧
        ((2 : ℝ) ^ (-14 : Int) ≤ |(fpValue b : ℝ)| → ∃ g : Half, half.t = 0#16 ++ g ∧ 1 ≤ halfExp g ∧ halfExp g ≤ 30 ∧
          RoundsTo 11 .towardZero (fpValue b) (halfValue g))))

/-- Elements of an infinity, NaN, denormalized number or zero; arithmetic and conversions give no infinity, NaN or
denormalized number, sign operations may. R1103, R1160 to R1172 on the other operands.
What a multiply-add makes of a denormalized addend is the model's choice (assumption log entry 12, DEDUCED). -/
def Obligations.ElementSpecialOperands : Prop :=
  ∀ (mode : Rounding) (k : FixedKind) (op : SignOp) (a b d : Word) (f : Half) (subD negRes least : Bool),
    let finite (e : ElementResult) : Prop :=
      (fpClass e.v = .zero ∨ fpClass e.v = .norm) ∧ (fpClass e.t = .zero ∨ fpClass e.t = .norm)
    let huge (x : Word) : Prop := fpClass x = .inf ∨ fpClass x = .nan
    let tiny (x : Word) : Prop := fpClass x = .zero ∨ fpClass x = .denorm
    let special (x : Word) : Bool := fpClass x == .inf || fpClass x == .nan || fpClass x == .denorm
    let inv := special a || special b
    let most (negative : Bool) : Word := if negative then 0xFF7FFFFF else 0x7F7FFFFF
    let zero (negative : Bool) : Word := if negative then 0x80000000 else 0
    let s := fpSign a != fpSign b
    let sd := fpSign d != subD
    let signed (negative : Bool) (x : Word) : Word := zero negative ||| (x &&& 0x7FFFFFFF)
    let mapped (x : Word) : Word :=
      if special x then (if fpClass x == .denorm then zero (fpSign x) else most (fpSign x)) else x
    let half := elemToHalf mode b
    let halfFinite (x : Word) : Prop := ∃ g : Half, x = 0#16 ++ g ∧ halfExp g ≠ 31 ∧
      (halfExp g = 0 → g.extractLsb' 0 10 = 0)
    elemSign op a = plainElement (signed (match op with | .abs => false | .nabs => true | .neg => !fpSign a) a) (special a) ∧
    fpClass (elemSign op a).v = fpClass a ∧ halfFinite half.v ∧ halfFinite half.t ∧
    finite (elemAdd mode a b) ∧ finite (elemSub mode a b) ∧ finite (elemMul mode a b) ∧ finite (elemDiv mode a b) ∧
    finite (elemFma mode a b d subD negRes) ∧ finite (elemSqrt mode a) ∧ finite (elemExtreme least a b) ∧
    finite (elemFromInt mode k b) ∧ finite (elemFromHalf f) ∧
    (huge a → elemAdd mode a b = plainElement (most (fpSign a)) true) ∧
    (¬huge a → huge b → elemAdd mode a b = plainElement (most (fpSign b)) true) ∧
    (tiny a → tiny b →
      elemAdd mode a b = plainElement (zero (if fpSign a = fpSign b then fpSign a else mode == .down)) inv) ∧
    (tiny a → fpClass b = .norm → elemAdd mode a b = plainElement b inv) ∧
    (fpClass a = .norm → tiny b → elemAdd mode a b = plainElement a inv) ∧
    (huge a → elemSub mode a b = plainElement (most (fpSign a)) true) ∧
    (¬huge a → huge b → elemSub mode a b = plainElement (most (!fpSign b)) true) ∧
    (tiny a → tiny b →
      elemSub mode a b = plainElement (zero (if fpSign a = fpSign b then mode == .down else fpSign a)) inv) ∧
    (tiny a → fpClass b = .norm → elemSub mode a b = plainElement (signed (!fpSign b) b) inv) ∧
    (fpClass a = .norm → tiny b → elemSub mode a b = plainElement a inv) ∧
    (tiny a ∨ tiny b →
      (huge d → elemFma mode a b d subD negRes = plainElement (most (sd != negRes)) true) ∧
      (tiny d → elemFma mode a b d subD negRes =
        plainElement (zero ((if s = sd then s else mode == .down) != negRes)) (inv || special d)) ∧
      (fpClass d = .norm → elemFma mode a b d subD negRes = plainElement (signed (sd != negRes) d) inv)) ∧
    (¬tiny a → ¬tiny b → (huge a ∨ huge b) →
      elemFma mode a b d subD negRes = plainElement (most (s != negRes)) true) ∧
    (fpClass a = .norm → fpClass b = .norm →
      (huge d → elemFma mode a b d subD negRes = plainElement (most (sd != negRes)) true) ∧
      (fpClass d = .zero → (elemFma mode a b d subD negRes).IsRounded mode (if negRes then .negated else .sum)
        (((if negRes then -(fpValue a * fpValue b) else fpValue a * fpValue b) : Rat) : ℝ)) ∧
      (fpClass d = .denorm → elemFma mode a b d subD negRes =
        plainElement (elemFma mode a b (zero (fpSign d)) subD negRes).v true)) ∧
    ((tiny a ∨ tiny b) → elemMul mode a b = plainElement (zero s) inv) ∧
    (¬tiny a → ¬tiny b → (huge a ∨ huge b) → elemMul mode a b = plainElement (most s) true) ∧
    (huge b → elemDiv mode a b = plainElement (zero s) true) ∧
    (fpClass a = .norm → fpClass b = .zero → elemDiv mode a b = { plainElement (most s) false with dbz := true }) ∧
    (tiny b → ¬(fpClass a = .norm ∧ fpClass b = .zero) → elemDiv mode a b = plainElement (most s) true) ∧
    (fpClass b = .norm → huge a → elemDiv mode a b = plainElement (most s) true) ∧
    (fpClass b = .norm → tiny a → elemDiv mode a b = plainElement (zero s) (special a)) ∧
    (huge a → elemSqrt mode a = plainElement (if fpSign a then zero true else most false) true) ∧
    (tiny a → elemSqrt mode a = plainElement (zero (fpSign a)) (special a)) ∧
    (fpClass a = .norm → fpClass b = .norm → elemExtreme least a b = plainElement
      (if least then (if fpValue a ≤ fpValue b then a else b) else if fpValue b ≤ fpValue a then a else b) false) ∧
    (fpClass a = .nan → fpClass b ≠ .nan → elemExtreme least a b = plainElement (mapped b) true ∧
      elemExtreme least b a = plainElement (mapped b) true) ∧
    ((fpClass a = .nan ↔ fpClass b = .nan) →
      (fpOrder a < fpOrder b → elemExtreme least a b = plainElement (mapped (if least then a else b)) inv ∧
        elemExtreme least b a = plainElement (mapped (if least then a else b)) inv) ∧
      (a = b → elemExtreme least a b = plainElement (mapped a) inv) ∧
      (fpClass a = .zero → fpClass b = .zero → elemExtreme least a b =
        plainElement (zero (if least then fpSign a || fpSign b else fpSign a && fpSign b)) false)) ∧
    (fpClass b = .nan → elemToInt mode k b = plainElement 0 true) ∧
    (tiny b → elemToInt mode k b = plainElement 0 (special b)) ∧
    (fpClass b = .inf → (elemToInt mode k b).inv = true ∧
      (fpSign b = false → (elemToInt mode k b).v = if k.signed then 0x7FFFFFFF else 0xFFFFFFFF) ∧
      (fpSign b = true → (elemToInt mode k b).v = if k.signed then 0x80000000 else 0)) ∧
    (halfExp f = 0 → elemFromHalf f = plainElement (zero (f.getMsbD 0)) (f.extractLsb' 0 10 != 0)) ∧
    (halfExp f = 31 → elemFromHalf f = plainElement (most (f.getMsbD 0)) true) ∧
    (huge b → elemToHalf mode b = plainElement (if fpSign b then 0xFBFF else 0x7BFF) true) ∧
    (tiny b → elemToHalf mode b = plainElement (if fpSign b then 0x8000 else 0) (special b))

/-- brinc and the simple SPE instructions compute rD and change nothing else. R1310 to R1381. -/
def Obligations.SpeSimpleInstructions : Prop :=
  ∀ (s : State) (rd ra rb : Reg) (uimm simm : BitVec 5) (crfS : CrField),
    (Runs (.brinc rd ra rb) s fun t =>
      s.PlainResult t false rd (t.r rd) ∧ (t.r rd).toNat / 65536 = (s.r ra).toNat / 65536 ∧
      ∃ d : Half, (t.r rd).setWidth 16 = d &&& (s.r rb).setWidth 16 ∧
        d.reverse = 1 + ((s.r ra).setWidth 16 ||| ~~~((s.r rb).setWidth 16)).reverse) ∧
    (s.speOn = true →
    let a := s.r64 ra
    let b := s.r64 rb
    (Runs (.evabs rd ra) s fun t => s.VectorResult t rd (pairOf |sHigh a| |sLow a|)) ∧
    (Runs (.evaddiw rd uimm rb) s fun t => s.VectorResult t rd (pairOf (uHigh b + uimm.toNat) (uLow b + uimm.toNat))) ∧
    (Runs (.evaddw rd ra rb) s fun t => s.VectorResult t rd (pairOf (uHigh a + uHigh b) (uLow a + uLow b))) ∧
    (Runs (.evneg rd ra) s fun t => s.VectorResult t rd (pairOf (-sHigh a) (-sLow a))) ∧
    (Runs (.evsubfw rd ra rb) s fun t => s.VectorResult t rd (pairOf (uHigh b - uHigh a) (uLow b - uLow a))) ∧
    (Runs (.evsubifw rd uimm rb) s fun t => s.VectorResult t rd (pairOf (uHigh b - uimm.toNat) (uLow b - uimm.toNat))) ∧
    (Runs (.evand rd ra rb) s fun t => s.VectorResult t rd (a &&& b)) ∧
    (Runs (.evandc rd ra rb) s fun t => s.VectorResult t rd (a &&& ~~~b)) ∧
    (Runs (.eveqv rd ra rb) s fun t => s.VectorResult t rd (~~~(a ^^^ b))) ∧
    (Runs (.evnand rd ra rb) s fun t => s.VectorResult t rd (~~~(a &&& b))) ∧
    (Runs (.evnor rd ra rb) s fun t => s.VectorResult t rd (~~~(a ||| b))) ∧
    (Runs (.evor rd ra rb) s fun t => s.VectorResult t rd (a ||| b)) ∧
    (Runs (.evorc rd ra rb) s fun t => s.VectorResult t rd (a ||| ~~~b)) ∧
    (Runs (.evxor rd ra rb) s fun t => s.VectorResult t rd (a ^^^ b)) ∧
    (Runs (.evcntlsw rd ra) s fun t => ∃ h l, s.VectorResult t rd (pairOf (h : Nat) (l : Nat)) ∧
      LeadingRun (hi a) (bit (hi a) 0) h ∧ LeadingRun (lo a) (bit (lo a) 0) l) ∧
    (Runs (.evcntlzw rd ra) s fun t => ∃ h l, s.VectorResult t rd (pairOf (h : Nat) (l : Nat)) ∧
      LeadingRun (hi a) false h ∧ LeadingRun (lo a) false l) ∧
    (Runs (.evextsb rd ra) s fun t => s.VectorResult t rd (pairOf ((hi a).setWidth 8).toInt ((lo a).setWidth 8).toInt)) ∧
    (Runs (.evextsh rd ra) s fun t => s.VectorResult t rd (pairOf ((hi a).setWidth 16).toInt ((lo a).setWidth 16).toInt)) ∧
    (Runs (.evmergehi rd ra rb) s fun t => s.VectorResult t rd (hi a ++ hi b)) ∧
    (Runs (.evmergehilo rd ra rb) s fun t => s.VectorResult t rd (hi a ++ lo b)) ∧
    (Runs (.evmergelo rd ra rb) s fun t => s.VectorResult t rd (lo a ++ lo b)) ∧
    (Runs (.evmergelohi rd ra rb) s fun t => s.VectorResult t rd (lo a ++ hi b)) ∧
    (Runs (.evrlw rd ra rb) s fun t => s.VectorResult t rd (t.r64 rd) ∧ ∀ i, i < 32 →
      bit (hi (t.r64 rd)) i = rotatedBit (hi a) ((hi b).toNat % 32) i ∧
        bit (lo (t.r64 rd)) i = rotatedBit (lo a) ((lo b).toNat % 32) i) ∧
    (Runs (.evrlwi rd ra uimm) s fun t => s.VectorResult t rd (t.r64 rd) ∧ ∀ i, i < 32 →
      bit (hi (t.r64 rd)) i = rotatedBit (hi a) uimm.toNat i ∧ bit (lo (t.r64 rd)) i = rotatedBit (lo a) uimm.toNat i) ∧
    (Runs (.evrndw rd ra) s fun t =>
      s.VectorResult t rd (pairOf ((uHigh a + 32768) / 65536 * 65536) ((uLow a + 32768) / 65536 * 65536))) ∧
    (Runs (.evsel rd ra rb crfS) s fun t => s.VectorResult t rd
      ((if bit s.cr (4 * crfS.toNat) then hi a else hi b) ++ (if bit s.cr (4 * crfS.toNat + 1) then lo a else lo b))) ∧
    (Runs (.evslw rd ra rb) s fun t =>
      s.VectorResult t rd (pairOf (uHigh a * 2 ^ ((hi b).toNat % 64)) (uLow a * 2 ^ ((lo b).toNat % 64)))) ∧
    (Runs (.evslwi rd ra uimm) s fun t =>
      s.VectorResult t rd (pairOf (uHigh a * 2 ^ uimm.toNat) (uLow a * 2 ^ uimm.toNat))) ∧
    (Runs (.evsrwis rd ra uimm) s fun t =>
      s.VectorResult t rd (pairOf (sHigh a / 2 ^ uimm.toNat) (sLow a / 2 ^ uimm.toNat))) ∧
    (Runs (.evsrwiu rd ra uimm) s fun t =>
      s.VectorResult t rd (pairOf (uHigh a / 2 ^ uimm.toNat) (uLow a / 2 ^ uimm.toNat))) ∧
    (Runs (.evsrws rd ra rb) s fun t =>
      s.VectorResult t rd (pairOf (sHigh a / 2 ^ ((hi b).toNat % 64)) (sLow a / 2 ^ ((lo b).toNat % 64)))) ∧
    (Runs (.evsrwu rd ra rb) s fun t =>
      s.VectorResult t rd (pairOf (uHigh a / 2 ^ ((hi b).toNat % 64)) (uLow a / 2 ^ ((lo b).toNat % 64)))) ∧
    (Runs (.evsplatfi rd simm) s fun t => s.VectorResult t rd (pairOf (134217728 * simm.toNat) (134217728 * simm.toNat))) ∧
    (Runs (.evsplati rd simm) s fun t => s.VectorResult t rd (pairOf simm.toInt simm.toInt)))

/-- The SPE compares write one CR field; the vector divides give saturated quotients and record overflow. R1330 to R1334,
R1390, R1391. -/
def Obligations.SpeCompareAndDivide : Prop :=
  ∀ (s : State) (rd ra rb : Reg) (crfD : CrField), s.speOn = true →
    let a := s.r64 ra
    let b := s.r64 rb
    (Runs (.evcmpeq crfD ra rb) s fun t =>
      s.IntegerCompared t crfD (decide (uHigh a = uHigh b)) (decide (uLow a = uLow b))) ∧
    (Runs (.evcmpgts crfD ra rb) s fun t =>
      s.IntegerCompared t crfD (decide (sHigh a > sHigh b)) (decide (sLow a > sLow b))) ∧
    (Runs (.evcmpgtu crfD ra rb) s fun t =>
      s.IntegerCompared t crfD (decide (uHigh a > uHigh b)) (decide (uLow a > uLow b))) ∧
    (Runs (.evcmplts crfD ra rb) s fun t =>
      s.IntegerCompared t crfD (decide (sHigh a < sHigh b)) (decide (sLow a < sLow b))) ∧
    (Runs (.evcmpltu crfD ra rb) s fun t =>
      s.IntegerCompared t crfD (decide (uHigh a < uHigh b)) (decide (uLow a < uLow b))) ∧
    (Runs (.evdivws rd ra rb) s fun t => s.MacSaturated t rd false (divS (sHigh a) (sHigh b)) (divS (sLow a) (sLow b))) ∧
    (Runs (.evdivwu rd ra rb) s fun t => s.MacSaturated t rd false (divU (uHigh a) (uHigh b)) (divU (uLow a) (uLow b))) ∧
    ∀ (rel : Word → Word → Bool) (x y : Dword), ∃ t, s.vectorCr crfD rel x y = .next t ∧
      bit t.cr (4 * crfD.toNat) = rel (hi x) (hi y) ∧ bit t.cr (4 * crfD.toNat + 1) = rel (lo x) (lo y) ∧
      bit t.cr (4 * crfD.toNat + 2) = (rel (hi x) (hi y) || rel (lo x) (lo y)) ∧
      bit t.cr (4 * crfD.toNat + 3) = (rel (hi x) (hi y) && rel (lo x) (lo y)) ∧
      ∀ k : CrField, k ≠ crfD → t.crField k = s.crField k

/-- The word multiplies and accumulator sums deliver exact, modulo or saturated results in rD and ACC. R1600 to R1690,
over the integers. -/
def Obligations.WordMultiplyAccumulate : Prop :=
  ∀ (s : State) (rd ra rb : Reg), s.speOn = true →
    let a := s.r64 ra
    let b := s.r64 rb
    (Runs (.evmwhsmf rd ra rb) s fun t =>
      s.MacResult t rd false (pairOf (2 * (sHigh a * sHigh b) / 4294967296) (2 * (sLow a * sLow b) / 4294967296)) none) ∧
    (Runs (.evmwhsmfa rd ra rb) s fun t =>
      s.MacResult t rd true (pairOf (2 * (sHigh a * sHigh b) / 4294967296) (2 * (sLow a * sLow b) / 4294967296)) none) ∧
    (Runs (.evmwhsmi rd ra rb) s fun t =>
      s.MacResult t rd false (pairOf (sHigh a * sHigh b / 4294967296) (sLow a * sLow b / 4294967296)) none) ∧
    (Runs (.evmwhsmia rd ra rb) s fun t =>
      s.MacResult t rd true (pairOf (sHigh a * sHigh b / 4294967296) (sLow a * sLow b / 4294967296)) none) ∧
    (Runs (.evmwhssf rd ra rb) s fun t =>
      s.MacSaturated t rd false (fracHigh (sHigh a * sHigh b)) (fracHigh (sLow a * sLow b))) ∧
    (Runs (.evmwhssfa rd ra rb) s fun t =>
      s.MacSaturated t rd true (fracHigh (sHigh a * sHigh b)) (fracHigh (sLow a * sLow b))) ∧
    (Runs (.evmwhumi rd ra rb) s fun t =>
      s.MacResult t rd false (pairOf (uHigh a * uHigh b / 4294967296) (uLow a * uLow b / 4294967296)) none) ∧
    (Runs (.evmwhumia rd ra rb) s fun t =>
      s.MacResult t rd true (pairOf (uHigh a * uHigh b / 4294967296) (uLow a * uLow b / 4294967296)) none) ∧
    (Runs (.evmwlsmiaaw rd ra rb) s fun t =>
      s.MacResult t rd true (pairOf (sHigh s.acc + sHigh a * sHigh b) (sLow s.acc + sLow a * sLow b)) none) ∧
    (Runs (.evmwlsmianw rd ra rb) s fun t =>
      s.MacResult t rd true (pairOf (sHigh s.acc - sHigh a * sHigh b) (sLow s.acc - sLow a * sLow b)) none) ∧
    (Runs (.evmwlssiaaw rd ra rb) s fun t =>
      s.MacSaturated t rd true (satSum satS32 (sHigh s.acc) 1 (low32S (sHigh a * sHigh b), false))
      (satSum satS32 (sLow s.acc) 1 (low32S (sLow a * sLow b), false))) ∧
    (Runs (.evmwlssianw rd ra rb) s fun t =>
      s.MacSaturated t rd true (satSum satS32 (sHigh s.acc) (-1) (low32S (sHigh a * sHigh b), false))
      (satSum satS32 (sLow s.acc) (-1) (low32S (sLow a * sLow b), false))) ∧
    (Runs (.evmwlumi rd ra rb) s fun t => s.MacResult t rd false (pairOf (uHigh a * uHigh b) (uLow a * uLow b)) none) ∧
    (Runs (.evmwlumia rd ra rb) s fun t => s.MacResult t rd true (pairOf (uHigh a * uHigh b) (uLow a * uLow b)) none) ∧
    (Runs (.evmwlumiaaw rd ra rb) s fun t =>
      s.MacResult t rd true (pairOf (uHigh s.acc + uHigh a * uHigh b) (uLow s.acc + uLow a * uLow b)) none) ∧
    (Runs (.evmwlumianw rd ra rb) s fun t =>
      s.MacResult t rd true (pairOf (uHigh s.acc - uHigh a * uHigh b) (uLow s.acc - uLow a * uLow b)) none) ∧
    (Runs (.evmwlusiaaw rd ra rb) s fun t =>
      s.MacSaturated t rd true (satSum satU32 (uHigh s.acc) 1 (low32U (uHigh a * uHigh b), false))
      (satSum satU32 (uLow s.acc) 1 (low32U (uLow a * uLow b), false))) ∧
    (Runs (.evmwlusianw rd ra rb) s fun t =>
      s.MacSaturated t rd true (satSum satU32 (uHigh s.acc) (-1) (low32U (uHigh a * uHigh b), false))
      (satSum satU32 (uLow s.acc) (-1) (low32U (uLow a * uLow b), false))) ∧
    (Runs (.evmwsmf rd ra rb) s fun t => s.MacResult t rd false (BitVec.ofInt 64 (2 * (sLow a * sLow b))) none) ∧
    (Runs (.evmwsmfa rd ra rb) s fun t => s.MacResult t rd true (BitVec.ofInt 64 (2 * (sLow a * sLow b))) none) ∧
    (Runs (.evmwsmfaa rd ra rb) s fun t =>
      s.MacResult t rd true (BitVec.ofInt 64 (s.acc.toInt + 2 * (sLow a * sLow b))) none) ∧
    (Runs (.evmwsmfan rd ra rb) s fun t =>
      s.MacResult t rd true (BitVec.ofInt 64 (s.acc.toInt - 2 * (sLow a * sLow b))) none) ∧
    (Runs (.evmwsmi rd ra rb) s fun t => s.MacResult t rd false (BitVec.ofInt 64 (sLow a * sLow b)) none) ∧
    (Runs (.evmwsmia rd ra rb) s fun t => s.MacResult t rd true (BitVec.ofInt 64 (sLow a * sLow b)) none) ∧
    (Runs (.evmwsmiaa rd ra rb) s fun t => s.MacResult t rd true (BitVec.ofInt 64 (s.acc.toInt + sLow a * sLow b)) none) ∧
    (Runs (.evmwsmian rd ra rb) s fun t => s.MacResult t rd true (BitVec.ofInt 64 (s.acc.toInt - sLow a * sLow b)) none) ∧
    (Runs (.evmwssf rd ra rb) s fun t => s.MacResult t rd false (BitVec.ofInt 64 (satS64 (2 * (sLow a * sLow b))).1)
      (some (false, (satS64 (2 * (sLow a * sLow b))).2))) ∧
    (Runs (.evmwssfa rd ra rb) s fun t => s.MacResult t rd true (BitVec.ofInt 64 (satS64 (2 * (sLow a * sLow b))).1)
      (some (false, (satS64 (2 * (sLow a * sLow b))).2))) ∧
    (Runs (.evmwssfaa rd ra rb) s fun t =>
      s.MacResult t rd true (BitVec.ofInt 64 (satSum satS64 s.acc.toInt 1 (satS64 (2 * (sLow a * sLow b)))).1)
      (some (false, (satSum satS64 s.acc.toInt 1 (satS64 (2 * (sLow a * sLow b)))).2))) ∧
    (Runs (.evmwssfan rd ra rb) s fun t =>
      s.MacResult t rd true (BitVec.ofInt 64 (satSum satS64 s.acc.toInt (-1) (satS64 (2 * (sLow a * sLow b)))).1)
      (some (false, (satSum satS64 s.acc.toInt (-1) (satS64 (2 * (sLow a * sLow b)))).2))) ∧
    (Runs (.evmwumi rd ra rb) s fun t => s.MacResult t rd false (BitVec.ofInt 64 (uLow a * uLow b)) none) ∧
    (Runs (.evmwumia rd ra rb) s fun t => s.MacResult t rd true (BitVec.ofInt 64 (uLow a * uLow b)) none) ∧
    (Runs (.evmwumiaa rd ra rb) s fun t => s.MacResult t rd true (BitVec.ofInt 64 (s.acc.toInt + uLow a * uLow b)) none) ∧
    (Runs (.evmwumian rd ra rb) s fun t => s.MacResult t rd true (BitVec.ofInt 64 (s.acc.toInt - uLow a * uLow b)) none) ∧
    (Runs (.evaddsmiaaw rd ra) s fun t =>
      s.MacResult t rd true (pairOf (sHigh s.acc + sHigh a) (sLow s.acc + sLow a)) none) ∧
    (Runs (.evaddssiaaw rd ra) s fun t => s.MacSaturated t rd true (satSum satS32 (sHigh s.acc) 1 (sHigh a,
      false)) (satSum satS32 (sLow s.acc) 1 (sLow a, false))) ∧
    (Runs (.evaddumiaaw rd ra) s fun t =>
      s.MacResult t rd true (pairOf (uHigh s.acc + uHigh a) (uLow s.acc + uLow a)) none) ∧
    (Runs (.evaddusiaaw rd ra) s fun t => s.MacSaturated t rd true (satSum satU32 (uHigh s.acc) 1 (uHigh a,
      false)) (satSum satU32 (uLow s.acc) 1 (uLow a, false))) ∧
    (Runs (.evsubfsmiaaw rd ra) s fun t =>
      s.MacResult t rd true (pairOf (sHigh s.acc - sHigh a) (sLow s.acc - sLow a)) none) ∧
    (Runs (.evsubfssiaaw rd ra) s fun t => s.MacSaturated t rd true (satSum satS32 (sHigh s.acc) (-1) (sHigh a,
      false)) (satSum satS32 (sLow s.acc) (-1) (sLow a, false))) ∧
    (Runs (.evsubfumiaaw rd ra) s fun t =>
      s.MacResult t rd true (pairOf (uHigh s.acc - uHigh a) (uLow s.acc - uLow a)) none) ∧
    (Runs (.evsubfusiaaw rd ra) s fun t => s.MacSaturated t rd true (satSum satU32 (uHigh s.acc) (-1) (uHigh a,
      false)) (satSum satU32 (uLow s.acc) (-1) (uLow a, false))) ∧
    (Runs (.evmra rd ra) s fun t => s.MacResult t rd true a none)

/-- The half-word multiplies deliver exact, modulo or saturated results in rD and ACC. R1520 to R1575, over the integers. -/
def Obligations.HalfWordMultiplyAccumulate : Prop :=
  ∀ (s : State) (rd ra rb : Reg), s.speOn = true →
    let a := s.r64 ra
    let b := s.r64 rb
    (Runs (.evmhegsmfaa rd ra rb) s fun t =>
      s.MacResult t rd true (BitVec.ofInt 64 (s.acc.toInt + 2 * (sHalf a 2 * sHalf b 2))) none) ∧
    (Runs (.evmhegsmfan rd ra rb) s fun t =>
      s.MacResult t rd true (BitVec.ofInt 64 (s.acc.toInt - 2 * (sHalf a 2 * sHalf b 2))) none) ∧
    (Runs (.evmhegsmiaa rd ra rb) s fun t =>
      s.MacResult t rd true (BitVec.ofInt 64 (s.acc.toInt + (sHalf a 2 * sHalf b 2))) none) ∧
    (Runs (.evmhegsmian rd ra rb) s fun t =>
      s.MacResult t rd true (BitVec.ofInt 64 (s.acc.toInt - (sHalf a 2 * sHalf b 2))) none) ∧
    (Runs (.evmhegumiaa rd ra rb) s fun t =>
      s.MacResult t rd true (BitVec.ofInt 64 (s.acc.toInt + (uHalf a 2 * uHalf b 2))) none) ∧
    (Runs (.evmhegumian rd ra rb) s fun t =>
      s.MacResult t rd true (BitVec.ofInt 64 (s.acc.toInt - (uHalf a 2 * uHalf b 2))) none) ∧
    (Runs (.evmhesmf rd ra rb) s fun t =>
      s.MacResult t rd false (pairOf (2 * (sHalf a 0 * sHalf b 0)) (2 * (sHalf a 2 * sHalf b 2))) none) ∧
    (Runs (.evmhesmfa rd ra rb) s fun t =>
      s.MacResult t rd true (pairOf (2 * (sHalf a 0 * sHalf b 0)) (2 * (sHalf a 2 * sHalf b 2))) none) ∧
    (Runs (.evmhesmfaaw rd ra rb) s fun t =>
      s.MacResult t rd true (pairOf (sHigh s.acc + (2 * (sHalf a 0 * sHalf b 0))) (sLow s.acc + (2 * (sHalf a 2 * sHalf b 2)))) none) ∧
    (Runs (.evmhesmfanw rd ra rb) s fun t =>
      s.MacResult t rd true (pairOf (sHigh s.acc - (2 * (sHalf a 0 * sHalf b 0))) (sLow s.acc - (2 * (sHalf a 2 * sHalf b 2)))) none) ∧
    (Runs (.evmhesmi rd ra rb) s fun t =>
      s.MacResult t rd false (pairOf (sHalf a 0 * sHalf b 0) (sHalf a 2 * sHalf b 2)) none) ∧
    (Runs (.evmhesmia rd ra rb) s fun t =>
      s.MacResult t rd true (pairOf (sHalf a 0 * sHalf b 0) (sHalf a 2 * sHalf b 2)) none) ∧
    (Runs (.evmhesmiaaw rd ra rb) s fun t =>
      s.MacResult t rd true (pairOf (sHigh s.acc + (sHalf a 0 * sHalf b 0)) (sLow s.acc + (sHalf a 2 * sHalf b 2))) none) ∧
    (Runs (.evmhesmianw rd ra rb) s fun t =>
      s.MacResult t rd true (pairOf (sHigh s.acc - (sHalf a 0 * sHalf b 0)) (sLow s.acc - (sHalf a 2 * sHalf b 2))) none) ∧
    (Runs (.evmhessf rd ra rb) s fun t =>
      s.MacSaturated t rd false (satS32 (2 * (sHalf a 0 * sHalf b 0))) (satS32 (2 * (sHalf a 2 * sHalf b 2)))) ∧
    (Runs (.evmhessfa rd ra rb) s fun t =>
      s.MacSaturated t rd true (satS32 (2 * (sHalf a 0 * sHalf b 0))) (satS32 (2 * (sHalf a 2 * sHalf b 2)))) ∧
    (Runs (.evmhessfaaw rd ra rb) s fun t =>
      s.MacSaturated t rd true (satSum satS32 (sHigh s.acc) 1 (satS32 (2 * (sHalf a 0 * sHalf b 0)))) (satSum satS32 (sLow s.acc) 1 (satS32 (2 * (sHalf a 2 * sHalf b 2))))) ∧
    (Runs (.evmhessfanw rd ra rb) s fun t =>
      s.MacSaturated t rd true (satSum satS32 (sHigh s.acc) (-1) (satS32 (2 * (sHalf a 0 * sHalf b 0)))) (satSum satS32 (sLow s.acc) (-1) (satS32 (2 * (sHalf a 2 * sHalf b 2))))) ∧
    (Runs (.evmhessiaaw rd ra rb) s fun t =>
      s.MacSaturated t rd true (satSum satS32 (sHigh s.acc) 1 (sHalf a 0 * sHalf b 0,
        false)) (satSum satS32 (sLow s.acc) 1 (sHalf a 2 * sHalf b 2, false))) ∧
    (Runs (.evmhessianw rd ra rb) s fun t =>
      s.MacSaturated t rd true (satSum satS32 (sHigh s.acc) (-1) (sHalf a 0 * sHalf b 0,
        false)) (satSum satS32 (sLow s.acc) (-1) (sHalf a 2 * sHalf b 2, false))) ∧
    (Runs (.evmheumi rd ra rb) s fun t =>
      s.MacResult t rd false (pairOf (uHalf a 0 * uHalf b 0) (uHalf a 2 * uHalf b 2)) none) ∧
    (Runs (.evmheumia rd ra rb) s fun t =>
      s.MacResult t rd true (pairOf (uHalf a 0 * uHalf b 0) (uHalf a 2 * uHalf b 2)) none) ∧
    (Runs (.evmheumiaaw rd ra rb) s fun t =>
      s.MacResult t rd true (pairOf (uHigh s.acc + (uHalf a 0 * uHalf b 0)) (uLow s.acc + (uHalf a 2 * uHalf b 2))) none) ∧
    (Runs (.evmheumianw rd ra rb) s fun t =>
      s.MacResult t rd true (pairOf (uHigh s.acc - (uHalf a 0 * uHalf b 0)) (uLow s.acc - (uHalf a 2 * uHalf b 2))) none) ∧
    (Runs (.evmheusiaaw rd ra rb) s fun t =>
      s.MacSaturated t rd true (satSum satU32 (uHigh s.acc) 1 (uHalf a 0 * uHalf b 0,
        false)) (satSum satU32 (uLow s.acc) 1 (uHalf a 2 * uHalf b 2, false))) ∧
    (Runs (.evmheusianw rd ra rb) s fun t =>
      s.MacSaturated t rd true (satSum satU32 (uHigh s.acc) (-1) (uHalf a 0 * uHalf b 0,
        false)) (satSum satU32 (uLow s.acc) (-1) (uHalf a 2 * uHalf b 2, false))) ∧
    (Runs (.evmhogsmfaa rd ra rb) s fun t =>
      s.MacResult t rd true (BitVec.ofInt 64 (s.acc.toInt + 2 * (sHalf a 3 * sHalf b 3))) none) ∧
    (Runs (.evmhogsmfan rd ra rb) s fun t =>
      s.MacResult t rd true (BitVec.ofInt 64 (s.acc.toInt - 2 * (sHalf a 3 * sHalf b 3))) none) ∧
    (Runs (.evmhogsmiaa rd ra rb) s fun t =>
      s.MacResult t rd true (BitVec.ofInt 64 (s.acc.toInt + (sHalf a 3 * sHalf b 3))) none) ∧
    (Runs (.evmhogsmian rd ra rb) s fun t =>
      s.MacResult t rd true (BitVec.ofInt 64 (s.acc.toInt - (sHalf a 3 * sHalf b 3))) none) ∧
    (Runs (.evmhogumiaa rd ra rb) s fun t =>
      s.MacResult t rd true (BitVec.ofInt 64 (s.acc.toInt + (uHalf a 3 * uHalf b 3))) none) ∧
    (Runs (.evmhogumian rd ra rb) s fun t =>
      s.MacResult t rd true (BitVec.ofInt 64 (s.acc.toInt - (uHalf a 3 * uHalf b 3))) none) ∧
    (Runs (.evmhosmf rd ra rb) s fun t =>
      s.MacResult t rd false (pairOf (2 * (sHalf a 1 * sHalf b 1)) (2 * (sHalf a 3 * sHalf b 3))) none) ∧
    (Runs (.evmhosmfa rd ra rb) s fun t =>
      s.MacResult t rd true (pairOf (2 * (sHalf a 1 * sHalf b 1)) (2 * (sHalf a 3 * sHalf b 3))) none) ∧
    (Runs (.evmhosmfaaw rd ra rb) s fun t =>
      s.MacResult t rd true (pairOf (sHigh s.acc + (2 * (sHalf a 1 * sHalf b 1))) (sLow s.acc + (2 * (sHalf a 3 * sHalf b 3)))) none) ∧
    (Runs (.evmhosmfanw rd ra rb) s fun t =>
      s.MacResult t rd true (pairOf (sHigh s.acc - (2 * (sHalf a 1 * sHalf b 1))) (sLow s.acc - (2 * (sHalf a 3 * sHalf b 3)))) none) ∧
    (Runs (.evmhosmi rd ra rb) s fun t =>
      s.MacResult t rd false (pairOf (sHalf a 1 * sHalf b 1) (sHalf a 3 * sHalf b 3)) none) ∧
    (Runs (.evmhosmia rd ra rb) s fun t =>
      s.MacResult t rd true (pairOf (sHalf a 1 * sHalf b 1) (sHalf a 3 * sHalf b 3)) none) ∧
    (Runs (.evmhosmiaaw rd ra rb) s fun t =>
      s.MacResult t rd true (pairOf (sHigh s.acc + (sHalf a 1 * sHalf b 1)) (sLow s.acc + (sHalf a 3 * sHalf b 3))) none) ∧
    (Runs (.evmhosmianw rd ra rb) s fun t =>
      s.MacResult t rd true (pairOf (sHigh s.acc - (sHalf a 1 * sHalf b 1)) (sLow s.acc - (sHalf a 3 * sHalf b 3))) none) ∧
    (Runs (.evmhossf rd ra rb) s fun t =>
      s.MacSaturated t rd false (satS32 (2 * (sHalf a 1 * sHalf b 1))) (satS32 (2 * (sHalf a 3 * sHalf b 3)))) ∧
    (Runs (.evmhossfa rd ra rb) s fun t =>
      s.MacSaturated t rd true (satS32 (2 * (sHalf a 1 * sHalf b 1))) (satS32 (2 * (sHalf a 3 * sHalf b 3)))) ∧
    (Runs (.evmhossfaaw rd ra rb) s fun t =>
      s.MacSaturated t rd true (satSum satS32 (sHigh s.acc) 1 (satS32 (2 * (sHalf a 1 * sHalf b 1)))) (satSum satS32 (sLow s.acc) 1 (satS32 (2 * (sHalf a 3 * sHalf b 3))))) ∧
    (Runs (.evmhossfanw rd ra rb) s fun t =>
      s.MacSaturated t rd true (satSum satS32 (sHigh s.acc) (-1) (satS32 (2 * (sHalf a 1 * sHalf b 1)))) (satSum satS32 (sLow s.acc) (-1) (satS32 (2 * (sHalf a 3 * sHalf b 3))))) ∧
    (Runs (.evmhossiaaw rd ra rb) s fun t =>
      s.MacSaturated t rd true (satSum satS32 (sHigh s.acc) 1 (sHalf a 1 * sHalf b 1,
        false)) (satSum satS32 (sLow s.acc) 1 (sHalf a 3 * sHalf b 3, false))) ∧
    (Runs (.evmhossianw rd ra rb) s fun t =>
      s.MacSaturated t rd true (satSum satS32 (sHigh s.acc) (-1) (sHalf a 1 * sHalf b 1,
        false)) (satSum satS32 (sLow s.acc) (-1) (sHalf a 3 * sHalf b 3, false))) ∧
    (Runs (.evmhoumi rd ra rb) s fun t =>
      s.MacResult t rd false (pairOf (uHalf a 1 * uHalf b 1) (uHalf a 3 * uHalf b 3)) none) ∧
    (Runs (.evmhoumia rd ra rb) s fun t =>
      s.MacResult t rd true (pairOf (uHalf a 1 * uHalf b 1) (uHalf a 3 * uHalf b 3)) none) ∧
    (Runs (.evmhoumiaaw rd ra rb) s fun t =>
      s.MacResult t rd true (pairOf (uHigh s.acc + (uHalf a 1 * uHalf b 1)) (uLow s.acc + (uHalf a 3 * uHalf b 3))) none) ∧
    (Runs (.evmhoumianw rd ra rb) s fun t =>
      s.MacResult t rd true (pairOf (uHigh s.acc - (uHalf a 1 * uHalf b 1)) (uLow s.acc - (uHalf a 3 * uHalf b 3))) none) ∧
    (Runs (.evmhousiaaw rd ra rb) s fun t =>
      s.MacSaturated t rd true (satSum satU32 (uHigh s.acc) 1 (uHalf a 1 * uHalf b 1,
        false)) (satSum satU32 (uLow s.acc) 1 (uHalf a 3 * uHalf b 3, false))) ∧
    (Runs (.evmhousianw rd ra rb) s fun t =>
      s.MacSaturated t rd true (satSum satU32 (uHigh s.acc) (-1) (uHalf a 1 * uHalf b 1,
        false)) (satSum satU32 (uLow s.acc) (-1) (uHalf a 3 * uHalf b 3, false)))

/-- The SPE loads lay the elements they read out in rD, and the SPE stores write the elements of RS, in the page's byte
order. R1810 to R1831, R1840 to R1853. That the word and half-word forms complete at any address is the model's choice
(assumption log entry 36, DESIGN CHOICE: R1805 against the table of R415). That a byte which the model's memory does not hold, in a read-only or device
region of the platform, keeps its value is the model's choice (assumption log entry 38, DESIGN CHOICE). -/
def Obligations.VectorLoadStoreInstructions : Prop :=
  ∀ (s : State) (rd rs ra rb : Reg) (uimm : BitVec 5),
    let v := s.r64 rs
    (∀ k, s.eaScaled ra uimm k = (if ra = 0 then 0 else s.r ra) + wordOf (k * uimm.toNat)) ∧
    VectorLoads (.evldd rd ra uimm) s true 8 rd (s.eaScaled ra uimm 8) (fun e bs => dwordOfBytes e bs) ∧
    VectorLoads (.evlddx rd ra rb) s true 8 rd (s.eaX ra rb) (fun e bs => dwordOfBytes e bs) ∧
    VectorLoads (.evldw rd ra uimm) s true 8 rd (s.eaScaled ra uimm 8) (fun e bs => wordOfBytes e bs 0 ++ wordOfBytes e bs 4) ∧
    VectorLoads (.evldwx rd ra rb) s true 8 rd (s.eaX ra rb) (fun e bs => wordOfBytes e bs 0 ++ wordOfBytes e bs 4) ∧
    VectorLoads (.evldh rd ra uimm) s true 8 rd (s.eaScaled ra uimm 8) (fun e bs => halfAt e bs 0 ++ halfAt e bs 2 ++ halfAt e bs 4 ++ halfAt e bs 6) ∧
    VectorLoads (.evldhx rd ra rb) s true 8 rd (s.eaX ra rb) (fun e bs => halfAt e bs 0 ++ halfAt e bs 2 ++ halfAt e bs 4 ++ halfAt e bs 6) ∧
    VectorLoads (.evlwhe rd ra uimm) s false 4 rd (s.eaScaled ra uimm 4) (fun e bs => halfAt e bs 0 ++ 0#16 ++ halfAt e bs 2 ++ 0#16) ∧
    VectorLoads (.evlwhex rd ra rb) s false 4 rd (s.eaX ra rb) (fun e bs => halfAt e bs 0 ++ 0#16 ++ halfAt e bs 2 ++ 0#16) ∧
    VectorLoads (.evlwhou rd ra uimm) s false 4 rd (s.eaScaled ra uimm 4) (fun e bs => 0#16 ++ halfAt e bs 0 ++ 0#16 ++ halfAt e bs 2) ∧
    VectorLoads (.evlwhoux rd ra rb) s false 4 rd (s.eaX ra rb) (fun e bs => 0#16 ++ halfAt e bs 0 ++ 0#16 ++ halfAt e bs 2) ∧
    VectorLoads (.evlwhos rd ra uimm) s false 4 rd (s.eaScaled ra uimm 4) (fun e bs => pairOf (halfAt e bs 0).toInt (halfAt e bs 2).toInt) ∧
    VectorLoads (.evlwhosx rd ra rb) s false 4 rd (s.eaX ra rb) (fun e bs => pairOf (halfAt e bs 0).toInt (halfAt e bs 2).toInt) ∧
    VectorLoads (.evlwwsplat rd ra uimm) s false 4 rd (s.eaScaled ra uimm 4) (fun e bs => wordOfBytes e bs 0 ++ wordOfBytes e bs 0) ∧
    VectorLoads (.evlwwsplatx rd ra rb) s false 4 rd (s.eaX ra rb) (fun e bs => wordOfBytes e bs 0 ++ wordOfBytes e bs 0) ∧
    VectorLoads (.evlwhsplat rd ra uimm) s false 4 rd (s.eaScaled ra uimm 4) (fun e bs => halfAt e bs 0 ++ halfAt e bs 0 ++ halfAt e bs 2 ++ halfAt e bs 2) ∧
    VectorLoads (.evlwhsplatx rd ra rb) s false 4 rd (s.eaX ra rb) (fun e bs => halfAt e bs 0 ++ halfAt e bs 0 ++ halfAt e bs 2 ++ halfAt e bs 2) ∧
    VectorLoads (.evlhhesplat rd ra uimm) s false 2 rd (s.eaScaled ra uimm 2) (fun e bs => halfAt e bs 0 ++ 0#16 ++ halfAt e bs 0 ++ 0#16) ∧
    VectorLoads (.evlhhesplatx rd ra rb) s false 2 rd (s.eaX ra rb) (fun e bs => halfAt e bs 0 ++ 0#16 ++ halfAt e bs 0 ++ 0#16) ∧
    VectorLoads (.evlhhousplat rd ra uimm) s false 2 rd (s.eaScaled ra uimm 2) (fun e bs => 0#16 ++ halfAt e bs 0 ++ 0#16 ++ halfAt e bs 0) ∧
    VectorLoads (.evlhhousplatx rd ra rb) s false 2 rd (s.eaX ra rb) (fun e bs => 0#16 ++ halfAt e bs 0 ++ 0#16 ++ halfAt e bs 0) ∧
    VectorLoads (.evlhhossplat rd ra uimm) s false 2 rd (s.eaScaled ra uimm 2) (fun e bs => pairOf (halfAt e bs 0).toInt (halfAt e bs 0).toInt) ∧
    VectorLoads (.evlhhossplatx rd ra rb) s false 2 rd (s.eaX ra rb) (fun e bs => pairOf (halfAt e bs 0).toInt (halfAt e bs 0).toInt) ∧
    VectorStores (.evstdd rs ra uimm) s true 8 (s.eaScaled ra uimm 8) (fun e => inOrder e ((List.range 8).map fun k => byteOf v k)) ∧
    VectorStores (.evstddx rs ra rb) s true 8 (s.eaX ra rb) (fun e => inOrder e ((List.range 8).map fun k => byteOf v k)) ∧
    VectorStores (.evstdw rs ra uimm) s true 8 (s.eaScaled ra uimm 8) (fun e => wordImage e v 0 ++ wordImage e v 1) ∧
    VectorStores (.evstdwx rs ra rb) s true 8 (s.eaX ra rb) (fun e => wordImage e v 0 ++ wordImage e v 1) ∧
    VectorStores (.evstdh rs ra uimm) s true 8 (s.eaScaled ra uimm 8) (fun e => halfImage e v 0 ++ halfImage e v 1 ++ halfImage e v 2 ++ halfImage e v 3) ∧
    VectorStores (.evstdhx rs ra rb) s true 8 (s.eaX ra rb) (fun e => halfImage e v 0 ++ halfImage e v 1 ++ halfImage e v 2 ++ halfImage e v 3) ∧
    VectorStores (.evstwhe rs ra uimm) s false 4 (s.eaScaled ra uimm 4) (fun e => halfImage e v 0 ++ halfImage e v 2) ∧
    VectorStores (.evstwhex rs ra rb) s false 4 (s.eaX ra rb) (fun e => halfImage e v 0 ++ halfImage e v 2) ∧
    VectorStores (.evstwho rs ra uimm) s false 4 (s.eaScaled ra uimm 4) (fun e => halfImage e v 1 ++ halfImage e v 3) ∧
    VectorStores (.evstwhox rs ra rb) s false 4 (s.eaX ra rb) (fun e => halfImage e v 1 ++ halfImage e v 3) ∧
    VectorStores (.evstwwe rs ra uimm) s false 4 (s.eaScaled ra uimm 4) (fun e => wordImage e v 0) ∧
    VectorStores (.evstwwex rs ra rb) s false 4 (s.eaX ra rb) (fun e => wordImage e v 0) ∧
    VectorStores (.evstwwo rs ra uimm) s false 4 (s.eaScaled ra uimm 4) (fun e => wordImage e v 1) ∧
    VectorStores (.evstwwox rs ra rb) s false 4 (s.eaX ra rb) (fun e => wordImage e v 1)

/-- Each data access, instruction fetch, line fill and cache or TLB command drives its bus requests with their attributes.
R2180, R2181 and R2185. The model's own choices: the transfer type of a VLE multiple (assumption log entry 32, DEDUCED), that
the M attribute of the page, which R433 drives to the bus, goes beside hprot on both ports (R2185 gives it no code), that a
fetch drives the size it fetches, that a command is driven even if the instruction is then turned away, and the address of
tlbre and tlbwe (the same entry, DESIGN CHOICE). -/
def Obligations.BusRequests : Prop :=
  (∀ (s : State) (ea : Word) (n : Nat) (kind : AccessKind) (m m2 : Mapping) (image : Bool → List Byte),
    n = 1 ∨ n = 2 ∨ n = 4 ∨ n = 8 →
    let first := ea.toNat % 8
    let real := realAddresses m m2 ea n
    let attributes (r : BusRequest) (e : TlbEntry) (write : Bool) : Prop :=
      r.port = .data ∧ r.write = write ∧ r.master = s.pins.masterid ∧ r.burst = false ∧ r.hprot.getLsbD 0 = true ∧
      r.hprot.getLsbD 1 = !s.userMode ∧ (r.hprot.getLsbD 5 = true ↔ kind = .atomic) ∧
      r.hprot.extractLsb' 2 3 = (if e.i then 0 else if e.g then 1 else if e.w then 6 else 7) ∧
      r.coherent = e.m ∧
      r.ttype = (match kind with | .base => 0 | .spe => 0 | .atomic => 1 | .multiple => 7)
    let lanes (r : BusRequest) (a b : Nat) : Prop := ∀ k, k < 8 → r.lanes.getLsbD k = decide (a ≤ k ∧ k < b)
    let container (r : BusRequest) (a b : Nat) : Prop := a / 2 ^ r.size.toNat = (b - 1) / 2 ^ r.size.toNat ∧
      (∀ j, j < r.size.toNat → a / 2 ^ j ≠ (b - 1) / 2 ^ j) ∧ (r.unaligned = true ↔ b - a ≠ 2 ^ r.size.toNat)
    let drives (t : State) (write : Bool) : Prop :=
      (first + n ≤ 8 → ∃ r, t.cur.signals = s.cur.signals ++ [.request r] ∧ attributes r m.entry write ∧
        r.address = m.real ea ∧ lanes r first (first + n) ∧ container r first (first + n) ∧
        r.data = if write then image m.entry.e else []) ∧
      (8 < first + n → ∃ r1 r2, t.cur.signals = s.cur.signals ++ [.request r1, .request r2] ∧
        attributes r1 m.entry write ∧ attributes r2 m2.entry write ∧ r1.address = m.real ea ∧ lanes r1 first 8 ∧
        2 ^ r1.size.toNat = n ∧ r1.unaligned = true ∧
        r1.data = (if write then (image m.entry.e).take (8 - first) else []) ∧
        r2.address = real.getD (8 - first) 0 ∧ lanes r2 0 (first + n - 8) ∧ container r2 0 (first + n - 8) ∧
        r2.data = if write then (image m.entry.e).drop (8 - first) else [])
    (s.CanLoad ea n m m2 → ∃ t, s.loadBytes ea n kind = .done (s.bytesAt m m2 ea n, m) t ∧ drives t false) ∧
    (s.CanStore ea n m m2 → ∃ ok t, s.storeImage ea n image kind = .done ok t ∧ drives t true)) ∧
  (∀ (s : State) (ea real : Word) (n : Nat) (e : TlbEntry), ea.toNat % 1024 = real.toNat % 1024 → n = 2 ∨ n = 4 →
    ea.toNat % 8 + n ≤ 8 →
    let x := s.fetchBytes ea real n e
    let single (r : BusRequest) : Prop := r.burst = false ∧ r.address = real ∧ 2 ^ r.size.toNat = n ∧
      ∀ k, k < 8 → r.lanes.getLsbD k = decide (real.toNat % 8 ≤ k ∧ k < real.toNat % 8 + n)
    let fill (w : Nat) (r : BusRequest) : Prop := r.burst = true ∧ r.address.toNat = real.toNat / 8 * 8 ∧ r.size = 3 ∧
      r.lanes = 0xFF ∧ r.way.toNat = w
    (s.ic.enabled = false → s.DrivesFetch x e single) ∧
    (s.ic.enabled = true → s.ic.edt < 2 → ¬s.TagError ea →
      (s.ic.hitWay ea real = none →
        (e.i = true → s.DrivesFetch x e single) ∧
        (e.i = false → (∀ k, k < s.ic.ways → ¬s.ic.Available (s.ic.setOf ea) false k) → s.DrivesFetch x e single) ∧
        (∀ w, e.i = false → s.ic.NextWay (s.ic.setOf ea) false w → s.DrivesFetch x e (fill w))) ∧
      ∀ w, s.ic.hitWay ea real = some w → ¬s.DataError (s.ic.line (s.ic.setOf ea) w) ea →
        x.Leaves fun t => t.cur.signals = s.cur.signals)) ∧
  ∀ (s t : State) (ct : BitVec 5) (ra rb : Reg),
    let shows (ttype : BitVec 5) (address : Word) : Prop :=
      ∃ r rest, t.cur.signals = s.cur.signals ++ .request r :: rest ∧ r.port = .data ∧ r.write = true ∧ r.size = 2 ∧
        r.hprot.getLsbD 0 = true ∧ r.hprot.getLsbD 1 = true ∧ r.burst = false ∧ r.ttype = ttype ∧ r.address = address ∧
        r.master = s.pins.masterid ∧ r.data = []
    let ea := s.eaX ra rb
    (exec (.icbi ra rb) s = .next t → shows 6 ea) ∧
    (exec (.icbt ct ra rb) s = .next t → shows 12 ea) ∧
    (exec (.icblc ct ra rb) s = .next t → shows 13 ea) ∧
    (exec (.icbtls ct ra rb) s = .next t → shows 14 ea) ∧
    (s.userMode = false →
      (exec (.tlbivax ra rb) s = .next t → shows 8 ea) ∧
      (exec (.tlbsx ra rb) s = .next t → shows 9 ea) ∧
      (exec .tlbre s = .next t → shows 10 (Config.tlbCommandAddress s.mmu.mas0)) ∧
      (exec .tlbwe s = .next t → shows 11 (Config.tlbCommandAddress s.mmu.mas0)))
end

