-- ==== Sys2Proof/Laws/State.lean ====
section
/-! SUPPORT. One lemma for each field of State after each update of it: what the update writes there, or that it leaves the
field alone. All hold by rfl. -/

namespace Sys2Proof.Machine

variable (s : State)

/-! ## setR64 -/

@[simp] theorem State.setR64_gpr (r : Reg) (v : Dword) : (s.setR64 r v).gpr = s.gpr.set r.toNat v r.isLt := rfl
@[simp] theorem State.setR64_pc (r : Reg) (v : Dword) : (s.setR64 r v).pc = s.pc := rfl
@[simp] theorem State.setR64_cr (r : Reg) (v : Dword) : (s.setR64 r v).cr = s.cr := rfl
@[simp] theorem State.setR64_xer (r : Reg) (v : Dword) : (s.setR64 r v).xer = s.xer := rfl
@[simp] theorem State.setR64_lr (r : Reg) (v : Dword) : (s.setR64 r v).lr = s.lr := rfl
@[simp] theorem State.setR64_ctr (r : Reg) (v : Dword) : (s.setR64 r v).ctr = s.ctr := rfl
@[simp] theorem State.setR64_msr (r : Reg) (v : Dword) : (s.setR64 r v).msr = s.msr := rfl
@[simp] theorem State.setR64_acc (r : Reg) (v : Dword) : (s.setR64 r v).acc = s.acc := rfl
@[simp] theorem State.setR64_spefscr (r : Reg) (v : Dword) : (s.setR64 r v).spefscr = s.spefscr := rfl
@[simp] theorem State.setR64_reserve (r : Reg) (v : Dword) : (s.setR64 r v).reserve = s.reserve := rfl
@[simp] theorem State.setR64_int (r : Reg) (v : Dword) : (s.setR64 r v).int = s.int := rfl
@[simp] theorem State.setR64_soft (r : Reg) (v : Dword) : (s.setR64 r v).soft = s.soft := rfl
@[simp] theorem State.setR64_tim (r : Reg) (v : Dword) : (s.setR64 r v).tim = s.tim := rfl
@[simp] theorem State.setR64_hid (r : Reg) (v : Dword) : (s.setR64 r v).hid = s.hid := rfl
@[simp] theorem State.setR64_mmu (r : Reg) (v : Dword) : (s.setR64 r v).mmu = s.mmu := rfl
@[simp] theorem State.setR64_ic (r : Reg) (v : Dword) : (s.setR64 r v).ic = s.ic := rfl
@[simp] theorem State.setR64_dbg (r : Reg) (v : Dword) : (s.setR64 r v).dbg = s.dbg := rfl
@[simp] theorem State.setR64_psu (r : Reg) (v : Dword) : (s.setR64 r v).psu = s.psu := rfl
@[simp] theorem State.setR64_once (r : Reg) (v : Dword) : (s.setR64 r v).once = s.once := rfl
@[simp] theorem State.setR64_nexus (r : Reg) (v : Dword) : (s.setR64 r v).nexus = s.nexus := rfl
@[simp] theorem State.setR64_pins (r : Reg) (v : Dword) : (s.setR64 r v).pins = s.pins := rfl
@[simp] theorem State.setR64_mem (r : Reg) (v : Dword) : (s.setR64 r v).mem = s.mem := rfl
@[simp] theorem State.setR64_busErrors (r : Reg) (v : Dword) : (s.setR64 r v).busErrors = s.busErrors := rfl
@[simp] theorem State.setR64_platform (r : Reg) (v : Dword) : (s.setR64 r v).platform = s.platform := rfl
@[simp] theorem State.setR64_waiting (r : Reg) (v : Dword) : (s.setR64 r v).waiting = s.waiting := rfl
@[simp] theorem State.setR64_debugHalt (r : Reg) (v : Dword) : (s.setR64 r v).debugHalt = s.debugHalt := rfl
@[simp] theorem State.setR64_nmiPending (r : Reg) (v : Dword) : (s.setR64 r v).nmiPending = s.nmiPending := rfl
@[simp] theorem State.setR64_sampled (r : Reg) (v : Dword) : (s.setR64 r v).sampled = s.sampled := rfl
@[simp] theorem State.setR64_firstFetch (r : Reg) (v : Dword) : (s.setR64 r v).firstFetch = s.firstFetch := rfl
@[simp] theorem State.setR64_cur (r : Reg) (v : Dword) : (s.setR64 r v).cur = s.cur := rfl
@[simp] theorem State.setR64_outputs (r : Reg) (v : Dword) : (s.setR64 r v).outputs = s.outputs := rfl
@[simp] theorem State.setR64_freeCtr (r : Reg) (v : Dword) : (s.setR64 r v).freeCtr = s.freeCtr := rfl
@[simp] theorem State.setR64_hostQueue (r : Reg) (v : Dword) : (s.setR64 r v).hostQueue = s.hostQueue := rfl
@[simp] theorem State.setR64_midway (r : Reg) (v : Dword) : (s.setR64 r v).midway = s.midway := rfl

/-! ## setR -/

@[simp] theorem State.setR_gpr (r : Reg) (v : Word) : (s.setR r v).gpr = s.gpr.set r.toNat (hi (s.r64 r) ++ v) r.isLt := rfl
@[simp] theorem State.setR_pc (r : Reg) (v : Word) : (s.setR r v).pc = s.pc := rfl
@[simp] theorem State.setR_cr (r : Reg) (v : Word) : (s.setR r v).cr = s.cr := rfl
@[simp] theorem State.setR_xer (r : Reg) (v : Word) : (s.setR r v).xer = s.xer := rfl
@[simp] theorem State.setR_lr (r : Reg) (v : Word) : (s.setR r v).lr = s.lr := rfl
@[simp] theorem State.setR_ctr (r : Reg) (v : Word) : (s.setR r v).ctr = s.ctr := rfl
@[simp] theorem State.setR_msr (r : Reg) (v : Word) : (s.setR r v).msr = s.msr := rfl
@[simp] theorem State.setR_acc (r : Reg) (v : Word) : (s.setR r v).acc = s.acc := rfl
@[simp] theorem State.setR_spefscr (r : Reg) (v : Word) : (s.setR r v).spefscr = s.spefscr := rfl
@[simp] theorem State.setR_reserve (r : Reg) (v : Word) : (s.setR r v).reserve = s.reserve := rfl
@[simp] theorem State.setR_int (r : Reg) (v : Word) : (s.setR r v).int = s.int := rfl
@[simp] theorem State.setR_soft (r : Reg) (v : Word) : (s.setR r v).soft = s.soft := rfl
@[simp] theorem State.setR_tim (r : Reg) (v : Word) : (s.setR r v).tim = s.tim := rfl
@[simp] theorem State.setR_hid (r : Reg) (v : Word) : (s.setR r v).hid = s.hid := rfl
@[simp] theorem State.setR_mmu (r : Reg) (v : Word) : (s.setR r v).mmu = s.mmu := rfl
@[simp] theorem State.setR_ic (r : Reg) (v : Word) : (s.setR r v).ic = s.ic := rfl
@[simp] theorem State.setR_dbg (r : Reg) (v : Word) : (s.setR r v).dbg = s.dbg := rfl
@[simp] theorem State.setR_psu (r : Reg) (v : Word) : (s.setR r v).psu = s.psu := rfl
@[simp] theorem State.setR_once (r : Reg) (v : Word) : (s.setR r v).once = s.once := rfl
@[simp] theorem State.setR_nexus (r : Reg) (v : Word) : (s.setR r v).nexus = s.nexus := rfl
@[simp] theorem State.setR_pins (r : Reg) (v : Word) : (s.setR r v).pins = s.pins := rfl
@[simp] theorem State.setR_mem (r : Reg) (v : Word) : (s.setR r v).mem = s.mem := rfl
@[simp] theorem State.setR_busErrors (r : Reg) (v : Word) : (s.setR r v).busErrors = s.busErrors := rfl
@[simp] theorem State.setR_platform (r : Reg) (v : Word) : (s.setR r v).platform = s.platform := rfl
@[simp] theorem State.setR_waiting (r : Reg) (v : Word) : (s.setR r v).waiting = s.waiting := rfl
@[simp] theorem State.setR_debugHalt (r : Reg) (v : Word) : (s.setR r v).debugHalt = s.debugHalt := rfl
@[simp] theorem State.setR_nmiPending (r : Reg) (v : Word) : (s.setR r v).nmiPending = s.nmiPending := rfl
@[simp] theorem State.setR_sampled (r : Reg) (v : Word) : (s.setR r v).sampled = s.sampled := rfl
@[simp] theorem State.setR_firstFetch (r : Reg) (v : Word) : (s.setR r v).firstFetch = s.firstFetch := rfl
@[simp] theorem State.setR_cur (r : Reg) (v : Word) : (s.setR r v).cur = s.cur := rfl
@[simp] theorem State.setR_outputs (r : Reg) (v : Word) : (s.setR r v).outputs = s.outputs := rfl
@[simp] theorem State.setR_freeCtr (r : Reg) (v : Word) : (s.setR r v).freeCtr = s.freeCtr := rfl
@[simp] theorem State.setR_hostQueue (r : Reg) (v : Word) : (s.setR r v).hostQueue = s.hostQueue := rfl
@[simp] theorem State.setR_midway (r : Reg) (v : Word) : (s.setR r v).midway = s.midway := rfl

/-! ## advance -/

@[simp] theorem State.advance_gpr (n : Word) : (s.advance n).gpr = s.gpr := rfl
@[simp] theorem State.advance_pc (n : Word) : (s.advance n).pc = s.pc + n := rfl
@[simp] theorem State.advance_cr (n : Word) : (s.advance n).cr = s.cr := rfl
@[simp] theorem State.advance_xer (n : Word) : (s.advance n).xer = s.xer := rfl
@[simp] theorem State.advance_lr (n : Word) : (s.advance n).lr = s.lr := rfl
@[simp] theorem State.advance_ctr (n : Word) : (s.advance n).ctr = s.ctr := rfl
@[simp] theorem State.advance_msr (n : Word) : (s.advance n).msr = s.msr := rfl
@[simp] theorem State.advance_acc (n : Word) : (s.advance n).acc = s.acc := rfl
@[simp] theorem State.advance_spefscr (n : Word) : (s.advance n).spefscr = s.spefscr := rfl
@[simp] theorem State.advance_reserve (n : Word) : (s.advance n).reserve = s.reserve := rfl
@[simp] theorem State.advance_int (n : Word) : (s.advance n).int = s.int := rfl
@[simp] theorem State.advance_soft (n : Word) : (s.advance n).soft = s.soft := rfl
@[simp] theorem State.advance_tim (n : Word) : (s.advance n).tim = s.tim := rfl
@[simp] theorem State.advance_hid (n : Word) : (s.advance n).hid = s.hid := rfl
@[simp] theorem State.advance_mmu (n : Word) : (s.advance n).mmu = s.mmu := rfl
@[simp] theorem State.advance_ic (n : Word) : (s.advance n).ic = s.ic := rfl
@[simp] theorem State.advance_dbg (n : Word) : (s.advance n).dbg = s.dbg := rfl
@[simp] theorem State.advance_psu (n : Word) : (s.advance n).psu = s.psu := rfl
@[simp] theorem State.advance_once (n : Word) : (s.advance n).once = s.once := rfl
@[simp] theorem State.advance_nexus (n : Word) : (s.advance n).nexus = s.nexus := rfl
@[simp] theorem State.advance_pins (n : Word) : (s.advance n).pins = s.pins := rfl
@[simp] theorem State.advance_mem (n : Word) : (s.advance n).mem = s.mem := rfl
@[simp] theorem State.advance_busErrors (n : Word) : (s.advance n).busErrors = s.busErrors := rfl
@[simp] theorem State.advance_platform (n : Word) : (s.advance n).platform = s.platform := rfl
@[simp] theorem State.advance_waiting (n : Word) : (s.advance n).waiting = s.waiting := rfl
@[simp] theorem State.advance_debugHalt (n : Word) : (s.advance n).debugHalt = s.debugHalt := rfl
@[simp] theorem State.advance_nmiPending (n : Word) : (s.advance n).nmiPending = s.nmiPending := rfl
@[simp] theorem State.advance_sampled (n : Word) : (s.advance n).sampled = s.sampled := rfl
@[simp] theorem State.advance_firstFetch (n : Word) : (s.advance n).firstFetch = s.firstFetch := rfl
@[simp] theorem State.advance_cur (n : Word) : (s.advance n).cur = s.cur := rfl
@[simp] theorem State.advance_outputs (n : Word) : (s.advance n).outputs = s.outputs := rfl
@[simp] theorem State.advance_freeCtr (n : Word) : (s.advance n).freeCtr = s.freeCtr := rfl
@[simp] theorem State.advance_hostQueue (n : Word) : (s.advance n).hostQueue = s.hostQueue := rfl
@[simp] theorem State.advance_midway (n : Word) : (s.advance n).midway = s.midway := rfl

/-! ## jump -/

@[simp] theorem State.jump_gpr (a : Word) : (s.jump a).gpr = s.gpr := rfl
@[simp] theorem State.jump_pc (a : Word) : (s.jump a).pc = codeAddress a := rfl
@[simp] theorem State.jump_cr (a : Word) : (s.jump a).cr = s.cr := rfl
@[simp] theorem State.jump_xer (a : Word) : (s.jump a).xer = s.xer := rfl
@[simp] theorem State.jump_lr (a : Word) : (s.jump a).lr = s.lr := rfl
@[simp] theorem State.jump_ctr (a : Word) : (s.jump a).ctr = s.ctr := rfl
@[simp] theorem State.jump_msr (a : Word) : (s.jump a).msr = s.msr := rfl
@[simp] theorem State.jump_acc (a : Word) : (s.jump a).acc = s.acc := rfl
@[simp] theorem State.jump_spefscr (a : Word) : (s.jump a).spefscr = s.spefscr := rfl
@[simp] theorem State.jump_reserve (a : Word) : (s.jump a).reserve = s.reserve := rfl
@[simp] theorem State.jump_int (a : Word) : (s.jump a).int = s.int := rfl
@[simp] theorem State.jump_soft (a : Word) : (s.jump a).soft = s.soft := rfl
@[simp] theorem State.jump_tim (a : Word) : (s.jump a).tim = s.tim := rfl
@[simp] theorem State.jump_hid (a : Word) : (s.jump a).hid = s.hid := rfl
@[simp] theorem State.jump_mmu (a : Word) : (s.jump a).mmu = s.mmu := rfl
@[simp] theorem State.jump_ic (a : Word) : (s.jump a).ic = s.ic := rfl
@[simp] theorem State.jump_dbg (a : Word) : (s.jump a).dbg = s.dbg := rfl
@[simp] theorem State.jump_psu (a : Word) : (s.jump a).psu = s.psu := rfl
@[simp] theorem State.jump_once (a : Word) : (s.jump a).once = s.once := rfl
@[simp] theorem State.jump_nexus (a : Word) : (s.jump a).nexus = s.nexus := rfl
@[simp] theorem State.jump_pins (a : Word) : (s.jump a).pins = s.pins := rfl
@[simp] theorem State.jump_mem (a : Word) : (s.jump a).mem = s.mem := rfl
@[simp] theorem State.jump_busErrors (a : Word) : (s.jump a).busErrors = s.busErrors := rfl
@[simp] theorem State.jump_platform (a : Word) : (s.jump a).platform = s.platform := rfl
@[simp] theorem State.jump_waiting (a : Word) : (s.jump a).waiting = s.waiting := rfl
@[simp] theorem State.jump_debugHalt (a : Word) : (s.jump a).debugHalt = s.debugHalt := rfl
@[simp] theorem State.jump_nmiPending (a : Word) : (s.jump a).nmiPending = s.nmiPending := rfl
@[simp] theorem State.jump_sampled (a : Word) : (s.jump a).sampled = s.sampled := rfl
@[simp] theorem State.jump_firstFetch (a : Word) : (s.jump a).firstFetch = s.firstFetch := rfl
@[simp] theorem State.jump_cur (a : Word) : (s.jump a).cur = s.cur := rfl
@[simp] theorem State.jump_outputs (a : Word) : (s.jump a).outputs = s.outputs := rfl
@[simp] theorem State.jump_freeCtr (a : Word) : (s.jump a).freeCtr = s.freeCtr := rfl
@[simp] theorem State.jump_hostQueue (a : Word) : (s.jump a).hostQueue = s.hostQueue := rfl
@[simp] theorem State.jump_midway (a : Word) : (s.jump a).midway = s.midway := rfl

/-! ## setCr -/

@[simp] theorem State.setCr_gpr (v : Word) : (s.setCr v).gpr = s.gpr := rfl
@[simp] theorem State.setCr_pc (v : Word) : (s.setCr v).pc = s.pc := rfl
@[simp] theorem State.setCr_cr (v : Word) : (s.setCr v).cr = v := rfl
@[simp] theorem State.setCr_xer (v : Word) : (s.setCr v).xer = s.xer := rfl
@[simp] theorem State.setCr_lr (v : Word) : (s.setCr v).lr = s.lr := rfl
@[simp] theorem State.setCr_ctr (v : Word) : (s.setCr v).ctr = s.ctr := rfl
@[simp] theorem State.setCr_msr (v : Word) : (s.setCr v).msr = s.msr := rfl
@[simp] theorem State.setCr_acc (v : Word) : (s.setCr v).acc = s.acc := rfl
@[simp] theorem State.setCr_spefscr (v : Word) : (s.setCr v).spefscr = s.spefscr := rfl
@[simp] theorem State.setCr_reserve (v : Word) : (s.setCr v).reserve = s.reserve := rfl
@[simp] theorem State.setCr_int (v : Word) : (s.setCr v).int = s.int := rfl
@[simp] theorem State.setCr_soft (v : Word) : (s.setCr v).soft = s.soft := rfl
@[simp] theorem State.setCr_tim (v : Word) : (s.setCr v).tim = s.tim := rfl
@[simp] theorem State.setCr_hid (v : Word) : (s.setCr v).hid = s.hid := rfl
@[simp] theorem State.setCr_mmu (v : Word) : (s.setCr v).mmu = s.mmu := rfl
@[simp] theorem State.setCr_ic (v : Word) : (s.setCr v).ic = s.ic := rfl
@[simp] theorem State.setCr_dbg (v : Word) : (s.setCr v).dbg = s.dbg := rfl
@[simp] theorem State.setCr_psu (v : Word) : (s.setCr v).psu = s.psu := rfl
@[simp] theorem State.setCr_once (v : Word) : (s.setCr v).once = s.once := rfl
@[simp] theorem State.setCr_nexus (v : Word) : (s.setCr v).nexus = s.nexus := rfl
@[simp] theorem State.setCr_pins (v : Word) : (s.setCr v).pins = s.pins := rfl
@[simp] theorem State.setCr_mem (v : Word) : (s.setCr v).mem = s.mem := rfl
@[simp] theorem State.setCr_busErrors (v : Word) : (s.setCr v).busErrors = s.busErrors := rfl
@[simp] theorem State.setCr_platform (v : Word) : (s.setCr v).platform = s.platform := rfl
@[simp] theorem State.setCr_waiting (v : Word) : (s.setCr v).waiting = s.waiting := rfl
@[simp] theorem State.setCr_debugHalt (v : Word) : (s.setCr v).debugHalt = s.debugHalt := rfl
@[simp] theorem State.setCr_nmiPending (v : Word) : (s.setCr v).nmiPending = s.nmiPending := rfl
@[simp] theorem State.setCr_sampled (v : Word) : (s.setCr v).sampled = s.sampled := rfl
@[simp] theorem State.setCr_firstFetch (v : Word) : (s.setCr v).firstFetch = s.firstFetch := rfl
@[simp] theorem State.setCr_cur (v : Word) : (s.setCr v).cur = s.cur := rfl
@[simp] theorem State.setCr_outputs (v : Word) : (s.setCr v).outputs = s.outputs := rfl
@[simp] theorem State.setCr_freeCtr (v : Word) : (s.setCr v).freeCtr = s.freeCtr := rfl
@[simp] theorem State.setCr_hostQueue (v : Word) : (s.setCr v).hostQueue = s.hostQueue := rfl
@[simp] theorem State.setCr_midway (v : Word) : (s.setCr v).midway = s.midway := rfl

/-! ## setXer -/

@[simp] theorem State.setXer_gpr (v : Word) : (s.setXer v).gpr = s.gpr := rfl
@[simp] theorem State.setXer_pc (v : Word) : (s.setXer v).pc = s.pc := rfl
@[simp] theorem State.setXer_cr (v : Word) : (s.setXer v).cr = s.cr := rfl
@[simp] theorem State.setXer_xer (v : Word) : (s.setXer v).xer = v := rfl
@[simp] theorem State.setXer_lr (v : Word) : (s.setXer v).lr = s.lr := rfl
@[simp] theorem State.setXer_ctr (v : Word) : (s.setXer v).ctr = s.ctr := rfl
@[simp] theorem State.setXer_msr (v : Word) : (s.setXer v).msr = s.msr := rfl
@[simp] theorem State.setXer_acc (v : Word) : (s.setXer v).acc = s.acc := rfl
@[simp] theorem State.setXer_spefscr (v : Word) : (s.setXer v).spefscr = s.spefscr := rfl
@[simp] theorem State.setXer_reserve (v : Word) : (s.setXer v).reserve = s.reserve := rfl
@[simp] theorem State.setXer_int (v : Word) : (s.setXer v).int = s.int := rfl
@[simp] theorem State.setXer_soft (v : Word) : (s.setXer v).soft = s.soft := rfl
@[simp] theorem State.setXer_tim (v : Word) : (s.setXer v).tim = s.tim := rfl
@[simp] theorem State.setXer_hid (v : Word) : (s.setXer v).hid = s.hid := rfl
@[simp] theorem State.setXer_mmu (v : Word) : (s.setXer v).mmu = s.mmu := rfl
@[simp] theorem State.setXer_ic (v : Word) : (s.setXer v).ic = s.ic := rfl
@[simp] theorem State.setXer_dbg (v : Word) : (s.setXer v).dbg = s.dbg := rfl
@[simp] theorem State.setXer_psu (v : Word) : (s.setXer v).psu = s.psu := rfl
@[simp] theorem State.setXer_once (v : Word) : (s.setXer v).once = s.once := rfl
@[simp] theorem State.setXer_nexus (v : Word) : (s.setXer v).nexus = s.nexus := rfl
@[simp] theorem State.setXer_pins (v : Word) : (s.setXer v).pins = s.pins := rfl
@[simp] theorem State.setXer_mem (v : Word) : (s.setXer v).mem = s.mem := rfl
@[simp] theorem State.setXer_busErrors (v : Word) : (s.setXer v).busErrors = s.busErrors := rfl
@[simp] theorem State.setXer_platform (v : Word) : (s.setXer v).platform = s.platform := rfl
@[simp] theorem State.setXer_waiting (v : Word) : (s.setXer v).waiting = s.waiting := rfl
@[simp] theorem State.setXer_debugHalt (v : Word) : (s.setXer v).debugHalt = s.debugHalt := rfl
@[simp] theorem State.setXer_nmiPending (v : Word) : (s.setXer v).nmiPending = s.nmiPending := rfl
@[simp] theorem State.setXer_sampled (v : Word) : (s.setXer v).sampled = s.sampled := rfl
@[simp] theorem State.setXer_firstFetch (v : Word) : (s.setXer v).firstFetch = s.firstFetch := rfl
@[simp] theorem State.setXer_cur (v : Word) : (s.setXer v).cur = s.cur := rfl
@[simp] theorem State.setXer_outputs (v : Word) : (s.setXer v).outputs = s.outputs := rfl
@[simp] theorem State.setXer_freeCtr (v : Word) : (s.setXer v).freeCtr = s.freeCtr := rfl
@[simp] theorem State.setXer_hostQueue (v : Word) : (s.setXer v).hostQueue = s.hostQueue := rfl
@[simp] theorem State.setXer_midway (v : Word) : (s.setXer v).midway = s.midway := rfl

/-! ## setLr -/

@[simp] theorem State.setLr_gpr (v : Word) : (s.setLr v).gpr = s.gpr := rfl
@[simp] theorem State.setLr_pc (v : Word) : (s.setLr v).pc = s.pc := rfl
@[simp] theorem State.setLr_cr (v : Word) : (s.setLr v).cr = s.cr := rfl
@[simp] theorem State.setLr_xer (v : Word) : (s.setLr v).xer = s.xer := rfl
@[simp] theorem State.setLr_lr (v : Word) : (s.setLr v).lr = v := rfl
@[simp] theorem State.setLr_ctr (v : Word) : (s.setLr v).ctr = s.ctr := rfl
@[simp] theorem State.setLr_msr (v : Word) : (s.setLr v).msr = s.msr := rfl
@[simp] theorem State.setLr_acc (v : Word) : (s.setLr v).acc = s.acc := rfl
@[simp] theorem State.setLr_spefscr (v : Word) : (s.setLr v).spefscr = s.spefscr := rfl
@[simp] theorem State.setLr_reserve (v : Word) : (s.setLr v).reserve = s.reserve := rfl
@[simp] theorem State.setLr_int (v : Word) : (s.setLr v).int = s.int := rfl
@[simp] theorem State.setLr_soft (v : Word) : (s.setLr v).soft = s.soft := rfl
@[simp] theorem State.setLr_tim (v : Word) : (s.setLr v).tim = s.tim := rfl
@[simp] theorem State.setLr_hid (v : Word) : (s.setLr v).hid = s.hid := rfl
@[simp] theorem State.setLr_mmu (v : Word) : (s.setLr v).mmu = s.mmu := rfl
@[simp] theorem State.setLr_ic (v : Word) : (s.setLr v).ic = s.ic := rfl
@[simp] theorem State.setLr_dbg (v : Word) : (s.setLr v).dbg = s.dbg := rfl
@[simp] theorem State.setLr_psu (v : Word) : (s.setLr v).psu = s.psu := rfl
@[simp] theorem State.setLr_once (v : Word) : (s.setLr v).once = s.once := rfl
@[simp] theorem State.setLr_nexus (v : Word) : (s.setLr v).nexus = s.nexus := rfl
@[simp] theorem State.setLr_pins (v : Word) : (s.setLr v).pins = s.pins := rfl
@[simp] theorem State.setLr_mem (v : Word) : (s.setLr v).mem = s.mem := rfl
@[simp] theorem State.setLr_busErrors (v : Word) : (s.setLr v).busErrors = s.busErrors := rfl
@[simp] theorem State.setLr_platform (v : Word) : (s.setLr v).platform = s.platform := rfl
@[simp] theorem State.setLr_waiting (v : Word) : (s.setLr v).waiting = s.waiting := rfl
@[simp] theorem State.setLr_debugHalt (v : Word) : (s.setLr v).debugHalt = s.debugHalt := rfl
@[simp] theorem State.setLr_nmiPending (v : Word) : (s.setLr v).nmiPending = s.nmiPending := rfl
@[simp] theorem State.setLr_sampled (v : Word) : (s.setLr v).sampled = s.sampled := rfl
@[simp] theorem State.setLr_firstFetch (v : Word) : (s.setLr v).firstFetch = s.firstFetch := rfl
@[simp] theorem State.setLr_cur (v : Word) : (s.setLr v).cur = s.cur := rfl
@[simp] theorem State.setLr_outputs (v : Word) : (s.setLr v).outputs = s.outputs := rfl
@[simp] theorem State.setLr_freeCtr (v : Word) : (s.setLr v).freeCtr = s.freeCtr := rfl
@[simp] theorem State.setLr_hostQueue (v : Word) : (s.setLr v).hostQueue = s.hostQueue := rfl
@[simp] theorem State.setLr_midway (v : Word) : (s.setLr v).midway = s.midway := rfl

/-! ## setCtr -/

@[simp] theorem State.setCtr_gpr (v : Word) : (s.setCtr v).gpr = s.gpr := rfl
@[simp] theorem State.setCtr_pc (v : Word) : (s.setCtr v).pc = s.pc := rfl
@[simp] theorem State.setCtr_cr (v : Word) : (s.setCtr v).cr = s.cr := rfl
@[simp] theorem State.setCtr_xer (v : Word) : (s.setCtr v).xer = s.xer := rfl
@[simp] theorem State.setCtr_lr (v : Word) : (s.setCtr v).lr = s.lr := rfl
@[simp] theorem State.setCtr_ctr (v : Word) : (s.setCtr v).ctr = v := rfl
@[simp] theorem State.setCtr_msr (v : Word) : (s.setCtr v).msr = s.msr := rfl
@[simp] theorem State.setCtr_acc (v : Word) : (s.setCtr v).acc = s.acc := rfl
@[simp] theorem State.setCtr_spefscr (v : Word) : (s.setCtr v).spefscr = s.spefscr := rfl
@[simp] theorem State.setCtr_reserve (v : Word) : (s.setCtr v).reserve = s.reserve := rfl
@[simp] theorem State.setCtr_int (v : Word) : (s.setCtr v).int = s.int := rfl
@[simp] theorem State.setCtr_soft (v : Word) : (s.setCtr v).soft = s.soft := rfl
@[simp] theorem State.setCtr_tim (v : Word) : (s.setCtr v).tim = s.tim := rfl
@[simp] theorem State.setCtr_hid (v : Word) : (s.setCtr v).hid = s.hid := rfl
@[simp] theorem State.setCtr_mmu (v : Word) : (s.setCtr v).mmu = s.mmu := rfl
@[simp] theorem State.setCtr_ic (v : Word) : (s.setCtr v).ic = s.ic := rfl
@[simp] theorem State.setCtr_dbg (v : Word) : (s.setCtr v).dbg = s.dbg := rfl
@[simp] theorem State.setCtr_psu (v : Word) : (s.setCtr v).psu = s.psu := rfl
@[simp] theorem State.setCtr_once (v : Word) : (s.setCtr v).once = s.once := rfl
@[simp] theorem State.setCtr_nexus (v : Word) : (s.setCtr v).nexus = s.nexus := rfl
@[simp] theorem State.setCtr_pins (v : Word) : (s.setCtr v).pins = s.pins := rfl
@[simp] theorem State.setCtr_mem (v : Word) : (s.setCtr v).mem = s.mem := rfl
@[simp] theorem State.setCtr_busErrors (v : Word) : (s.setCtr v).busErrors = s.busErrors := rfl
@[simp] theorem State.setCtr_platform (v : Word) : (s.setCtr v).platform = s.platform := rfl
@[simp] theorem State.setCtr_waiting (v : Word) : (s.setCtr v).waiting = s.waiting := rfl
@[simp] theorem State.setCtr_debugHalt (v : Word) : (s.setCtr v).debugHalt = s.debugHalt := rfl
@[simp] theorem State.setCtr_nmiPending (v : Word) : (s.setCtr v).nmiPending = s.nmiPending := rfl
@[simp] theorem State.setCtr_sampled (v : Word) : (s.setCtr v).sampled = s.sampled := rfl
@[simp] theorem State.setCtr_firstFetch (v : Word) : (s.setCtr v).firstFetch = s.firstFetch := rfl
@[simp] theorem State.setCtr_cur (v : Word) : (s.setCtr v).cur = s.cur := rfl
@[simp] theorem State.setCtr_outputs (v : Word) : (s.setCtr v).outputs = s.outputs := rfl
@[simp] theorem State.setCtr_freeCtr (v : Word) : (s.setCtr v).freeCtr = s.freeCtr := rfl
@[simp] theorem State.setCtr_hostQueue (v : Word) : (s.setCtr v).hostQueue = s.hostQueue := rfl
@[simp] theorem State.setCtr_midway (v : Word) : (s.setCtr v).midway = s.midway := rfl

/-! ## setAcc -/

@[simp] theorem State.setAcc_gpr (v : Dword) : (s.setAcc v).gpr = s.gpr := rfl
@[simp] theorem State.setAcc_pc (v : Dword) : (s.setAcc v).pc = s.pc := rfl
@[simp] theorem State.setAcc_cr (v : Dword) : (s.setAcc v).cr = s.cr := rfl
@[simp] theorem State.setAcc_xer (v : Dword) : (s.setAcc v).xer = s.xer := rfl
@[simp] theorem State.setAcc_lr (v : Dword) : (s.setAcc v).lr = s.lr := rfl
@[simp] theorem State.setAcc_ctr (v : Dword) : (s.setAcc v).ctr = s.ctr := rfl
@[simp] theorem State.setAcc_msr (v : Dword) : (s.setAcc v).msr = s.msr := rfl
@[simp] theorem State.setAcc_acc (v : Dword) : (s.setAcc v).acc = v := rfl
@[simp] theorem State.setAcc_spefscr (v : Dword) : (s.setAcc v).spefscr = s.spefscr := rfl
@[simp] theorem State.setAcc_reserve (v : Dword) : (s.setAcc v).reserve = s.reserve := rfl
@[simp] theorem State.setAcc_int (v : Dword) : (s.setAcc v).int = s.int := rfl
@[simp] theorem State.setAcc_soft (v : Dword) : (s.setAcc v).soft = s.soft := rfl
@[simp] theorem State.setAcc_tim (v : Dword) : (s.setAcc v).tim = s.tim := rfl
@[simp] theorem State.setAcc_hid (v : Dword) : (s.setAcc v).hid = s.hid := rfl
@[simp] theorem State.setAcc_mmu (v : Dword) : (s.setAcc v).mmu = s.mmu := rfl
@[simp] theorem State.setAcc_ic (v : Dword) : (s.setAcc v).ic = s.ic := rfl
@[simp] theorem State.setAcc_dbg (v : Dword) : (s.setAcc v).dbg = s.dbg := rfl
@[simp] theorem State.setAcc_psu (v : Dword) : (s.setAcc v).psu = s.psu := rfl
@[simp] theorem State.setAcc_once (v : Dword) : (s.setAcc v).once = s.once := rfl
@[simp] theorem State.setAcc_nexus (v : Dword) : (s.setAcc v).nexus = s.nexus := rfl
@[simp] theorem State.setAcc_pins (v : Dword) : (s.setAcc v).pins = s.pins := rfl
@[simp] theorem State.setAcc_mem (v : Dword) : (s.setAcc v).mem = s.mem := rfl
@[simp] theorem State.setAcc_busErrors (v : Dword) : (s.setAcc v).busErrors = s.busErrors := rfl
@[simp] theorem State.setAcc_platform (v : Dword) : (s.setAcc v).platform = s.platform := rfl
@[simp] theorem State.setAcc_waiting (v : Dword) : (s.setAcc v).waiting = s.waiting := rfl
@[simp] theorem State.setAcc_debugHalt (v : Dword) : (s.setAcc v).debugHalt = s.debugHalt := rfl
@[simp] theorem State.setAcc_nmiPending (v : Dword) : (s.setAcc v).nmiPending = s.nmiPending := rfl
@[simp] theorem State.setAcc_sampled (v : Dword) : (s.setAcc v).sampled = s.sampled := rfl
@[simp] theorem State.setAcc_firstFetch (v : Dword) : (s.setAcc v).firstFetch = s.firstFetch := rfl
@[simp] theorem State.setAcc_cur (v : Dword) : (s.setAcc v).cur = s.cur := rfl
@[simp] theorem State.setAcc_outputs (v : Dword) : (s.setAcc v).outputs = s.outputs := rfl
@[simp] theorem State.setAcc_freeCtr (v : Dword) : (s.setAcc v).freeCtr = s.freeCtr := rfl
@[simp] theorem State.setAcc_hostQueue (v : Dword) : (s.setAcc v).hostQueue = s.hostQueue := rfl
@[simp] theorem State.setAcc_midway (v : Dword) : (s.setAcc v).midway = s.midway := rfl

/-! ## setSpefscr -/

@[simp] theorem State.setSpefscr_gpr (v : Word) : (s.setSpefscr v).gpr = s.gpr := rfl
@[simp] theorem State.setSpefscr_pc (v : Word) : (s.setSpefscr v).pc = s.pc := rfl
@[simp] theorem State.setSpefscr_cr (v : Word) : (s.setSpefscr v).cr = s.cr := rfl
@[simp] theorem State.setSpefscr_xer (v : Word) : (s.setSpefscr v).xer = s.xer := rfl
@[simp] theorem State.setSpefscr_lr (v : Word) : (s.setSpefscr v).lr = s.lr := rfl
@[simp] theorem State.setSpefscr_ctr (v : Word) : (s.setSpefscr v).ctr = s.ctr := rfl
@[simp] theorem State.setSpefscr_msr (v : Word) : (s.setSpefscr v).msr = s.msr := rfl
@[simp] theorem State.setSpefscr_acc (v : Word) : (s.setSpefscr v).acc = s.acc := rfl
@[simp] theorem State.setSpefscr_spefscr (v : Word) : (s.setSpefscr v).spefscr = v := rfl
@[simp] theorem State.setSpefscr_reserve (v : Word) : (s.setSpefscr v).reserve = s.reserve := rfl
@[simp] theorem State.setSpefscr_int (v : Word) : (s.setSpefscr v).int = s.int := rfl
@[simp] theorem State.setSpefscr_soft (v : Word) : (s.setSpefscr v).soft = s.soft := rfl
@[simp] theorem State.setSpefscr_tim (v : Word) : (s.setSpefscr v).tim = s.tim := rfl
@[simp] theorem State.setSpefscr_hid (v : Word) : (s.setSpefscr v).hid = s.hid := rfl
@[simp] theorem State.setSpefscr_mmu (v : Word) : (s.setSpefscr v).mmu = s.mmu := rfl
@[simp] theorem State.setSpefscr_ic (v : Word) : (s.setSpefscr v).ic = s.ic := rfl
@[simp] theorem State.setSpefscr_dbg (v : Word) : (s.setSpefscr v).dbg = s.dbg := rfl
@[simp] theorem State.setSpefscr_psu (v : Word) : (s.setSpefscr v).psu = s.psu := rfl
@[simp] theorem State.setSpefscr_once (v : Word) : (s.setSpefscr v).once = s.once := rfl
@[simp] theorem State.setSpefscr_nexus (v : Word) : (s.setSpefscr v).nexus = s.nexus := rfl
@[simp] theorem State.setSpefscr_pins (v : Word) : (s.setSpefscr v).pins = s.pins := rfl
@[simp] theorem State.setSpefscr_mem (v : Word) : (s.setSpefscr v).mem = s.mem := rfl
@[simp] theorem State.setSpefscr_busErrors (v : Word) : (s.setSpefscr v).busErrors = s.busErrors := rfl
@[simp] theorem State.setSpefscr_platform (v : Word) : (s.setSpefscr v).platform = s.platform := rfl
@[simp] theorem State.setSpefscr_waiting (v : Word) : (s.setSpefscr v).waiting = s.waiting := rfl
@[simp] theorem State.setSpefscr_debugHalt (v : Word) : (s.setSpefscr v).debugHalt = s.debugHalt := rfl
@[simp] theorem State.setSpefscr_nmiPending (v : Word) : (s.setSpefscr v).nmiPending = s.nmiPending := rfl
@[simp] theorem State.setSpefscr_sampled (v : Word) : (s.setSpefscr v).sampled = s.sampled := rfl
@[simp] theorem State.setSpefscr_firstFetch (v : Word) : (s.setSpefscr v).firstFetch = s.firstFetch := rfl
@[simp] theorem State.setSpefscr_cur (v : Word) : (s.setSpefscr v).cur = s.cur := rfl
@[simp] theorem State.setSpefscr_outputs (v : Word) : (s.setSpefscr v).outputs = s.outputs := rfl
@[simp] theorem State.setSpefscr_freeCtr (v : Word) : (s.setSpefscr v).freeCtr = s.freeCtr := rfl
@[simp] theorem State.setSpefscr_hostQueue (v : Word) : (s.setSpefscr v).hostQueue = s.hostQueue := rfl
@[simp] theorem State.setSpefscr_midway (v : Word) : (s.setSpefscr v).midway = s.midway := rfl

/-! ## setReserve -/

@[simp] theorem State.setReserve_gpr (v : Bool) : (s.setReserve v).gpr = s.gpr := rfl
@[simp] theorem State.setReserve_pc (v : Bool) : (s.setReserve v).pc = s.pc := rfl
@[simp] theorem State.setReserve_cr (v : Bool) : (s.setReserve v).cr = s.cr := rfl
@[simp] theorem State.setReserve_xer (v : Bool) : (s.setReserve v).xer = s.xer := rfl
@[simp] theorem State.setReserve_lr (v : Bool) : (s.setReserve v).lr = s.lr := rfl
@[simp] theorem State.setReserve_ctr (v : Bool) : (s.setReserve v).ctr = s.ctr := rfl
@[simp] theorem State.setReserve_msr (v : Bool) : (s.setReserve v).msr = s.msr := rfl
@[simp] theorem State.setReserve_acc (v : Bool) : (s.setReserve v).acc = s.acc := rfl
@[simp] theorem State.setReserve_spefscr (v : Bool) : (s.setReserve v).spefscr = s.spefscr := rfl
@[simp] theorem State.setReserve_reserve (v : Bool) : (s.setReserve v).reserve = v := rfl
@[simp] theorem State.setReserve_int (v : Bool) : (s.setReserve v).int = s.int := rfl
@[simp] theorem State.setReserve_soft (v : Bool) : (s.setReserve v).soft = s.soft := rfl
@[simp] theorem State.setReserve_tim (v : Bool) : (s.setReserve v).tim = s.tim := rfl
@[simp] theorem State.setReserve_hid (v : Bool) : (s.setReserve v).hid = s.hid := rfl
@[simp] theorem State.setReserve_mmu (v : Bool) : (s.setReserve v).mmu = s.mmu := rfl
@[simp] theorem State.setReserve_ic (v : Bool) : (s.setReserve v).ic = s.ic := rfl
@[simp] theorem State.setReserve_dbg (v : Bool) : (s.setReserve v).dbg = s.dbg := rfl
@[simp] theorem State.setReserve_psu (v : Bool) : (s.setReserve v).psu = s.psu := rfl
@[simp] theorem State.setReserve_once (v : Bool) : (s.setReserve v).once = s.once := rfl
@[simp] theorem State.setReserve_nexus (v : Bool) : (s.setReserve v).nexus = s.nexus := rfl
@[simp] theorem State.setReserve_pins (v : Bool) : (s.setReserve v).pins = s.pins := rfl
@[simp] theorem State.setReserve_mem (v : Bool) : (s.setReserve v).mem = s.mem := rfl
@[simp] theorem State.setReserve_busErrors (v : Bool) : (s.setReserve v).busErrors = s.busErrors := rfl
@[simp] theorem State.setReserve_platform (v : Bool) : (s.setReserve v).platform = s.platform := rfl
@[simp] theorem State.setReserve_waiting (v : Bool) : (s.setReserve v).waiting = s.waiting := rfl
@[simp] theorem State.setReserve_debugHalt (v : Bool) : (s.setReserve v).debugHalt = s.debugHalt := rfl
@[simp] theorem State.setReserve_nmiPending (v : Bool) : (s.setReserve v).nmiPending = s.nmiPending := rfl
@[simp] theorem State.setReserve_sampled (v : Bool) : (s.setReserve v).sampled = s.sampled := rfl
@[simp] theorem State.setReserve_firstFetch (v : Bool) : (s.setReserve v).firstFetch = s.firstFetch := rfl
@[simp] theorem State.setReserve_cur (v : Bool) : (s.setReserve v).cur = s.cur := rfl
@[simp] theorem State.setReserve_outputs (v : Bool) : (s.setReserve v).outputs = s.outputs := rfl
@[simp] theorem State.setReserve_freeCtr (v : Bool) : (s.setReserve v).freeCtr = s.freeCtr := rfl
@[simp] theorem State.setReserve_hostQueue (v : Bool) : (s.setReserve v).hostQueue = s.hostQueue := rfl
@[simp] theorem State.setReserve_midway (v : Bool) : (s.setReserve v).midway = s.midway := rfl

/-! ## setMsr -/

@[simp] theorem State.setMsr_gpr (v : Word) : (s.setMsr v).gpr = s.gpr := rfl
@[simp] theorem State.setMsr_pc (v : Word) : (s.setMsr v).pc = s.pc := rfl
@[simp] theorem State.setMsr_cr (v : Word) : (s.setMsr v).cr = s.cr := rfl
@[simp] theorem State.setMsr_xer (v : Word) : (s.setMsr v).xer = s.xer := rfl
@[simp] theorem State.setMsr_lr (v : Word) : (s.setMsr v).lr = s.lr := rfl
@[simp] theorem State.setMsr_ctr (v : Word) : (s.setMsr v).ctr = s.ctr := rfl
@[simp] theorem State.setMsr_msr (v : Word) : (s.setMsr v).msr = v &&& msrMask := rfl
@[simp] theorem State.setMsr_acc (v : Word) : (s.setMsr v).acc = s.acc := rfl
@[simp] theorem State.setMsr_spefscr (v : Word) : (s.setMsr v).spefscr = s.spefscr := rfl
@[simp] theorem State.setMsr_reserve (v : Word) : (s.setMsr v).reserve = s.reserve := rfl
@[simp] theorem State.setMsr_int (v : Word) : (s.setMsr v).int = s.int := rfl
@[simp] theorem State.setMsr_soft (v : Word) : (s.setMsr v).soft = s.soft := rfl
@[simp] theorem State.setMsr_tim (v : Word) : (s.setMsr v).tim = s.tim := rfl
@[simp] theorem State.setMsr_hid (v : Word) : (s.setMsr v).hid = s.hid := rfl
@[simp] theorem State.setMsr_mmu (v : Word) : (s.setMsr v).mmu = s.mmu := rfl
@[simp] theorem State.setMsr_ic (v : Word) : (s.setMsr v).ic = s.ic := rfl
@[simp] theorem State.setMsr_dbg (v : Word) : (s.setMsr v).dbg = s.dbg := rfl
@[simp] theorem State.setMsr_psu (v : Word) : (s.setMsr v).psu = s.psu := rfl
@[simp] theorem State.setMsr_once (v : Word) : (s.setMsr v).once = s.once := rfl
@[simp] theorem State.setMsr_nexus (v : Word) : (s.setMsr v).nexus = s.nexus := rfl
@[simp] theorem State.setMsr_pins (v : Word) : (s.setMsr v).pins = s.pins := rfl
@[simp] theorem State.setMsr_mem (v : Word) : (s.setMsr v).mem = s.mem := rfl
@[simp] theorem State.setMsr_busErrors (v : Word) : (s.setMsr v).busErrors = s.busErrors := rfl
@[simp] theorem State.setMsr_platform (v : Word) : (s.setMsr v).platform = s.platform := rfl
@[simp] theorem State.setMsr_waiting (v : Word) : (s.setMsr v).waiting = s.waiting := rfl
@[simp] theorem State.setMsr_debugHalt (v : Word) : (s.setMsr v).debugHalt = s.debugHalt := rfl
@[simp] theorem State.setMsr_nmiPending (v : Word) : (s.setMsr v).nmiPending = s.nmiPending := rfl
@[simp] theorem State.setMsr_sampled (v : Word) : (s.setMsr v).sampled = s.sampled := rfl
@[simp] theorem State.setMsr_firstFetch (v : Word) : (s.setMsr v).firstFetch = s.firstFetch := rfl
@[simp] theorem State.setMsr_cur (v : Word) : (s.setMsr v).cur = s.cur := rfl
@[simp] theorem State.setMsr_outputs (v : Word) : (s.setMsr v).outputs = s.outputs := rfl
@[simp] theorem State.setMsr_freeCtr (v : Word) : (s.setMsr v).freeCtr = s.freeCtr := rfl
@[simp] theorem State.setMsr_hostQueue (v : Word) : (s.setMsr v).hostQueue = s.hostQueue := rfl
@[simp] theorem State.setMsr_midway (v : Word) : (s.setMsr v).midway = s.midway := rfl

/-! ## spendFree -/

@[simp] theorem State.spendFree_gpr : (s.spendFree).gpr = s.gpr := rfl
@[simp] theorem State.spendFree_pc : (s.spendFree).pc = s.pc := rfl
@[simp] theorem State.spendFree_cr : (s.spendFree).cr = s.cr := rfl
@[simp] theorem State.spendFree_xer : (s.spendFree).xer = s.xer := rfl
@[simp] theorem State.spendFree_lr : (s.spendFree).lr = s.lr := rfl
@[simp] theorem State.spendFree_ctr : (s.spendFree).ctr = s.ctr := rfl
@[simp] theorem State.spendFree_msr : (s.spendFree).msr = s.msr := rfl
@[simp] theorem State.spendFree_acc : (s.spendFree).acc = s.acc := rfl
@[simp] theorem State.spendFree_spefscr : (s.spendFree).spefscr = s.spefscr := rfl
@[simp] theorem State.spendFree_reserve : (s.spendFree).reserve = s.reserve := rfl
@[simp] theorem State.spendFree_int : (s.spendFree).int = s.int := rfl
@[simp] theorem State.spendFree_soft : (s.spendFree).soft = s.soft := rfl
@[simp] theorem State.spendFree_tim : (s.spendFree).tim = s.tim := rfl
@[simp] theorem State.spendFree_hid : (s.spendFree).hid = s.hid := rfl
@[simp] theorem State.spendFree_mmu : (s.spendFree).mmu = s.mmu := rfl
@[simp] theorem State.spendFree_ic : (s.spendFree).ic = s.ic := rfl
@[simp] theorem State.spendFree_dbg : (s.spendFree).dbg = s.dbg := rfl
@[simp] theorem State.spendFree_psu : (s.spendFree).psu = s.psu := rfl
@[simp] theorem State.spendFree_once : (s.spendFree).once = s.once := rfl
@[simp] theorem State.spendFree_nexus : (s.spendFree).nexus = s.nexus := rfl
@[simp] theorem State.spendFree_pins : (s.spendFree).pins = s.pins := rfl
@[simp] theorem State.spendFree_mem : (s.spendFree).mem = s.mem := rfl
@[simp] theorem State.spendFree_busErrors : (s.spendFree).busErrors = s.busErrors := rfl
@[simp] theorem State.spendFree_platform : (s.spendFree).platform = s.platform := rfl
@[simp] theorem State.spendFree_waiting : (s.spendFree).waiting = s.waiting := rfl
@[simp] theorem State.spendFree_debugHalt : (s.spendFree).debugHalt = s.debugHalt := rfl
@[simp] theorem State.spendFree_nmiPending : (s.spendFree).nmiPending = s.nmiPending := rfl
@[simp] theorem State.spendFree_sampled : (s.spendFree).sampled = s.sampled := rfl
@[simp] theorem State.spendFree_firstFetch : (s.spendFree).firstFetch = s.firstFetch := rfl
@[simp] theorem State.spendFree_cur : (s.spendFree).cur = s.cur := rfl
@[simp] theorem State.spendFree_outputs : (s.spendFree).outputs = s.outputs := rfl
@[simp] theorem State.spendFree_freeCtr : (s.spendFree).freeCtr = s.freeCtr + 1 := rfl
@[simp] theorem State.spendFree_hostQueue : (s.spendFree).hostQueue = s.hostQueue := rfl
@[simp] theorem State.spendFree_midway : (s.spendFree).midway = s.midway := rfl

/-! ## pulse -/

@[simp] theorem State.pulse_gpr (o : OutputEvent) : (s.pulse o).gpr = s.gpr := rfl
@[simp] theorem State.pulse_pc (o : OutputEvent) : (s.pulse o).pc = s.pc := rfl
@[simp] theorem State.pulse_cr (o : OutputEvent) : (s.pulse o).cr = s.cr := rfl
@[simp] theorem State.pulse_xer (o : OutputEvent) : (s.pulse o).xer = s.xer := rfl
@[simp] theorem State.pulse_lr (o : OutputEvent) : (s.pulse o).lr = s.lr := rfl
@[simp] theorem State.pulse_ctr (o : OutputEvent) : (s.pulse o).ctr = s.ctr := rfl
@[simp] theorem State.pulse_msr (o : OutputEvent) : (s.pulse o).msr = s.msr := rfl
@[simp] theorem State.pulse_acc (o : OutputEvent) : (s.pulse o).acc = s.acc := rfl
@[simp] theorem State.pulse_spefscr (o : OutputEvent) : (s.pulse o).spefscr = s.spefscr := rfl
@[simp] theorem State.pulse_reserve (o : OutputEvent) : (s.pulse o).reserve = s.reserve := rfl
@[simp] theorem State.pulse_int (o : OutputEvent) : (s.pulse o).int = s.int := rfl
@[simp] theorem State.pulse_soft (o : OutputEvent) : (s.pulse o).soft = s.soft := rfl
@[simp] theorem State.pulse_tim (o : OutputEvent) : (s.pulse o).tim = s.tim := rfl
@[simp] theorem State.pulse_hid (o : OutputEvent) : (s.pulse o).hid = s.hid := rfl
@[simp] theorem State.pulse_mmu (o : OutputEvent) : (s.pulse o).mmu = s.mmu := rfl
@[simp] theorem State.pulse_ic (o : OutputEvent) : (s.pulse o).ic = s.ic := rfl
@[simp] theorem State.pulse_dbg (o : OutputEvent) : (s.pulse o).dbg = s.dbg := rfl
@[simp] theorem State.pulse_psu (o : OutputEvent) : (s.pulse o).psu = s.psu := rfl
@[simp] theorem State.pulse_once (o : OutputEvent) : (s.pulse o).once = s.once := rfl
@[simp] theorem State.pulse_nexus (o : OutputEvent) : (s.pulse o).nexus = s.nexus := rfl
@[simp] theorem State.pulse_pins (o : OutputEvent) : (s.pulse o).pins = s.pins := rfl
@[simp] theorem State.pulse_mem (o : OutputEvent) : (s.pulse o).mem = s.mem := rfl
@[simp] theorem State.pulse_busErrors (o : OutputEvent) : (s.pulse o).busErrors = s.busErrors := rfl
@[simp] theorem State.pulse_platform (o : OutputEvent) : (s.pulse o).platform = s.platform := rfl
@[simp] theorem State.pulse_waiting (o : OutputEvent) : (s.pulse o).waiting = s.waiting := rfl
@[simp] theorem State.pulse_debugHalt (o : OutputEvent) : (s.pulse o).debugHalt = s.debugHalt := rfl
@[simp] theorem State.pulse_nmiPending (o : OutputEvent) : (s.pulse o).nmiPending = s.nmiPending := rfl
@[simp] theorem State.pulse_sampled (o : OutputEvent) : (s.pulse o).sampled = s.sampled := rfl
@[simp] theorem State.pulse_firstFetch (o : OutputEvent) : (s.pulse o).firstFetch = s.firstFetch := rfl
@[simp] theorem State.pulse_cur (o : OutputEvent) : (s.pulse o).cur = s.cur := rfl
@[simp] theorem State.pulse_outputs (o : OutputEvent) : (s.pulse o).outputs = s.outputs ++ [o] := rfl
@[simp] theorem State.pulse_freeCtr (o : OutputEvent) : (s.pulse o).freeCtr = s.freeCtr := rfl
@[simp] theorem State.pulse_hostQueue (o : OutputEvent) : (s.pulse o).hostQueue = s.hostQueue := rfl
@[simp] theorem State.pulse_midway (o : OutputEvent) : (s.pulse o).midway = s.midway := rfl

/-! ## setEsr -/

@[simp] theorem State.setEsr_gpr (v : Word) : (s.setEsr v).gpr = s.gpr := rfl
@[simp] theorem State.setEsr_pc (v : Word) : (s.setEsr v).pc = s.pc := rfl
@[simp] theorem State.setEsr_cr (v : Word) : (s.setEsr v).cr = s.cr := rfl
@[simp] theorem State.setEsr_xer (v : Word) : (s.setEsr v).xer = s.xer := rfl
@[simp] theorem State.setEsr_lr (v : Word) : (s.setEsr v).lr = s.lr := rfl
@[simp] theorem State.setEsr_ctr (v : Word) : (s.setEsr v).ctr = s.ctr := rfl
@[simp] theorem State.setEsr_msr (v : Word) : (s.setEsr v).msr = s.msr := rfl
@[simp] theorem State.setEsr_acc (v : Word) : (s.setEsr v).acc = s.acc := rfl
@[simp] theorem State.setEsr_spefscr (v : Word) : (s.setEsr v).spefscr = s.spefscr := rfl
@[simp] theorem State.setEsr_reserve (v : Word) : (s.setEsr v).reserve = s.reserve := rfl
@[simp] theorem State.setEsr_int (v : Word) : (s.setEsr v).int = { s.int with esr := v } := rfl
@[simp] theorem State.setEsr_soft (v : Word) : (s.setEsr v).soft = s.soft := rfl
@[simp] theorem State.setEsr_tim (v : Word) : (s.setEsr v).tim = s.tim := rfl
@[simp] theorem State.setEsr_hid (v : Word) : (s.setEsr v).hid = s.hid := rfl
@[simp] theorem State.setEsr_mmu (v : Word) : (s.setEsr v).mmu = s.mmu := rfl
@[simp] theorem State.setEsr_ic (v : Word) : (s.setEsr v).ic = s.ic := rfl
@[simp] theorem State.setEsr_dbg (v : Word) : (s.setEsr v).dbg = s.dbg := rfl
@[simp] theorem State.setEsr_psu (v : Word) : (s.setEsr v).psu = s.psu := rfl
@[simp] theorem State.setEsr_once (v : Word) : (s.setEsr v).once = s.once := rfl
@[simp] theorem State.setEsr_nexus (v : Word) : (s.setEsr v).nexus = s.nexus := rfl
@[simp] theorem State.setEsr_pins (v : Word) : (s.setEsr v).pins = s.pins := rfl
@[simp] theorem State.setEsr_mem (v : Word) : (s.setEsr v).mem = s.mem := rfl
@[simp] theorem State.setEsr_busErrors (v : Word) : (s.setEsr v).busErrors = s.busErrors := rfl
@[simp] theorem State.setEsr_platform (v : Word) : (s.setEsr v).platform = s.platform := rfl
@[simp] theorem State.setEsr_waiting (v : Word) : (s.setEsr v).waiting = s.waiting := rfl
@[simp] theorem State.setEsr_debugHalt (v : Word) : (s.setEsr v).debugHalt = s.debugHalt := rfl
@[simp] theorem State.setEsr_nmiPending (v : Word) : (s.setEsr v).nmiPending = s.nmiPending := rfl
@[simp] theorem State.setEsr_sampled (v : Word) : (s.setEsr v).sampled = s.sampled := rfl
@[simp] theorem State.setEsr_firstFetch (v : Word) : (s.setEsr v).firstFetch = s.firstFetch := rfl
@[simp] theorem State.setEsr_cur (v : Word) : (s.setEsr v).cur = s.cur := rfl
@[simp] theorem State.setEsr_outputs (v : Word) : (s.setEsr v).outputs = s.outputs := rfl
@[simp] theorem State.setEsr_freeCtr (v : Word) : (s.setEsr v).freeCtr = s.freeCtr := rfl
@[simp] theorem State.setEsr_hostQueue (v : Word) : (s.setEsr v).hostQueue = s.hostQueue := rfl
@[simp] theorem State.setEsr_midway (v : Word) : (s.setEsr v).midway = s.midway := rfl

/-! ## setDear -/

@[simp] theorem State.setDear_gpr (v : Word) : (s.setDear v).gpr = s.gpr := rfl
@[simp] theorem State.setDear_pc (v : Word) : (s.setDear v).pc = s.pc := rfl
@[simp] theorem State.setDear_cr (v : Word) : (s.setDear v).cr = s.cr := rfl
@[simp] theorem State.setDear_xer (v : Word) : (s.setDear v).xer = s.xer := rfl
@[simp] theorem State.setDear_lr (v : Word) : (s.setDear v).lr = s.lr := rfl
@[simp] theorem State.setDear_ctr (v : Word) : (s.setDear v).ctr = s.ctr := rfl
@[simp] theorem State.setDear_msr (v : Word) : (s.setDear v).msr = s.msr := rfl
@[simp] theorem State.setDear_acc (v : Word) : (s.setDear v).acc = s.acc := rfl
@[simp] theorem State.setDear_spefscr (v : Word) : (s.setDear v).spefscr = s.spefscr := rfl
@[simp] theorem State.setDear_reserve (v : Word) : (s.setDear v).reserve = s.reserve := rfl
@[simp] theorem State.setDear_int (v : Word) : (s.setDear v).int = { s.int with dear := v } := rfl
@[simp] theorem State.setDear_soft (v : Word) : (s.setDear v).soft = s.soft := rfl
@[simp] theorem State.setDear_tim (v : Word) : (s.setDear v).tim = s.tim := rfl
@[simp] theorem State.setDear_hid (v : Word) : (s.setDear v).hid = s.hid := rfl
@[simp] theorem State.setDear_mmu (v : Word) : (s.setDear v).mmu = s.mmu := rfl
@[simp] theorem State.setDear_ic (v : Word) : (s.setDear v).ic = s.ic := rfl
@[simp] theorem State.setDear_dbg (v : Word) : (s.setDear v).dbg = s.dbg := rfl
@[simp] theorem State.setDear_psu (v : Word) : (s.setDear v).psu = s.psu := rfl
@[simp] theorem State.setDear_once (v : Word) : (s.setDear v).once = s.once := rfl
@[simp] theorem State.setDear_nexus (v : Word) : (s.setDear v).nexus = s.nexus := rfl
@[simp] theorem State.setDear_pins (v : Word) : (s.setDear v).pins = s.pins := rfl
@[simp] theorem State.setDear_mem (v : Word) : (s.setDear v).mem = s.mem := rfl
@[simp] theorem State.setDear_busErrors (v : Word) : (s.setDear v).busErrors = s.busErrors := rfl
@[simp] theorem State.setDear_platform (v : Word) : (s.setDear v).platform = s.platform := rfl
@[simp] theorem State.setDear_waiting (v : Word) : (s.setDear v).waiting = s.waiting := rfl
@[simp] theorem State.setDear_debugHalt (v : Word) : (s.setDear v).debugHalt = s.debugHalt := rfl
@[simp] theorem State.setDear_nmiPending (v : Word) : (s.setDear v).nmiPending = s.nmiPending := rfl
@[simp] theorem State.setDear_sampled (v : Word) : (s.setDear v).sampled = s.sampled := rfl
@[simp] theorem State.setDear_firstFetch (v : Word) : (s.setDear v).firstFetch = s.firstFetch := rfl
@[simp] theorem State.setDear_cur (v : Word) : (s.setDear v).cur = s.cur := rfl
@[simp] theorem State.setDear_outputs (v : Word) : (s.setDear v).outputs = s.outputs := rfl
@[simp] theorem State.setDear_freeCtr (v : Word) : (s.setDear v).freeCtr = s.freeCtr := rfl
@[simp] theorem State.setDear_hostQueue (v : Word) : (s.setDear v).hostQueue = s.hostQueue := rfl
@[simp] theorem State.setDear_midway (v : Word) : (s.setDear v).midway = s.midway := rfl

/-! ## suppress -/

@[simp] theorem State.suppress_gpr : (s.suppress).gpr = s.gpr := rfl
@[simp] theorem State.suppress_pc : (s.suppress).pc = s.pc := rfl
@[simp] theorem State.suppress_cr : (s.suppress).cr = s.cr := rfl
@[simp] theorem State.suppress_xer : (s.suppress).xer = s.xer := rfl
@[simp] theorem State.suppress_lr : (s.suppress).lr = s.lr := rfl
@[simp] theorem State.suppress_ctr : (s.suppress).ctr = s.ctr := rfl
@[simp] theorem State.suppress_msr : (s.suppress).msr = s.msr := rfl
@[simp] theorem State.suppress_acc : (s.suppress).acc = s.acc := rfl
@[simp] theorem State.suppress_spefscr : (s.suppress).spefscr = s.spefscr := rfl
@[simp] theorem State.suppress_reserve : (s.suppress).reserve = s.reserve := rfl
@[simp] theorem State.suppress_int : (s.suppress).int = s.int := rfl
@[simp] theorem State.suppress_soft : (s.suppress).soft = s.soft := rfl
@[simp] theorem State.suppress_tim : (s.suppress).tim = s.tim := rfl
@[simp] theorem State.suppress_hid : (s.suppress).hid = s.hid := rfl
@[simp] theorem State.suppress_mmu : (s.suppress).mmu = s.mmu := rfl
@[simp] theorem State.suppress_ic : (s.suppress).ic = s.ic := rfl
@[simp] theorem State.suppress_dbg : (s.suppress).dbg = s.dbg := rfl
@[simp] theorem State.suppress_psu : (s.suppress).psu = s.psu := rfl
@[simp] theorem State.suppress_once : (s.suppress).once = s.once := rfl
@[simp] theorem State.suppress_nexus : (s.suppress).nexus = s.nexus := rfl
@[simp] theorem State.suppress_pins : (s.suppress).pins = s.pins := rfl
@[simp] theorem State.suppress_mem : (s.suppress).mem = s.mem := rfl
@[simp] theorem State.suppress_busErrors : (s.suppress).busErrors = s.busErrors := rfl
@[simp] theorem State.suppress_platform : (s.suppress).platform = s.platform := rfl
@[simp] theorem State.suppress_waiting : (s.suppress).waiting = s.waiting := rfl
@[simp] theorem State.suppress_debugHalt : (s.suppress).debugHalt = s.debugHalt := rfl
@[simp] theorem State.suppress_nmiPending : (s.suppress).nmiPending = s.nmiPending := rfl
@[simp] theorem State.suppress_sampled : (s.suppress).sampled = s.sampled := rfl
@[simp] theorem State.suppress_firstFetch : (s.suppress).firstFetch = s.firstFetch := rfl
@[simp] theorem State.suppress_cur : (s.suppress).cur = { s.cur with suppressed := true } := rfl
@[simp] theorem State.suppress_outputs : (s.suppress).outputs = s.outputs := rfl
@[simp] theorem State.suppress_freeCtr : (s.suppress).freeCtr = s.freeCtr := rfl
@[simp] theorem State.suppress_hostQueue : (s.suppress).hostQueue = s.hostQueue := rfl
@[simp] theorem State.suppress_midway : (s.suppress).midway = s.midway := rfl

/-! ## noteAccess -/

@[simp] theorem State.noteAccess_gpr (x : DataAccess) : (s.noteAccess x).gpr = s.gpr := rfl
@[simp] theorem State.noteAccess_pc (x : DataAccess) : (s.noteAccess x).pc = s.pc := rfl
@[simp] theorem State.noteAccess_cr (x : DataAccess) : (s.noteAccess x).cr = s.cr := rfl
@[simp] theorem State.noteAccess_xer (x : DataAccess) : (s.noteAccess x).xer = s.xer := rfl
@[simp] theorem State.noteAccess_lr (x : DataAccess) : (s.noteAccess x).lr = s.lr := rfl
@[simp] theorem State.noteAccess_ctr (x : DataAccess) : (s.noteAccess x).ctr = s.ctr := rfl
@[simp] theorem State.noteAccess_msr (x : DataAccess) : (s.noteAccess x).msr = s.msr := rfl
@[simp] theorem State.noteAccess_acc (x : DataAccess) : (s.noteAccess x).acc = s.acc := rfl
@[simp] theorem State.noteAccess_spefscr (x : DataAccess) : (s.noteAccess x).spefscr = s.spefscr := rfl
@[simp] theorem State.noteAccess_reserve (x : DataAccess) : (s.noteAccess x).reserve = s.reserve := rfl
@[simp] theorem State.noteAccess_int (x : DataAccess) : (s.noteAccess x).int = s.int := rfl
@[simp] theorem State.noteAccess_soft (x : DataAccess) : (s.noteAccess x).soft = s.soft := rfl
@[simp] theorem State.noteAccess_tim (x : DataAccess) : (s.noteAccess x).tim = s.tim := rfl
@[simp] theorem State.noteAccess_hid (x : DataAccess) : (s.noteAccess x).hid = s.hid := rfl
@[simp] theorem State.noteAccess_mmu (x : DataAccess) : (s.noteAccess x).mmu = s.mmu := rfl
@[simp] theorem State.noteAccess_ic (x : DataAccess) : (s.noteAccess x).ic = s.ic := rfl
@[simp] theorem State.noteAccess_dbg (x : DataAccess) : (s.noteAccess x).dbg = s.dbg := rfl
@[simp] theorem State.noteAccess_psu (x : DataAccess) : (s.noteAccess x).psu = s.psu := rfl
@[simp] theorem State.noteAccess_once (x : DataAccess) : (s.noteAccess x).once = s.once := rfl
@[simp] theorem State.noteAccess_nexus (x : DataAccess) : (s.noteAccess x).nexus = s.nexus := rfl
@[simp] theorem State.noteAccess_pins (x : DataAccess) : (s.noteAccess x).pins = s.pins := rfl
@[simp] theorem State.noteAccess_mem (x : DataAccess) : (s.noteAccess x).mem = s.mem := rfl
@[simp] theorem State.noteAccess_busErrors (x : DataAccess) : (s.noteAccess x).busErrors = s.busErrors := rfl
@[simp] theorem State.noteAccess_platform (x : DataAccess) : (s.noteAccess x).platform = s.platform := rfl
@[simp] theorem State.noteAccess_waiting (x : DataAccess) : (s.noteAccess x).waiting = s.waiting := rfl
@[simp] theorem State.noteAccess_debugHalt (x : DataAccess) : (s.noteAccess x).debugHalt = s.debugHalt := rfl
@[simp] theorem State.noteAccess_nmiPending (x : DataAccess) : (s.noteAccess x).nmiPending = s.nmiPending := rfl
@[simp] theorem State.noteAccess_sampled (x : DataAccess) : (s.noteAccess x).sampled = s.sampled := rfl
@[simp] theorem State.noteAccess_firstFetch (x : DataAccess) : (s.noteAccess x).firstFetch = s.firstFetch := rfl
@[simp] theorem State.noteAccess_cur (x : DataAccess) : (s.noteAccess x).cur = { s.cur with accesses := s.cur.accesses ++ [x] } := rfl
@[simp] theorem State.noteAccess_outputs (x : DataAccess) : (s.noteAccess x).outputs = s.outputs := rfl
@[simp] theorem State.noteAccess_freeCtr (x : DataAccess) : (s.noteAccess x).freeCtr = s.freeCtr := rfl
@[simp] theorem State.noteAccess_hostQueue (x : DataAccess) : (s.noteAccess x).hostQueue = s.hostQueue := rfl
@[simp] theorem State.noteAccess_midway (x : DataAccess) : (s.noteAccess x).midway = s.midway := rfl

/-! ## signal -/

@[simp] theorem State.signal_gpr (o : OutputEvent) : (s.signal o).gpr = s.gpr := rfl
@[simp] theorem State.signal_pc (o : OutputEvent) : (s.signal o).pc = s.pc := rfl
@[simp] theorem State.signal_cr (o : OutputEvent) : (s.signal o).cr = s.cr := rfl
@[simp] theorem State.signal_xer (o : OutputEvent) : (s.signal o).xer = s.xer := rfl
@[simp] theorem State.signal_lr (o : OutputEvent) : (s.signal o).lr = s.lr := rfl
@[simp] theorem State.signal_ctr (o : OutputEvent) : (s.signal o).ctr = s.ctr := rfl
@[simp] theorem State.signal_msr (o : OutputEvent) : (s.signal o).msr = s.msr := rfl
@[simp] theorem State.signal_acc (o : OutputEvent) : (s.signal o).acc = s.acc := rfl
@[simp] theorem State.signal_spefscr (o : OutputEvent) : (s.signal o).spefscr = s.spefscr := rfl
@[simp] theorem State.signal_reserve (o : OutputEvent) : (s.signal o).reserve = s.reserve := rfl
@[simp] theorem State.signal_int (o : OutputEvent) : (s.signal o).int = s.int := rfl
@[simp] theorem State.signal_soft (o : OutputEvent) : (s.signal o).soft = s.soft := rfl
@[simp] theorem State.signal_tim (o : OutputEvent) : (s.signal o).tim = s.tim := rfl
@[simp] theorem State.signal_hid (o : OutputEvent) : (s.signal o).hid = s.hid := rfl
@[simp] theorem State.signal_mmu (o : OutputEvent) : (s.signal o).mmu = s.mmu := rfl
@[simp] theorem State.signal_ic (o : OutputEvent) : (s.signal o).ic = s.ic := rfl
@[simp] theorem State.signal_dbg (o : OutputEvent) : (s.signal o).dbg = s.dbg := rfl
@[simp] theorem State.signal_psu (o : OutputEvent) : (s.signal o).psu = s.psu := rfl
@[simp] theorem State.signal_once (o : OutputEvent) : (s.signal o).once = s.once := rfl
@[simp] theorem State.signal_nexus (o : OutputEvent) : (s.signal o).nexus = s.nexus := rfl
@[simp] theorem State.signal_pins (o : OutputEvent) : (s.signal o).pins = s.pins := rfl
@[simp] theorem State.signal_mem (o : OutputEvent) : (s.signal o).mem = s.mem := rfl
@[simp] theorem State.signal_busErrors (o : OutputEvent) : (s.signal o).busErrors = s.busErrors := rfl
@[simp] theorem State.signal_platform (o : OutputEvent) : (s.signal o).platform = s.platform := rfl
@[simp] theorem State.signal_waiting (o : OutputEvent) : (s.signal o).waiting = s.waiting := rfl
@[simp] theorem State.signal_debugHalt (o : OutputEvent) : (s.signal o).debugHalt = s.debugHalt := rfl
@[simp] theorem State.signal_nmiPending (o : OutputEvent) : (s.signal o).nmiPending = s.nmiPending := rfl
@[simp] theorem State.signal_sampled (o : OutputEvent) : (s.signal o).sampled = s.sampled := rfl
@[simp] theorem State.signal_firstFetch (o : OutputEvent) : (s.signal o).firstFetch = s.firstFetch := rfl
@[simp] theorem State.signal_cur (o : OutputEvent) : (s.signal o).cur = { s.cur with signals := s.cur.signals ++ [o] } := rfl
@[simp] theorem State.signal_outputs (o : OutputEvent) : (s.signal o).outputs = s.outputs := rfl
@[simp] theorem State.signal_freeCtr (o : OutputEvent) : (s.signal o).freeCtr = s.freeCtr := rfl
@[simp] theorem State.signal_hostQueue (o : OutputEvent) : (s.signal o).hostQueue = s.hostQueue := rfl
@[simp] theorem State.signal_midway (o : OutputEvent) : (s.signal o).midway = s.midway := rfl

/-! ## setCrBit -/

@[simp] theorem State.setCrBit_gpr (b : CrBit) (v : Bool) : (s.setCrBit b v).gpr = s.gpr := rfl
@[simp] theorem State.setCrBit_pc (b : CrBit) (v : Bool) : (s.setCrBit b v).pc = s.pc := rfl
@[simp] theorem State.setCrBit_cr (b : CrBit) (v : Bool) : (s.setCrBit b v).cr = setBit s.cr b.toNat v := rfl
@[simp] theorem State.setCrBit_xer (b : CrBit) (v : Bool) : (s.setCrBit b v).xer = s.xer := rfl
@[simp] theorem State.setCrBit_lr (b : CrBit) (v : Bool) : (s.setCrBit b v).lr = s.lr := rfl
@[simp] theorem State.setCrBit_ctr (b : CrBit) (v : Bool) : (s.setCrBit b v).ctr = s.ctr := rfl
@[simp] theorem State.setCrBit_msr (b : CrBit) (v : Bool) : (s.setCrBit b v).msr = s.msr := rfl
@[simp] theorem State.setCrBit_acc (b : CrBit) (v : Bool) : (s.setCrBit b v).acc = s.acc := rfl
@[simp] theorem State.setCrBit_spefscr (b : CrBit) (v : Bool) : (s.setCrBit b v).spefscr = s.spefscr := rfl
@[simp] theorem State.setCrBit_reserve (b : CrBit) (v : Bool) : (s.setCrBit b v).reserve = s.reserve := rfl
@[simp] theorem State.setCrBit_int (b : CrBit) (v : Bool) : (s.setCrBit b v).int = s.int := rfl
@[simp] theorem State.setCrBit_soft (b : CrBit) (v : Bool) : (s.setCrBit b v).soft = s.soft := rfl
@[simp] theorem State.setCrBit_tim (b : CrBit) (v : Bool) : (s.setCrBit b v).tim = s.tim := rfl
@[simp] theorem State.setCrBit_hid (b : CrBit) (v : Bool) : (s.setCrBit b v).hid = s.hid := rfl
@[simp] theorem State.setCrBit_mmu (b : CrBit) (v : Bool) : (s.setCrBit b v).mmu = s.mmu := rfl
@[simp] theorem State.setCrBit_ic (b : CrBit) (v : Bool) : (s.setCrBit b v).ic = s.ic := rfl
@[simp] theorem State.setCrBit_dbg (b : CrBit) (v : Bool) : (s.setCrBit b v).dbg = s.dbg := rfl
@[simp] theorem State.setCrBit_psu (b : CrBit) (v : Bool) : (s.setCrBit b v).psu = s.psu := rfl
@[simp] theorem State.setCrBit_once (b : CrBit) (v : Bool) : (s.setCrBit b v).once = s.once := rfl
@[simp] theorem State.setCrBit_nexus (b : CrBit) (v : Bool) : (s.setCrBit b v).nexus = s.nexus := rfl
@[simp] theorem State.setCrBit_pins (b : CrBit) (v : Bool) : (s.setCrBit b v).pins = s.pins := rfl
@[simp] theorem State.setCrBit_mem (b : CrBit) (v : Bool) : (s.setCrBit b v).mem = s.mem := rfl
@[simp] theorem State.setCrBit_busErrors (b : CrBit) (v : Bool) : (s.setCrBit b v).busErrors = s.busErrors := rfl
@[simp] theorem State.setCrBit_platform (b : CrBit) (v : Bool) : (s.setCrBit b v).platform = s.platform := rfl
@[simp] theorem State.setCrBit_waiting (b : CrBit) (v : Bool) : (s.setCrBit b v).waiting = s.waiting := rfl
@[simp] theorem State.setCrBit_debugHalt (b : CrBit) (v : Bool) : (s.setCrBit b v).debugHalt = s.debugHalt := rfl
@[simp] theorem State.setCrBit_nmiPending (b : CrBit) (v : Bool) : (s.setCrBit b v).nmiPending = s.nmiPending := rfl
@[simp] theorem State.setCrBit_sampled (b : CrBit) (v : Bool) : (s.setCrBit b v).sampled = s.sampled := rfl
@[simp] theorem State.setCrBit_firstFetch (b : CrBit) (v : Bool) : (s.setCrBit b v).firstFetch = s.firstFetch := rfl
@[simp] theorem State.setCrBit_cur (b : CrBit) (v : Bool) : (s.setCrBit b v).cur = s.cur := rfl
@[simp] theorem State.setCrBit_outputs (b : CrBit) (v : Bool) : (s.setCrBit b v).outputs = s.outputs := rfl
@[simp] theorem State.setCrBit_freeCtr (b : CrBit) (v : Bool) : (s.setCrBit b v).freeCtr = s.freeCtr := rfl
@[simp] theorem State.setCrBit_hostQueue (b : CrBit) (v : Bool) : (s.setCrBit b v).hostQueue = s.hostQueue := rfl
@[simp] theorem State.setCrBit_midway (b : CrBit) (v : Bool) : (s.setCrBit b v).midway = s.midway := rfl

/-! ## setCrField -/

@[simp] theorem State.setCrField_gpr (f : CrField) (v : BitVec 4) : (s.setCrField f v).gpr = s.gpr := rfl
@[simp] theorem State.setCrField_pc (f : CrField) (v : BitVec 4) : (s.setCrField f v).pc = s.pc := rfl
@[simp] theorem State.setCrField_cr (f : CrField) (v : BitVec 4) : (s.setCrField f v).cr = putBits (4 * f.toNat) 4 v s.cr := rfl
@[simp] theorem State.setCrField_xer (f : CrField) (v : BitVec 4) : (s.setCrField f v).xer = s.xer := rfl
@[simp] theorem State.setCrField_lr (f : CrField) (v : BitVec 4) : (s.setCrField f v).lr = s.lr := rfl
@[simp] theorem State.setCrField_ctr (f : CrField) (v : BitVec 4) : (s.setCrField f v).ctr = s.ctr := rfl
@[simp] theorem State.setCrField_msr (f : CrField) (v : BitVec 4) : (s.setCrField f v).msr = s.msr := rfl
@[simp] theorem State.setCrField_acc (f : CrField) (v : BitVec 4) : (s.setCrField f v).acc = s.acc := rfl
@[simp] theorem State.setCrField_spefscr (f : CrField) (v : BitVec 4) : (s.setCrField f v).spefscr = s.spefscr := rfl
@[simp] theorem State.setCrField_reserve (f : CrField) (v : BitVec 4) : (s.setCrField f v).reserve = s.reserve := rfl
@[simp] theorem State.setCrField_int (f : CrField) (v : BitVec 4) : (s.setCrField f v).int = s.int := rfl
@[simp] theorem State.setCrField_soft (f : CrField) (v : BitVec 4) : (s.setCrField f v).soft = s.soft := rfl
@[simp] theorem State.setCrField_tim (f : CrField) (v : BitVec 4) : (s.setCrField f v).tim = s.tim := rfl
@[simp] theorem State.setCrField_hid (f : CrField) (v : BitVec 4) : (s.setCrField f v).hid = s.hid := rfl
@[simp] theorem State.setCrField_mmu (f : CrField) (v : BitVec 4) : (s.setCrField f v).mmu = s.mmu := rfl
@[simp] theorem State.setCrField_ic (f : CrField) (v : BitVec 4) : (s.setCrField f v).ic = s.ic := rfl
@[simp] theorem State.setCrField_dbg (f : CrField) (v : BitVec 4) : (s.setCrField f v).dbg = s.dbg := rfl
@[simp] theorem State.setCrField_psu (f : CrField) (v : BitVec 4) : (s.setCrField f v).psu = s.psu := rfl
@[simp] theorem State.setCrField_once (f : CrField) (v : BitVec 4) : (s.setCrField f v).once = s.once := rfl
@[simp] theorem State.setCrField_nexus (f : CrField) (v : BitVec 4) : (s.setCrField f v).nexus = s.nexus := rfl
@[simp] theorem State.setCrField_pins (f : CrField) (v : BitVec 4) : (s.setCrField f v).pins = s.pins := rfl
@[simp] theorem State.setCrField_mem (f : CrField) (v : BitVec 4) : (s.setCrField f v).mem = s.mem := rfl
@[simp] theorem State.setCrField_busErrors (f : CrField) (v : BitVec 4) : (s.setCrField f v).busErrors = s.busErrors := rfl
@[simp] theorem State.setCrField_platform (f : CrField) (v : BitVec 4) : (s.setCrField f v).platform = s.platform := rfl
@[simp] theorem State.setCrField_waiting (f : CrField) (v : BitVec 4) : (s.setCrField f v).waiting = s.waiting := rfl
@[simp] theorem State.setCrField_debugHalt (f : CrField) (v : BitVec 4) : (s.setCrField f v).debugHalt = s.debugHalt := rfl
@[simp] theorem State.setCrField_nmiPending (f : CrField) (v : BitVec 4) : (s.setCrField f v).nmiPending = s.nmiPending := rfl
@[simp] theorem State.setCrField_sampled (f : CrField) (v : BitVec 4) : (s.setCrField f v).sampled = s.sampled := rfl
@[simp] theorem State.setCrField_firstFetch (f : CrField) (v : BitVec 4) : (s.setCrField f v).firstFetch = s.firstFetch := rfl
@[simp] theorem State.setCrField_cur (f : CrField) (v : BitVec 4) : (s.setCrField f v).cur = s.cur := rfl
@[simp] theorem State.setCrField_outputs (f : CrField) (v : BitVec 4) : (s.setCrField f v).outputs = s.outputs := rfl
@[simp] theorem State.setCrField_freeCtr (f : CrField) (v : BitVec 4) : (s.setCrField f v).freeCtr = s.freeCtr := rfl
@[simp] theorem State.setCrField_hostQueue (f : CrField) (v : BitVec 4) : (s.setCrField f v).hostQueue = s.hostQueue := rfl
@[simp] theorem State.setCrField_midway (f : CrField) (v : BitVec 4) : (s.setCrField f v).midway = s.midway := rfl

/-! ## setCa -/

@[simp] theorem State.setCa_gpr (v : Bool) : (s.setCa v).gpr = s.gpr := rfl
@[simp] theorem State.setCa_pc (v : Bool) : (s.setCa v).pc = s.pc := rfl
@[simp] theorem State.setCa_cr (v : Bool) : (s.setCa v).cr = s.cr := rfl
@[simp] theorem State.setCa_xer (v : Bool) : (s.setCa v).xer = setBit s.xer 2 v := rfl
@[simp] theorem State.setCa_lr (v : Bool) : (s.setCa v).lr = s.lr := rfl
@[simp] theorem State.setCa_ctr (v : Bool) : (s.setCa v).ctr = s.ctr := rfl
@[simp] theorem State.setCa_msr (v : Bool) : (s.setCa v).msr = s.msr := rfl
@[simp] theorem State.setCa_acc (v : Bool) : (s.setCa v).acc = s.acc := rfl
@[simp] theorem State.setCa_spefscr (v : Bool) : (s.setCa v).spefscr = s.spefscr := rfl
@[simp] theorem State.setCa_reserve (v : Bool) : (s.setCa v).reserve = s.reserve := rfl
@[simp] theorem State.setCa_int (v : Bool) : (s.setCa v).int = s.int := rfl
@[simp] theorem State.setCa_soft (v : Bool) : (s.setCa v).soft = s.soft := rfl
@[simp] theorem State.setCa_tim (v : Bool) : (s.setCa v).tim = s.tim := rfl
@[simp] theorem State.setCa_hid (v : Bool) : (s.setCa v).hid = s.hid := rfl
@[simp] theorem State.setCa_mmu (v : Bool) : (s.setCa v).mmu = s.mmu := rfl
@[simp] theorem State.setCa_ic (v : Bool) : (s.setCa v).ic = s.ic := rfl
@[simp] theorem State.setCa_dbg (v : Bool) : (s.setCa v).dbg = s.dbg := rfl
@[simp] theorem State.setCa_psu (v : Bool) : (s.setCa v).psu = s.psu := rfl
@[simp] theorem State.setCa_once (v : Bool) : (s.setCa v).once = s.once := rfl
@[simp] theorem State.setCa_nexus (v : Bool) : (s.setCa v).nexus = s.nexus := rfl
@[simp] theorem State.setCa_pins (v : Bool) : (s.setCa v).pins = s.pins := rfl
@[simp] theorem State.setCa_mem (v : Bool) : (s.setCa v).mem = s.mem := rfl
@[simp] theorem State.setCa_busErrors (v : Bool) : (s.setCa v).busErrors = s.busErrors := rfl
@[simp] theorem State.setCa_platform (v : Bool) : (s.setCa v).platform = s.platform := rfl
@[simp] theorem State.setCa_waiting (v : Bool) : (s.setCa v).waiting = s.waiting := rfl
@[simp] theorem State.setCa_debugHalt (v : Bool) : (s.setCa v).debugHalt = s.debugHalt := rfl
@[simp] theorem State.setCa_nmiPending (v : Bool) : (s.setCa v).nmiPending = s.nmiPending := rfl
@[simp] theorem State.setCa_sampled (v : Bool) : (s.setCa v).sampled = s.sampled := rfl
@[simp] theorem State.setCa_firstFetch (v : Bool) : (s.setCa v).firstFetch = s.firstFetch := rfl
@[simp] theorem State.setCa_cur (v : Bool) : (s.setCa v).cur = s.cur := rfl
@[simp] theorem State.setCa_outputs (v : Bool) : (s.setCa v).outputs = s.outputs := rfl
@[simp] theorem State.setCa_freeCtr (v : Bool) : (s.setCa v).freeCtr = s.freeCtr := rfl
@[simp] theorem State.setCa_hostQueue (v : Bool) : (s.setCa v).hostQueue = s.hostQueue := rfl
@[simp] theorem State.setCa_midway (v : Bool) : (s.setCa v).midway = s.midway := rfl

/-! ## setOv -/

@[simp] theorem State.setOv_gpr (v : Bool) : (s.setOv v).gpr = s.gpr := rfl
@[simp] theorem State.setOv_pc (v : Bool) : (s.setOv v).pc = s.pc := rfl
@[simp] theorem State.setOv_cr (v : Bool) : (s.setOv v).cr = s.cr := rfl
@[simp] theorem State.setOv_xer (v : Bool) : (s.setOv v).xer = setBit (s.xer ||| when v (oneBit 0)) 1 v := rfl
@[simp] theorem State.setOv_lr (v : Bool) : (s.setOv v).lr = s.lr := rfl
@[simp] theorem State.setOv_ctr (v : Bool) : (s.setOv v).ctr = s.ctr := rfl
@[simp] theorem State.setOv_msr (v : Bool) : (s.setOv v).msr = s.msr := rfl
@[simp] theorem State.setOv_acc (v : Bool) : (s.setOv v).acc = s.acc := rfl
@[simp] theorem State.setOv_spefscr (v : Bool) : (s.setOv v).spefscr = s.spefscr := rfl
@[simp] theorem State.setOv_reserve (v : Bool) : (s.setOv v).reserve = s.reserve := rfl
@[simp] theorem State.setOv_int (v : Bool) : (s.setOv v).int = s.int := rfl
@[simp] theorem State.setOv_soft (v : Bool) : (s.setOv v).soft = s.soft := rfl
@[simp] theorem State.setOv_tim (v : Bool) : (s.setOv v).tim = s.tim := rfl
@[simp] theorem State.setOv_hid (v : Bool) : (s.setOv v).hid = s.hid := rfl
@[simp] theorem State.setOv_mmu (v : Bool) : (s.setOv v).mmu = s.mmu := rfl
@[simp] theorem State.setOv_ic (v : Bool) : (s.setOv v).ic = s.ic := rfl
@[simp] theorem State.setOv_dbg (v : Bool) : (s.setOv v).dbg = s.dbg := rfl
@[simp] theorem State.setOv_psu (v : Bool) : (s.setOv v).psu = s.psu := rfl
@[simp] theorem State.setOv_once (v : Bool) : (s.setOv v).once = s.once := rfl
@[simp] theorem State.setOv_nexus (v : Bool) : (s.setOv v).nexus = s.nexus := rfl
@[simp] theorem State.setOv_pins (v : Bool) : (s.setOv v).pins = s.pins := rfl
@[simp] theorem State.setOv_mem (v : Bool) : (s.setOv v).mem = s.mem := rfl
@[simp] theorem State.setOv_busErrors (v : Bool) : (s.setOv v).busErrors = s.busErrors := rfl
@[simp] theorem State.setOv_platform (v : Bool) : (s.setOv v).platform = s.platform := rfl
@[simp] theorem State.setOv_waiting (v : Bool) : (s.setOv v).waiting = s.waiting := rfl
@[simp] theorem State.setOv_debugHalt (v : Bool) : (s.setOv v).debugHalt = s.debugHalt := rfl
@[simp] theorem State.setOv_nmiPending (v : Bool) : (s.setOv v).nmiPending = s.nmiPending := rfl
@[simp] theorem State.setOv_sampled (v : Bool) : (s.setOv v).sampled = s.sampled := rfl
@[simp] theorem State.setOv_firstFetch (v : Bool) : (s.setOv v).firstFetch = s.firstFetch := rfl
@[simp] theorem State.setOv_cur (v : Bool) : (s.setOv v).cur = s.cur := rfl
@[simp] theorem State.setOv_outputs (v : Bool) : (s.setOv v).outputs = s.outputs := rfl
@[simp] theorem State.setOv_freeCtr (v : Bool) : (s.setOv v).freeCtr = s.freeCtr := rfl
@[simp] theorem State.setOv_hostQueue (v : Bool) : (s.setOv v).hostQueue = s.hostQueue := rfl
@[simp] theorem State.setOv_midway (v : Bool) : (s.setOv v).midway = s.midway := rfl

/-! ## recordCr0 -/

@[simp] theorem State.recordCr0_gpr (v : Word) : (s.recordCr0 v).gpr = s.gpr := rfl
@[simp] theorem State.recordCr0_pc (v : Word) : (s.recordCr0 v).pc = s.pc := rfl
@[simp] theorem State.recordCr0_cr (v : Word) : (s.recordCr0 v).cr = putBits (4 * (0 : CrField).toNat) 4 (compareSigned v 0 s.so) s.cr := rfl
@[simp] theorem State.recordCr0_xer (v : Word) : (s.recordCr0 v).xer = s.xer := rfl
@[simp] theorem State.recordCr0_lr (v : Word) : (s.recordCr0 v).lr = s.lr := rfl
@[simp] theorem State.recordCr0_ctr (v : Word) : (s.recordCr0 v).ctr = s.ctr := rfl
@[simp] theorem State.recordCr0_msr (v : Word) : (s.recordCr0 v).msr = s.msr := rfl
@[simp] theorem State.recordCr0_acc (v : Word) : (s.recordCr0 v).acc = s.acc := rfl
@[simp] theorem State.recordCr0_spefscr (v : Word) : (s.recordCr0 v).spefscr = s.spefscr := rfl
@[simp] theorem State.recordCr0_reserve (v : Word) : (s.recordCr0 v).reserve = s.reserve := rfl
@[simp] theorem State.recordCr0_int (v : Word) : (s.recordCr0 v).int = s.int := rfl
@[simp] theorem State.recordCr0_soft (v : Word) : (s.recordCr0 v).soft = s.soft := rfl
@[simp] theorem State.recordCr0_tim (v : Word) : (s.recordCr0 v).tim = s.tim := rfl
@[simp] theorem State.recordCr0_hid (v : Word) : (s.recordCr0 v).hid = s.hid := rfl
@[simp] theorem State.recordCr0_mmu (v : Word) : (s.recordCr0 v).mmu = s.mmu := rfl
@[simp] theorem State.recordCr0_ic (v : Word) : (s.recordCr0 v).ic = s.ic := rfl
@[simp] theorem State.recordCr0_dbg (v : Word) : (s.recordCr0 v).dbg = s.dbg := rfl
@[simp] theorem State.recordCr0_psu (v : Word) : (s.recordCr0 v).psu = s.psu := rfl
@[simp] theorem State.recordCr0_once (v : Word) : (s.recordCr0 v).once = s.once := rfl
@[simp] theorem State.recordCr0_nexus (v : Word) : (s.recordCr0 v).nexus = s.nexus := rfl
@[simp] theorem State.recordCr0_pins (v : Word) : (s.recordCr0 v).pins = s.pins := rfl
@[simp] theorem State.recordCr0_mem (v : Word) : (s.recordCr0 v).mem = s.mem := rfl
@[simp] theorem State.recordCr0_busErrors (v : Word) : (s.recordCr0 v).busErrors = s.busErrors := rfl
@[simp] theorem State.recordCr0_platform (v : Word) : (s.recordCr0 v).platform = s.platform := rfl
@[simp] theorem State.recordCr0_waiting (v : Word) : (s.recordCr0 v).waiting = s.waiting := rfl
@[simp] theorem State.recordCr0_debugHalt (v : Word) : (s.recordCr0 v).debugHalt = s.debugHalt := rfl
@[simp] theorem State.recordCr0_nmiPending (v : Word) : (s.recordCr0 v).nmiPending = s.nmiPending := rfl
@[simp] theorem State.recordCr0_sampled (v : Word) : (s.recordCr0 v).sampled = s.sampled := rfl
@[simp] theorem State.recordCr0_firstFetch (v : Word) : (s.recordCr0 v).firstFetch = s.firstFetch := rfl
@[simp] theorem State.recordCr0_cur (v : Word) : (s.recordCr0 v).cur = s.cur := rfl
@[simp] theorem State.recordCr0_outputs (v : Word) : (s.recordCr0 v).outputs = s.outputs := rfl
@[simp] theorem State.recordCr0_freeCtr (v : Word) : (s.recordCr0 v).freeCtr = s.freeCtr := rfl
@[simp] theorem State.recordCr0_hostQueue (v : Word) : (s.recordCr0 v).hostQueue = s.hostQueue := rfl
@[simp] theorem State.recordCr0_midway (v : Word) : (s.recordCr0 v).midway = s.midway := rfl

/-! ## setOvPair -/

@[simp] theorem State.setOvPair_gpr (h l : Bool) : (s.setOvPair h l).gpr = s.gpr := rfl
@[simp] theorem State.setOvPair_pc (h l : Bool) : (s.setOvPair h l).pc = s.pc := rfl
@[simp] theorem State.setOvPair_cr (h l : Bool) : (s.setOvPair h l).cr = s.cr := rfl
@[simp] theorem State.setOvPair_xer (h l : Bool) : (s.setOvPair h l).xer = s.xer := rfl
@[simp] theorem State.setOvPair_lr (h l : Bool) : (s.setOvPair h l).lr = s.lr := rfl
@[simp] theorem State.setOvPair_ctr (h l : Bool) : (s.setOvPair h l).ctr = s.ctr := rfl
@[simp] theorem State.setOvPair_msr (h l : Bool) : (s.setOvPair h l).msr = s.msr := rfl
@[simp] theorem State.setOvPair_acc (h l : Bool) : (s.setOvPair h l).acc = s.acc := rfl
@[simp] theorem State.setOvPair_spefscr (h l : Bool) : (s.setOvPair h l).spefscr = setBit (setBit s.spefscr 1 h) 17 l ||| when h (oneBit 0) ||| when l (oneBit 16) := rfl
@[simp] theorem State.setOvPair_reserve (h l : Bool) : (s.setOvPair h l).reserve = s.reserve := rfl
@[simp] theorem State.setOvPair_int (h l : Bool) : (s.setOvPair h l).int = s.int := rfl
@[simp] theorem State.setOvPair_soft (h l : Bool) : (s.setOvPair h l).soft = s.soft := rfl
@[simp] theorem State.setOvPair_tim (h l : Bool) : (s.setOvPair h l).tim = s.tim := rfl
@[simp] theorem State.setOvPair_hid (h l : Bool) : (s.setOvPair h l).hid = s.hid := rfl
@[simp] theorem State.setOvPair_mmu (h l : Bool) : (s.setOvPair h l).mmu = s.mmu := rfl
@[simp] theorem State.setOvPair_ic (h l : Bool) : (s.setOvPair h l).ic = s.ic := rfl
@[simp] theorem State.setOvPair_dbg (h l : Bool) : (s.setOvPair h l).dbg = s.dbg := rfl
@[simp] theorem State.setOvPair_psu (h l : Bool) : (s.setOvPair h l).psu = s.psu := rfl
@[simp] theorem State.setOvPair_once (h l : Bool) : (s.setOvPair h l).once = s.once := rfl
@[simp] theorem State.setOvPair_nexus (h l : Bool) : (s.setOvPair h l).nexus = s.nexus := rfl
@[simp] theorem State.setOvPair_pins (h l : Bool) : (s.setOvPair h l).pins = s.pins := rfl
@[simp] theorem State.setOvPair_mem (h l : Bool) : (s.setOvPair h l).mem = s.mem := rfl
@[simp] theorem State.setOvPair_busErrors (h l : Bool) : (s.setOvPair h l).busErrors = s.busErrors := rfl
@[simp] theorem State.setOvPair_platform (h l : Bool) : (s.setOvPair h l).platform = s.platform := rfl
@[simp] theorem State.setOvPair_waiting (h l : Bool) : (s.setOvPair h l).waiting = s.waiting := rfl
@[simp] theorem State.setOvPair_debugHalt (h l : Bool) : (s.setOvPair h l).debugHalt = s.debugHalt := rfl
@[simp] theorem State.setOvPair_nmiPending (h l : Bool) : (s.setOvPair h l).nmiPending = s.nmiPending := rfl
@[simp] theorem State.setOvPair_sampled (h l : Bool) : (s.setOvPair h l).sampled = s.sampled := rfl
@[simp] theorem State.setOvPair_firstFetch (h l : Bool) : (s.setOvPair h l).firstFetch = s.firstFetch := rfl
@[simp] theorem State.setOvPair_cur (h l : Bool) : (s.setOvPair h l).cur = s.cur := rfl
@[simp] theorem State.setOvPair_outputs (h l : Bool) : (s.setOvPair h l).outputs = s.outputs := rfl
@[simp] theorem State.setOvPair_freeCtr (h l : Bool) : (s.setOvPair h l).freeCtr = s.freeCtr := rfl
@[simp] theorem State.setOvPair_hostQueue (h l : Bool) : (s.setOvPair h l).hostQueue = s.hostQueue := rfl
@[simp] theorem State.setOvPair_midway (h l : Bool) : (s.setOvPair h l).midway = s.midway := rfl

/-! ## enter -/

@[simp] theorem State.enter_gpr (c : IntClass) (v a : Word) : (s.enter c v a).gpr = s.gpr := rfl
@[simp] theorem State.enter_pc (c : IntClass) (v a : Word) : (s.enter c v a).pc = codeAddress v := rfl
@[simp] theorem State.enter_cr (c : IntClass) (v a : Word) : (s.enter c v a).cr = s.cr := rfl
@[simp] theorem State.enter_xer (c : IntClass) (v a : Word) : (s.enter c v a).xer = s.xer := rfl
@[simp] theorem State.enter_lr (c : IntClass) (v a : Word) : (s.enter c v a).lr = s.lr := rfl
@[simp] theorem State.enter_ctr (c : IntClass) (v a : Word) : (s.enter c v a).ctr = s.ctr := rfl
@[simp] theorem State.enter_msr (c : IntClass) (v a : Word) : (s.enter c v a).msr = newMsr s.hid.hid0 c s.msr := rfl
@[simp] theorem State.enter_acc (c : IntClass) (v a : Word) : (s.enter c v a).acc = s.acc := rfl
@[simp] theorem State.enter_spefscr (c : IntClass) (v a : Word) : (s.enter c v a).spefscr = s.spefscr := rfl
@[simp] theorem State.enter_reserve (c : IntClass) (v a : Word) : (s.enter c v a).reserve = s.reserve := rfl
@[simp] theorem State.enter_int (c : IntClass) (v a : Word) : (s.enter c v a).int = saveContext c a s.msr s.dapuen s.int := rfl
@[simp] theorem State.enter_soft (c : IntClass) (v a : Word) : (s.enter c v a).soft = s.soft := rfl
@[simp] theorem State.enter_tim (c : IntClass) (v a : Word) : (s.enter c v a).tim = s.tim := rfl
@[simp] theorem State.enter_hid (c : IntClass) (v a : Word) : (s.enter c v a).hid = s.hid := rfl
@[simp] theorem State.enter_mmu (c : IntClass) (v a : Word) : (s.enter c v a).mmu = s.mmu := rfl
@[simp] theorem State.enter_ic (c : IntClass) (v a : Word) : (s.enter c v a).ic = s.ic := rfl
@[simp] theorem State.enter_dbg (c : IntClass) (v a : Word) : (s.enter c v a).dbg = s.dbg := rfl
@[simp] theorem State.enter_psu (c : IntClass) (v a : Word) : (s.enter c v a).psu = s.psu := rfl
@[simp] theorem State.enter_once (c : IntClass) (v a : Word) : (s.enter c v a).once = s.once := rfl
@[simp] theorem State.enter_nexus (c : IntClass) (v a : Word) : (s.enter c v a).nexus = s.nexus := rfl
@[simp] theorem State.enter_pins (c : IntClass) (v a : Word) : (s.enter c v a).pins = s.pins := rfl
@[simp] theorem State.enter_mem (c : IntClass) (v a : Word) : (s.enter c v a).mem = s.mem := rfl
@[simp] theorem State.enter_busErrors (c : IntClass) (v a : Word) : (s.enter c v a).busErrors = s.busErrors := rfl
@[simp] theorem State.enter_platform (c : IntClass) (v a : Word) : (s.enter c v a).platform = s.platform := rfl
@[simp] theorem State.enter_waiting (c : IntClass) (v a : Word) : (s.enter c v a).waiting = false := rfl
@[simp] theorem State.enter_debugHalt (c : IntClass) (v a : Word) : (s.enter c v a).debugHalt = s.debugHalt := rfl
@[simp] theorem State.enter_nmiPending (c : IntClass) (v a : Word) : (s.enter c v a).nmiPending = s.nmiPending := rfl
@[simp] theorem State.enter_sampled (c : IntClass) (v a : Word) : (s.enter c v a).sampled = s.sampled := rfl
@[simp] theorem State.enter_firstFetch (c : IntClass) (v a : Word) : (s.enter c v a).firstFetch = true := rfl
@[simp] theorem State.enter_cur (c : IntClass) (v a : Word) : (s.enter c v a).cur = s.cur := rfl
@[simp] theorem State.enter_outputs (c : IntClass) (v a : Word) : (s.enter c v a).outputs = s.outputs := rfl
@[simp] theorem State.enter_freeCtr (c : IntClass) (v a : Word) : (s.enter c v a).freeCtr = s.freeCtr := rfl
@[simp] theorem State.enter_hostQueue (c : IntClass) (v a : Word) : (s.enter c v a).hostQueue = s.hostQueue := rfl
@[simp] theorem State.enter_midway (c : IntClass) (v a : Word) : (s.enter c v a).midway = s.midway := rfl

end Sys2Proof.Machine
end

