-- ==== Sys2Proof/Laws/Interrupt.lean ====
section
/-! SUPPORT. Taking an interrupt: what each field of State holds after it, and the same for the exceptions an instruction
raises. -/

namespace Sys2Proof.Machine

variable (s : State)

/-! ## Recording a debug event -/

/-- Recording an event changes DBSR alone. -/
theorem State.record_eq (e : Word) (v : Bool) : s.record e v = { s with dbg := (s.record e v).dbg } := by
  unfold State.record
  split <;> rfl

/-- With internal debug mode off nothing is recorded. -/
theorem State.record_off (e : Word) (v : Bool) (h : s.idm = false) : s.record e v = s := by simp [State.record, h]

@[simp] theorem State.record_gpr (e : Word) (v : Bool) : (s.record e v).gpr = s.gpr := by
  rw [State.record_eq]
@[simp] theorem State.record_pc (e : Word) (v : Bool) : (s.record e v).pc = s.pc := by
  rw [State.record_eq]
@[simp] theorem State.record_cr (e : Word) (v : Bool) : (s.record e v).cr = s.cr := by
  rw [State.record_eq]
@[simp] theorem State.record_xer (e : Word) (v : Bool) : (s.record e v).xer = s.xer := by
  rw [State.record_eq]
@[simp] theorem State.record_lr (e : Word) (v : Bool) : (s.record e v).lr = s.lr := by
  rw [State.record_eq]
@[simp] theorem State.record_ctr (e : Word) (v : Bool) : (s.record e v).ctr = s.ctr := by
  rw [State.record_eq]
@[simp] theorem State.record_msr (e : Word) (v : Bool) : (s.record e v).msr = s.msr := by
  rw [State.record_eq]
@[simp] theorem State.record_acc (e : Word) (v : Bool) : (s.record e v).acc = s.acc := by
  rw [State.record_eq]
@[simp] theorem State.record_spefscr (e : Word) (v : Bool) : (s.record e v).spefscr = s.spefscr := by
  rw [State.record_eq]
@[simp] theorem State.record_reserve (e : Word) (v : Bool) : (s.record e v).reserve = s.reserve := by
  rw [State.record_eq]
@[simp] theorem State.record_int (e : Word) (v : Bool) : (s.record e v).int = s.int := by
  rw [State.record_eq]
@[simp] theorem State.record_soft (e : Word) (v : Bool) : (s.record e v).soft = s.soft := by
  rw [State.record_eq]
@[simp] theorem State.record_tim (e : Word) (v : Bool) : (s.record e v).tim = s.tim := by
  rw [State.record_eq]
@[simp] theorem State.record_hid (e : Word) (v : Bool) : (s.record e v).hid = s.hid := by
  rw [State.record_eq]
@[simp] theorem State.record_mmu (e : Word) (v : Bool) : (s.record e v).mmu = s.mmu := by
  rw [State.record_eq]
@[simp] theorem State.record_ic (e : Word) (v : Bool) : (s.record e v).ic = s.ic := by
  rw [State.record_eq]
@[simp] theorem State.record_psu (e : Word) (v : Bool) : (s.record e v).psu = s.psu := by
  rw [State.record_eq]
@[simp] theorem State.record_once (e : Word) (v : Bool) : (s.record e v).once = s.once := by
  rw [State.record_eq]
@[simp] theorem State.record_nexus (e : Word) (v : Bool) : (s.record e v).nexus = s.nexus := by
  rw [State.record_eq]
@[simp] theorem State.record_pins (e : Word) (v : Bool) : (s.record e v).pins = s.pins := by
  rw [State.record_eq]
@[simp] theorem State.record_mem (e : Word) (v : Bool) : (s.record e v).mem = s.mem := by
  rw [State.record_eq]
@[simp] theorem State.record_busErrors (e : Word) (v : Bool) : (s.record e v).busErrors = s.busErrors := by
  rw [State.record_eq]
@[simp] theorem State.record_platform (e : Word) (v : Bool) : (s.record e v).platform = s.platform := by
  rw [State.record_eq]
@[simp] theorem State.record_waiting (e : Word) (v : Bool) : (s.record e v).waiting = s.waiting := by
  rw [State.record_eq]
@[simp] theorem State.record_debugHalt (e : Word) (v : Bool) : (s.record e v).debugHalt = s.debugHalt := by
  rw [State.record_eq]
@[simp] theorem State.record_nmiPending (e : Word) (v : Bool) : (s.record e v).nmiPending = s.nmiPending := by
  rw [State.record_eq]
@[simp] theorem State.record_sampled (e : Word) (v : Bool) : (s.record e v).sampled = s.sampled := by
  rw [State.record_eq]
@[simp] theorem State.record_firstFetch (e : Word) (v : Bool) : (s.record e v).firstFetch = s.firstFetch := by
  rw [State.record_eq]
@[simp] theorem State.record_cur (e : Word) (v : Bool) : (s.record e v).cur = s.cur := by
  rw [State.record_eq]
@[simp] theorem State.record_outputs (e : Word) (v : Bool) : (s.record e v).outputs = s.outputs := by
  rw [State.record_eq]
@[simp] theorem State.record_freeCtr (e : Word) (v : Bool) : (s.record e v).freeCtr = s.freeCtr := by
  rw [State.record_eq]
@[simp] theorem State.record_hostQueue (e : Word) (v : Bool) : (s.record e v).hostQueue = s.hostQueue := by
  rw [State.record_eq]
@[simp] theorem State.record_midway (e : Word) (v : Bool) : (s.record e v).midway = s.midway := by
  rw [State.record_eq]

/-! ## Interrupt entry -/

/-- Taking an interrupt is entering it, and its debug event. -/
theorem State.takeInterrupt_eq (c : IntClass) (v a : Word) :
    s.takeInterrupt c v a =
      { s.enter c v a with dbg := (s.takeInterrupt c v a).dbg, cur := (s.takeInterrupt c v a).cur } := by
  unfold State.takeInterrupt State.takenEvent
  cases c
  · unfold State.record
    simp only []
    split <;> rfl
  · unfold State.record
    simp only []
    split <;> rfl
  · rfl
  · rfl

@[simp] theorem State.takeInterrupt_gpr (c : IntClass) (v a : Word) :
    (s.takeInterrupt c v a).gpr = (s.enter c v a).gpr := by
  rw [State.takeInterrupt_eq]
@[simp] theorem State.takeInterrupt_pc (c : IntClass) (v a : Word) :
    (s.takeInterrupt c v a).pc = (s.enter c v a).pc := by
  rw [State.takeInterrupt_eq]
@[simp] theorem State.takeInterrupt_cr (c : IntClass) (v a : Word) :
    (s.takeInterrupt c v a).cr = (s.enter c v a).cr := by
  rw [State.takeInterrupt_eq]
@[simp] theorem State.takeInterrupt_xer (c : IntClass) (v a : Word) :
    (s.takeInterrupt c v a).xer = (s.enter c v a).xer := by
  rw [State.takeInterrupt_eq]
@[simp] theorem State.takeInterrupt_lr (c : IntClass) (v a : Word) :
    (s.takeInterrupt c v a).lr = (s.enter c v a).lr := by
  rw [State.takeInterrupt_eq]
@[simp] theorem State.takeInterrupt_ctr (c : IntClass) (v a : Word) :
    (s.takeInterrupt c v a).ctr = (s.enter c v a).ctr := by
  rw [State.takeInterrupt_eq]
@[simp] theorem State.takeInterrupt_msr (c : IntClass) (v a : Word) :
    (s.takeInterrupt c v a).msr = (s.enter c v a).msr := by
  rw [State.takeInterrupt_eq]
@[simp] theorem State.takeInterrupt_acc (c : IntClass) (v a : Word) :
    (s.takeInterrupt c v a).acc = (s.enter c v a).acc := by
  rw [State.takeInterrupt_eq]
@[simp] theorem State.takeInterrupt_spefscr (c : IntClass) (v a : Word) :
    (s.takeInterrupt c v a).spefscr = (s.enter c v a).spefscr := by
  rw [State.takeInterrupt_eq]
@[simp] theorem State.takeInterrupt_reserve (c : IntClass) (v a : Word) :
    (s.takeInterrupt c v a).reserve = (s.enter c v a).reserve := by
  rw [State.takeInterrupt_eq]
@[simp] theorem State.takeInterrupt_int (c : IntClass) (v a : Word) :
    (s.takeInterrupt c v a).int = (s.enter c v a).int := by
  rw [State.takeInterrupt_eq]
@[simp] theorem State.takeInterrupt_soft (c : IntClass) (v a : Word) :
    (s.takeInterrupt c v a).soft = (s.enter c v a).soft := by
  rw [State.takeInterrupt_eq]
@[simp] theorem State.takeInterrupt_tim (c : IntClass) (v a : Word) :
    (s.takeInterrupt c v a).tim = (s.enter c v a).tim := by
  rw [State.takeInterrupt_eq]
@[simp] theorem State.takeInterrupt_hid (c : IntClass) (v a : Word) :
    (s.takeInterrupt c v a).hid = (s.enter c v a).hid := by
  rw [State.takeInterrupt_eq]
@[simp] theorem State.takeInterrupt_mmu (c : IntClass) (v a : Word) :
    (s.takeInterrupt c v a).mmu = (s.enter c v a).mmu := by
  rw [State.takeInterrupt_eq]
@[simp] theorem State.takeInterrupt_ic (c : IntClass) (v a : Word) :
    (s.takeInterrupt c v a).ic = (s.enter c v a).ic := by
  rw [State.takeInterrupt_eq]
@[simp] theorem State.takeInterrupt_psu (c : IntClass) (v a : Word) :
    (s.takeInterrupt c v a).psu = (s.enter c v a).psu := by
  rw [State.takeInterrupt_eq]
@[simp] theorem State.takeInterrupt_once (c : IntClass) (v a : Word) :
    (s.takeInterrupt c v a).once = (s.enter c v a).once := by
  rw [State.takeInterrupt_eq]
@[simp] theorem State.takeInterrupt_nexus (c : IntClass) (v a : Word) :
    (s.takeInterrupt c v a).nexus = (s.enter c v a).nexus := by
  rw [State.takeInterrupt_eq]
@[simp] theorem State.takeInterrupt_pins (c : IntClass) (v a : Word) :
    (s.takeInterrupt c v a).pins = (s.enter c v a).pins := by
  rw [State.takeInterrupt_eq]
@[simp] theorem State.takeInterrupt_mem (c : IntClass) (v a : Word) :
    (s.takeInterrupt c v a).mem = (s.enter c v a).mem := by
  rw [State.takeInterrupt_eq]
@[simp] theorem State.takeInterrupt_busErrors (c : IntClass) (v a : Word) :
    (s.takeInterrupt c v a).busErrors = (s.enter c v a).busErrors := by
  rw [State.takeInterrupt_eq]
@[simp] theorem State.takeInterrupt_platform (c : IntClass) (v a : Word) :
    (s.takeInterrupt c v a).platform = (s.enter c v a).platform := by
  rw [State.takeInterrupt_eq]
@[simp] theorem State.takeInterrupt_waiting (c : IntClass) (v a : Word) :
    (s.takeInterrupt c v a).waiting = (s.enter c v a).waiting := by
  rw [State.takeInterrupt_eq]
@[simp] theorem State.takeInterrupt_debugHalt (c : IntClass) (v a : Word) :
    (s.takeInterrupt c v a).debugHalt = (s.enter c v a).debugHalt := by
  rw [State.takeInterrupt_eq]
@[simp] theorem State.takeInterrupt_nmiPending (c : IntClass) (v a : Word) :
    (s.takeInterrupt c v a).nmiPending = (s.enter c v a).nmiPending := by
  rw [State.takeInterrupt_eq]
@[simp] theorem State.takeInterrupt_sampled (c : IntClass) (v a : Word) :
    (s.takeInterrupt c v a).sampled = (s.enter c v a).sampled := by
  rw [State.takeInterrupt_eq]
@[simp] theorem State.takeInterrupt_firstFetch (c : IntClass) (v a : Word) :
    (s.takeInterrupt c v a).firstFetch = (s.enter c v a).firstFetch := by
  rw [State.takeInterrupt_eq]
@[simp] theorem State.takeInterrupt_outputs (c : IntClass) (v a : Word) :
    (s.takeInterrupt c v a).outputs = (s.enter c v a).outputs := by
  rw [State.takeInterrupt_eq]
@[simp] theorem State.takeInterrupt_freeCtr (c : IntClass) (v a : Word) :
    (s.takeInterrupt c v a).freeCtr = (s.enter c v a).freeCtr := by
  rw [State.takeInterrupt_eq]
@[simp] theorem State.takeInterrupt_hostQueue (c : IntClass) (v a : Word) :
    (s.takeInterrupt c v a).hostQueue = (s.enter c v a).hostQueue := by
  rw [State.takeInterrupt_eq]
@[simp] theorem State.takeInterrupt_midway (c : IntClass) (v a : Word) :
    (s.takeInterrupt c v a).midway = (s.enter c v a).midway := by
  rw [State.takeInterrupt_eq]

/-! ## Exceptions an instruction raises -/

/-- A non-critical interrupt raised by the instruction at pc: the context saved, the new MSR, pc at the vector; registers,
flags and memory as before. -/
theorem State.raise_eq (n : Nat) :
    s.raise n =
      { s with
        int := { s.int with srr0 := s.pc, srr1 := s.msr }
        msr := newMsr s.hid.hid0 .nonCritical s.msr
        pc := codeAddress (vectorOf s n)
        waiting := false
        firstFetch := true
        dbg := (s.raise n).dbg
        cur := (s.raise n).cur } := by
  unfold State.raise State.suppress
  rw [State.takeInterrupt_eq]
  rfl

@[simp] theorem State.raise_gpr (n : Nat) : (s.raise n).gpr = s.gpr := by
  rw [State.raise_eq]
@[simp] theorem State.raise_pc (n : Nat) : (s.raise n).pc = codeAddress (vectorOf s n) := by
  rw [State.raise_eq]
@[simp] theorem State.raise_cr (n : Nat) : (s.raise n).cr = s.cr := by
  rw [State.raise_eq]
@[simp] theorem State.raise_xer (n : Nat) : (s.raise n).xer = s.xer := by
  rw [State.raise_eq]
@[simp] theorem State.raise_lr (n : Nat) : (s.raise n).lr = s.lr := by
  rw [State.raise_eq]
@[simp] theorem State.raise_ctr (n : Nat) : (s.raise n).ctr = s.ctr := by
  rw [State.raise_eq]
@[simp] theorem State.raise_msr (n : Nat) : (s.raise n).msr = newMsr s.hid.hid0 .nonCritical s.msr := by
  rw [State.raise_eq]
@[simp] theorem State.raise_acc (n : Nat) : (s.raise n).acc = s.acc := by
  rw [State.raise_eq]
@[simp] theorem State.raise_spefscr (n : Nat) : (s.raise n).spefscr = s.spefscr := by
  rw [State.raise_eq]
@[simp] theorem State.raise_reserve (n : Nat) : (s.raise n).reserve = s.reserve := by
  rw [State.raise_eq]
@[simp] theorem State.raise_int (n : Nat) : (s.raise n).int = { s.int with srr0 := s.pc, srr1 := s.msr } := by
  rw [State.raise_eq]
@[simp] theorem State.raise_soft (n : Nat) : (s.raise n).soft = s.soft := by
  rw [State.raise_eq]
@[simp] theorem State.raise_tim (n : Nat) : (s.raise n).tim = s.tim := by
  rw [State.raise_eq]
@[simp] theorem State.raise_hid (n : Nat) : (s.raise n).hid = s.hid := by
  rw [State.raise_eq]
@[simp] theorem State.raise_mmu (n : Nat) : (s.raise n).mmu = s.mmu := by
  rw [State.raise_eq]
@[simp] theorem State.raise_ic (n : Nat) : (s.raise n).ic = s.ic := by
  rw [State.raise_eq]
@[simp] theorem State.raise_psu (n : Nat) : (s.raise n).psu = s.psu := by
  rw [State.raise_eq]
@[simp] theorem State.raise_once (n : Nat) : (s.raise n).once = s.once := by
  rw [State.raise_eq]
@[simp] theorem State.raise_nexus (n : Nat) : (s.raise n).nexus = s.nexus := by
  rw [State.raise_eq]
@[simp] theorem State.raise_pins (n : Nat) : (s.raise n).pins = s.pins := by
  rw [State.raise_eq]
@[simp] theorem State.raise_mem (n : Nat) : (s.raise n).mem = s.mem := by
  rw [State.raise_eq]
@[simp] theorem State.raise_busErrors (n : Nat) : (s.raise n).busErrors = s.busErrors := by
  rw [State.raise_eq]
@[simp] theorem State.raise_platform (n : Nat) : (s.raise n).platform = s.platform := by
  rw [State.raise_eq]
@[simp] theorem State.raise_waiting (n : Nat) : (s.raise n).waiting = false := by
  rw [State.raise_eq]
@[simp] theorem State.raise_debugHalt (n : Nat) : (s.raise n).debugHalt = s.debugHalt := by
  rw [State.raise_eq]
@[simp] theorem State.raise_nmiPending (n : Nat) : (s.raise n).nmiPending = s.nmiPending := by
  rw [State.raise_eq]
@[simp] theorem State.raise_sampled (n : Nat) : (s.raise n).sampled = s.sampled := by
  rw [State.raise_eq]
@[simp] theorem State.raise_firstFetch (n : Nat) : (s.raise n).firstFetch = true := by
  rw [State.raise_eq]
@[simp] theorem State.raise_outputs (n : Nat) : (s.raise n).outputs = s.outputs := by
  rw [State.raise_eq]
@[simp] theorem State.raise_freeCtr (n : Nat) : (s.raise n).freeCtr = s.freeCtr := by
  rw [State.raise_eq]
@[simp] theorem State.raise_hostQueue (n : Nat) : (s.raise n).hostQueue = s.hostQueue := by
  rw [State.raise_eq]
@[simp] theorem State.raise_midway (n : Nat) : (s.raise n).midway = s.midway := by
  rw [State.raise_eq]

/-- The exceptions are raises after ESR, and for two of them DEAR, is written. -/
theorem State.program_eq (c : Word) : s.program c = (s.setEsr (c ||| s.vlemi)).raise 6 := rfl
theorem State.illegal_eq : s.illegal = s.program (oneBit 4) := rfl
theorem State.privileged_eq : s.privileged = s.program (oneBit 5) := rfl
theorem State.speUnavailable_eq : s.speUnavailable = (s.setEsr (oneBit 24 ||| s.vlemi)).raise 16 := rfl
theorem State.efpData_eq : s.efpData = (s.setEsr (oneBit 24 ||| s.vlemi)).raise 17 := rfl
theorem State.alignment_eq (ea : Word) (st spe : Bool) :
    s.alignment ea st spe = ((s.setEsr (s.accessEsr st spe)).setDear ea).raise 5 := rfl

/-- The vectors do not depend on ESR or DEAR. -/
@[simp] theorem vectorOf_setEsr (v : Word) (n : Nat) : vectorOf (s.setEsr v) n = vectorOf s n := rfl
@[simp] theorem vectorOf_setDear (v : Word) (n : Nat) : vectorOf (s.setDear v) n = vectorOf s n := rfl

end Sys2Proof.Machine
end

