-- ==== Sys2Proof/Laws/Memory.lean ====
section
/-! SUPPORT. Memory: reading after writing, and the canonical form that every operation keeps. -/

namespace Sys2Proof.Machine

/-! ## Reading after writing -/

theorem Memory.read_insert (m : Memory) (x : Host.Cell) (b : Nat) (h : ∀ c ∈ m, c.1 ≠ x.1) :
    Memory.read (m.insert x) b = if x.1 = b then x.2 else Memory.read m b := by
  induction m with
  | nil => rfl
  | cons c m ih =>
    have hc := h c (by simp)
    have hm : ∀ d ∈ m, d.1 ≠ x.1 := fun d hd => h d (by simp [hd])
    simp only [Memory.insert]
    split
    · rfl
    · simp only [Memory.read, ih hm]
      by_cases h1 : c.1 = b
      · have : ¬x.1 = b := fun h2 => hc (h1.trans h2.symm)
        simp [h1, this]
      · simp [h1]

theorem Memory.read_filter (m : Memory) (a b : Nat) :
    Memory.read (m.filter fun c => c.1 != a) b = if a = b then unlistedByte else Memory.read m b := by
  induction m with
  | nil => simp [Memory.read]
  | cons c m ih =>
    by_cases hc : c.1 = a
    · subst hc
      rw [List.filter_cons_of_neg (by simp), ih]
      by_cases hb : c.1 = b <;> simp [hb, Memory.read]
    · rw [List.filter_cons_of_pos (by simpa using hc)]
      simp only [Memory.read, ih]
      by_cases hb : c.1 = b
      · have : ¬a = b := fun h => hc (hb.trans h.symm)
        simp [hb, this]
      · simp [hb]

/-- Reading after a write: the byte written at its address, what was there everywhere else. -/
theorem Memory.read_write (m : Memory) (a b : Nat) (v : Byte) :
    (m.write a v).read b = if a = b then v else m.read b := by
  unfold Memory.write
  simp only []
  by_cases hv : v = unlistedByte
  · rw [if_pos hv, Memory.read_filter, hv]
  · rw [if_neg hv, Memory.read_insert _ _ _ (by simp), Memory.read_filter]
    by_cases h : a = b <;> simp [h]

@[simp] theorem Memory.read_write_same (m : Memory) (a : Nat) (v : Byte) : (m.write a v).read a = v := by
  simp [Memory.read_write]

theorem Memory.read_write_other (m : Memory) (a b : Nat) (v : Byte) (h : a ≠ b) : (m.write a v).read b = m.read b := by
  simp [Memory.read_write, h]

/-- Reading at an address that a list of writes does not name. -/
theorem Memory.read_writeAll_other (xs : List (Word × Byte)) (m : Memory) (a : Nat) (h : ∀ x ∈ xs, x.1.toNat ≠ a) :
    (m.writeAll xs).read a = m.read a := by
  induction xs generalizing m with
  | nil => rfl
  | cons x xs ih =>
    rw [Memory.writeAll, ih _ (fun y hy => h y (by simp [hy])), Memory.read_write_other _ _ _ _ (h x (by simp))]

/-- Reading at an address that a list of writes names once. -/
theorem Memory.read_writeAll_mem (xs : List (Word × Byte)) (m : Memory) (x : Word × Byte) (hx : x ∈ xs)
    (h : xs.Pairwise fun p q => p.1 ≠ q.1) : (m.writeAll xs).read x.1.toNat = x.2 := by
  induction xs generalizing m with
  | nil => simp at hx
  | cons y xs ih =>
    rw [List.pairwise_cons] at h
    rcases List.mem_cons.1 hx with rfl | hx
    · rw [Memory.writeAll, Memory.read_writeAll_other, Memory.read_write_same]
      intro z hz hEq
      exact h.1 z hz (BitVec.eq_of_toNat_eq hEq.symm)
    · rw [Memory.writeAll]
      exact ih _ hx h.2

/-! ## The canonical form -/

theorem Memory.wf_cons (c : Host.Cell) (m : Memory) :
    Memory.wf (c :: m) = true ↔ c.1 < 4294967296 ∧ c.2 ≠ unlistedByte ∧ (∀ d ∈ m, c.1 < d.1) ∧ Memory.wf m = true := by
  simp [Memory.wf, and_assoc]

theorem Memory.wf_filter (m : Memory) (a : Nat) (h : m.wf = true) : Memory.wf (m.filter fun c => c.1 != a) = true := by
  induction m with
  | nil => rfl
  | cons c m ih =>
    rw [Memory.wf_cons] at h
    by_cases hc : c.1 = a
    · rw [List.filter_cons_of_neg (by simpa using hc)]
      exact ih h.2.2.2
    · rw [List.filter_cons_of_pos (by simpa using hc), Memory.wf_cons]
      exact ⟨h.1, h.2.1, fun d hd => h.2.2.1 d (List.mem_of_mem_filter hd), ih h.2.2.2⟩

theorem Memory.mem_insert (m : Memory) (x c : Host.Cell) : c ∈ m.insert x → c = x ∨ c ∈ m := by
  induction m with
  | nil => simp [Memory.insert]
  | cons d m ih =>
    simp only [Memory.insert]
    split
    · simp
    · intro hc
      rcases List.mem_cons.1 hc with rfl | hc
      · simp
      · rcases ih hc with h | h <;> simp [h]

theorem Memory.wf_insert (m : Memory) (x : Host.Cell) (h : m.wf = true) (hx : x.1 < 4294967296) (hv : x.2 ≠ unlistedByte)
    (hne : ∀ c ∈ m, c.1 ≠ x.1) : (m.insert x).wf = true := by
  induction m with
  | nil => simp [Memory.insert, Memory.wf, hx, hv]
  | cons c m ih =>
    rw [Memory.wf_cons] at h
    simp only [Memory.insert]
    split
    · rename_i hlt
      rw [Memory.wf_cons, Memory.wf_cons]
      refine ⟨hx, hv, fun d hd => ?_, h⟩
      rcases List.mem_cons.1 hd with rfl | hd
      · exact hlt
      · exact hlt.trans (h.2.2.1 d hd)
    · rename_i hge
      rw [Memory.wf_cons]
      refine ⟨h.1, h.2.1, fun d hd => ?_, ih h.2.2.2 fun d hd => hne d (by simp [hd])⟩
      rcases Memory.mem_insert m x d hd with rfl | hd
      · have := hne c (by simp)
        omega
      · exact h.2.2.1 d hd

/-- A write keeps the canonical form. -/
theorem Memory.wf_write (m : Memory) (a : Nat) (v : Byte) (h : m.wf = true) (ha : a < 4294967296) :
    (m.write a v).wf = true := by
  unfold Memory.write
  simp only []
  split
  · exact Memory.wf_filter m a h
  · rename_i hv
    exact Memory.wf_insert _ _ (Memory.wf_filter m a h) ha hv (by simp)

/-- Writes keep the canonical form. -/
theorem Memory.wf_writeAll (xs : List (Word × Byte)) (m : Memory) (h : m.wf = true) : (m.writeAll xs).wf = true := by
  induction xs generalizing m with
  | nil => exact h
  | cons x xs ih => exact ih _ (Memory.wf_write m _ _ h x.1.isLt)

/-- Memory right after reset is in canonical form. -/
theorem State.reset_mem_wf : State.reset.mem.wf = true := rfl

/-- Memories in canonical form that read alike are equal. -/
theorem Memory.eq_of_read_eq (m n : Memory) (hm : m.wf = true) (hn : n.wf = true) (h : ∀ a, m.read a = n.read a) : m = n := by
  have below : ∀ (k : Memory) (a : Nat), (∀ d ∈ k, a < d.1) → k.read a = unlistedByte := by
    intro k a hk
    induction k with
    | nil => rfl
    | cons c k ih =>
      have := hk c (by simp)
      simp only [Memory.read]
      rw [if_neg (by omega)]
      exact ih fun d hd => hk d (by simp [hd])
  induction m generalizing n with
  | nil =>
    cases n with
    | nil => rfl
    | cons d n =>
      rw [Memory.wf_cons] at hn
      have := h d.1
      simp [Memory.read] at this
      exact absurd this.symm hn.2.1
  | cons c m ih =>
    rw [Memory.wf_cons] at hm
    cases n with
    | nil =>
      have := h c.1
      simp [Memory.read] at this
      exact absurd this hm.2.1
    | cons d n =>
      rw [Memory.wf_cons] at hn
      have hc := h c.1
      have hd := h d.1
      simp only [Memory.read, ite_true] at hc hd
      have e1 : c.1 = d.1 := by
        rcases Nat.lt_trichotomy c.1 d.1 with hlt | heq | hgt
        · rw [if_neg (by omega), below n c.1 fun x hx => by have := hn.2.2.1 x hx; omega] at hc
          exact absurd hc hm.2.1
        · exact heq
        · rw [if_neg (by omega), below m d.1 fun x hx => by have := hm.2.2.1 x hx; omega] at hd
          exact absurd hd.symm hn.2.1
      rw [if_pos e1.symm] at hc
      have e : c = d := Prod.ext e1 hc
      subst e
      congr 1
      refine ih n hm.2.2.2 hn.2.2.2 fun a => ?_
      have ha := h a
      simp only [Memory.read] at ha
      by_cases hca : c.1 = a
      · rw [below m a fun x hx => by have := hm.2.2.1 x hx; omega,
          below n a fun x hx => by have := hn.2.2.1 x hx; omega]
      · simpa [hca] using ha

end Sys2Proof.Machine
end

