-- ==== Sys2Proof/Laws/Access.lean ====
section
/-! SUPPORT. Data accesses: what each access operation gives when it completes, when it does complete, and
what arrives inside a multiple. -/

namespace Sys2Proof.Machine

/-! ## Chaining -/

theorem Access.bind_done {α β : Type} {x : Access α} {f : α → State → Access β} {v : β} {t : State}
    (h : x.bind f = .done v t) : ∃ a u, x = .done a u ∧ f a u = .done v t := by
  cases x with
  | done a u => exact ⟨a, u, rfl, h⟩
  | raised u => cases h

@[simp] theorem Access.bind_of_done {α β : Type} (a : α) (u : State) (f : α → State → Access β) :
    (Access.done a u).bind f = f a u := rfl

@[simp] theorem Access.bind_of_raised {α β : Type} (u : State) (f : α → State → Access β) :
    (Access.raised u).bind f = .raised u := rfl

@[simp] theorem Access.next_of_done {φ ρ α : Type} (a : α) (u : State) (f : α → State → State) :
    ((Access.done a u).next f : Host.Outcome State φ ρ) = .next (f a u) := rfl

@[simp] theorem Access.next_of_raised {φ ρ α : Type} (u : State) (f : α → State → State) :
    ((Access.raised u : Access α).next f : Host.Outcome State φ ρ) = .next u := rfl

/-- An access operation never stops the machine. -/
theorem Access.next_isNext {φ ρ α : Type} (x : Access α) (f : α → State → State) :
    ∃ t, (x.next f : Host.Outcome State φ ρ) = .next t := by
  cases x <;> exact ⟨_, rfl⟩

/-! ## Pages -/

/-- The mapping of a lookup that hits exactly one entry has no address alteration. -/
theorem State.lookup_flip {s : State} {as : Bool} {ea : Word} {m : Mapping} (h : s.lookup as ea = some m)
    (hm : m.multi = false) : m.flip = 0 := by
  unfold State.lookup State.lookupPid at h
  split at h
  · cases h
  · cases h
    rfl
  · cases h
    cases hm

theorem Mapping.samePage_iff (m : Mapping) (a b : Word) :
    m.samePage a b = true ↔ a.toNat / 2 ^ pageBits m.entry.size = b.toNat / 2 ^ pageBits m.entry.size := by
  unfold Mapping.samePage
  rw [beq_iff_eq, ← BitVec.toNat_inj]
  simp [BitVec.toNat_ushiftRight, Nat.shiftRight_eq_div_pow]

/-! ## When an access completes -/

/-- A translation whose pages are mapped and permitted completes. -/
theorem State.translateData_ok {s : State} {q : Request} {m m2 : Mapping} (h : s.MapsData q.ea q.size m m2)
    (hp : m.permits q.store s.userMode = true) (hp2 : m2.permits q.store s.userMode = true) :
    s.translateData q = .done (m, m2) s := by
  unfold State.translateData
  simp only [h.first]
  rw [if_neg (by simp [hp])]
  by_cases hs : m.samePage q.ea (q.ea + BitVec.ofNat 32 (q.size - 1)) = true
  · rw [if_pos hs, h.within hs]
    simp [State.usedMapping, h.single]
  · rw [if_neg hs, h.second (by simpa using hs)]
    simp [State.usedMapping, h.single, h.single2, hp2, h.sameOrder]

/-- An error-free access is error-free in each of its parts. -/
theorem State.busError_take (s : State) (k : BusKind) (xs : List Word) (n : Nat) (h : s.busError k xs = false) :
    s.busError k (xs.take n) = false := by
  unfold State.busError at *
  rw [List.any_eq_false] at *
  exact fun x hx => h x (List.mem_of_mem_take hx)

theorem State.busError_drop (s : State) (k : BusKind) (xs : List Word) (n : Nat) (h : s.busError k xs = false) :
    s.busError k (xs.drop n) = false := by
  unfold State.busError at *
  rw [List.any_eq_false] at *
  exact fun x hx => h x (List.mem_of_mem_drop hx)

/-- The state after a completed transfer. -/
def State.transferred (s : State) (q : Request) (m m2 : Mapping) (bytes : List Byte) : State :=
  (s.transfer q m m2 (realAddresses m m2 q.ea q.size) bytes false false).noteAccess
    { ea := q.ea, store := q.store, bytes := bytes }

/-- A load that can complete gives the bytes of memory. -/
theorem State.loadBytes_ok {s : State} {ea : Word} {n : Nat} {m m2 : Mapping} (h : s.CanLoad ea n m m2)
    (kind : AccessKind) :
    s.loadBytes ea n kind = .done (s.bytesAt m m2 ea n, m)
      (s.transferred { ea := ea, size := n, store := false, kind := kind } m m2 (s.bytesAt m m2 ea n)) := by
  unfold State.loadBytes
  simp only []
  rw [State.translateData_ok (q := { ea := ea, size := n, store := false, kind := kind }) h.maps
    (by simpa [Mapping.permits] using h.permitted.1) (by simpa [Mapping.permits] using h.permitted.2)]
  simp only [Access.bind_of_done, State.busError_take _ _ _ _ h.noError, State.busError_drop _ _ _ _ h.noError,
    Bool.not_false, Bool.and_false, Bool.or_self, Bool.false_eq_true, ite_false]
  rfl

/-- A load that can complete gives the scalar in the byte order of its page. -/
theorem State.load_ok {s : State} {ea : Word} {n : Nat} {m m2 : Mapping} (h : s.CanLoad ea n m m2) (kind : AccessKind) :
    s.load ea n kind = .done (s.scalarAt m m2 ea n)
      (s.transferred { ea := ea, size := n, store := false, kind := kind } m m2 (s.bytesAt m m2 ea n)) := by
  unfold State.load
  rw [State.loadBytes_ok h]
  rfl

/-- The state after a completed store of bytes at the real addresses of ea. -/
def State.stored (s : State) (m m2 : Mapping) (ea : Word) (bytes : List Byte) (kind : AccessKind) : State :=
  { s.transferred { ea := ea, size := bytes.length, store := true, kind := kind } m m2 bytes with
    mem := s.writeCells ((realAddresses m m2 ea bytes.length).zip bytes) }

/-- A store that can complete writes its image, and nothing else, unless it is a store conditional that external reservation
logic refuses. -/
theorem State.storeImage_ok {s : State} {ea : Word} {n : Nat} {m m2 : Mapping} {image : Bool → List Byte}
    (h : s.CanStore ea n m m2) (hl : (image m.entry.e).length = n) (kind : AccessKind)
    (hx : kind = .atomic → s.pins.xfail = false) :
    s.storeImage ea n image kind = .done true (s.stored m m2 ea (image m.entry.e) kind) := by
  unfold State.storeImage
  simp only []
  rw [State.translateData_ok (q := { ea := ea, size := n, store := true, kind := kind }) h.maps
    (by simpa [Mapping.permits] using h.permitted.1) (by simpa [Mapping.permits] using h.permitted.2)]
  have hr : (kind == .atomic && s.pins.xfail) = false := by
    by_cases hk : kind = .atomic
    · simp [hx hk]
    · simp [hk]
  simp only [Access.bind_of_done, State.busError_take _ _ _ _ h.noError, State.busError_drop _ _ _ _ h.noError,
    Bool.not_false, Bool.and_false, Bool.or_self, Bool.false_eq_true, ite_false, Bool.and_true, Bool.false_and, hr]
  subst hl
  rfl

theorem inOrder_length (e : Bool) (bs : List Byte) : (inOrder e bs).length = bs.length := by
  cases e <;> simp [inOrder]

theorem toBytes_length (n : Nat) (v : Dword) : (toBytes n v).length = n := by
  induction n with
  | zero => rfl
  | succ n ih => simp [toBytes, ih]

theorem realAddresses_length (m m2 : Mapping) (ea : Word) (n : Nat) : (realAddresses m m2 ea n).length = n := by
  simp [realAddresses]

/-- A scalar store that can complete. -/
theorem State.store_ok {s : State} {ea : Word} {n : Nat} {m m2 : Mapping} (h : s.CanStore ea n m m2) (v : Dword)
    (kind : AccessKind) (hx : kind = .atomic → s.pins.xfail = false) :
    s.store ea n v kind = .done true (s.stored m m2 ea (inOrder m.entry.e (toBytes n v)) kind) := by
  unfold State.store
  exact State.storeImage_ok h (by simp [inOrder_length, toBytes_length]) kind hx

/-- The signature unit does nothing while it is off for the kind of access. -/
theorem PsuRegs.accumulateAccess_off (p : PsuRegs) (store e1 e2 : Bool) (ea : Word) (bs : List Byte)
    (h : bit p.pscr (if store then 30 else 29) = false) : p.accumulateAccess store e1 e2 ea bs = p := by
  have one : ∀ (e : Bool) (a : Word) (xs : List Byte), p.accumulate store e a xs = p := by
    intro e a xs
    unfold PsuRegs.accumulate
    rw [h]
    simp
  unfold PsuRegs.accumulateAccess
  simp only [one]
  split <;> rfl

/-! ## What a completed access leaves alone -/

theorem State.transferred_eq (s : State) (q : Request) (m m2 : Mapping) (bs : List Byte) :
    s.transferred q m m2 bs =
      { s with psu := (s.transferred q m m2 bs).psu, cur := (s.transferred q m m2 bs).cur } := rfl

/-- A byte that a store does not write reads as before. -/
theorem State.writeCells_read_other (s : State) (as : List Word) (bs : List Byte) (a : Word)
    (h : a ∉ as ∨ s.holds a = false) : (s.writeCells (as.zip bs)).read a.toNat = s.byteAt a := by
  refine Memory.read_writeAll_other _ _ _ fun x hx hEq => ?_
  have hxa : x.1 = a := BitVec.eq_of_toNat_eq hEq
  obtain ⟨hm, hh⟩ := List.mem_filter.1 hx
  rcases h with h | h
  · exact h (hxa ▸ (List.of_mem_zip hm).1)
  · rw [hxa, h] at hh
    exact absurd hh (by simp)

/-- What a list of bytes written in order leaves in memory at an address that holds a byte store. -/
theorem State.writeCells_read_zip (s : State) (as : List Word) (bs : List Byte) (hl : as.length = bs.length) (k : Nat)
    (hk : k < as.length) (hh : s.holds (as.getD k 0) = true) (h : as.getD k 0 ∉ as.drop (k + 1)) :
    (s.writeCells (as.zip bs)).read (as.getD k 0).toNat = bs.getD k 0 := by
  have key : ∀ (m : Memory) (as : List Word) (bs : List Byte), as.length = bs.length → ∀ k, k < as.length →
      s.holds (as.getD k 0) = true → as.getD k 0 ∉ as.drop (k + 1) →
      (m.writeAll ((as.zip bs).filter fun c => s.holds c.1)).read (as.getD k 0).toNat = bs.getD k 0 := by
    intro m as
    induction as generalizing m with
    | nil => intro bs _ k hk; simp at hk
    | cons a as ih =>
      intro bs hl k hk hh h
      cases bs with
      | nil => simp at hl
      | cons b bs =>
        have hl' : as.length = bs.length := by simpa using hl
        cases k with
        | zero =>
          have ha : a ∉ as := by simpa using h
          have hs : s.holds a = true := by simpa using hh
          simp only [List.zip_cons_cons, List.filter_cons, hs, ite_true]
          show Memory.read (Memory.writeAll (m.write a.toNat b) _) a.toNat = b
          rw [Memory.read_writeAll_other _ _ _ fun x hx hEq => ha (by
            have := (List.of_mem_zip (List.mem_filter.1 hx).1).1
            rwa [BitVec.eq_of_toNat_eq hEq] at this)]
          simp
        | succ k =>
          have step := fun n : Memory => ih n bs hl' k (by simpa using hk) (by simpa using hh) (by simpa using h)
          by_cases hs : s.holds a = true
          · simpa [hs, Memory.writeAll] using step (m.write a.toNat b)
          · simpa [hs, Memory.writeAll] using step m
  exact key s.mem as bs hl k hk hh h

/-- Memory after a completed store. -/
theorem State.stored_stores (s : State) (m m2 : Mapping) (ea : Word) (bs : List Byte) (kind : AccessKind) :
    s.Stores (s.stored m m2 ea bs kind) (realAddresses m m2 ea bs.length) bs :=
  ⟨fun a h => State.writeCells_read_other s _ bs a h,
   fun k hk hh h => State.writeCells_read_zip s _ bs (realAddresses_length m m2 ea bs.length) k hk hh h⟩

/-- Every step of a translation that completes only counts free values. -/
theorem State.translateData_done {s t : State} {q : Request} {mm : Mapping × Mapping} (h : s.translateData q = .done mm t) :
    t = { s with freeCtr := t.freeCtr } := by
  have used : ∀ (u : State) (m : Mapping), u.usedMapping m = { u with freeCtr := (u.usedMapping m).freeCtr } := by
    intro u m
    unfold State.usedMapping State.spendFree
    split <;> rfl
  unfold State.translateData at h
  simp only [] at h
  cases hl : s.lookup (bit s.msr 27) q.ea with
  | none => simp [hl] at h
  | some m =>
    simp only [hl] at h
    by_cases h1 : m.permits q.store s.userMode = true
    · simp only [h1, Bool.not_true, Bool.false_eq_true, ite_false] at h
      by_cases h2 : m.samePage q.ea (q.ea + BitVec.ofNat 32 (q.size - 1)) = true
      · rw [if_pos h2] at h
        cases h
        exact used s m
      · rw [if_neg h2] at h
        cases hl2 : s.lookup (bit s.msr 27) (m.nextPage q.ea) with
        | none => simp [hl2] at h
        | some m2 =>
          simp only [hl2] at h
          by_cases h3 : m2.permits q.store s.userMode = true
          · simp only [h3, Bool.not_true, Bool.false_eq_true, ite_false] at h
            by_cases h4 : (m.entry.e != m2.entry.e && !m.multi && !m2.multi) = true
            · rw [if_pos h4] at h
              cases h
            · rw [if_neg h4] at h
              cases h
              rw [used (s.usedMapping m) m2, used s m]
          · simp [h3] at h
    · simp [h1] at h

/-- What a completed load leaves alone, in every state. -/
theorem State.loadBytes_done {s t : State} {ea : Word} {n : Nat} {kind : AccessKind} {r : List Byte × Mapping}
    (h : s.loadBytes ea n kind = .done r t) : t = { s with freeCtr := t.freeCtr, psu := t.psu, cur := t.cur } := by
  unfold State.loadBytes at h
  obtain ⟨mm, u, hu, h⟩ := Access.bind_done h
  have hs := State.translateData_done hu
  simp only [] at h
  split at h
  · cases h
  · cases h
    rw [hs]
    rfl

/-! ## Errors met beside an access -/

/-- An asynchronous machine check condition sets its bits, and loads MCAR unless MCSR[MAV] was 1; it changes nothing else. -/
theorem State.asyncCheck_eq (s : State) (e a : Word) (effective : Bool) :
    s.asyncCheck e a effective = { s with int := { s.int with
      mcsr := if bit s.int.mcsr 12 then s.int.mcsr ||| e else setBit (s.int.mcsr ||| e ||| oneBit 12) 13 effective
      mcar := if bit s.int.mcsr 12 then s.int.mcar else a } } := by
  unfold State.asyncCheck
  split <;> simp_all

/-- A line fill that is refused changes one line, MCSR and MCAR. -/
theorem State.refuseLine_eq (s : State) (ea real : Word) (w : Nat) :
    s.refuseLine ea real w = { s with
      ic.lines := (s.dropLine ea w).ic.lines
      int := (s.asyncCheck (oneBit 27) real false).int } := by
  simp only [State.refuseLine, State.asyncCheck_eq, State.dropLine, ICache.setLine]

/-! ## Inputs that arrive inside a multiple -/

/-- With no input waiting a multiple goes on. -/
theorem State.between_idle {s : State} (h : s.midway = []) (k : Nat) : s.between k = .done () s := by simp [State.between, h]

theorem State.mayAbandon_idle {s : State} (h : s.midway = []) (b : Bool) (k : Nat) : s.mayAbandon b k = .done () s := by
  cases b
  · rfl
  · exact State.between_idle h k

/-- A tick changes the timers only. -/
theorem State.tick_eq (s : State) : s.tick = { s with tim := s.tick.tim } := by
  unfold State.tick
  split <;> rfl

/-- Counting events changes the debug registers and the pulses only. -/
theorem State.countEvents_eq (s : State) (old : DebugRegs) (de : Bool) (e : CountEvents) :
    s.countEvents old de e =
      { s with dbg := (s.countEvents old de e).dbg, outputs := (s.countEvents old de e).outputs } := by
  unfold State.countEvents
  simp only []
  split
  · split <;> rfl
  · rfl

/-- The counters are frozen while internal debug mode is off (spec/61_debug.md R2225 item 1). -/
theorem State.countEvents_frozen {s : State} {old : DebugRegs} (h : bit old.dbcr0 1 = false) (de : Bool) (e : CountEvents) :
    s.countEvents old de e = s := by simp [State.countEvents, h]

/-- An instruction that wrote DBCNT keeps the value it wrote (R2225 item 5). -/
theorem State.countEvents_written {s : State} (h : s.cur.wroteDbcnt = true) (old : DebugRegs) (de : Bool) (e : CountEvents) :
    (s.countEvents old de e).dbg.dbcnt = s.dbg.dbcnt := by
  unfold State.countEvents
  simp only [h, if_true]
  split
  · split <;> rfl
  · rfl

/-- While the counters run, DBCNT is what one step of them makes of the counts so far, the edges inside the instruction among
them (R2225 items 3 and 4). -/
theorem State.countEvents_counts {s : State} {old : DebugRegs} (h : s.cur.wroteDbcnt = false) (hi : bit old.dbcr0 1 = true)
    (de : Bool) (e : CountEvents) :
    (s.countEvents old de e).dbg.dbcnt =
      (counterStep old.dbcr3 s.dbg.dbcnt (bit old.dbsr 31 || bit s.dbg.dbsr 31) e).1 := by
  unfold State.countEvents
  simp only [h, hi, if_true, State.countBase, State.countTriggered, Bool.false_eq_true, if_false]
  split <;> rfl

/-- In the active state the processor clock runs. -/
theorem State.clocked_of_active {s : State} (hw : s.waiting = false) (hs : s.suspended = false) : s.clocked = true := by
  simp [State.clocked, hw, hs]

/-- New levels of the pins change them, and what the edges of p_nmi_b and p_mcp_b latch. -/
theorem State.samplePins_eq (s : State) (p : Pins) :
    s.samplePins p = { s with
      pins := p
      nmiPending := (s.samplePins p).nmiPending
      sampled := (s.samplePins p).sampled
      int.mcsr := (s.samplePins p).int.mcsr } := by
  unfold State.samplePins
  simp only []
  split <;> rfl

/-- Without m_clk no edge of p_nmi_b or p_mcp_b is seen (spec/62_timers_power_platform.md R2170). -/
theorem State.samplePins_unclocked {s : State} {p : Pins} (h : { s with pins := p }.clocked = false) :
    s.samplePins p = { s with pins := p } := by simp [State.samplePins, h]

/-- While m_clk runs an asserted p_nmi_b that was not asserted when it was last sampled is an edge. -/
theorem State.samplePins_nmiPending {s : State} {p : Pins} (h : { s with pins := p }.clocked = true) :
    (s.samplePins p).nmiPending = (s.nmiPending || (!s.sampled.nmi && p.nmi)) := by simp [State.samplePins, h]

/-- In a debug session the counters are frozen: no edge counts (R2225 item 1). -/
theorem State.setPins_dbcnt_halted {s : State} (h : s.debugHalt = true) (p : Pins) :
    (s.setPins p).dbg.dbcnt = s.dbg.dbcnt := by
  unfold State.setPins State.record
  simp only [h, if_true]
  rw [State.samplePins_eq]
  split <;> rfl

/-- New pin levels change the pins, what their edges latch, and the pulses they cause. -/
theorem State.setPins_eq (s : State) (p : Pins) :
    s.setPins p = { s with
      pins := p
      nmiPending := (s.samplePins p).nmiPending
      sampled := (s.samplePins p).sampled
      int.mcsr := (s.samplePins p).int.mcsr
      dbg := (s.setPins p).dbg
      outputs := (s.setPins p).outputs } := by
  unfold State.setPins
  simp only []
  rw [State.record_eq, State.samplePins_eq]
  split
  · rfl
  · rw [State.countEvents_eq]

/-- Pin levels change the reservation only. -/
theorem State.pinLevels_eq (s : State) : s.pinLevels = { s with reserve := s.pinLevels.reserve } := by
  unfold State.pinLevels
  split <;> rfl

end Sys2Proof.Machine
end

