-- ==== Sys2Proof/Laws/Bits.lean ====
section
/-! SUPPORT. Bit fields: reading a bit or a field after writing one. -/

namespace Sys2Proof.Machine

theorem bit_oneBit (i j : Nat) (hj : j < 32) : bit (oneBit i) j = decide (i = j) := by
  unfold bit oneBit
  rw [BitVec.getMsbD_ushiftRight]
  by_cases h : i = j
  · subst h
    simp [hj]
  · by_cases h1 : j < i
    · simp [h1, h]
    · have h2 : 0x80000000#32 = BitVec.twoPow 32 31 := by decide
      simp only [h, decide_false, h1, h2, BitVec.getMsbD_twoPow]
      simp
      omega

@[simp] theorem bit_or (a b : Word) (i : Nat) : bit (a ||| b) i = (bit a i || bit b i) := BitVec.getMsbD_or ..

@[simp] theorem bit_and (a b : Word) (i : Nat) : bit (a &&& b) i = (bit a i && bit b i) := BitVec.getMsbD_and ..

@[simp] theorem bit_xor (a b : Word) (i : Nat) : bit (a ^^^ b) i = (bit a i ^^ bit b i) := BitVec.getMsbD_xor ..

theorem bit_not (a : Word) (i : Nat) (h : i < 32) : bit (~~~a) i = !bit a i := by simp [bit, h]

@[simp] theorem bit_zero (i : Nat) : bit 0#32 i = false := by simp [bit]

theorem bit_when (c : Bool) (m : Word) (i : Nat) : bit (when c m) i = (c && bit m i) := by
  cases c <;> simp [when]

/-- Words with the same bits are equal. -/
theorem word_ext (a b : Word) (h : ∀ i < 32, bit a i = bit b i) : a = b := BitVec.eq_of_getMsbD_eq fun i hi => h i hi

/-- A bit after a bit is written. -/
theorem bit_setBit (w : Word) (i j : Nat) (v : Bool) (hj : j < 32) : bit (setBit w i v) j = if i = j then v else bit w j := by
  unfold setBit
  cases v
  · simp only [Bool.false_eq_true, ite_false, bit_and, bit_not _ _ hj, bit_oneBit _ _ hj]
    by_cases h : i = j <;> simp [h]
  · simp only [ite_true, bit_or, bit_oneBit _ _ hj]
    by_cases h : i = j <;> simp [h]

/-- A bit of a field. -/
theorem bits_getMsbD (a n : Nat) (w : Word) (h : a + n ≤ 32) (i : Nat) (hi : i < n) :
    (bits a n w).getMsbD i = bit w (a + i) := by
  have h1 : n - 1 - i < n := by omega
  have h2 : a + i < 32 := by omega
  have h3 : 32 - a - n + (n - 1 - i) = 31 - (a + i) := by omega
  simp [bits, bit, BitVec.getMsbD, hi, h1, h2, h3]

/-- A bit after a field is written. -/
theorem bit_putBits (a n : Nat) (v : BitVec n) (w : Word) (h : a + n ≤ 32) (i : Nat) (hi : i < 32) :
    bit (putBits a n v w) i = if a ≤ i ∧ i < a + n then v.getMsbD (i - a) else bit w i := by
  unfold putBits
  simp only [bit_or, bit_and, bit_not _ _ hi]
  have shifted : ∀ x : BitVec n, bit (x.setWidth 32 <<< (32 - a - n)) i = (decide (a ≤ i ∧ i < a + n) && x.getMsbD (i - a)) := by
    intro x
    unfold bit
    simp only [BitVec.getMsbD, hi, decide_true, Bool.true_and, BitVec.getLsbD_shiftLeft, BitVec.getLsbD_setWidth]
    by_cases h1 : a ≤ i ∧ i < a + n
    · have e1 : 32 - 1 - i < 32 := by omega
      have e2 : ¬ (32 - 1 - i < 32 - a - n) := by omega
      have e3 : 32 - 1 - i - (32 - a - n) < 32 := by omega
      have e4 : i - a < n := by omega
      have e5 : 32 - 1 - i - (32 - a - n) = n - 1 - (i - a) := by omega
      simp [h1, e1, e2, e4, e5]
      omega
    · by_cases h2 : 32 - 1 - i < 32 - a - n
      · simp [h1, h2]
      · have : n ≤ 32 - 1 - i - (32 - a - n) := by omega
        simp [h1, BitVec.getLsbD_of_ge _ _ this]
  rw [shifted, shifted]
  by_cases h1 : a ≤ i ∧ i < a + n
  · have : i - a < n := by omega
    simp [h1, this]
  · simp [h1]

/-- A field after it is written. -/
theorem bits_putBits_same (a n : Nat) (v : BitVec n) (w : Word) (h : a + n ≤ 32) : bits a n (putBits a n v w) = v := by
  apply BitVec.eq_of_getMsbD_eq
  intro i hi
  rw [bits_getMsbD _ _ _ h _ hi, bit_putBits _ _ _ _ h _ (by omega)]
  rw [if_pos (by omega)]
  congr 1
  omega

/-- A field after another one is written. -/
theorem bits_putBits_other (a n : Nat) (v : BitVec n) (w : Word) (h : a + n ≤ 32) (b m : Nat) (hb : b + m ≤ 32)
    (hd : b + m ≤ a ∨ a + n ≤ b) : bits b m (putBits a n v w) = bits b m w := by
  apply BitVec.eq_of_getMsbD_eq
  intro i hi
  rw [bits_getMsbD _ _ _ hb _ hi, bits_getMsbD _ _ _ hb _ hi, bit_putBits _ _ _ _ h _ (by omega), if_neg (by omega)]

theorem append_getLsbD (a b : Word) (i : Nat) :
    BitVec.getLsbD (w := 64) (a ++ b) i = if i < 32 then b.getLsbD i else a.getLsbD (i - 32) :=
  BitVec.getLsbD_append

@[simp] theorem hi_append (a b : Word) : hi (a ++ b) = a := by
  apply BitVec.eq_of_getLsbD_eq
  intro i h
  unfold hi
  rw [BitVec.getLsbD_extractLsb', append_getLsbD]
  simp [h]

@[simp] theorem lo_append (a b : Word) : lo (a ++ b) = b := by
  apply BitVec.eq_of_getLsbD_eq
  intro i h
  unfold lo
  rw [BitVec.getLsbD_extractLsb', append_getLsbD]
  simp [h]

/-- A double word is its two halves. -/
theorem hi_append_lo (d : Dword) : hi d ++ lo d = d := by
  apply BitVec.eq_of_getLsbD_eq
  intro i hi'
  rw [append_getLsbD]
  unfold hi lo
  rw [BitVec.getLsbD_extractLsb', BitVec.getLsbD_extractLsb']
  by_cases h : i < 32
  · simp [h]
  · have : i - 32 < 32 := by omega
    have e : 32 + (i - 32) = i := by omega
    simp [h, this, e]

/-! ## Registers and condition fields -/

/-- A register after a register is written, all 64 bits. -/
theorem State.r64_setR64 (s : State) (a b : Reg) (v : Dword) : (s.setR64 a v).r64 b = if a = b then v else s.r64 b := by
  simp only [State.r64, State.setR64, Vector.getElem_set]
  by_cases h : a = b
  · simp [h]
  · have : a.toNat ≠ b.toNat := fun e => h (BitVec.eq_of_toNat_eq e)
    simp [h, this]

@[simp] theorem State.r64_setR64_same (s : State) (a : Reg) (v : Dword) : (s.setR64 a v).r64 a = v := by
  simp [State.r64_setR64]

theorem State.r64_setR64_other (s : State) (a b : Reg) (v : Dword) (h : b ≠ a) : (s.setR64 a v).r64 b = s.r64 b := by
  rw [State.r64_setR64, if_neg fun e => h e.symm]

/-- The low word of a register after a 32-bit result. -/
@[simp] theorem State.r_setR_same (s : State) (a : Reg) (v : Word) : (s.setR a v).r a = v := by
  simp [State.r, State.setR]

/-- A 32-bit result keeps the upper word. -/
@[simp] theorem State.hi_setR_same (s : State) (a : Reg) (v : Word) : hi ((s.setR a v).r64 a) = hi (s.r64 a) := by
  simp [State.setR]

theorem State.r64_setR_other (s : State) (a b : Reg) (v : Word) (h : b ≠ a) : (s.setR a v).r64 b = s.r64 b :=
  State.r64_setR64_other s a b _ h

/-- A CR field after it is written. -/
@[simp] theorem State.crField_setCrField_same (s : State) (f : CrField) (v : BitVec 4) : (s.setCrField f v).crField f = v :=
  bits_putBits_same _ _ _ _ (by have := f.isLt; omega)

/-- A CR field after another one is written. -/
theorem State.crField_setCrField_other (s : State) (f g : CrField) (v : BitVec 4) (h : g ≠ f) :
    (s.setCrField f v).crField g = s.crField g := by
  have hne : f.toNat ≠ g.toNat := fun e => h (BitVec.eq_of_toNat_eq e.symm)
  have hf := f.isLt
  have hg := g.isLt
  exact bits_putBits_other _ _ _ _ (by omega) _ _ (by omega) (by omega)

end Sys2Proof.Machine
end

