-- ==== Sys2Proof/Laws/Elements.lean ====
section
/-! SUPPORT. What ties the terms of the claims about elements and cache ways to the machine. -/

namespace Sys2Proof.Machine

/-! ## Floating-point instructions and their elements -/

/-- A scalar instruction commits the element the claims name. -/
theorem exec_of_scalarElement {s : State} {i : Instr} {rd : Reg} {e : ElementResult} (h : s.scalarElement i = some (rd, e)) :
    exec i s = s.scalarCommit rd e := by
  unfold State.scalarElement at h
  split at h
  all_goals first
    | (simp only [Option.some.injEq, Prod.mk.injEq] at h
       obtain ⟨rfl, rfl⟩ := h
       rfl)
    | cases h

/-- A scalar compare commits the status element of its operands, and writes its CR field. -/
theorem State.scalarCompare_eq (s : State) (crfD : CrField) (c : Bool) (a b : Word) :
    s.scalarCompare crfD c a b = s.efpCommit noElement (invalidOf a b) fun _ t => t.scalarCompareField crfD c := rfl

/-- With MSR[SPE] = 1 a vector compare commits the status elements of its operands, and writes its CR field. -/
theorem State.vectorCompare_eq {s : State} (on : s.speOn = true) (crfD : CrField) (rel : Word → Word → Bool) (a b : Dword) :
    s.vectorCompare crfD rel a b = s.efpCommit (invalidOf (hi a) (hi b)) (invalidOf (lo a) (lo b))
      fun _ t => t.setCrField crfD (vectorCompareField (rel (hi a) (hi b)) (rel (lo a) (lo b))) := by
  simp only [vectorCompare, on, Bool.not_true, Bool.false_eq_true, if_false, invalidOf]

/-- A scalar compare commits the status element the claims name. -/
theorem exec_of_comparedElement {s : State} {i : Instr} {e : ElementResult} (h : s.comparedElement i = some e) :
    ∃ write, exec i s = s.efpCommit noElement e write := by
  unfold State.comparedElement at h
  split at h
  all_goals first
    | (cases h; exact ⟨_, State.scalarCompare_eq _ _ _ _ _⟩)
    | cases h

/-- A vector instruction commits the two elements the claims name. -/
theorem exec_of_vectorElements {s : State} {i : Instr} {rd : Reg} {h l : ElementResult}
    (hi' : s.vectorElements i = some (rd, h, l)) : exec i s = s.vectorCommit rd h l := by
  unfold State.vectorElements at hi'
  split at hi'
  all_goals first
    | (simp only [Option.some.injEq, Prod.mk.injEq] at hi'
       obtain ⟨rfl, rfl, rfl⟩ := hi'
       rfl)
    | cases hi'

/-- With MSR[SPE] = 1 a vector compare commits the two status elements the claims name. -/
theorem exec_of_comparedElements {s : State} {i : Instr} {h l : ElementResult} (on : s.speOn = true)
    (hi' : s.comparedElements i = some (h, l)) : ∃ write, exec i s = s.efpCommit h l write := by
  unfold State.comparedElements at hi'
  split at hi'
  all_goals first
    | (cases hi'; exact ⟨_, State.vectorCompare_eq on _ _ _ _⟩)
    | cases hi'

/-! ## The way of a line fill -/

/-- A fill takes the way the claims name. -/
theorem ICache.candidates_of_nextWay {c : ICache} {set w : Nat} {b : Bool} (h : c.NextWay set b w) :
    ∃ rest, c.candidates set b = w :: rest := by
  obtain ⟨j, hj, rfl, hw, hlt⟩ := h
  have av : ∀ k, c.Available set b k ↔ (!bit c.l1csr0 k && (b || !(c.line set k).l)) = true := by
    intro k
    simp [ICache.Available]
  have : (c.candidates set b).head? = some ((c.replace.toNat + j) % c.ways) := by
    unfold ICache.candidates
    rw [List.head?_filter, List.find?_map, Option.map_eq_some_iff]
    refine ⟨j, List.find?_range_eq_some.2 ⟨(av _).1 hw, List.mem_range.2 hj, fun i hi => ?_⟩, rfl⟩
    have := hlt i hi
    rw [av] at this
    simpa [← Bool.not_eq_true, imp_iff_not_or] using this
  cases hc : c.candidates set b with
  | nil => simp [hc] at this
  | cons a rest =>
    rw [hc] at this
    simp only [List.head?_cons, Option.some.injEq] at this
    exact ⟨rest, by rw [this]⟩

/-- No way can be filled when none is available. -/
theorem ICache.candidates_nil {c : ICache} {set : Nat} {b : Bool} (hr : 0 < c.ways)
    (h : ∀ k, k < c.ways → ¬c.Available set b k) : c.candidates set b = [] := by
  unfold ICache.candidates
  rw [List.filter_eq_nil_iff]
  intro w hw
  obtain ⟨k, -, rfl⟩ := List.mem_map.1 hw
  have := h _ (Nat.mod_lt (c.replace.toNat + k) hr)
  simp only [ICache.Available, not_and, not_or] at this
  cases hb : bit c.l1csr0 ((c.replace.toNat + k) % c.ways) with
  | true => simp
  | false => simp [this hb]

end Sys2Proof.Machine
end

