-- ==== Sys2Proof/Laws/Exec.lean ====
section
/-! SUPPORT. exec, one lemma for each instruction: the definition it calls. -/

namespace Sys2Proof.Machine

@[simp] theorem exec_add (rt : BitVec 5) (ra : BitVec 5) (rb : BitVec 5) (s : State) :
    exec (.add rt ra rb) s = execAdd rt ra rb s := rfl
@[simp] theorem exec_addRc (rt : BitVec 5) (ra : BitVec 5) (rb : BitVec 5) (s : State) :
    exec (.addRc rt ra rb) s = execAddRc rt ra rb s := rfl
@[simp] theorem exec_addc (rt : BitVec 5) (ra : BitVec 5) (rb : BitVec 5) (s : State) :
    exec (.addc rt ra rb) s = execAddc rt ra rb s := rfl
@[simp] theorem exec_addcRc (rt : BitVec 5) (ra : BitVec 5) (rb : BitVec 5) (s : State) :
    exec (.addcRc rt ra rb) s = execAddcRc rt ra rb s := rfl
@[simp] theorem exec_addco (rt : BitVec 5) (ra : BitVec 5) (rb : BitVec 5) (s : State) :
    exec (.addco rt ra rb) s = execAddco rt ra rb s := rfl
@[simp] theorem exec_addcoRc (rt : BitVec 5) (ra : BitVec 5) (rb : BitVec 5) (s : State) :
    exec (.addcoRc rt ra rb) s = execAddcoRc rt ra rb s := rfl
@[simp] theorem exec_adde (rt : BitVec 5) (ra : BitVec 5) (rb : BitVec 5) (s : State) :
    exec (.adde rt ra rb) s = execAdde rt ra rb s := rfl
@[simp] theorem exec_addeRc (rt : BitVec 5) (ra : BitVec 5) (rb : BitVec 5) (s : State) :
    exec (.addeRc rt ra rb) s = execAddeRc rt ra rb s := rfl
@[simp] theorem exec_addeo (rt : BitVec 5) (ra : BitVec 5) (rb : BitVec 5) (s : State) :
    exec (.addeo rt ra rb) s = execAddeo rt ra rb s := rfl
@[simp] theorem exec_addeoRc (rt : BitVec 5) (ra : BitVec 5) (rb : BitVec 5) (s : State) :
    exec (.addeoRc rt ra rb) s = execAddeoRc rt ra rb s := rfl
@[simp] theorem exec_addi (rt : BitVec 5) (ra : BitVec 5) (si : BitVec 16) (s : State) :
    exec (.addi rt ra si) s = execAddi rt ra si s := rfl
@[simp] theorem exec_addic (rt : BitVec 5) (ra : BitVec 5) (si : BitVec 16) (s : State) :
    exec (.addic rt ra si) s = execAddic rt ra si s := rfl
@[simp] theorem exec_addicRc (rt : BitVec 5) (ra : BitVec 5) (si : BitVec 16) (s : State) :
    exec (.addicRc rt ra si) s = execAddicRc rt ra si s := rfl
@[simp] theorem exec_addis (rt : BitVec 5) (ra : BitVec 5) (si : BitVec 16) (s : State) :
    exec (.addis rt ra si) s = execAddis rt ra si s := rfl
@[simp] theorem exec_addme (rt : BitVec 5) (ra : BitVec 5) (s : State) :
    exec (.addme rt ra) s = execAddme rt ra s := rfl
@[simp] theorem exec_addmeRc (rt : BitVec 5) (ra : BitVec 5) (s : State) :
    exec (.addmeRc rt ra) s = execAddmeRc rt ra s := rfl
@[simp] theorem exec_addmeo (rt : BitVec 5) (ra : BitVec 5) (s : State) :
    exec (.addmeo rt ra) s = execAddmeo rt ra s := rfl
@[simp] theorem exec_addmeoRc (rt : BitVec 5) (ra : BitVec 5) (s : State) :
    exec (.addmeoRc rt ra) s = execAddmeoRc rt ra s := rfl
@[simp] theorem exec_addo (rt : BitVec 5) (ra : BitVec 5) (rb : BitVec 5) (s : State) :
    exec (.addo rt ra rb) s = execAddo rt ra rb s := rfl
@[simp] theorem exec_addoRc (rt : BitVec 5) (ra : BitVec 5) (rb : BitVec 5) (s : State) :
    exec (.addoRc rt ra rb) s = execAddoRc rt ra rb s := rfl
@[simp] theorem exec_addze (rt : BitVec 5) (ra : BitVec 5) (s : State) :
    exec (.addze rt ra) s = execAddze rt ra s := rfl
@[simp] theorem exec_addzeRc (rt : BitVec 5) (ra : BitVec 5) (s : State) :
    exec (.addzeRc rt ra) s = execAddzeRc rt ra s := rfl
@[simp] theorem exec_addzeo (rt : BitVec 5) (ra : BitVec 5) (s : State) :
    exec (.addzeo rt ra) s = execAddzeo rt ra s := rfl
@[simp] theorem exec_addzeoRc (rt : BitVec 5) (ra : BitVec 5) (s : State) :
    exec (.addzeoRc rt ra) s = execAddzeoRc rt ra s := rfl
@[simp] theorem exec_and (rs : BitVec 5) (ra : BitVec 5) (rb : BitVec 5) (s : State) :
    exec (.and rs ra rb) s = execAnd rs ra rb s := rfl
@[simp] theorem exec_andRc (rs : BitVec 5) (ra : BitVec 5) (rb : BitVec 5) (s : State) :
    exec (.andRc rs ra rb) s = execAndRc rs ra rb s := rfl
@[simp] theorem exec_andc (rs : BitVec 5) (ra : BitVec 5) (rb : BitVec 5) (s : State) :
    exec (.andc rs ra rb) s = execAndc rs ra rb s := rfl
@[simp] theorem exec_andcRc (rs : BitVec 5) (ra : BitVec 5) (rb : BitVec 5) (s : State) :
    exec (.andcRc rs ra rb) s = execAndcRc rs ra rb s := rfl
@[simp] theorem exec_andiRc (rs : BitVec 5) (ra : BitVec 5) (ui : BitVec 16) (s : State) :
    exec (.andiRc rs ra ui) s = execAndiRc rs ra ui s := rfl
@[simp] theorem exec_andisRc (rs : BitVec 5) (ra : BitVec 5) (ui : BitVec 16) (s : State) :
    exec (.andisRc rs ra ui) s = execAndisRc rs ra ui s := rfl
@[simp] theorem exec_b (li : BitVec 24) (s : State) :
    exec (.b li) s = execB li s := rfl
@[simp] theorem exec_ba (li : BitVec 24) (s : State) :
    exec (.ba li) s = execBa li s := rfl
@[simp] theorem exec_bc (bo : BitVec 5) (bi : BitVec 5) (bd : BitVec 14) (s : State) :
    exec (.bc bo bi bd) s = execBc bo bi bd s := rfl
@[simp] theorem exec_bca (bo : BitVec 5) (bi : BitVec 5) (bd : BitVec 14) (s : State) :
    exec (.bca bo bi bd) s = execBca bo bi bd s := rfl
@[simp] theorem exec_bcctr (bo : BitVec 5) (bi : BitVec 5) (s : State) :
    exec (.bcctr bo bi) s = execBcctr bo bi s := rfl
@[simp] theorem exec_bcctrl (bo : BitVec 5) (bi : BitVec 5) (s : State) :
    exec (.bcctrl bo bi) s = execBcctrl bo bi s := rfl
@[simp] theorem exec_bcl (bo : BitVec 5) (bi : BitVec 5) (bd : BitVec 14) (s : State) :
    exec (.bcl bo bi bd) s = execBcl bo bi bd s := rfl
@[simp] theorem exec_bcla (bo : BitVec 5) (bi : BitVec 5) (bd : BitVec 14) (s : State) :
    exec (.bcla bo bi bd) s = execBcla bo bi bd s := rfl
@[simp] theorem exec_bclr (bo : BitVec 5) (bi : BitVec 5) (s : State) :
    exec (.bclr bo bi) s = execBclr bo bi s := rfl
@[simp] theorem exec_bclrl (bo : BitVec 5) (bi : BitVec 5) (s : State) :
    exec (.bclrl bo bi) s = execBclrl bo bi s := rfl
@[simp] theorem exec_bl (li : BitVec 24) (s : State) :
    exec (.bl li) s = execBl li s := rfl
@[simp] theorem exec_bla (li : BitVec 24) (s : State) :
    exec (.bla li) s = execBla li s := rfl
@[simp] theorem exec_cmp (bf : BitVec 3) (ra : BitVec 5) (rb : BitVec 5) (s : State) :
    exec (.cmp bf ra rb) s = execCmp bf ra rb s := rfl
@[simp] theorem exec_cmpi (bf : BitVec 3) (ra : BitVec 5) (si : BitVec 16) (s : State) :
    exec (.cmpi bf ra si) s = execCmpi bf ra si s := rfl
@[simp] theorem exec_cmpl (bf : BitVec 3) (ra : BitVec 5) (rb : BitVec 5) (s : State) :
    exec (.cmpl bf ra rb) s = execCmpl bf ra rb s := rfl
@[simp] theorem exec_cmpli (bf : BitVec 3) (ra : BitVec 5) (ui : BitVec 16) (s : State) :
    exec (.cmpli bf ra ui) s = execCmpli bf ra ui s := rfl
@[simp] theorem exec_cntlzw (rs : BitVec 5) (ra : BitVec 5) (s : State) :
    exec (.cntlzw rs ra) s = execCntlzw rs ra s := rfl
@[simp] theorem exec_cntlzwRc (rs : BitVec 5) (ra : BitVec 5) (s : State) :
    exec (.cntlzwRc rs ra) s = execCntlzwRc rs ra s := rfl
@[simp] theorem exec_crand (bt : BitVec 5) (ba : BitVec 5) (bb : BitVec 5) (s : State) :
    exec (.crand bt ba bb) s = execCrand bt ba bb s := rfl
@[simp] theorem exec_crandc (bt : BitVec 5) (ba : BitVec 5) (bb : BitVec 5) (s : State) :
    exec (.crandc bt ba bb) s = execCrandc bt ba bb s := rfl
@[simp] theorem exec_creqv (bt : BitVec 5) (ba : BitVec 5) (bb : BitVec 5) (s : State) :
    exec (.creqv bt ba bb) s = execCreqv bt ba bb s := rfl
@[simp] theorem exec_crnand (bt : BitVec 5) (ba : BitVec 5) (bb : BitVec 5) (s : State) :
    exec (.crnand bt ba bb) s = execCrnand bt ba bb s := rfl
@[simp] theorem exec_crnor (bt : BitVec 5) (ba : BitVec 5) (bb : BitVec 5) (s : State) :
    exec (.crnor bt ba bb) s = execCrnor bt ba bb s := rfl
@[simp] theorem exec_cror (bt : BitVec 5) (ba : BitVec 5) (bb : BitVec 5) (s : State) :
    exec (.cror bt ba bb) s = execCror bt ba bb s := rfl
@[simp] theorem exec_crorc (bt : BitVec 5) (ba : BitVec 5) (bb : BitVec 5) (s : State) :
    exec (.crorc bt ba bb) s = execCrorc bt ba bb s := rfl
@[simp] theorem exec_crxor (bt : BitVec 5) (ba : BitVec 5) (bb : BitVec 5) (s : State) :
    exec (.crxor bt ba bb) s = execCrxor bt ba bb s := rfl
@[simp] theorem exec_dcba (ra : BitVec 5) (rb : BitVec 5) (s : State) :
    exec (.dcba ra rb) s = execDcba ra rb s := rfl
@[simp] theorem exec_dcbf (ra : BitVec 5) (rb : BitVec 5) (s : State) :
    exec (.dcbf ra rb) s = execDcbf ra rb s := rfl
@[simp] theorem exec_dcbi (ra : BitVec 5) (rb : BitVec 5) (s : State) :
    exec (.dcbi ra rb) s = execDcbi ra rb s := rfl
@[simp] theorem exec_dcblc (ct : BitVec 5) (ra : BitVec 5) (rb : BitVec 5) (s : State) :
    exec (.dcblc ct ra rb) s = execDcblc ct ra rb s := rfl
@[simp] theorem exec_dcbst (ra : BitVec 5) (rb : BitVec 5) (s : State) :
    exec (.dcbst ra rb) s = execDcbst ra rb s := rfl
@[simp] theorem exec_dcbt (ct : BitVec 5) (ra : BitVec 5) (rb : BitVec 5) (s : State) :
    exec (.dcbt ct ra rb) s = execDcbt ct ra rb s := rfl
@[simp] theorem exec_dcbtls (ct : BitVec 5) (ra : BitVec 5) (rb : BitVec 5) (s : State) :
    exec (.dcbtls ct ra rb) s = execDcbtls ct ra rb s := rfl
@[simp] theorem exec_dcbtst (ct : BitVec 5) (ra : BitVec 5) (rb : BitVec 5) (s : State) :
    exec (.dcbtst ct ra rb) s = execDcbtst ct ra rb s := rfl
@[simp] theorem exec_dcbtstls (ct : BitVec 5) (ra : BitVec 5) (rb : BitVec 5) (s : State) :
    exec (.dcbtstls ct ra rb) s = execDcbtstls ct ra rb s := rfl
@[simp] theorem exec_dcbz (ra : BitVec 5) (rb : BitVec 5) (s : State) :
    exec (.dcbz ra rb) s = execDcbz ra rb s := rfl
@[simp] theorem exec_divw (rt : BitVec 5) (ra : BitVec 5) (rb : BitVec 5) (s : State) :
    exec (.divw rt ra rb) s = execDivw rt ra rb s := rfl
@[simp] theorem exec_divwRc (rt : BitVec 5) (ra : BitVec 5) (rb : BitVec 5) (s : State) :
    exec (.divwRc rt ra rb) s = execDivwRc rt ra rb s := rfl
@[simp] theorem exec_divwo (rt : BitVec 5) (ra : BitVec 5) (rb : BitVec 5) (s : State) :
    exec (.divwo rt ra rb) s = execDivwo rt ra rb s := rfl
@[simp] theorem exec_divwoRc (rt : BitVec 5) (ra : BitVec 5) (rb : BitVec 5) (s : State) :
    exec (.divwoRc rt ra rb) s = execDivwoRc rt ra rb s := rfl
@[simp] theorem exec_divwu (rt : BitVec 5) (ra : BitVec 5) (rb : BitVec 5) (s : State) :
    exec (.divwu rt ra rb) s = execDivwu rt ra rb s := rfl
@[simp] theorem exec_divwuRc (rt : BitVec 5) (ra : BitVec 5) (rb : BitVec 5) (s : State) :
    exec (.divwuRc rt ra rb) s = execDivwuRc rt ra rb s := rfl
@[simp] theorem exec_divwuo (rt : BitVec 5) (ra : BitVec 5) (rb : BitVec 5) (s : State) :
    exec (.divwuo rt ra rb) s = execDivwuo rt ra rb s := rfl
@[simp] theorem exec_divwuoRc (rt : BitVec 5) (ra : BitVec 5) (rb : BitVec 5) (s : State) :
    exec (.divwuoRc rt ra rb) s = execDivwuoRc rt ra rb s := rfl
@[simp] theorem exec_eqv (rs : BitVec 5) (ra : BitVec 5) (rb : BitVec 5) (s : State) :
    exec (.eqv rs ra rb) s = execEqv rs ra rb s := rfl
@[simp] theorem exec_eqvRc (rs : BitVec 5) (ra : BitVec 5) (rb : BitVec 5) (s : State) :
    exec (.eqvRc rs ra rb) s = execEqvRc rs ra rb s := rfl
@[simp] theorem exec_extsb (rs : BitVec 5) (ra : BitVec 5) (s : State) :
    exec (.extsb rs ra) s = execExtsb rs ra s := rfl
@[simp] theorem exec_extsbRc (rs : BitVec 5) (ra : BitVec 5) (s : State) :
    exec (.extsbRc rs ra) s = execExtsbRc rs ra s := rfl
@[simp] theorem exec_extsh (rs : BitVec 5) (ra : BitVec 5) (s : State) :
    exec (.extsh rs ra) s = execExtsh rs ra s := rfl
@[simp] theorem exec_extshRc (rs : BitVec 5) (ra : BitVec 5) (s : State) :
    exec (.extshRc rs ra) s = execExtshRc rs ra s := rfl
@[simp] theorem exec_icbi (ra : BitVec 5) (rb : BitVec 5) (s : State) :
    exec (.icbi ra rb) s = execIcbi ra rb s := rfl
@[simp] theorem exec_icblc (ct : BitVec 5) (ra : BitVec 5) (rb : BitVec 5) (s : State) :
    exec (.icblc ct ra rb) s = execIcblc ct ra rb s := rfl
@[simp] theorem exec_icbt (ct : BitVec 5) (ra : BitVec 5) (rb : BitVec 5) (s : State) :
    exec (.icbt ct ra rb) s = execIcbt ct ra rb s := rfl
@[simp] theorem exec_icbtls (ct : BitVec 5) (ra : BitVec 5) (rb : BitVec 5) (s : State) :
    exec (.icbtls ct ra rb) s = execIcbtls ct ra rb s := rfl
@[simp] theorem exec_isel (rt : BitVec 5) (ra : BitVec 5) (rb : BitVec 5) (bc : BitVec 5) (s : State) :
    exec (.isel rt ra rb bc) s = execIsel rt ra rb bc s := rfl
@[simp] theorem exec_isync (s : State) :
    exec .isync s = execIsync s := rfl
@[simp] theorem exec_lbz (rt : BitVec 5) (ra : BitVec 5) (d : BitVec 16) (s : State) :
    exec (.lbz rt ra d) s = execLbz rt ra d s := rfl
@[simp] theorem exec_lbzu (rt : BitVec 5) (ra : BitVec 5) (d : BitVec 16) (s : State) :
    exec (.lbzu rt ra d) s = execLbzu rt ra d s := rfl
@[simp] theorem exec_lbzux (rt : BitVec 5) (ra : BitVec 5) (rb : BitVec 5) (s : State) :
    exec (.lbzux rt ra rb) s = execLbzux rt ra rb s := rfl
@[simp] theorem exec_lbzx (rt : BitVec 5) (ra : BitVec 5) (rb : BitVec 5) (s : State) :
    exec (.lbzx rt ra rb) s = execLbzx rt ra rb s := rfl
@[simp] theorem exec_lha (rt : BitVec 5) (ra : BitVec 5) (d : BitVec 16) (s : State) :
    exec (.lha rt ra d) s = execLha rt ra d s := rfl
@[simp] theorem exec_lhau (rt : BitVec 5) (ra : BitVec 5) (d : BitVec 16) (s : State) :
    exec (.lhau rt ra d) s = execLhau rt ra d s := rfl
@[simp] theorem exec_lhaux (rt : BitVec 5) (ra : BitVec 5) (rb : BitVec 5) (s : State) :
    exec (.lhaux rt ra rb) s = execLhaux rt ra rb s := rfl
@[simp] theorem exec_lhax (rt : BitVec 5) (ra : BitVec 5) (rb : BitVec 5) (s : State) :
    exec (.lhax rt ra rb) s = execLhax rt ra rb s := rfl
@[simp] theorem exec_lhbrx (rt : BitVec 5) (ra : BitVec 5) (rb : BitVec 5) (s : State) :
    exec (.lhbrx rt ra rb) s = execLhbrx rt ra rb s := rfl
@[simp] theorem exec_lhz (rt : BitVec 5) (ra : BitVec 5) (d : BitVec 16) (s : State) :
    exec (.lhz rt ra d) s = execLhz rt ra d s := rfl
@[simp] theorem exec_lhzu (rt : BitVec 5) (ra : BitVec 5) (d : BitVec 16) (s : State) :
    exec (.lhzu rt ra d) s = execLhzu rt ra d s := rfl
@[simp] theorem exec_lhzux (rt : BitVec 5) (ra : BitVec 5) (rb : BitVec 5) (s : State) :
    exec (.lhzux rt ra rb) s = execLhzux rt ra rb s := rfl
@[simp] theorem exec_lhzx (rt : BitVec 5) (ra : BitVec 5) (rb : BitVec 5) (s : State) :
    exec (.lhzx rt ra rb) s = execLhzx rt ra rb s := rfl
@[simp] theorem exec_lmw (rt : BitVec 5) (ra : BitVec 5) (d : BitVec 16) (s : State) :
    exec (.lmw rt ra d) s = execLmw rt ra d s := rfl
@[simp] theorem exec_lwarx (rt : BitVec 5) (ra : BitVec 5) (rb : BitVec 5) (s : State) :
    exec (.lwarx rt ra rb) s = execLwarx rt ra rb s := rfl
@[simp] theorem exec_lwbrx (rt : BitVec 5) (ra : BitVec 5) (rb : BitVec 5) (s : State) :
    exec (.lwbrx rt ra rb) s = execLwbrx rt ra rb s := rfl
@[simp] theorem exec_lwz (rt : BitVec 5) (ra : BitVec 5) (d : BitVec 16) (s : State) :
    exec (.lwz rt ra d) s = execLwz rt ra d s := rfl
@[simp] theorem exec_lwzu (rt : BitVec 5) (ra : BitVec 5) (d : BitVec 16) (s : State) :
    exec (.lwzu rt ra d) s = execLwzu rt ra d s := rfl
@[simp] theorem exec_lwzux (rt : BitVec 5) (ra : BitVec 5) (rb : BitVec 5) (s : State) :
    exec (.lwzux rt ra rb) s = execLwzux rt ra rb s := rfl
@[simp] theorem exec_lwzx (rt : BitVec 5) (ra : BitVec 5) (rb : BitVec 5) (s : State) :
    exec (.lwzx rt ra rb) s = execLwzx rt ra rb s := rfl
@[simp] theorem exec_mbar (mo : BitVec 5) (s : State) :
    exec (.mbar mo) s = execMbar mo s := rfl
@[simp] theorem exec_mcrf (bf : BitVec 3) (bfa : BitVec 3) (s : State) :
    exec (.mcrf bf bfa) s = execMcrf bf bfa s := rfl
@[simp] theorem exec_mcrxr (bf : BitVec 3) (s : State) :
    exec (.mcrxr bf) s = execMcrxr bf s := rfl
@[simp] theorem exec_mfcr (rt : BitVec 5) (s : State) :
    exec (.mfcr rt) s = execMfcr rt s := rfl
@[simp] theorem exec_mfdcr (rt : BitVec 5) (dcrn : BitVec 10) (s : State) :
    exec (.mfdcr rt dcrn) s = execMfdcr rt dcrn s := rfl
@[simp] theorem exec_mfmsr (rt : BitVec 5) (s : State) :
    exec (.mfmsr rt) s = execMfmsr rt s := rfl
@[simp] theorem exec_mfspr (rt : BitVec 5) (sprn : BitVec 10) (s : State) :
    exec (.mfspr rt sprn) s = execMfspr rt sprn s := rfl
@[simp] theorem exec_msync (s : State) :
    exec .msync s = execMsync s := rfl
@[simp] theorem exec_mtcrf (rs : BitVec 5) (fxm : BitVec 8) (s : State) :
    exec (.mtcrf rs fxm) s = execMtcrf rs fxm s := rfl
@[simp] theorem exec_mtdcr (rs : BitVec 5) (dcrn : BitVec 10) (s : State) :
    exec (.mtdcr rs dcrn) s = execMtdcr rs dcrn s := rfl
@[simp] theorem exec_mtmsr (rs : BitVec 5) (s : State) :
    exec (.mtmsr rs) s = execMtmsr rs s := rfl
@[simp] theorem exec_mtspr (rs : BitVec 5) (sprn : BitVec 10) (s : State) :
    exec (.mtspr rs sprn) s = execMtspr rs sprn s := rfl
@[simp] theorem exec_mulhw (rt : BitVec 5) (ra : BitVec 5) (rb : BitVec 5) (s : State) :
    exec (.mulhw rt ra rb) s = execMulhw rt ra rb s := rfl
@[simp] theorem exec_mulhwRc (rt : BitVec 5) (ra : BitVec 5) (rb : BitVec 5) (s : State) :
    exec (.mulhwRc rt ra rb) s = execMulhwRc rt ra rb s := rfl
@[simp] theorem exec_mulhwu (rt : BitVec 5) (ra : BitVec 5) (rb : BitVec 5) (s : State) :
    exec (.mulhwu rt ra rb) s = execMulhwu rt ra rb s := rfl
@[simp] theorem exec_mulhwuRc (rt : BitVec 5) (ra : BitVec 5) (rb : BitVec 5) (s : State) :
    exec (.mulhwuRc rt ra rb) s = execMulhwuRc rt ra rb s := rfl
@[simp] theorem exec_mulli (rt : BitVec 5) (ra : BitVec 5) (si : BitVec 16) (s : State) :
    exec (.mulli rt ra si) s = execMulli rt ra si s := rfl
@[simp] theorem exec_mullw (rt : BitVec 5) (ra : BitVec 5) (rb : BitVec 5) (s : State) :
    exec (.mullw rt ra rb) s = execMullw rt ra rb s := rfl
@[simp] theorem exec_mullwRc (rt : BitVec 5) (ra : BitVec 5) (rb : BitVec 5) (s : State) :
    exec (.mullwRc rt ra rb) s = execMullwRc rt ra rb s := rfl
@[simp] theorem exec_mullwo (rt : BitVec 5) (ra : BitVec 5) (rb : BitVec 5) (s : State) :
    exec (.mullwo rt ra rb) s = execMullwo rt ra rb s := rfl
@[simp] theorem exec_mullwoRc (rt : BitVec 5) (ra : BitVec 5) (rb : BitVec 5) (s : State) :
    exec (.mullwoRc rt ra rb) s = execMullwoRc rt ra rb s := rfl
@[simp] theorem exec_nand (rs : BitVec 5) (ra : BitVec 5) (rb : BitVec 5) (s : State) :
    exec (.nand rs ra rb) s = execNand rs ra rb s := rfl
@[simp] theorem exec_nandRc (rs : BitVec 5) (ra : BitVec 5) (rb : BitVec 5) (s : State) :
    exec (.nandRc rs ra rb) s = execNandRc rs ra rb s := rfl
@[simp] theorem exec_neg (rt : BitVec 5) (ra : BitVec 5) (s : State) :
    exec (.neg rt ra) s = execNeg rt ra s := rfl
@[simp] theorem exec_negRc (rt : BitVec 5) (ra : BitVec 5) (s : State) :
    exec (.negRc rt ra) s = execNegRc rt ra s := rfl
@[simp] theorem exec_nego (rt : BitVec 5) (ra : BitVec 5) (s : State) :
    exec (.nego rt ra) s = execNego rt ra s := rfl
@[simp] theorem exec_negoRc (rt : BitVec 5) (ra : BitVec 5) (s : State) :
    exec (.negoRc rt ra) s = execNegoRc rt ra s := rfl
@[simp] theorem exec_nor (rs : BitVec 5) (ra : BitVec 5) (rb : BitVec 5) (s : State) :
    exec (.nor rs ra rb) s = execNor rs ra rb s := rfl
@[simp] theorem exec_norRc (rs : BitVec 5) (ra : BitVec 5) (rb : BitVec 5) (s : State) :
    exec (.norRc rs ra rb) s = execNorRc rs ra rb s := rfl
@[simp] theorem exec_or (rs : BitVec 5) (ra : BitVec 5) (rb : BitVec 5) (s : State) :
    exec (.or rs ra rb) s = execOr rs ra rb s := rfl
@[simp] theorem exec_orRc (rs : BitVec 5) (ra : BitVec 5) (rb : BitVec 5) (s : State) :
    exec (.orRc rs ra rb) s = execOrRc rs ra rb s := rfl
@[simp] theorem exec_orc (rs : BitVec 5) (ra : BitVec 5) (rb : BitVec 5) (s : State) :
    exec (.orc rs ra rb) s = execOrc rs ra rb s := rfl
@[simp] theorem exec_orcRc (rs : BitVec 5) (ra : BitVec 5) (rb : BitVec 5) (s : State) :
    exec (.orcRc rs ra rb) s = execOrcRc rs ra rb s := rfl
@[simp] theorem exec_ori (rs : BitVec 5) (ra : BitVec 5) (ui : BitVec 16) (s : State) :
    exec (.ori rs ra ui) s = execOri rs ra ui s := rfl
@[simp] theorem exec_oris (rs : BitVec 5) (ra : BitVec 5) (ui : BitVec 16) (s : State) :
    exec (.oris rs ra ui) s = execOris rs ra ui s := rfl
@[simp] theorem exec_rfci (s : State) :
    exec .rfci s = execRfci s := rfl
@[simp] theorem exec_rfdi (s : State) :
    exec .rfdi s = execRfdi s := rfl
@[simp] theorem exec_rfi (s : State) :
    exec .rfi s = execRfi s := rfl
@[simp] theorem exec_rfmci (s : State) :
    exec .rfmci s = execRfmci s := rfl
@[simp] theorem exec_rlwimi (rs : BitVec 5) (ra : BitVec 5) (sh : BitVec 5) (mb : BitVec 5) (me : BitVec 5) (s : State) :
    exec (.rlwimi rs ra sh mb me) s = execRlwimi rs ra sh mb me s := rfl
@[simp] theorem exec_rlwimiRc (rs : BitVec 5) (ra : BitVec 5) (sh : BitVec 5) (mb : BitVec 5) (me : BitVec 5) (s : State) :
    exec (.rlwimiRc rs ra sh mb me) s = execRlwimiRc rs ra sh mb me s := rfl
@[simp] theorem exec_rlwinm (rs : BitVec 5) (ra : BitVec 5) (sh : BitVec 5) (mb : BitVec 5) (me : BitVec 5) (s : State) :
    exec (.rlwinm rs ra sh mb me) s = execRlwinm rs ra sh mb me s := rfl
@[simp] theorem exec_rlwinmRc (rs : BitVec 5) (ra : BitVec 5) (sh : BitVec 5) (mb : BitVec 5) (me : BitVec 5) (s : State) :
    exec (.rlwinmRc rs ra sh mb me) s = execRlwinmRc rs ra sh mb me s := rfl
@[simp] theorem exec_rlwnm (rs : BitVec 5) (ra : BitVec 5) (rb : BitVec 5) (mb : BitVec 5) (me : BitVec 5) (s : State) :
    exec (.rlwnm rs ra rb mb me) s = execRlwnm rs ra rb mb me s := rfl
@[simp] theorem exec_rlwnmRc (rs : BitVec 5) (ra : BitVec 5) (rb : BitVec 5) (mb : BitVec 5) (me : BitVec 5) (s : State) :
    exec (.rlwnmRc rs ra rb mb me) s = execRlwnmRc rs ra rb mb me s := rfl
@[simp] theorem exec_sc (s : State) :
    exec .sc s = execSc s := rfl
@[simp] theorem exec_slw (rs : BitVec 5) (ra : BitVec 5) (rb : BitVec 5) (s : State) :
    exec (.slw rs ra rb) s = execSlw rs ra rb s := rfl
@[simp] theorem exec_slwRc (rs : BitVec 5) (ra : BitVec 5) (rb : BitVec 5) (s : State) :
    exec (.slwRc rs ra rb) s = execSlwRc rs ra rb s := rfl
@[simp] theorem exec_sraw (rs : BitVec 5) (ra : BitVec 5) (rb : BitVec 5) (s : State) :
    exec (.sraw rs ra rb) s = execSraw rs ra rb s := rfl
@[simp] theorem exec_srawRc (rs : BitVec 5) (ra : BitVec 5) (rb : BitVec 5) (s : State) :
    exec (.srawRc rs ra rb) s = execSrawRc rs ra rb s := rfl
@[simp] theorem exec_srawi (rs : BitVec 5) (ra : BitVec 5) (sh : BitVec 5) (s : State) :
    exec (.srawi rs ra sh) s = execSrawi rs ra sh s := rfl
@[simp] theorem exec_srawiRc (rs : BitVec 5) (ra : BitVec 5) (sh : BitVec 5) (s : State) :
    exec (.srawiRc rs ra sh) s = execSrawiRc rs ra sh s := rfl
@[simp] theorem exec_srw (rs : BitVec 5) (ra : BitVec 5) (rb : BitVec 5) (s : State) :
    exec (.srw rs ra rb) s = execSrw rs ra rb s := rfl
@[simp] theorem exec_srwRc (rs : BitVec 5) (ra : BitVec 5) (rb : BitVec 5) (s : State) :
    exec (.srwRc rs ra rb) s = execSrwRc rs ra rb s := rfl
@[simp] theorem exec_stb (rs : BitVec 5) (ra : BitVec 5) (d : BitVec 16) (s : State) :
    exec (.stb rs ra d) s = execStb rs ra d s := rfl
@[simp] theorem exec_stbu (rs : BitVec 5) (ra : BitVec 5) (d : BitVec 16) (s : State) :
    exec (.stbu rs ra d) s = execStbu rs ra d s := rfl
@[simp] theorem exec_stbux (rs : BitVec 5) (ra : BitVec 5) (rb : BitVec 5) (s : State) :
    exec (.stbux rs ra rb) s = execStbux rs ra rb s := rfl
@[simp] theorem exec_stbx (rs : BitVec 5) (ra : BitVec 5) (rb : BitVec 5) (s : State) :
    exec (.stbx rs ra rb) s = execStbx rs ra rb s := rfl
@[simp] theorem exec_sth (rs : BitVec 5) (ra : BitVec 5) (d : BitVec 16) (s : State) :
    exec (.sth rs ra d) s = execSth rs ra d s := rfl
@[simp] theorem exec_sthbrx (rs : BitVec 5) (ra : BitVec 5) (rb : BitVec 5) (s : State) :
    exec (.sthbrx rs ra rb) s = execSthbrx rs ra rb s := rfl
@[simp] theorem exec_sthu (rs : BitVec 5) (ra : BitVec 5) (d : BitVec 16) (s : State) :
    exec (.sthu rs ra d) s = execSthu rs ra d s := rfl
@[simp] theorem exec_sthux (rs : BitVec 5) (ra : BitVec 5) (rb : BitVec 5) (s : State) :
    exec (.sthux rs ra rb) s = execSthux rs ra rb s := rfl
@[simp] theorem exec_sthx (rs : BitVec 5) (ra : BitVec 5) (rb : BitVec 5) (s : State) :
    exec (.sthx rs ra rb) s = execSthx rs ra rb s := rfl
@[simp] theorem exec_stmw (rs : BitVec 5) (ra : BitVec 5) (d : BitVec 16) (s : State) :
    exec (.stmw rs ra d) s = execStmw rs ra d s := rfl
@[simp] theorem exec_stw (rs : BitVec 5) (ra : BitVec 5) (d : BitVec 16) (s : State) :
    exec (.stw rs ra d) s = execStw rs ra d s := rfl
@[simp] theorem exec_stwbrx (rs : BitVec 5) (ra : BitVec 5) (rb : BitVec 5) (s : State) :
    exec (.stwbrx rs ra rb) s = execStwbrx rs ra rb s := rfl
@[simp] theorem exec_stwcxRc (rs : BitVec 5) (ra : BitVec 5) (rb : BitVec 5) (s : State) :
    exec (.stwcxRc rs ra rb) s = execStwcxRc rs ra rb s := rfl
@[simp] theorem exec_stwu (rs : BitVec 5) (ra : BitVec 5) (d : BitVec 16) (s : State) :
    exec (.stwu rs ra d) s = execStwu rs ra d s := rfl
@[simp] theorem exec_stwux (rs : BitVec 5) (ra : BitVec 5) (rb : BitVec 5) (s : State) :
    exec (.stwux rs ra rb) s = execStwux rs ra rb s := rfl
@[simp] theorem exec_stwx (rs : BitVec 5) (ra : BitVec 5) (rb : BitVec 5) (s : State) :
    exec (.stwx rs ra rb) s = execStwx rs ra rb s := rfl
@[simp] theorem exec_subf (rt : BitVec 5) (ra : BitVec 5) (rb : BitVec 5) (s : State) :
    exec (.subf rt ra rb) s = execSubf rt ra rb s := rfl
@[simp] theorem exec_subfRc (rt : BitVec 5) (ra : BitVec 5) (rb : BitVec 5) (s : State) :
    exec (.subfRc rt ra rb) s = execSubfRc rt ra rb s := rfl
@[simp] theorem exec_subfc (rt : BitVec 5) (ra : BitVec 5) (rb : BitVec 5) (s : State) :
    exec (.subfc rt ra rb) s = execSubfc rt ra rb s := rfl
@[simp] theorem exec_subfcRc (rt : BitVec 5) (ra : BitVec 5) (rb : BitVec 5) (s : State) :
    exec (.subfcRc rt ra rb) s = execSubfcRc rt ra rb s := rfl
@[simp] theorem exec_subfco (rt : BitVec 5) (ra : BitVec 5) (rb : BitVec 5) (s : State) :
    exec (.subfco rt ra rb) s = execSubfco rt ra rb s := rfl
@[simp] theorem exec_subfcoRc (rt : BitVec 5) (ra : BitVec 5) (rb : BitVec 5) (s : State) :
    exec (.subfcoRc rt ra rb) s = execSubfcoRc rt ra rb s := rfl
@[simp] theorem exec_subfe (rt : BitVec 5) (ra : BitVec 5) (rb : BitVec 5) (s : State) :
    exec (.subfe rt ra rb) s = execSubfe rt ra rb s := rfl
@[simp] theorem exec_subfeRc (rt : BitVec 5) (ra : BitVec 5) (rb : BitVec 5) (s : State) :
    exec (.subfeRc rt ra rb) s = execSubfeRc rt ra rb s := rfl
@[simp] theorem exec_subfeo (rt : BitVec 5) (ra : BitVec 5) (rb : BitVec 5) (s : State) :
    exec (.subfeo rt ra rb) s = execSubfeo rt ra rb s := rfl
@[simp] theorem exec_subfeoRc (rt : BitVec 5) (ra : BitVec 5) (rb : BitVec 5) (s : State) :
    exec (.subfeoRc rt ra rb) s = execSubfeoRc rt ra rb s := rfl
@[simp] theorem exec_subfic (rt : BitVec 5) (ra : BitVec 5) (si : BitVec 16) (s : State) :
    exec (.subfic rt ra si) s = execSubfic rt ra si s := rfl
@[simp] theorem exec_subfme (rt : BitVec 5) (ra : BitVec 5) (s : State) :
    exec (.subfme rt ra) s = execSubfme rt ra s := rfl
@[simp] theorem exec_subfmeRc (rt : BitVec 5) (ra : BitVec 5) (s : State) :
    exec (.subfmeRc rt ra) s = execSubfmeRc rt ra s := rfl
@[simp] theorem exec_subfmeo (rt : BitVec 5) (ra : BitVec 5) (s : State) :
    exec (.subfmeo rt ra) s = execSubfmeo rt ra s := rfl
@[simp] theorem exec_subfmeoRc (rt : BitVec 5) (ra : BitVec 5) (s : State) :
    exec (.subfmeoRc rt ra) s = execSubfmeoRc rt ra s := rfl
@[simp] theorem exec_subfo (rt : BitVec 5) (ra : BitVec 5) (rb : BitVec 5) (s : State) :
    exec (.subfo rt ra rb) s = execSubfo rt ra rb s := rfl
@[simp] theorem exec_subfoRc (rt : BitVec 5) (ra : BitVec 5) (rb : BitVec 5) (s : State) :
    exec (.subfoRc rt ra rb) s = execSubfoRc rt ra rb s := rfl
@[simp] theorem exec_subfze (rt : BitVec 5) (ra : BitVec 5) (s : State) :
    exec (.subfze rt ra) s = execSubfze rt ra s := rfl
@[simp] theorem exec_subfzeRc (rt : BitVec 5) (ra : BitVec 5) (s : State) :
    exec (.subfzeRc rt ra) s = execSubfzeRc rt ra s := rfl
@[simp] theorem exec_subfzeo (rt : BitVec 5) (ra : BitVec 5) (s : State) :
    exec (.subfzeo rt ra) s = execSubfzeo rt ra s := rfl
@[simp] theorem exec_subfzeoRc (rt : BitVec 5) (ra : BitVec 5) (s : State) :
    exec (.subfzeoRc rt ra) s = execSubfzeoRc rt ra s := rfl
@[simp] theorem exec_tlbivax (ra : BitVec 5) (rb : BitVec 5) (s : State) :
    exec (.tlbivax ra rb) s = execTlbivax ra rb s := rfl
@[simp] theorem exec_tlbre (s : State) :
    exec .tlbre s = execTlbre s := rfl
@[simp] theorem exec_tlbsx (ra : BitVec 5) (rb : BitVec 5) (s : State) :
    exec (.tlbsx ra rb) s = execTlbsx ra rb s := rfl
@[simp] theorem exec_tlbsync (s : State) :
    exec .tlbsync s = execTlbsync s := rfl
@[simp] theorem exec_tlbwe (s : State) :
    exec .tlbwe s = execTlbwe s := rfl
@[simp] theorem exec_tw (tcond : BitVec 5) (ra : BitVec 5) (rb : BitVec 5) (s : State) :
    exec (.tw tcond ra rb) s = execTw tcond ra rb s := rfl
@[simp] theorem exec_twi (tcond : BitVec 5) (ra : BitVec 5) (si : BitVec 16) (s : State) :
    exec (.twi tcond ra si) s = execTwi tcond ra si s := rfl
@[simp] theorem exec_wrtee (rs : BitVec 5) (s : State) :
    exec (.wrtee rs) s = execWrtee rs s := rfl
@[simp] theorem exec_wrteei (e : BitVec 1) (s : State) :
    exec (.wrteei e) s = execWrteei e s := rfl
@[simp] theorem exec_xor (rs : BitVec 5) (ra : BitVec 5) (rb : BitVec 5) (s : State) :
    exec (.xor rs ra rb) s = execXor rs ra rb s := rfl
@[simp] theorem exec_xorRc (rs : BitVec 5) (ra : BitVec 5) (rb : BitVec 5) (s : State) :
    exec (.xorRc rs ra rb) s = execXorRc rs ra rb s := rfl
@[simp] theorem exec_xori (rs : BitVec 5) (ra : BitVec 5) (ui : BitVec 16) (s : State) :
    exec (.xori rs ra ui) s = execXori rs ra ui s := rfl
@[simp] theorem exec_xoris (rs : BitVec 5) (ra : BitVec 5) (ui : BitVec 16) (s : State) :
    exec (.xoris rs ra ui) s = execXoris rs ra ui s := rfl
@[simp] theorem exec_wait (s : State) :
    exec .wait s = execWait s := rfl
@[simp] theorem exec_lbarx (rt : BitVec 5) (ra : BitVec 5) (rb : BitVec 5) (s : State) :
    exec (.lbarx rt ra rb) s = execLbarx rt ra rb s := rfl
@[simp] theorem exec_lharx (rt : BitVec 5) (ra : BitVec 5) (rb : BitVec 5) (s : State) :
    exec (.lharx rt ra rb) s = execLharx rt ra rb s := rfl
@[simp] theorem exec_stbcxRc (rs : BitVec 5) (ra : BitVec 5) (rb : BitVec 5) (s : State) :
    exec (.stbcxRc rs ra rb) s = execStbcxRc rs ra rb s := rfl
@[simp] theorem exec_sthcxRc (rs : BitVec 5) (ra : BitVec 5) (rb : BitVec 5) (s : State) :
    exec (.sthcxRc rs ra rb) s = execSthcxRc rs ra rb s := rfl
@[simp] theorem exec_dnh (dui : BitVec 5) (duis : BitVec 10) (s : State) :
    exec (.dnh dui duis) s = execDnh dui duis s := rfl
@[simp] theorem exec_seIsync (s : State) :
    exec .seIsync s = execSeIsync s := rfl
@[simp] theorem exec_seSc (s : State) :
    exec .seSc s = execSeSc s := rfl
@[simp] theorem exec_seRfi (s : State) :
    exec .seRfi s = execSeRfi s := rfl
@[simp] theorem exec_seRfci (s : State) :
    exec .seRfci s = execSeRfci s := rfl
@[simp] theorem exec_seRfdi (s : State) :
    exec .seRfdi s = execSeRfdi s := rfl
@[simp] theorem exec_seRfmci (s : State) :
    exec .seRfmci s = execSeRfmci s := rfl
@[simp] theorem exec_seDnh (s : State) :
    exec .seDnh s = execSeDnh s := rfl
@[simp] theorem exec_eDnh (dui : BitVec 5) (duis : BitVec 10) (s : State) :
    exec (.eDnh dui duis) s = execEDnh dui duis s := rfl
@[simp] theorem exec_eLmvgprw (ra : BitVec 5) (d8 : BitVec 8) (s : State) :
    exec (.eLmvgprw ra d8) s = execELmvgprw ra d8 s := rfl
@[simp] theorem exec_eStmvgprw (ra : BitVec 5) (d8 : BitVec 8) (s : State) :
    exec (.eStmvgprw ra d8) s = execEStmvgprw ra d8 s := rfl
@[simp] theorem exec_eLmvsprw (ra : BitVec 5) (d8 : BitVec 8) (s : State) :
    exec (.eLmvsprw ra d8) s = execELmvsprw ra d8 s := rfl
@[simp] theorem exec_eStmvsprw (ra : BitVec 5) (d8 : BitVec 8) (s : State) :
    exec (.eStmvsprw ra d8) s = execEStmvsprw ra d8 s := rfl
@[simp] theorem exec_eLmvsrrw (ra : BitVec 5) (d8 : BitVec 8) (s : State) :
    exec (.eLmvsrrw ra d8) s = execELmvsrrw ra d8 s := rfl
@[simp] theorem exec_eStmvsrrw (ra : BitVec 5) (d8 : BitVec 8) (s : State) :
    exec (.eStmvsrrw ra d8) s = execEStmvsrrw ra d8 s := rfl
@[simp] theorem exec_eLmvcsrrw (ra : BitVec 5) (d8 : BitVec 8) (s : State) :
    exec (.eLmvcsrrw ra d8) s = execELmvcsrrw ra d8 s := rfl
@[simp] theorem exec_eStmvcsrrw (ra : BitVec 5) (d8 : BitVec 8) (s : State) :
    exec (.eStmvcsrrw ra d8) s = execEStmvcsrrw ra d8 s := rfl
@[simp] theorem exec_eLmvdsrrw (ra : BitVec 5) (d8 : BitVec 8) (s : State) :
    exec (.eLmvdsrrw ra d8) s = execELmvdsrrw ra d8 s := rfl
@[simp] theorem exec_eStmvdsrrw (ra : BitVec 5) (d8 : BitVec 8) (s : State) :
    exec (.eStmvdsrrw ra d8) s = execEStmvdsrrw ra d8 s := rfl
@[simp] theorem exec_eLmvmcsrrw (ra : BitVec 5) (d8 : BitVec 8) (s : State) :
    exec (.eLmvmcsrrw ra d8) s = execELmvmcsrrw ra d8 s := rfl
@[simp] theorem exec_eStmvmcsrrw (ra : BitVec 5) (d8 : BitVec 8) (s : State) :
    exec (.eStmvmcsrrw ra d8) s = execEStmvmcsrrw ra d8 s := rfl
@[simp] theorem exec_eLmw (rt : BitVec 5) (ra : BitVec 5) (d8 : BitVec 8) (s : State) :
    exec (.eLmw rt ra d8) s = execELmw rt ra d8 s := rfl
@[simp] theorem exec_eStmw (rs : BitVec 5) (ra : BitVec 5) (d8 : BitVec 8) (s : State) :
    exec (.eStmw rs ra d8) s = execEStmw rs ra d8 s := rfl
@[simp] theorem exec_efsabs (rd : BitVec 5) (ra : BitVec 5) (s : State) :
    exec (.efsabs rd ra) s = execEfsabs rd ra s := rfl
@[simp] theorem exec_efsnabs (rd : BitVec 5) (ra : BitVec 5) (s : State) :
    exec (.efsnabs rd ra) s = execEfsnabs rd ra s := rfl
@[simp] theorem exec_efsneg (rd : BitVec 5) (ra : BitVec 5) (s : State) :
    exec (.efsneg rd ra) s = execEfsneg rd ra s := rfl
@[simp] theorem exec_efsadd (rd : BitVec 5) (ra : BitVec 5) (rb : BitVec 5) (s : State) :
    exec (.efsadd rd ra rb) s = execEfsadd rd ra rb s := rfl
@[simp] theorem exec_efssub (rd : BitVec 5) (ra : BitVec 5) (rb : BitVec 5) (s : State) :
    exec (.efssub rd ra rb) s = execEfssub rd ra rb s := rfl
@[simp] theorem exec_efsmul (rd : BitVec 5) (ra : BitVec 5) (rb : BitVec 5) (s : State) :
    exec (.efsmul rd ra rb) s = execEfsmul rd ra rb s := rfl
@[simp] theorem exec_efsdiv (rd : BitVec 5) (ra : BitVec 5) (rb : BitVec 5) (s : State) :
    exec (.efsdiv rd ra rb) s = execEfsdiv rd ra rb s := rfl
@[simp] theorem exec_efsmadd (rd : BitVec 5) (ra : BitVec 5) (rb : BitVec 5) (s : State) :
    exec (.efsmadd rd ra rb) s = execEfsmadd rd ra rb s := rfl
@[simp] theorem exec_efsmsub (rd : BitVec 5) (ra : BitVec 5) (rb : BitVec 5) (s : State) :
    exec (.efsmsub rd ra rb) s = execEfsmsub rd ra rb s := rfl
@[simp] theorem exec_efsnmadd (rd : BitVec 5) (ra : BitVec 5) (rb : BitVec 5) (s : State) :
    exec (.efsnmadd rd ra rb) s = execEfsnmadd rd ra rb s := rfl
@[simp] theorem exec_efsnmsub (rd : BitVec 5) (ra : BitVec 5) (rb : BitVec 5) (s : State) :
    exec (.efsnmsub rd ra rb) s = execEfsnmsub rd ra rb s := rfl
@[simp] theorem exec_efssqrt (rd : BitVec 5) (ra : BitVec 5) (s : State) :
    exec (.efssqrt rd ra) s = execEfssqrt rd ra s := rfl
@[simp] theorem exec_efsmax (rd : BitVec 5) (ra : BitVec 5) (rb : BitVec 5) (s : State) :
    exec (.efsmax rd ra rb) s = execEfsmax rd ra rb s := rfl
@[simp] theorem exec_efsmin (rd : BitVec 5) (ra : BitVec 5) (rb : BitVec 5) (s : State) :
    exec (.efsmin rd ra rb) s = execEfsmin rd ra rb s := rfl
@[simp] theorem exec_efscmpgt (crfD : BitVec 3) (ra : BitVec 5) (rb : BitVec 5) (s : State) :
    exec (.efscmpgt crfD ra rb) s = execEfscmpgt crfD ra rb s := rfl
@[simp] theorem exec_efscmplt (crfD : BitVec 3) (ra : BitVec 5) (rb : BitVec 5) (s : State) :
    exec (.efscmplt crfD ra rb) s = execEfscmplt crfD ra rb s := rfl
@[simp] theorem exec_efscmpeq (crfD : BitVec 3) (ra : BitVec 5) (rb : BitVec 5) (s : State) :
    exec (.efscmpeq crfD ra rb) s = execEfscmpeq crfD ra rb s := rfl
@[simp] theorem exec_efststgt (crfD : BitVec 3) (ra : BitVec 5) (rb : BitVec 5) (s : State) :
    exec (.efststgt crfD ra rb) s = execEfststgt crfD ra rb s := rfl
@[simp] theorem exec_efststlt (crfD : BitVec 3) (ra : BitVec 5) (rb : BitVec 5) (s : State) :
    exec (.efststlt crfD ra rb) s = execEfststlt crfD ra rb s := rfl
@[simp] theorem exec_efststeq (crfD : BitVec 3) (ra : BitVec 5) (rb : BitVec 5) (s : State) :
    exec (.efststeq crfD ra rb) s = execEfststeq crfD ra rb s := rfl
@[simp] theorem exec_efscfui (rd : BitVec 5) (rb : BitVec 5) (s : State) :
    exec (.efscfui rd rb) s = execEfscfui rd rb s := rfl
@[simp] theorem exec_efscfsi (rd : BitVec 5) (rb : BitVec 5) (s : State) :
    exec (.efscfsi rd rb) s = execEfscfsi rd rb s := rfl
@[simp] theorem exec_efscfuf (rd : BitVec 5) (rb : BitVec 5) (s : State) :
    exec (.efscfuf rd rb) s = execEfscfuf rd rb s := rfl
@[simp] theorem exec_efscfsf (rd : BitVec 5) (rb : BitVec 5) (s : State) :
    exec (.efscfsf rd rb) s = execEfscfsf rd rb s := rfl
@[simp] theorem exec_efscfh (rd : BitVec 5) (rb : BitVec 5) (s : State) :
    exec (.efscfh rd rb) s = execEfscfh rd rb s := rfl
@[simp] theorem exec_efsctui (rd : BitVec 5) (rb : BitVec 5) (s : State) :
    exec (.efsctui rd rb) s = execEfsctui rd rb s := rfl
@[simp] theorem exec_efsctsi (rd : BitVec 5) (rb : BitVec 5) (s : State) :
    exec (.efsctsi rd rb) s = execEfsctsi rd rb s := rfl
@[simp] theorem exec_efsctuiz (rd : BitVec 5) (rb : BitVec 5) (s : State) :
    exec (.efsctuiz rd rb) s = execEfsctuiz rd rb s := rfl
@[simp] theorem exec_efsctsiz (rd : BitVec 5) (rb : BitVec 5) (s : State) :
    exec (.efsctsiz rd rb) s = execEfsctsiz rd rb s := rfl
@[simp] theorem exec_efsctuf (rd : BitVec 5) (rb : BitVec 5) (s : State) :
    exec (.efsctuf rd rb) s = execEfsctuf rd rb s := rfl
@[simp] theorem exec_efsctsf (rd : BitVec 5) (rb : BitVec 5) (s : State) :
    exec (.efsctsf rd rb) s = execEfsctsf rd rb s := rfl
@[simp] theorem exec_efscth (rd : BitVec 5) (rb : BitVec 5) (s : State) :
    exec (.efscth rd rb) s = execEfscth rd rb s := rfl
@[simp] theorem exec_evfsabs (rd : BitVec 5) (ra : BitVec 5) (s : State) :
    exec (.evfsabs rd ra) s = execEvfsabs rd ra s := rfl
@[simp] theorem exec_evfsnabs (rd : BitVec 5) (ra : BitVec 5) (s : State) :
    exec (.evfsnabs rd ra) s = execEvfsnabs rd ra s := rfl
@[simp] theorem exec_evfsneg (rd : BitVec 5) (ra : BitVec 5) (s : State) :
    exec (.evfsneg rd ra) s = execEvfsneg rd ra s := rfl
@[simp] theorem exec_evfsadd (rd : BitVec 5) (ra : BitVec 5) (rb : BitVec 5) (s : State) :
    exec (.evfsadd rd ra rb) s = execEvfsadd rd ra rb s := rfl
@[simp] theorem exec_evfssub (rd : BitVec 5) (ra : BitVec 5) (rb : BitVec 5) (s : State) :
    exec (.evfssub rd ra rb) s = execEvfssub rd ra rb s := rfl
@[simp] theorem exec_evfsaddsub (rd : BitVec 5) (ra : BitVec 5) (rb : BitVec 5) (s : State) :
    exec (.evfsaddsub rd ra rb) s = execEvfsaddsub rd ra rb s := rfl
@[simp] theorem exec_evfssubadd (rd : BitVec 5) (ra : BitVec 5) (rb : BitVec 5) (s : State) :
    exec (.evfssubadd rd ra rb) s = execEvfssubadd rd ra rb s := rfl
@[simp] theorem exec_evfsaddx (rd : BitVec 5) (ra : BitVec 5) (rb : BitVec 5) (s : State) :
    exec (.evfsaddx rd ra rb) s = execEvfsaddx rd ra rb s := rfl
@[simp] theorem exec_evfssubx (rd : BitVec 5) (ra : BitVec 5) (rb : BitVec 5) (s : State) :
    exec (.evfssubx rd ra rb) s = execEvfssubx rd ra rb s := rfl
@[simp] theorem exec_evfsaddsubx (rd : BitVec 5) (ra : BitVec 5) (rb : BitVec 5) (s : State) :
    exec (.evfsaddsubx rd ra rb) s = execEvfsaddsubx rd ra rb s := rfl
@[simp] theorem exec_evfssubaddx (rd : BitVec 5) (ra : BitVec 5) (rb : BitVec 5) (s : State) :
    exec (.evfssubaddx rd ra rb) s = execEvfssubaddx rd ra rb s := rfl
@[simp] theorem exec_evfssum (rd : BitVec 5) (ra : BitVec 5) (rb : BitVec 5) (s : State) :
    exec (.evfssum rd ra rb) s = execEvfssum rd ra rb s := rfl
@[simp] theorem exec_evfsdiff (rd : BitVec 5) (ra : BitVec 5) (rb : BitVec 5) (s : State) :
    exec (.evfsdiff rd ra rb) s = execEvfsdiff rd ra rb s := rfl
@[simp] theorem exec_evfssumdiff (rd : BitVec 5) (ra : BitVec 5) (rb : BitVec 5) (s : State) :
    exec (.evfssumdiff rd ra rb) s = execEvfssumdiff rd ra rb s := rfl
@[simp] theorem exec_evfsdiffsum (rd : BitVec 5) (ra : BitVec 5) (rb : BitVec 5) (s : State) :
    exec (.evfsdiffsum rd ra rb) s = execEvfsdiffsum rd ra rb s := rfl
@[simp] theorem exec_evfsmul (rd : BitVec 5) (ra : BitVec 5) (rb : BitVec 5) (s : State) :
    exec (.evfsmul rd ra rb) s = execEvfsmul rd ra rb s := rfl
@[simp] theorem exec_evfsmule (rd : BitVec 5) (ra : BitVec 5) (rb : BitVec 5) (s : State) :
    exec (.evfsmule rd ra rb) s = execEvfsmule rd ra rb s := rfl
@[simp] theorem exec_evfsmulo (rd : BitVec 5) (ra : BitVec 5) (rb : BitVec 5) (s : State) :
    exec (.evfsmulo rd ra rb) s = execEvfsmulo rd ra rb s := rfl
@[simp] theorem exec_evfsmulx (rd : BitVec 5) (ra : BitVec 5) (rb : BitVec 5) (s : State) :
    exec (.evfsmulx rd ra rb) s = execEvfsmulx rd ra rb s := rfl
@[simp] theorem exec_evfsdiv (rd : BitVec 5) (ra : BitVec 5) (rb : BitVec 5) (s : State) :
    exec (.evfsdiv rd ra rb) s = execEvfsdiv rd ra rb s := rfl
@[simp] theorem exec_evfsmadd (rd : BitVec 5) (ra : BitVec 5) (rb : BitVec 5) (s : State) :
    exec (.evfsmadd rd ra rb) s = execEvfsmadd rd ra rb s := rfl
@[simp] theorem exec_evfsmsub (rd : BitVec 5) (ra : BitVec 5) (rb : BitVec 5) (s : State) :
    exec (.evfsmsub rd ra rb) s = execEvfsmsub rd ra rb s := rfl
@[simp] theorem exec_evfsnmadd (rd : BitVec 5) (ra : BitVec 5) (rb : BitVec 5) (s : State) :
    exec (.evfsnmadd rd ra rb) s = execEvfsnmadd rd ra rb s := rfl
@[simp] theorem exec_evfsnmsub (rd : BitVec 5) (ra : BitVec 5) (rb : BitVec 5) (s : State) :
    exec (.evfsnmsub rd ra rb) s = execEvfsnmsub rd ra rb s := rfl
@[simp] theorem exec_evfssqrt (rd : BitVec 5) (ra : BitVec 5) (s : State) :
    exec (.evfssqrt rd ra) s = execEvfssqrt rd ra s := rfl
@[simp] theorem exec_evfsmax (rd : BitVec 5) (ra : BitVec 5) (rb : BitVec 5) (s : State) :
    exec (.evfsmax rd ra rb) s = execEvfsmax rd ra rb s := rfl
@[simp] theorem exec_evfsmin (rd : BitVec 5) (ra : BitVec 5) (rb : BitVec 5) (s : State) :
    exec (.evfsmin rd ra rb) s = execEvfsmin rd ra rb s := rfl
@[simp] theorem exec_evfscmpgt (crfD : BitVec 3) (ra : BitVec 5) (rb : BitVec 5) (s : State) :
    exec (.evfscmpgt crfD ra rb) s = execEvfscmpgt crfD ra rb s := rfl
@[simp] theorem exec_evfscmplt (crfD : BitVec 3) (ra : BitVec 5) (rb : BitVec 5) (s : State) :
    exec (.evfscmplt crfD ra rb) s = execEvfscmplt crfD ra rb s := rfl
@[simp] theorem exec_evfscmpeq (crfD : BitVec 3) (ra : BitVec 5) (rb : BitVec 5) (s : State) :
    exec (.evfscmpeq crfD ra rb) s = execEvfscmpeq crfD ra rb s := rfl
@[simp] theorem exec_evfststgt (crfD : BitVec 3) (ra : BitVec 5) (rb : BitVec 5) (s : State) :
    exec (.evfststgt crfD ra rb) s = execEvfststgt crfD ra rb s := rfl
@[simp] theorem exec_evfststlt (crfD : BitVec 3) (ra : BitVec 5) (rb : BitVec 5) (s : State) :
    exec (.evfststlt crfD ra rb) s = execEvfststlt crfD ra rb s := rfl
@[simp] theorem exec_evfststeq (crfD : BitVec 3) (ra : BitVec 5) (rb : BitVec 5) (s : State) :
    exec (.evfststeq crfD ra rb) s = execEvfststeq crfD ra rb s := rfl
@[simp] theorem exec_evfscfui (rd : BitVec 5) (rb : BitVec 5) (s : State) :
    exec (.evfscfui rd rb) s = execEvfscfui rd rb s := rfl
@[simp] theorem exec_evfscfsi (rd : BitVec 5) (rb : BitVec 5) (s : State) :
    exec (.evfscfsi rd rb) s = execEvfscfsi rd rb s := rfl
@[simp] theorem exec_evfscfuf (rd : BitVec 5) (rb : BitVec 5) (s : State) :
    exec (.evfscfuf rd rb) s = execEvfscfuf rd rb s := rfl
@[simp] theorem exec_evfscfsf (rd : BitVec 5) (rb : BitVec 5) (s : State) :
    exec (.evfscfsf rd rb) s = execEvfscfsf rd rb s := rfl
@[simp] theorem exec_evfscfh (rd : BitVec 5) (rb : BitVec 5) (s : State) :
    exec (.evfscfh rd rb) s = execEvfscfh rd rb s := rfl
@[simp] theorem exec_evfscth (rd : BitVec 5) (rb : BitVec 5) (s : State) :
    exec (.evfscth rd rb) s = execEvfscth rd rb s := rfl
@[simp] theorem exec_evfsctui (rd : BitVec 5) (rb : BitVec 5) (s : State) :
    exec (.evfsctui rd rb) s = execEvfsctui rd rb s := rfl
@[simp] theorem exec_evfsctsi (rd : BitVec 5) (rb : BitVec 5) (s : State) :
    exec (.evfsctsi rd rb) s = execEvfsctsi rd rb s := rfl
@[simp] theorem exec_evfsctuiz (rd : BitVec 5) (rb : BitVec 5) (s : State) :
    exec (.evfsctuiz rd rb) s = execEvfsctuiz rd rb s := rfl
@[simp] theorem exec_evfsctsiz (rd : BitVec 5) (rb : BitVec 5) (s : State) :
    exec (.evfsctsiz rd rb) s = execEvfsctsiz rd rb s := rfl
@[simp] theorem exec_evfsctuf (rd : BitVec 5) (rb : BitVec 5) (s : State) :
    exec (.evfsctuf rd rb) s = execEvfsctuf rd rb s := rfl
@[simp] theorem exec_evfsctsf (rd : BitVec 5) (rb : BitVec 5) (s : State) :
    exec (.evfsctsf rd rb) s = execEvfsctsf rd rb s := rfl
@[simp] theorem exec_brinc (rd : BitVec 5) (ra : BitVec 5) (rb : BitVec 5) (s : State) :
    exec (.brinc rd ra rb) s = execBrinc rd ra rb s := rfl
@[simp] theorem exec_evabs (rd : BitVec 5) (ra : BitVec 5) (s : State) :
    exec (.evabs rd ra) s = execEvabs rd ra s := rfl
@[simp] theorem exec_evaddiw (rd : BitVec 5) (uimm : BitVec 5) (rb : BitVec 5) (s : State) :
    exec (.evaddiw rd uimm rb) s = execEvaddiw rd uimm rb s := rfl
@[simp] theorem exec_evaddw (rd : BitVec 5) (ra : BitVec 5) (rb : BitVec 5) (s : State) :
    exec (.evaddw rd ra rb) s = execEvaddw rd ra rb s := rfl
@[simp] theorem exec_evneg (rd : BitVec 5) (ra : BitVec 5) (s : State) :
    exec (.evneg rd ra) s = execEvneg rd ra s := rfl
@[simp] theorem exec_evsubfw (rd : BitVec 5) (ra : BitVec 5) (rb : BitVec 5) (s : State) :
    exec (.evsubfw rd ra rb) s = execEvsubfw rd ra rb s := rfl
@[simp] theorem exec_evsubifw (rd : BitVec 5) (uimm : BitVec 5) (rb : BitVec 5) (s : State) :
    exec (.evsubifw rd uimm rb) s = execEvsubifw rd uimm rb s := rfl
@[simp] theorem exec_evand (rd : BitVec 5) (ra : BitVec 5) (rb : BitVec 5) (s : State) :
    exec (.evand rd ra rb) s = execEvand rd ra rb s := rfl
@[simp] theorem exec_evandc (rd : BitVec 5) (ra : BitVec 5) (rb : BitVec 5) (s : State) :
    exec (.evandc rd ra rb) s = execEvandc rd ra rb s := rfl
@[simp] theorem exec_eveqv (rd : BitVec 5) (ra : BitVec 5) (rb : BitVec 5) (s : State) :
    exec (.eveqv rd ra rb) s = execEveqv rd ra rb s := rfl
@[simp] theorem exec_evnand (rd : BitVec 5) (ra : BitVec 5) (rb : BitVec 5) (s : State) :
    exec (.evnand rd ra rb) s = execEvnand rd ra rb s := rfl
@[simp] theorem exec_evnor (rd : BitVec 5) (ra : BitVec 5) (rb : BitVec 5) (s : State) :
    exec (.evnor rd ra rb) s = execEvnor rd ra rb s := rfl
@[simp] theorem exec_evor (rd : BitVec 5) (ra : BitVec 5) (rb : BitVec 5) (s : State) :
    exec (.evor rd ra rb) s = execEvor rd ra rb s := rfl
@[simp] theorem exec_evorc (rd : BitVec 5) (ra : BitVec 5) (rb : BitVec 5) (s : State) :
    exec (.evorc rd ra rb) s = execEvorc rd ra rb s := rfl
@[simp] theorem exec_evxor (rd : BitVec 5) (ra : BitVec 5) (rb : BitVec 5) (s : State) :
    exec (.evxor rd ra rb) s = execEvxor rd ra rb s := rfl
@[simp] theorem exec_evcmpeq (crfD : BitVec 3) (ra : BitVec 5) (rb : BitVec 5) (s : State) :
    exec (.evcmpeq crfD ra rb) s = execEvcmpeq crfD ra rb s := rfl
@[simp] theorem exec_evcmpgts (crfD : BitVec 3) (ra : BitVec 5) (rb : BitVec 5) (s : State) :
    exec (.evcmpgts crfD ra rb) s = execEvcmpgts crfD ra rb s := rfl
@[simp] theorem exec_evcmpgtu (crfD : BitVec 3) (ra : BitVec 5) (rb : BitVec 5) (s : State) :
    exec (.evcmpgtu crfD ra rb) s = execEvcmpgtu crfD ra rb s := rfl
@[simp] theorem exec_evcmplts (crfD : BitVec 3) (ra : BitVec 5) (rb : BitVec 5) (s : State) :
    exec (.evcmplts crfD ra rb) s = execEvcmplts crfD ra rb s := rfl
@[simp] theorem exec_evcmpltu (crfD : BitVec 3) (ra : BitVec 5) (rb : BitVec 5) (s : State) :
    exec (.evcmpltu crfD ra rb) s = execEvcmpltu crfD ra rb s := rfl
@[simp] theorem exec_evcntlsw (rd : BitVec 5) (ra : BitVec 5) (s : State) :
    exec (.evcntlsw rd ra) s = execEvcntlsw rd ra s := rfl
@[simp] theorem exec_evcntlzw (rd : BitVec 5) (ra : BitVec 5) (s : State) :
    exec (.evcntlzw rd ra) s = execEvcntlzw rd ra s := rfl
@[simp] theorem exec_evextsb (rd : BitVec 5) (ra : BitVec 5) (s : State) :
    exec (.evextsb rd ra) s = execEvextsb rd ra s := rfl
@[simp] theorem exec_evextsh (rd : BitVec 5) (ra : BitVec 5) (s : State) :
    exec (.evextsh rd ra) s = execEvextsh rd ra s := rfl
@[simp] theorem exec_evmergehi (rd : BitVec 5) (ra : BitVec 5) (rb : BitVec 5) (s : State) :
    exec (.evmergehi rd ra rb) s = execEvmergehi rd ra rb s := rfl
@[simp] theorem exec_evmergehilo (rd : BitVec 5) (ra : BitVec 5) (rb : BitVec 5) (s : State) :
    exec (.evmergehilo rd ra rb) s = execEvmergehilo rd ra rb s := rfl
@[simp] theorem exec_evmergelo (rd : BitVec 5) (ra : BitVec 5) (rb : BitVec 5) (s : State) :
    exec (.evmergelo rd ra rb) s = execEvmergelo rd ra rb s := rfl
@[simp] theorem exec_evmergelohi (rd : BitVec 5) (ra : BitVec 5) (rb : BitVec 5) (s : State) :
    exec (.evmergelohi rd ra rb) s = execEvmergelohi rd ra rb s := rfl
@[simp] theorem exec_evrlw (rd : BitVec 5) (ra : BitVec 5) (rb : BitVec 5) (s : State) :
    exec (.evrlw rd ra rb) s = execEvrlw rd ra rb s := rfl
@[simp] theorem exec_evrlwi (rd : BitVec 5) (ra : BitVec 5) (uimm : BitVec 5) (s : State) :
    exec (.evrlwi rd ra uimm) s = execEvrlwi rd ra uimm s := rfl
@[simp] theorem exec_evrndw (rd : BitVec 5) (ra : BitVec 5) (s : State) :
    exec (.evrndw rd ra) s = execEvrndw rd ra s := rfl
@[simp] theorem exec_evsel (rd : BitVec 5) (ra : BitVec 5) (rb : BitVec 5) (crfS : BitVec 3) (s : State) :
    exec (.evsel rd ra rb crfS) s = execEvsel rd ra rb crfS s := rfl
@[simp] theorem exec_evslw (rd : BitVec 5) (ra : BitVec 5) (rb : BitVec 5) (s : State) :
    exec (.evslw rd ra rb) s = execEvslw rd ra rb s := rfl
@[simp] theorem exec_evslwi (rd : BitVec 5) (ra : BitVec 5) (uimm : BitVec 5) (s : State) :
    exec (.evslwi rd ra uimm) s = execEvslwi rd ra uimm s := rfl
@[simp] theorem exec_evsrwis (rd : BitVec 5) (ra : BitVec 5) (uimm : BitVec 5) (s : State) :
    exec (.evsrwis rd ra uimm) s = execEvsrwis rd ra uimm s := rfl
@[simp] theorem exec_evsrwiu (rd : BitVec 5) (ra : BitVec 5) (uimm : BitVec 5) (s : State) :
    exec (.evsrwiu rd ra uimm) s = execEvsrwiu rd ra uimm s := rfl
@[simp] theorem exec_evsrws (rd : BitVec 5) (ra : BitVec 5) (rb : BitVec 5) (s : State) :
    exec (.evsrws rd ra rb) s = execEvsrws rd ra rb s := rfl
@[simp] theorem exec_evsrwu (rd : BitVec 5) (ra : BitVec 5) (rb : BitVec 5) (s : State) :
    exec (.evsrwu rd ra rb) s = execEvsrwu rd ra rb s := rfl
@[simp] theorem exec_evsplatfi (rd : BitVec 5) (simm : BitVec 5) (s : State) :
    exec (.evsplatfi rd simm) s = execEvsplatfi rd simm s := rfl
@[simp] theorem exec_evsplati (rd : BitVec 5) (simm : BitVec 5) (s : State) :
    exec (.evsplati rd simm) s = execEvsplati rd simm s := rfl
@[simp] theorem exec_evdivws (rd : BitVec 5) (ra : BitVec 5) (rb : BitVec 5) (s : State) :
    exec (.evdivws rd ra rb) s = execEvdivws rd ra rb s := rfl
@[simp] theorem exec_evdivwu (rd : BitVec 5) (ra : BitVec 5) (rb : BitVec 5) (s : State) :
    exec (.evdivwu rd ra rb) s = execEvdivwu rd ra rb s := rfl
@[simp] theorem exec_evmwhsmf (rd : BitVec 5) (ra : BitVec 5) (rb : BitVec 5) (s : State) :
    exec (.evmwhsmf rd ra rb) s = execEvmwhsmf rd ra rb s := rfl
@[simp] theorem exec_evmwhsmfa (rd : BitVec 5) (ra : BitVec 5) (rb : BitVec 5) (s : State) :
    exec (.evmwhsmfa rd ra rb) s = execEvmwhsmfa rd ra rb s := rfl
@[simp] theorem exec_evmwhsmi (rd : BitVec 5) (ra : BitVec 5) (rb : BitVec 5) (s : State) :
    exec (.evmwhsmi rd ra rb) s = execEvmwhsmi rd ra rb s := rfl
@[simp] theorem exec_evmwhsmia (rd : BitVec 5) (ra : BitVec 5) (rb : BitVec 5) (s : State) :
    exec (.evmwhsmia rd ra rb) s = execEvmwhsmia rd ra rb s := rfl
@[simp] theorem exec_evmwhssf (rd : BitVec 5) (ra : BitVec 5) (rb : BitVec 5) (s : State) :
    exec (.evmwhssf rd ra rb) s = execEvmwhssf rd ra rb s := rfl
@[simp] theorem exec_evmwhssfa (rd : BitVec 5) (ra : BitVec 5) (rb : BitVec 5) (s : State) :
    exec (.evmwhssfa rd ra rb) s = execEvmwhssfa rd ra rb s := rfl
@[simp] theorem exec_evmwhumi (rd : BitVec 5) (ra : BitVec 5) (rb : BitVec 5) (s : State) :
    exec (.evmwhumi rd ra rb) s = execEvmwhumi rd ra rb s := rfl
@[simp] theorem exec_evmwhumia (rd : BitVec 5) (ra : BitVec 5) (rb : BitVec 5) (s : State) :
    exec (.evmwhumia rd ra rb) s = execEvmwhumia rd ra rb s := rfl
@[simp] theorem exec_evmwlsmiaaw (rd : BitVec 5) (ra : BitVec 5) (rb : BitVec 5) (s : State) :
    exec (.evmwlsmiaaw rd ra rb) s = execEvmwlsmiaaw rd ra rb s := rfl
@[simp] theorem exec_evmwlsmianw (rd : BitVec 5) (ra : BitVec 5) (rb : BitVec 5) (s : State) :
    exec (.evmwlsmianw rd ra rb) s = execEvmwlsmianw rd ra rb s := rfl
@[simp] theorem exec_evmwlssiaaw (rd : BitVec 5) (ra : BitVec 5) (rb : BitVec 5) (s : State) :
    exec (.evmwlssiaaw rd ra rb) s = execEvmwlssiaaw rd ra rb s := rfl
@[simp] theorem exec_evmwlssianw (rd : BitVec 5) (ra : BitVec 5) (rb : BitVec 5) (s : State) :
    exec (.evmwlssianw rd ra rb) s = execEvmwlssianw rd ra rb s := rfl
@[simp] theorem exec_evmwlumi (rd : BitVec 5) (ra : BitVec 5) (rb : BitVec 5) (s : State) :
    exec (.evmwlumi rd ra rb) s = execEvmwlumi rd ra rb s := rfl
@[simp] theorem exec_evmwlumia (rd : BitVec 5) (ra : BitVec 5) (rb : BitVec 5) (s : State) :
    exec (.evmwlumia rd ra rb) s = execEvmwlumia rd ra rb s := rfl
@[simp] theorem exec_evmwlumiaaw (rd : BitVec 5) (ra : BitVec 5) (rb : BitVec 5) (s : State) :
    exec (.evmwlumiaaw rd ra rb) s = execEvmwlumiaaw rd ra rb s := rfl
@[simp] theorem exec_evmwlumianw (rd : BitVec 5) (ra : BitVec 5) (rb : BitVec 5) (s : State) :
    exec (.evmwlumianw rd ra rb) s = execEvmwlumianw rd ra rb s := rfl
@[simp] theorem exec_evmwlusiaaw (rd : BitVec 5) (ra : BitVec 5) (rb : BitVec 5) (s : State) :
    exec (.evmwlusiaaw rd ra rb) s = execEvmwlusiaaw rd ra rb s := rfl
@[simp] theorem exec_evmwlusianw (rd : BitVec 5) (ra : BitVec 5) (rb : BitVec 5) (s : State) :
    exec (.evmwlusianw rd ra rb) s = execEvmwlusianw rd ra rb s := rfl
@[simp] theorem exec_evmwsmf (rd : BitVec 5) (ra : BitVec 5) (rb : BitVec 5) (s : State) :
    exec (.evmwsmf rd ra rb) s = execEvmwsmf rd ra rb s := rfl
@[simp] theorem exec_evmwsmfa (rd : BitVec 5) (ra : BitVec 5) (rb : BitVec 5) (s : State) :
    exec (.evmwsmfa rd ra rb) s = execEvmwsmfa rd ra rb s := rfl
@[simp] theorem exec_evmwsmfaa (rd : BitVec 5) (ra : BitVec 5) (rb : BitVec 5) (s : State) :
    exec (.evmwsmfaa rd ra rb) s = execEvmwsmfaa rd ra rb s := rfl
@[simp] theorem exec_evmwsmfan (rd : BitVec 5) (ra : BitVec 5) (rb : BitVec 5) (s : State) :
    exec (.evmwsmfan rd ra rb) s = execEvmwsmfan rd ra rb s := rfl
@[simp] theorem exec_evmwsmi (rd : BitVec 5) (ra : BitVec 5) (rb : BitVec 5) (s : State) :
    exec (.evmwsmi rd ra rb) s = execEvmwsmi rd ra rb s := rfl
@[simp] theorem exec_evmwsmia (rd : BitVec 5) (ra : BitVec 5) (rb : BitVec 5) (s : State) :
    exec (.evmwsmia rd ra rb) s = execEvmwsmia rd ra rb s := rfl
@[simp] theorem exec_evmwsmiaa (rd : BitVec 5) (ra : BitVec 5) (rb : BitVec 5) (s : State) :
    exec (.evmwsmiaa rd ra rb) s = execEvmwsmiaa rd ra rb s := rfl
@[simp] theorem exec_evmwsmian (rd : BitVec 5) (ra : BitVec 5) (rb : BitVec 5) (s : State) :
    exec (.evmwsmian rd ra rb) s = execEvmwsmian rd ra rb s := rfl
@[simp] theorem exec_evmwssf (rd : BitVec 5) (ra : BitVec 5) (rb : BitVec 5) (s : State) :
    exec (.evmwssf rd ra rb) s = execEvmwssf rd ra rb s := rfl
@[simp] theorem exec_evmwssfa (rd : BitVec 5) (ra : BitVec 5) (rb : BitVec 5) (s : State) :
    exec (.evmwssfa rd ra rb) s = execEvmwssfa rd ra rb s := rfl
@[simp] theorem exec_evmwssfaa (rd : BitVec 5) (ra : BitVec 5) (rb : BitVec 5) (s : State) :
    exec (.evmwssfaa rd ra rb) s = execEvmwssfaa rd ra rb s := rfl
@[simp] theorem exec_evmwssfan (rd : BitVec 5) (ra : BitVec 5) (rb : BitVec 5) (s : State) :
    exec (.evmwssfan rd ra rb) s = execEvmwssfan rd ra rb s := rfl
@[simp] theorem exec_evmwumi (rd : BitVec 5) (ra : BitVec 5) (rb : BitVec 5) (s : State) :
    exec (.evmwumi rd ra rb) s = execEvmwumi rd ra rb s := rfl
@[simp] theorem exec_evmwumia (rd : BitVec 5) (ra : BitVec 5) (rb : BitVec 5) (s : State) :
    exec (.evmwumia rd ra rb) s = execEvmwumia rd ra rb s := rfl
@[simp] theorem exec_evmwumiaa (rd : BitVec 5) (ra : BitVec 5) (rb : BitVec 5) (s : State) :
    exec (.evmwumiaa rd ra rb) s = execEvmwumiaa rd ra rb s := rfl
@[simp] theorem exec_evmwumian (rd : BitVec 5) (ra : BitVec 5) (rb : BitVec 5) (s : State) :
    exec (.evmwumian rd ra rb) s = execEvmwumian rd ra rb s := rfl
@[simp] theorem exec_evaddsmiaaw (rd : BitVec 5) (ra : BitVec 5) (s : State) :
    exec (.evaddsmiaaw rd ra) s = execEvaddsmiaaw rd ra s := rfl
@[simp] theorem exec_evaddssiaaw (rd : BitVec 5) (ra : BitVec 5) (s : State) :
    exec (.evaddssiaaw rd ra) s = execEvaddssiaaw rd ra s := rfl
@[simp] theorem exec_evaddumiaaw (rd : BitVec 5) (ra : BitVec 5) (s : State) :
    exec (.evaddumiaaw rd ra) s = execEvaddumiaaw rd ra s := rfl
@[simp] theorem exec_evaddusiaaw (rd : BitVec 5) (ra : BitVec 5) (s : State) :
    exec (.evaddusiaaw rd ra) s = execEvaddusiaaw rd ra s := rfl
@[simp] theorem exec_evsubfsmiaaw (rd : BitVec 5) (ra : BitVec 5) (s : State) :
    exec (.evsubfsmiaaw rd ra) s = execEvsubfsmiaaw rd ra s := rfl
@[simp] theorem exec_evsubfssiaaw (rd : BitVec 5) (ra : BitVec 5) (s : State) :
    exec (.evsubfssiaaw rd ra) s = execEvsubfssiaaw rd ra s := rfl
@[simp] theorem exec_evsubfumiaaw (rd : BitVec 5) (ra : BitVec 5) (s : State) :
    exec (.evsubfumiaaw rd ra) s = execEvsubfumiaaw rd ra s := rfl
@[simp] theorem exec_evsubfusiaaw (rd : BitVec 5) (ra : BitVec 5) (s : State) :
    exec (.evsubfusiaaw rd ra) s = execEvsubfusiaaw rd ra s := rfl
@[simp] theorem exec_evmra (rd : BitVec 5) (ra : BitVec 5) (s : State) :
    exec (.evmra rd ra) s = execEvmra rd ra s := rfl
@[simp] theorem exec_evmhegsmfaa (rd : BitVec 5) (ra : BitVec 5) (rb : BitVec 5) (s : State) :
    exec (.evmhegsmfaa rd ra rb) s = execEvmhegsmfaa rd ra rb s := rfl
@[simp] theorem exec_evmhegsmfan (rd : BitVec 5) (ra : BitVec 5) (rb : BitVec 5) (s : State) :
    exec (.evmhegsmfan rd ra rb) s = execEvmhegsmfan rd ra rb s := rfl
@[simp] theorem exec_evmhegsmiaa (rd : BitVec 5) (ra : BitVec 5) (rb : BitVec 5) (s : State) :
    exec (.evmhegsmiaa rd ra rb) s = execEvmhegsmiaa rd ra rb s := rfl
@[simp] theorem exec_evmhegsmian (rd : BitVec 5) (ra : BitVec 5) (rb : BitVec 5) (s : State) :
    exec (.evmhegsmian rd ra rb) s = execEvmhegsmian rd ra rb s := rfl
@[simp] theorem exec_evmhegumiaa (rd : BitVec 5) (ra : BitVec 5) (rb : BitVec 5) (s : State) :
    exec (.evmhegumiaa rd ra rb) s = execEvmhegumiaa rd ra rb s := rfl
@[simp] theorem exec_evmhegumian (rd : BitVec 5) (ra : BitVec 5) (rb : BitVec 5) (s : State) :
    exec (.evmhegumian rd ra rb) s = execEvmhegumian rd ra rb s := rfl
@[simp] theorem exec_evmhesmf (rd : BitVec 5) (ra : BitVec 5) (rb : BitVec 5) (s : State) :
    exec (.evmhesmf rd ra rb) s = execEvmhesmf rd ra rb s := rfl
@[simp] theorem exec_evmhesmfa (rd : BitVec 5) (ra : BitVec 5) (rb : BitVec 5) (s : State) :
    exec (.evmhesmfa rd ra rb) s = execEvmhesmfa rd ra rb s := rfl
@[simp] theorem exec_evmhesmfaaw (rd : BitVec 5) (ra : BitVec 5) (rb : BitVec 5) (s : State) :
    exec (.evmhesmfaaw rd ra rb) s = execEvmhesmfaaw rd ra rb s := rfl
@[simp] theorem exec_evmhesmfanw (rd : BitVec 5) (ra : BitVec 5) (rb : BitVec 5) (s : State) :
    exec (.evmhesmfanw rd ra rb) s = execEvmhesmfanw rd ra rb s := rfl
@[simp] theorem exec_evmhesmi (rd : BitVec 5) (ra : BitVec 5) (rb : BitVec 5) (s : State) :
    exec (.evmhesmi rd ra rb) s = execEvmhesmi rd ra rb s := rfl
@[simp] theorem exec_evmhesmia (rd : BitVec 5) (ra : BitVec 5) (rb : BitVec 5) (s : State) :
    exec (.evmhesmia rd ra rb) s = execEvmhesmia rd ra rb s := rfl
@[simp] theorem exec_evmhesmiaaw (rd : BitVec 5) (ra : BitVec 5) (rb : BitVec 5) (s : State) :
    exec (.evmhesmiaaw rd ra rb) s = execEvmhesmiaaw rd ra rb s := rfl
@[simp] theorem exec_evmhesmianw (rd : BitVec 5) (ra : BitVec 5) (rb : BitVec 5) (s : State) :
    exec (.evmhesmianw rd ra rb) s = execEvmhesmianw rd ra rb s := rfl
@[simp] theorem exec_evmhessf (rd : BitVec 5) (ra : BitVec 5) (rb : BitVec 5) (s : State) :
    exec (.evmhessf rd ra rb) s = execEvmhessf rd ra rb s := rfl
@[simp] theorem exec_evmhessfa (rd : BitVec 5) (ra : BitVec 5) (rb : BitVec 5) (s : State) :
    exec (.evmhessfa rd ra rb) s = execEvmhessfa rd ra rb s := rfl
@[simp] theorem exec_evmhessfaaw (rd : BitVec 5) (ra : BitVec 5) (rb : BitVec 5) (s : State) :
    exec (.evmhessfaaw rd ra rb) s = execEvmhessfaaw rd ra rb s := rfl
@[simp] theorem exec_evmhessfanw (rd : BitVec 5) (ra : BitVec 5) (rb : BitVec 5) (s : State) :
    exec (.evmhessfanw rd ra rb) s = execEvmhessfanw rd ra rb s := rfl
@[simp] theorem exec_evmhessiaaw (rd : BitVec 5) (ra : BitVec 5) (rb : BitVec 5) (s : State) :
    exec (.evmhessiaaw rd ra rb) s = execEvmhessiaaw rd ra rb s := rfl
@[simp] theorem exec_evmhessianw (rd : BitVec 5) (ra : BitVec 5) (rb : BitVec 5) (s : State) :
    exec (.evmhessianw rd ra rb) s = execEvmhessianw rd ra rb s := rfl
@[simp] theorem exec_evmheumi (rd : BitVec 5) (ra : BitVec 5) (rb : BitVec 5) (s : State) :
    exec (.evmheumi rd ra rb) s = execEvmheumi rd ra rb s := rfl
@[simp] theorem exec_evmheumia (rd : BitVec 5) (ra : BitVec 5) (rb : BitVec 5) (s : State) :
    exec (.evmheumia rd ra rb) s = execEvmheumia rd ra rb s := rfl
@[simp] theorem exec_evmheumiaaw (rd : BitVec 5) (ra : BitVec 5) (rb : BitVec 5) (s : State) :
    exec (.evmheumiaaw rd ra rb) s = execEvmheumiaaw rd ra rb s := rfl
@[simp] theorem exec_evmheumianw (rd : BitVec 5) (ra : BitVec 5) (rb : BitVec 5) (s : State) :
    exec (.evmheumianw rd ra rb) s = execEvmheumianw rd ra rb s := rfl
@[simp] theorem exec_evmheusiaaw (rd : BitVec 5) (ra : BitVec 5) (rb : BitVec 5) (s : State) :
    exec (.evmheusiaaw rd ra rb) s = execEvmheusiaaw rd ra rb s := rfl
@[simp] theorem exec_evmheusianw (rd : BitVec 5) (ra : BitVec 5) (rb : BitVec 5) (s : State) :
    exec (.evmheusianw rd ra rb) s = execEvmheusianw rd ra rb s := rfl
@[simp] theorem exec_evmhogsmfaa (rd : BitVec 5) (ra : BitVec 5) (rb : BitVec 5) (s : State) :
    exec (.evmhogsmfaa rd ra rb) s = execEvmhogsmfaa rd ra rb s := rfl
@[simp] theorem exec_evmhogsmfan (rd : BitVec 5) (ra : BitVec 5) (rb : BitVec 5) (s : State) :
    exec (.evmhogsmfan rd ra rb) s = execEvmhogsmfan rd ra rb s := rfl
@[simp] theorem exec_evmhogsmiaa (rd : BitVec 5) (ra : BitVec 5) (rb : BitVec 5) (s : State) :
    exec (.evmhogsmiaa rd ra rb) s = execEvmhogsmiaa rd ra rb s := rfl
@[simp] theorem exec_evmhogsmian (rd : BitVec 5) (ra : BitVec 5) (rb : BitVec 5) (s : State) :
    exec (.evmhogsmian rd ra rb) s = execEvmhogsmian rd ra rb s := rfl
@[simp] theorem exec_evmhogumiaa (rd : BitVec 5) (ra : BitVec 5) (rb : BitVec 5) (s : State) :
    exec (.evmhogumiaa rd ra rb) s = execEvmhogumiaa rd ra rb s := rfl
@[simp] theorem exec_evmhogumian (rd : BitVec 5) (ra : BitVec 5) (rb : BitVec 5) (s : State) :
    exec (.evmhogumian rd ra rb) s = execEvmhogumian rd ra rb s := rfl
@[simp] theorem exec_evmhosmf (rd : BitVec 5) (ra : BitVec 5) (rb : BitVec 5) (s : State) :
    exec (.evmhosmf rd ra rb) s = execEvmhosmf rd ra rb s := rfl
@[simp] theorem exec_evmhosmfa (rd : BitVec 5) (ra : BitVec 5) (rb : BitVec 5) (s : State) :
    exec (.evmhosmfa rd ra rb) s = execEvmhosmfa rd ra rb s := rfl
@[simp] theorem exec_evmhosmfaaw (rd : BitVec 5) (ra : BitVec 5) (rb : BitVec 5) (s : State) :
    exec (.evmhosmfaaw rd ra rb) s = execEvmhosmfaaw rd ra rb s := rfl
@[simp] theorem exec_evmhosmfanw (rd : BitVec 5) (ra : BitVec 5) (rb : BitVec 5) (s : State) :
    exec (.evmhosmfanw rd ra rb) s = execEvmhosmfanw rd ra rb s := rfl
@[simp] theorem exec_evmhosmi (rd : BitVec 5) (ra : BitVec 5) (rb : BitVec 5) (s : State) :
    exec (.evmhosmi rd ra rb) s = execEvmhosmi rd ra rb s := rfl
@[simp] theorem exec_evmhosmia (rd : BitVec 5) (ra : BitVec 5) (rb : BitVec 5) (s : State) :
    exec (.evmhosmia rd ra rb) s = execEvmhosmia rd ra rb s := rfl
@[simp] theorem exec_evmhosmiaaw (rd : BitVec 5) (ra : BitVec 5) (rb : BitVec 5) (s : State) :
    exec (.evmhosmiaaw rd ra rb) s = execEvmhosmiaaw rd ra rb s := rfl
@[simp] theorem exec_evmhosmianw (rd : BitVec 5) (ra : BitVec 5) (rb : BitVec 5) (s : State) :
    exec (.evmhosmianw rd ra rb) s = execEvmhosmianw rd ra rb s := rfl
@[simp] theorem exec_evmhossf (rd : BitVec 5) (ra : BitVec 5) (rb : BitVec 5) (s : State) :
    exec (.evmhossf rd ra rb) s = execEvmhossf rd ra rb s := rfl
@[simp] theorem exec_evmhossfa (rd : BitVec 5) (ra : BitVec 5) (rb : BitVec 5) (s : State) :
    exec (.evmhossfa rd ra rb) s = execEvmhossfa rd ra rb s := rfl
@[simp] theorem exec_evmhossfaaw (rd : BitVec 5) (ra : BitVec 5) (rb : BitVec 5) (s : State) :
    exec (.evmhossfaaw rd ra rb) s = execEvmhossfaaw rd ra rb s := rfl
@[simp] theorem exec_evmhossfanw (rd : BitVec 5) (ra : BitVec 5) (rb : BitVec 5) (s : State) :
    exec (.evmhossfanw rd ra rb) s = execEvmhossfanw rd ra rb s := rfl
@[simp] theorem exec_evmhossiaaw (rd : BitVec 5) (ra : BitVec 5) (rb : BitVec 5) (s : State) :
    exec (.evmhossiaaw rd ra rb) s = execEvmhossiaaw rd ra rb s := rfl
@[simp] theorem exec_evmhossianw (rd : BitVec 5) (ra : BitVec 5) (rb : BitVec 5) (s : State) :
    exec (.evmhossianw rd ra rb) s = execEvmhossianw rd ra rb s := rfl
@[simp] theorem exec_evmhoumi (rd : BitVec 5) (ra : BitVec 5) (rb : BitVec 5) (s : State) :
    exec (.evmhoumi rd ra rb) s = execEvmhoumi rd ra rb s := rfl
@[simp] theorem exec_evmhoumia (rd : BitVec 5) (ra : BitVec 5) (rb : BitVec 5) (s : State) :
    exec (.evmhoumia rd ra rb) s = execEvmhoumia rd ra rb s := rfl
@[simp] theorem exec_evmhoumiaaw (rd : BitVec 5) (ra : BitVec 5) (rb : BitVec 5) (s : State) :
    exec (.evmhoumiaaw rd ra rb) s = execEvmhoumiaaw rd ra rb s := rfl
@[simp] theorem exec_evmhoumianw (rd : BitVec 5) (ra : BitVec 5) (rb : BitVec 5) (s : State) :
    exec (.evmhoumianw rd ra rb) s = execEvmhoumianw rd ra rb s := rfl
@[simp] theorem exec_evmhousiaaw (rd : BitVec 5) (ra : BitVec 5) (rb : BitVec 5) (s : State) :
    exec (.evmhousiaaw rd ra rb) s = execEvmhousiaaw rd ra rb s := rfl
@[simp] theorem exec_evmhousianw (rd : BitVec 5) (ra : BitVec 5) (rb : BitVec 5) (s : State) :
    exec (.evmhousianw rd ra rb) s = execEvmhousianw rd ra rb s := rfl
@[simp] theorem exec_evldd (rd : BitVec 5) (ra : BitVec 5) (uimm : BitVec 5) (s : State) :
    exec (.evldd rd ra uimm) s = execEvldd rd ra uimm s := rfl
@[simp] theorem exec_evlddx (rd : BitVec 5) (ra : BitVec 5) (rb : BitVec 5) (s : State) :
    exec (.evlddx rd ra rb) s = execEvlddx rd ra rb s := rfl
@[simp] theorem exec_evldw (rd : BitVec 5) (ra : BitVec 5) (uimm : BitVec 5) (s : State) :
    exec (.evldw rd ra uimm) s = execEvldw rd ra uimm s := rfl
@[simp] theorem exec_evldwx (rd : BitVec 5) (ra : BitVec 5) (rb : BitVec 5) (s : State) :
    exec (.evldwx rd ra rb) s = execEvldwx rd ra rb s := rfl
@[simp] theorem exec_evldh (rd : BitVec 5) (ra : BitVec 5) (uimm : BitVec 5) (s : State) :
    exec (.evldh rd ra uimm) s = execEvldh rd ra uimm s := rfl
@[simp] theorem exec_evldhx (rd : BitVec 5) (ra : BitVec 5) (rb : BitVec 5) (s : State) :
    exec (.evldhx rd ra rb) s = execEvldhx rd ra rb s := rfl
@[simp] theorem exec_evlwhe (rd : BitVec 5) (ra : BitVec 5) (uimm : BitVec 5) (s : State) :
    exec (.evlwhe rd ra uimm) s = execEvlwhe rd ra uimm s := rfl
@[simp] theorem exec_evlwhex (rd : BitVec 5) (ra : BitVec 5) (rb : BitVec 5) (s : State) :
    exec (.evlwhex rd ra rb) s = execEvlwhex rd ra rb s := rfl
@[simp] theorem exec_evlwhou (rd : BitVec 5) (ra : BitVec 5) (uimm : BitVec 5) (s : State) :
    exec (.evlwhou rd ra uimm) s = execEvlwhou rd ra uimm s := rfl
@[simp] theorem exec_evlwhoux (rd : BitVec 5) (ra : BitVec 5) (rb : BitVec 5) (s : State) :
    exec (.evlwhoux rd ra rb) s = execEvlwhoux rd ra rb s := rfl
@[simp] theorem exec_evlwhos (rd : BitVec 5) (ra : BitVec 5) (uimm : BitVec 5) (s : State) :
    exec (.evlwhos rd ra uimm) s = execEvlwhos rd ra uimm s := rfl
@[simp] theorem exec_evlwhosx (rd : BitVec 5) (ra : BitVec 5) (rb : BitVec 5) (s : State) :
    exec (.evlwhosx rd ra rb) s = execEvlwhosx rd ra rb s := rfl
@[simp] theorem exec_evlwwsplat (rd : BitVec 5) (ra : BitVec 5) (uimm : BitVec 5) (s : State) :
    exec (.evlwwsplat rd ra uimm) s = execEvlwwsplat rd ra uimm s := rfl
@[simp] theorem exec_evlwwsplatx (rd : BitVec 5) (ra : BitVec 5) (rb : BitVec 5) (s : State) :
    exec (.evlwwsplatx rd ra rb) s = execEvlwwsplatx rd ra rb s := rfl
@[simp] theorem exec_evlwhsplat (rd : BitVec 5) (ra : BitVec 5) (uimm : BitVec 5) (s : State) :
    exec (.evlwhsplat rd ra uimm) s = execEvlwhsplat rd ra uimm s := rfl
@[simp] theorem exec_evlwhsplatx (rd : BitVec 5) (ra : BitVec 5) (rb : BitVec 5) (s : State) :
    exec (.evlwhsplatx rd ra rb) s = execEvlwhsplatx rd ra rb s := rfl
@[simp] theorem exec_evlhhesplat (rd : BitVec 5) (ra : BitVec 5) (uimm : BitVec 5) (s : State) :
    exec (.evlhhesplat rd ra uimm) s = execEvlhhesplat rd ra uimm s := rfl
@[simp] theorem exec_evlhhesplatx (rd : BitVec 5) (ra : BitVec 5) (rb : BitVec 5) (s : State) :
    exec (.evlhhesplatx rd ra rb) s = execEvlhhesplatx rd ra rb s := rfl
@[simp] theorem exec_evlhhousplat (rd : BitVec 5) (ra : BitVec 5) (uimm : BitVec 5) (s : State) :
    exec (.evlhhousplat rd ra uimm) s = execEvlhhousplat rd ra uimm s := rfl
@[simp] theorem exec_evlhhousplatx (rd : BitVec 5) (ra : BitVec 5) (rb : BitVec 5) (s : State) :
    exec (.evlhhousplatx rd ra rb) s = execEvlhhousplatx rd ra rb s := rfl
@[simp] theorem exec_evlhhossplat (rd : BitVec 5) (ra : BitVec 5) (uimm : BitVec 5) (s : State) :
    exec (.evlhhossplat rd ra uimm) s = execEvlhhossplat rd ra uimm s := rfl
@[simp] theorem exec_evlhhossplatx (rd : BitVec 5) (ra : BitVec 5) (rb : BitVec 5) (s : State) :
    exec (.evlhhossplatx rd ra rb) s = execEvlhhossplatx rd ra rb s := rfl
@[simp] theorem exec_evstdd (rs : BitVec 5) (ra : BitVec 5) (uimm : BitVec 5) (s : State) :
    exec (.evstdd rs ra uimm) s = execEvstdd rs ra uimm s := rfl
@[simp] theorem exec_evstddx (rs : BitVec 5) (ra : BitVec 5) (rb : BitVec 5) (s : State) :
    exec (.evstddx rs ra rb) s = execEvstddx rs ra rb s := rfl
@[simp] theorem exec_evstdw (rs : BitVec 5) (ra : BitVec 5) (uimm : BitVec 5) (s : State) :
    exec (.evstdw rs ra uimm) s = execEvstdw rs ra uimm s := rfl
@[simp] theorem exec_evstdwx (rs : BitVec 5) (ra : BitVec 5) (rb : BitVec 5) (s : State) :
    exec (.evstdwx rs ra rb) s = execEvstdwx rs ra rb s := rfl
@[simp] theorem exec_evstdh (rs : BitVec 5) (ra : BitVec 5) (uimm : BitVec 5) (s : State) :
    exec (.evstdh rs ra uimm) s = execEvstdh rs ra uimm s := rfl
@[simp] theorem exec_evstdhx (rs : BitVec 5) (ra : BitVec 5) (rb : BitVec 5) (s : State) :
    exec (.evstdhx rs ra rb) s = execEvstdhx rs ra rb s := rfl
@[simp] theorem exec_evstwhe (rs : BitVec 5) (ra : BitVec 5) (uimm : BitVec 5) (s : State) :
    exec (.evstwhe rs ra uimm) s = execEvstwhe rs ra uimm s := rfl
@[simp] theorem exec_evstwhex (rs : BitVec 5) (ra : BitVec 5) (rb : BitVec 5) (s : State) :
    exec (.evstwhex rs ra rb) s = execEvstwhex rs ra rb s := rfl
@[simp] theorem exec_evstwho (rs : BitVec 5) (ra : BitVec 5) (uimm : BitVec 5) (s : State) :
    exec (.evstwho rs ra uimm) s = execEvstwho rs ra uimm s := rfl
@[simp] theorem exec_evstwhox (rs : BitVec 5) (ra : BitVec 5) (rb : BitVec 5) (s : State) :
    exec (.evstwhox rs ra rb) s = execEvstwhox rs ra rb s := rfl
@[simp] theorem exec_evstwwe (rs : BitVec 5) (ra : BitVec 5) (uimm : BitVec 5) (s : State) :
    exec (.evstwwe rs ra uimm) s = execEvstwwe rs ra uimm s := rfl
@[simp] theorem exec_evstwwex (rs : BitVec 5) (ra : BitVec 5) (rb : BitVec 5) (s : State) :
    exec (.evstwwex rs ra rb) s = execEvstwwex rs ra rb s := rfl
@[simp] theorem exec_evstwwo (rs : BitVec 5) (ra : BitVec 5) (uimm : BitVec 5) (s : State) :
    exec (.evstwwo rs ra uimm) s = execEvstwwo rs ra uimm s := rfl
@[simp] theorem exec_evstwwox (rs : BitVec 5) (ra : BitVec 5) (rb : BitVec 5) (s : State) :
    exec (.evstwwox rs ra rb) s = execEvstwwox rs ra rb s := rfl

end Sys2Proof.Machine
end

