-- ==== Sys2Proof/Laws/PerInstr.lean ====
section
/-! SUPPORT. Facts of every instruction as syntax, one lemma for each constructor. -/

namespace Sys2Proof.Laws.Length

/-- The encoder gives as many bytes as the instruction is long (spec/10_state.md R53, spec/30_encoding.md R500). -/
def Statement (i : Instr) : Prop := (encode i).length = i.size

theorem add rt ra rb : Statement (.add rt ra rb) := rfl
theorem addRc rt ra rb : Statement (.addRc rt ra rb) := rfl
theorem addc rt ra rb : Statement (.addc rt ra rb) := rfl
theorem addcRc rt ra rb : Statement (.addcRc rt ra rb) := rfl
theorem addco rt ra rb : Statement (.addco rt ra rb) := rfl
theorem addcoRc rt ra rb : Statement (.addcoRc rt ra rb) := rfl
theorem adde rt ra rb : Statement (.adde rt ra rb) := rfl
theorem addeRc rt ra rb : Statement (.addeRc rt ra rb) := rfl
theorem addeo rt ra rb : Statement (.addeo rt ra rb) := rfl
theorem addeoRc rt ra rb : Statement (.addeoRc rt ra rb) := rfl
theorem addi rt ra si : Statement (.addi rt ra si) := rfl
theorem addic rt ra si : Statement (.addic rt ra si) := rfl
theorem addicRc rt ra si : Statement (.addicRc rt ra si) := rfl
theorem addis rt ra si : Statement (.addis rt ra si) := rfl
theorem addme rt ra : Statement (.addme rt ra) := rfl
theorem addmeRc rt ra : Statement (.addmeRc rt ra) := rfl
theorem addmeo rt ra : Statement (.addmeo rt ra) := rfl
theorem addmeoRc rt ra : Statement (.addmeoRc rt ra) := rfl
theorem addo rt ra rb : Statement (.addo rt ra rb) := rfl
theorem addoRc rt ra rb : Statement (.addoRc rt ra rb) := rfl
theorem addze rt ra : Statement (.addze rt ra) := rfl
theorem addzeRc rt ra : Statement (.addzeRc rt ra) := rfl
theorem addzeo rt ra : Statement (.addzeo rt ra) := rfl
theorem addzeoRc rt ra : Statement (.addzeoRc rt ra) := rfl
theorem and rs ra rb : Statement (.and rs ra rb) := rfl
theorem andRc rs ra rb : Statement (.andRc rs ra rb) := rfl
theorem andc rs ra rb : Statement (.andc rs ra rb) := rfl
theorem andcRc rs ra rb : Statement (.andcRc rs ra rb) := rfl
theorem andiRc rs ra ui : Statement (.andiRc rs ra ui) := rfl
theorem andisRc rs ra ui : Statement (.andisRc rs ra ui) := rfl
theorem b li : Statement (.b li) := rfl
theorem ba li : Statement (.ba li) := rfl
theorem bc bo bi bd : Statement (.bc bo bi bd) := rfl
theorem bca bo bi bd : Statement (.bca bo bi bd) := rfl
theorem bcctr bo bi : Statement (.bcctr bo bi) := rfl
theorem bcctrl bo bi : Statement (.bcctrl bo bi) := rfl
theorem bcl bo bi bd : Statement (.bcl bo bi bd) := rfl
theorem bcla bo bi bd : Statement (.bcla bo bi bd) := rfl
theorem bclr bo bi : Statement (.bclr bo bi) := rfl
theorem bclrl bo bi : Statement (.bclrl bo bi) := rfl
theorem bl li : Statement (.bl li) := rfl
theorem bla li : Statement (.bla li) := rfl
theorem cmp bf ra rb : Statement (.cmp bf ra rb) := rfl
theorem cmpi bf ra si : Statement (.cmpi bf ra si) := rfl
theorem cmpl bf ra rb : Statement (.cmpl bf ra rb) := rfl
theorem cmpli bf ra ui : Statement (.cmpli bf ra ui) := rfl
theorem cntlzw rs ra : Statement (.cntlzw rs ra) := rfl
theorem cntlzwRc rs ra : Statement (.cntlzwRc rs ra) := rfl
theorem crand bt ba bb : Statement (.crand bt ba bb) := rfl
theorem crandc bt ba bb : Statement (.crandc bt ba bb) := rfl
theorem creqv bt ba bb : Statement (.creqv bt ba bb) := rfl
theorem crnand bt ba bb : Statement (.crnand bt ba bb) := rfl
theorem crnor bt ba bb : Statement (.crnor bt ba bb) := rfl
theorem cror bt ba bb : Statement (.cror bt ba bb) := rfl
theorem crorc bt ba bb : Statement (.crorc bt ba bb) := rfl
theorem crxor bt ba bb : Statement (.crxor bt ba bb) := rfl
theorem dcba ra rb : Statement (.dcba ra rb) := rfl
theorem dcbf ra rb : Statement (.dcbf ra rb) := rfl
theorem dcbi ra rb : Statement (.dcbi ra rb) := rfl
theorem dcblc ct ra rb : Statement (.dcblc ct ra rb) := rfl
theorem dcbst ra rb : Statement (.dcbst ra rb) := rfl
theorem dcbt ct ra rb : Statement (.dcbt ct ra rb) := rfl
theorem dcbtls ct ra rb : Statement (.dcbtls ct ra rb) := rfl
theorem dcbtst ct ra rb : Statement (.dcbtst ct ra rb) := rfl
theorem dcbtstls ct ra rb : Statement (.dcbtstls ct ra rb) := rfl
theorem dcbz ra rb : Statement (.dcbz ra rb) := rfl
theorem divw rt ra rb : Statement (.divw rt ra rb) := rfl
theorem divwRc rt ra rb : Statement (.divwRc rt ra rb) := rfl
theorem divwo rt ra rb : Statement (.divwo rt ra rb) := rfl
theorem divwoRc rt ra rb : Statement (.divwoRc rt ra rb) := rfl
theorem divwu rt ra rb : Statement (.divwu rt ra rb) := rfl
theorem divwuRc rt ra rb : Statement (.divwuRc rt ra rb) := rfl
theorem divwuo rt ra rb : Statement (.divwuo rt ra rb) := rfl
theorem divwuoRc rt ra rb : Statement (.divwuoRc rt ra rb) := rfl
theorem eqv rs ra rb : Statement (.eqv rs ra rb) := rfl
theorem eqvRc rs ra rb : Statement (.eqvRc rs ra rb) := rfl
theorem extsb rs ra : Statement (.extsb rs ra) := rfl
theorem extsbRc rs ra : Statement (.extsbRc rs ra) := rfl
theorem extsh rs ra : Statement (.extsh rs ra) := rfl
theorem extshRc rs ra : Statement (.extshRc rs ra) := rfl
theorem icbi ra rb : Statement (.icbi ra rb) := rfl
theorem icblc ct ra rb : Statement (.icblc ct ra rb) := rfl
theorem icbt ct ra rb : Statement (.icbt ct ra rb) := rfl
theorem icbtls ct ra rb : Statement (.icbtls ct ra rb) := rfl
theorem isel rt ra rb bc : Statement (.isel rt ra rb bc) := rfl
theorem isync : Statement (.isync) := rfl
theorem lbz rt ra d : Statement (.lbz rt ra d) := rfl
theorem lbzu rt ra d : Statement (.lbzu rt ra d) := rfl
theorem lbzux rt ra rb : Statement (.lbzux rt ra rb) := rfl
theorem lbzx rt ra rb : Statement (.lbzx rt ra rb) := rfl
theorem lha rt ra d : Statement (.lha rt ra d) := rfl
theorem lhau rt ra d : Statement (.lhau rt ra d) := rfl
theorem lhaux rt ra rb : Statement (.lhaux rt ra rb) := rfl
theorem lhax rt ra rb : Statement (.lhax rt ra rb) := rfl
theorem lhbrx rt ra rb : Statement (.lhbrx rt ra rb) := rfl
theorem lhz rt ra d : Statement (.lhz rt ra d) := rfl
theorem lhzu rt ra d : Statement (.lhzu rt ra d) := rfl
theorem lhzux rt ra rb : Statement (.lhzux rt ra rb) := rfl
theorem lhzx rt ra rb : Statement (.lhzx rt ra rb) := rfl
theorem lmw rt ra d : Statement (.lmw rt ra d) := rfl
theorem lwarx rt ra rb : Statement (.lwarx rt ra rb) := rfl
theorem lwbrx rt ra rb : Statement (.lwbrx rt ra rb) := rfl
theorem lwz rt ra d : Statement (.lwz rt ra d) := rfl
theorem lwzu rt ra d : Statement (.lwzu rt ra d) := rfl
theorem lwzux rt ra rb : Statement (.lwzux rt ra rb) := rfl
theorem lwzx rt ra rb : Statement (.lwzx rt ra rb) := rfl
theorem mbar mo : Statement (.mbar mo) := rfl
theorem mcrf bf bfa : Statement (.mcrf bf bfa) := rfl
theorem mcrxr bf : Statement (.mcrxr bf) := rfl
theorem mfcr rt : Statement (.mfcr rt) := rfl
theorem mfdcr rt dcrn : Statement (.mfdcr rt dcrn) := rfl
theorem mfmsr rt : Statement (.mfmsr rt) := rfl
theorem mfspr rt sprn : Statement (.mfspr rt sprn) := rfl
theorem msync : Statement (.msync) := rfl
theorem mtcrf rs fxm : Statement (.mtcrf rs fxm) := rfl
theorem mtdcr rs dcrn : Statement (.mtdcr rs dcrn) := rfl
theorem mtmsr rs : Statement (.mtmsr rs) := rfl
theorem mtspr rs sprn : Statement (.mtspr rs sprn) := rfl
theorem mulhw rt ra rb : Statement (.mulhw rt ra rb) := rfl
theorem mulhwRc rt ra rb : Statement (.mulhwRc rt ra rb) := rfl
theorem mulhwu rt ra rb : Statement (.mulhwu rt ra rb) := rfl
theorem mulhwuRc rt ra rb : Statement (.mulhwuRc rt ra rb) := rfl
theorem mulli rt ra si : Statement (.mulli rt ra si) := rfl
theorem mullw rt ra rb : Statement (.mullw rt ra rb) := rfl
theorem mullwRc rt ra rb : Statement (.mullwRc rt ra rb) := rfl
theorem mullwo rt ra rb : Statement (.mullwo rt ra rb) := rfl
theorem mullwoRc rt ra rb : Statement (.mullwoRc rt ra rb) := rfl
theorem nand rs ra rb : Statement (.nand rs ra rb) := rfl
theorem nandRc rs ra rb : Statement (.nandRc rs ra rb) := rfl
theorem neg rt ra : Statement (.neg rt ra) := rfl
theorem negRc rt ra : Statement (.negRc rt ra) := rfl
theorem nego rt ra : Statement (.nego rt ra) := rfl
theorem negoRc rt ra : Statement (.negoRc rt ra) := rfl
theorem nor rs ra rb : Statement (.nor rs ra rb) := rfl
theorem norRc rs ra rb : Statement (.norRc rs ra rb) := rfl
theorem or rs ra rb : Statement (.or rs ra rb) := rfl
theorem orRc rs ra rb : Statement (.orRc rs ra rb) := rfl
theorem orc rs ra rb : Statement (.orc rs ra rb) := rfl
theorem orcRc rs ra rb : Statement (.orcRc rs ra rb) := rfl
theorem ori rs ra ui : Statement (.ori rs ra ui) := rfl
theorem oris rs ra ui : Statement (.oris rs ra ui) := rfl
theorem rfci : Statement (.rfci) := rfl
theorem rfdi : Statement (.rfdi) := rfl
theorem rfi : Statement (.rfi) := rfl
theorem rfmci : Statement (.rfmci) := rfl
theorem rlwimi rs ra sh mb me : Statement (.rlwimi rs ra sh mb me) := rfl
theorem rlwimiRc rs ra sh mb me : Statement (.rlwimiRc rs ra sh mb me) := rfl
theorem rlwinm rs ra sh mb me : Statement (.rlwinm rs ra sh mb me) := rfl
theorem rlwinmRc rs ra sh mb me : Statement (.rlwinmRc rs ra sh mb me) := rfl
theorem rlwnm rs ra rb mb me : Statement (.rlwnm rs ra rb mb me) := rfl
theorem rlwnmRc rs ra rb mb me : Statement (.rlwnmRc rs ra rb mb me) := rfl
theorem sc : Statement (.sc) := rfl
theorem slw rs ra rb : Statement (.slw rs ra rb) := rfl
theorem slwRc rs ra rb : Statement (.slwRc rs ra rb) := rfl
theorem sraw rs ra rb : Statement (.sraw rs ra rb) := rfl
theorem srawRc rs ra rb : Statement (.srawRc rs ra rb) := rfl
theorem srawi rs ra sh : Statement (.srawi rs ra sh) := rfl
theorem srawiRc rs ra sh : Statement (.srawiRc rs ra sh) := rfl
theorem srw rs ra rb : Statement (.srw rs ra rb) := rfl
theorem srwRc rs ra rb : Statement (.srwRc rs ra rb) := rfl
theorem stb rs ra d : Statement (.stb rs ra d) := rfl
theorem stbu rs ra d : Statement (.stbu rs ra d) := rfl
theorem stbux rs ra rb : Statement (.stbux rs ra rb) := rfl
theorem stbx rs ra rb : Statement (.stbx rs ra rb) := rfl
theorem sth rs ra d : Statement (.sth rs ra d) := rfl
theorem sthbrx rs ra rb : Statement (.sthbrx rs ra rb) := rfl
theorem sthu rs ra d : Statement (.sthu rs ra d) := rfl
theorem sthux rs ra rb : Statement (.sthux rs ra rb) := rfl
theorem sthx rs ra rb : Statement (.sthx rs ra rb) := rfl
theorem stmw rs ra d : Statement (.stmw rs ra d) := rfl
theorem stw rs ra d : Statement (.stw rs ra d) := rfl
theorem stwbrx rs ra rb : Statement (.stwbrx rs ra rb) := rfl
theorem stwcxRc rs ra rb : Statement (.stwcxRc rs ra rb) := rfl
theorem stwu rs ra d : Statement (.stwu rs ra d) := rfl
theorem stwux rs ra rb : Statement (.stwux rs ra rb) := rfl
theorem stwx rs ra rb : Statement (.stwx rs ra rb) := rfl
theorem subf rt ra rb : Statement (.subf rt ra rb) := rfl
theorem subfRc rt ra rb : Statement (.subfRc rt ra rb) := rfl
theorem subfc rt ra rb : Statement (.subfc rt ra rb) := rfl
theorem subfcRc rt ra rb : Statement (.subfcRc rt ra rb) := rfl
theorem subfco rt ra rb : Statement (.subfco rt ra rb) := rfl
theorem subfcoRc rt ra rb : Statement (.subfcoRc rt ra rb) := rfl
theorem subfe rt ra rb : Statement (.subfe rt ra rb) := rfl
theorem subfeRc rt ra rb : Statement (.subfeRc rt ra rb) := rfl
theorem subfeo rt ra rb : Statement (.subfeo rt ra rb) := rfl
theorem subfeoRc rt ra rb : Statement (.subfeoRc rt ra rb) := rfl
theorem subfic rt ra si : Statement (.subfic rt ra si) := rfl
theorem subfme rt ra : Statement (.subfme rt ra) := rfl
theorem subfmeRc rt ra : Statement (.subfmeRc rt ra) := rfl
theorem subfmeo rt ra : Statement (.subfmeo rt ra) := rfl
theorem subfmeoRc rt ra : Statement (.subfmeoRc rt ra) := rfl
theorem subfo rt ra rb : Statement (.subfo rt ra rb) := rfl
theorem subfoRc rt ra rb : Statement (.subfoRc rt ra rb) := rfl
theorem subfze rt ra : Statement (.subfze rt ra) := rfl
theorem subfzeRc rt ra : Statement (.subfzeRc rt ra) := rfl
theorem subfzeo rt ra : Statement (.subfzeo rt ra) := rfl
theorem subfzeoRc rt ra : Statement (.subfzeoRc rt ra) := rfl
theorem tlbivax ra rb : Statement (.tlbivax ra rb) := rfl
theorem tlbre : Statement (.tlbre) := rfl
theorem tlbsx ra rb : Statement (.tlbsx ra rb) := rfl
theorem tlbsync : Statement (.tlbsync) := rfl
theorem tlbwe : Statement (.tlbwe) := rfl
theorem tw tcond ra rb : Statement (.tw tcond ra rb) := rfl
theorem twi tcond ra si : Statement (.twi tcond ra si) := rfl
theorem wrtee rs : Statement (.wrtee rs) := rfl
theorem wrteei e : Statement (.wrteei e) := rfl
theorem xor rs ra rb : Statement (.xor rs ra rb) := rfl
theorem xorRc rs ra rb : Statement (.xorRc rs ra rb) := rfl
theorem xori rs ra ui : Statement (.xori rs ra ui) := rfl
theorem xoris rs ra ui : Statement (.xoris rs ra ui) := rfl
theorem wait : Statement (.wait) := rfl
theorem lbarx rt ra rb : Statement (.lbarx rt ra rb) := rfl
theorem lharx rt ra rb : Statement (.lharx rt ra rb) := rfl
theorem stbcxRc rs ra rb : Statement (.stbcxRc rs ra rb) := rfl
theorem sthcxRc rs ra rb : Statement (.sthcxRc rs ra rb) := rfl
theorem dnh dui duis : Statement (.dnh dui duis) := rfl
theorem seIsync : Statement (.seIsync) := rfl
theorem seSc : Statement (.seSc) := rfl
theorem seRfi : Statement (.seRfi) := rfl
theorem seRfci : Statement (.seRfci) := rfl
theorem seRfdi : Statement (.seRfdi) := rfl
theorem seRfmci : Statement (.seRfmci) := rfl
theorem seDnh : Statement (.seDnh) := rfl
theorem eDnh dui duis : Statement (.eDnh dui duis) := rfl
theorem eLmvgprw ra d8 : Statement (.eLmvgprw ra d8) := rfl
theorem eStmvgprw ra d8 : Statement (.eStmvgprw ra d8) := rfl
theorem eLmvsprw ra d8 : Statement (.eLmvsprw ra d8) := rfl
theorem eStmvsprw ra d8 : Statement (.eStmvsprw ra d8) := rfl
theorem eLmvsrrw ra d8 : Statement (.eLmvsrrw ra d8) := rfl
theorem eStmvsrrw ra d8 : Statement (.eStmvsrrw ra d8) := rfl
theorem eLmvcsrrw ra d8 : Statement (.eLmvcsrrw ra d8) := rfl
theorem eStmvcsrrw ra d8 : Statement (.eStmvcsrrw ra d8) := rfl
theorem eLmvdsrrw ra d8 : Statement (.eLmvdsrrw ra d8) := rfl
theorem eStmvdsrrw ra d8 : Statement (.eStmvdsrrw ra d8) := rfl
theorem eLmvmcsrrw ra d8 : Statement (.eLmvmcsrrw ra d8) := rfl
theorem eStmvmcsrrw ra d8 : Statement (.eStmvmcsrrw ra d8) := rfl
theorem eLmw rt ra d8 : Statement (.eLmw rt ra d8) := rfl
theorem eStmw rs ra d8 : Statement (.eStmw rs ra d8) := rfl
theorem efsabs rd ra : Statement (.efsabs rd ra) := rfl
theorem efsnabs rd ra : Statement (.efsnabs rd ra) := rfl
theorem efsneg rd ra : Statement (.efsneg rd ra) := rfl
theorem efsadd rd ra rb : Statement (.efsadd rd ra rb) := rfl
theorem efssub rd ra rb : Statement (.efssub rd ra rb) := rfl
theorem efsmul rd ra rb : Statement (.efsmul rd ra rb) := rfl
theorem efsdiv rd ra rb : Statement (.efsdiv rd ra rb) := rfl
theorem efsmadd rd ra rb : Statement (.efsmadd rd ra rb) := rfl
theorem efsmsub rd ra rb : Statement (.efsmsub rd ra rb) := rfl
theorem efsnmadd rd ra rb : Statement (.efsnmadd rd ra rb) := rfl
theorem efsnmsub rd ra rb : Statement (.efsnmsub rd ra rb) := rfl
theorem efssqrt rd ra : Statement (.efssqrt rd ra) := rfl
theorem efsmax rd ra rb : Statement (.efsmax rd ra rb) := rfl
theorem efsmin rd ra rb : Statement (.efsmin rd ra rb) := rfl
theorem efscmpgt crfD ra rb : Statement (.efscmpgt crfD ra rb) := rfl
theorem efscmplt crfD ra rb : Statement (.efscmplt crfD ra rb) := rfl
theorem efscmpeq crfD ra rb : Statement (.efscmpeq crfD ra rb) := rfl
theorem efststgt crfD ra rb : Statement (.efststgt crfD ra rb) := rfl
theorem efststlt crfD ra rb : Statement (.efststlt crfD ra rb) := rfl
theorem efststeq crfD ra rb : Statement (.efststeq crfD ra rb) := rfl
theorem efscfui rd rb : Statement (.efscfui rd rb) := rfl
theorem efscfsi rd rb : Statement (.efscfsi rd rb) := rfl
theorem efscfuf rd rb : Statement (.efscfuf rd rb) := rfl
theorem efscfsf rd rb : Statement (.efscfsf rd rb) := rfl
theorem efscfh rd rb : Statement (.efscfh rd rb) := rfl
theorem efsctui rd rb : Statement (.efsctui rd rb) := rfl
theorem efsctsi rd rb : Statement (.efsctsi rd rb) := rfl
theorem efsctuiz rd rb : Statement (.efsctuiz rd rb) := rfl
theorem efsctsiz rd rb : Statement (.efsctsiz rd rb) := rfl
theorem efsctuf rd rb : Statement (.efsctuf rd rb) := rfl
theorem efsctsf rd rb : Statement (.efsctsf rd rb) := rfl
theorem efscth rd rb : Statement (.efscth rd rb) := rfl
theorem evfsabs rd ra : Statement (.evfsabs rd ra) := rfl
theorem evfsnabs rd ra : Statement (.evfsnabs rd ra) := rfl
theorem evfsneg rd ra : Statement (.evfsneg rd ra) := rfl
theorem evfsadd rd ra rb : Statement (.evfsadd rd ra rb) := rfl
theorem evfssub rd ra rb : Statement (.evfssub rd ra rb) := rfl
theorem evfsaddsub rd ra rb : Statement (.evfsaddsub rd ra rb) := rfl
theorem evfssubadd rd ra rb : Statement (.evfssubadd rd ra rb) := rfl
theorem evfsaddx rd ra rb : Statement (.evfsaddx rd ra rb) := rfl
theorem evfssubx rd ra rb : Statement (.evfssubx rd ra rb) := rfl
theorem evfsaddsubx rd ra rb : Statement (.evfsaddsubx rd ra rb) := rfl
theorem evfssubaddx rd ra rb : Statement (.evfssubaddx rd ra rb) := rfl
theorem evfssum rd ra rb : Statement (.evfssum rd ra rb) := rfl
theorem evfsdiff rd ra rb : Statement (.evfsdiff rd ra rb) := rfl
theorem evfssumdiff rd ra rb : Statement (.evfssumdiff rd ra rb) := rfl
theorem evfsdiffsum rd ra rb : Statement (.evfsdiffsum rd ra rb) := rfl
theorem evfsmul rd ra rb : Statement (.evfsmul rd ra rb) := rfl
theorem evfsmule rd ra rb : Statement (.evfsmule rd ra rb) := rfl
theorem evfsmulo rd ra rb : Statement (.evfsmulo rd ra rb) := rfl
theorem evfsmulx rd ra rb : Statement (.evfsmulx rd ra rb) := rfl
theorem evfsdiv rd ra rb : Statement (.evfsdiv rd ra rb) := rfl
theorem evfsmadd rd ra rb : Statement (.evfsmadd rd ra rb) := rfl
theorem evfsmsub rd ra rb : Statement (.evfsmsub rd ra rb) := rfl
theorem evfsnmadd rd ra rb : Statement (.evfsnmadd rd ra rb) := rfl
theorem evfsnmsub rd ra rb : Statement (.evfsnmsub rd ra rb) := rfl
theorem evfssqrt rd ra : Statement (.evfssqrt rd ra) := rfl
theorem evfsmax rd ra rb : Statement (.evfsmax rd ra rb) := rfl
theorem evfsmin rd ra rb : Statement (.evfsmin rd ra rb) := rfl
theorem evfscmpgt crfD ra rb : Statement (.evfscmpgt crfD ra rb) := rfl
theorem evfscmplt crfD ra rb : Statement (.evfscmplt crfD ra rb) := rfl
theorem evfscmpeq crfD ra rb : Statement (.evfscmpeq crfD ra rb) := rfl
theorem evfststgt crfD ra rb : Statement (.evfststgt crfD ra rb) := rfl
theorem evfststlt crfD ra rb : Statement (.evfststlt crfD ra rb) := rfl
theorem evfststeq crfD ra rb : Statement (.evfststeq crfD ra rb) := rfl
theorem evfscfui rd rb : Statement (.evfscfui rd rb) := rfl
theorem evfscfsi rd rb : Statement (.evfscfsi rd rb) := rfl
theorem evfscfuf rd rb : Statement (.evfscfuf rd rb) := rfl
theorem evfscfsf rd rb : Statement (.evfscfsf rd rb) := rfl
theorem evfscfh rd rb : Statement (.evfscfh rd rb) := rfl
theorem evfscth rd rb : Statement (.evfscth rd rb) := rfl
theorem evfsctui rd rb : Statement (.evfsctui rd rb) := rfl
theorem evfsctsi rd rb : Statement (.evfsctsi rd rb) := rfl
theorem evfsctuiz rd rb : Statement (.evfsctuiz rd rb) := rfl
theorem evfsctsiz rd rb : Statement (.evfsctsiz rd rb) := rfl
theorem evfsctuf rd rb : Statement (.evfsctuf rd rb) := rfl
theorem evfsctsf rd rb : Statement (.evfsctsf rd rb) := rfl
theorem brinc rd ra rb : Statement (.brinc rd ra rb) := rfl
theorem evabs rd ra : Statement (.evabs rd ra) := rfl
theorem evaddiw rd uimm rb : Statement (.evaddiw rd uimm rb) := rfl
theorem evaddw rd ra rb : Statement (.evaddw rd ra rb) := rfl
theorem evneg rd ra : Statement (.evneg rd ra) := rfl
theorem evsubfw rd ra rb : Statement (.evsubfw rd ra rb) := rfl
theorem evsubifw rd uimm rb : Statement (.evsubifw rd uimm rb) := rfl
theorem evand rd ra rb : Statement (.evand rd ra rb) := rfl
theorem evandc rd ra rb : Statement (.evandc rd ra rb) := rfl
theorem eveqv rd ra rb : Statement (.eveqv rd ra rb) := rfl
theorem evnand rd ra rb : Statement (.evnand rd ra rb) := rfl
theorem evnor rd ra rb : Statement (.evnor rd ra rb) := rfl
theorem evor rd ra rb : Statement (.evor rd ra rb) := rfl
theorem evorc rd ra rb : Statement (.evorc rd ra rb) := rfl
theorem evxor rd ra rb : Statement (.evxor rd ra rb) := rfl
theorem evcmpeq crfD ra rb : Statement (.evcmpeq crfD ra rb) := rfl
theorem evcmpgts crfD ra rb : Statement (.evcmpgts crfD ra rb) := rfl
theorem evcmpgtu crfD ra rb : Statement (.evcmpgtu crfD ra rb) := rfl
theorem evcmplts crfD ra rb : Statement (.evcmplts crfD ra rb) := rfl
theorem evcmpltu crfD ra rb : Statement (.evcmpltu crfD ra rb) := rfl
theorem evcntlsw rd ra : Statement (.evcntlsw rd ra) := rfl
theorem evcntlzw rd ra : Statement (.evcntlzw rd ra) := rfl
theorem evextsb rd ra : Statement (.evextsb rd ra) := rfl
theorem evextsh rd ra : Statement (.evextsh rd ra) := rfl
theorem evmergehi rd ra rb : Statement (.evmergehi rd ra rb) := rfl
theorem evmergehilo rd ra rb : Statement (.evmergehilo rd ra rb) := rfl
theorem evmergelo rd ra rb : Statement (.evmergelo rd ra rb) := rfl
theorem evmergelohi rd ra rb : Statement (.evmergelohi rd ra rb) := rfl
theorem evrlw rd ra rb : Statement (.evrlw rd ra rb) := rfl
theorem evrlwi rd ra uimm : Statement (.evrlwi rd ra uimm) := rfl
theorem evrndw rd ra : Statement (.evrndw rd ra) := rfl
theorem evsel rd ra rb crfS : Statement (.evsel rd ra rb crfS) := rfl
theorem evslw rd ra rb : Statement (.evslw rd ra rb) := rfl
theorem evslwi rd ra uimm : Statement (.evslwi rd ra uimm) := rfl
theorem evsrwis rd ra uimm : Statement (.evsrwis rd ra uimm) := rfl
theorem evsrwiu rd ra uimm : Statement (.evsrwiu rd ra uimm) := rfl
theorem evsrws rd ra rb : Statement (.evsrws rd ra rb) := rfl
theorem evsrwu rd ra rb : Statement (.evsrwu rd ra rb) := rfl
theorem evsplatfi rd simm : Statement (.evsplatfi rd simm) := rfl
theorem evsplati rd simm : Statement (.evsplati rd simm) := rfl
theorem evdivws rd ra rb : Statement (.evdivws rd ra rb) := rfl
theorem evdivwu rd ra rb : Statement (.evdivwu rd ra rb) := rfl
theorem evmwhsmf rd ra rb : Statement (.evmwhsmf rd ra rb) := rfl
theorem evmwhsmfa rd ra rb : Statement (.evmwhsmfa rd ra rb) := rfl
theorem evmwhsmi rd ra rb : Statement (.evmwhsmi rd ra rb) := rfl
theorem evmwhsmia rd ra rb : Statement (.evmwhsmia rd ra rb) := rfl
theorem evmwhssf rd ra rb : Statement (.evmwhssf rd ra rb) := rfl
theorem evmwhssfa rd ra rb : Statement (.evmwhssfa rd ra rb) := rfl
theorem evmwhumi rd ra rb : Statement (.evmwhumi rd ra rb) := rfl
theorem evmwhumia rd ra rb : Statement (.evmwhumia rd ra rb) := rfl
theorem evmwlsmiaaw rd ra rb : Statement (.evmwlsmiaaw rd ra rb) := rfl
theorem evmwlsmianw rd ra rb : Statement (.evmwlsmianw rd ra rb) := rfl
theorem evmwlssiaaw rd ra rb : Statement (.evmwlssiaaw rd ra rb) := rfl
theorem evmwlssianw rd ra rb : Statement (.evmwlssianw rd ra rb) := rfl
theorem evmwlumi rd ra rb : Statement (.evmwlumi rd ra rb) := rfl
theorem evmwlumia rd ra rb : Statement (.evmwlumia rd ra rb) := rfl
theorem evmwlumiaaw rd ra rb : Statement (.evmwlumiaaw rd ra rb) := rfl
theorem evmwlumianw rd ra rb : Statement (.evmwlumianw rd ra rb) := rfl
theorem evmwlusiaaw rd ra rb : Statement (.evmwlusiaaw rd ra rb) := rfl
theorem evmwlusianw rd ra rb : Statement (.evmwlusianw rd ra rb) := rfl
theorem evmwsmf rd ra rb : Statement (.evmwsmf rd ra rb) := rfl
theorem evmwsmfa rd ra rb : Statement (.evmwsmfa rd ra rb) := rfl
theorem evmwsmfaa rd ra rb : Statement (.evmwsmfaa rd ra rb) := rfl
theorem evmwsmfan rd ra rb : Statement (.evmwsmfan rd ra rb) := rfl
theorem evmwsmi rd ra rb : Statement (.evmwsmi rd ra rb) := rfl
theorem evmwsmia rd ra rb : Statement (.evmwsmia rd ra rb) := rfl
theorem evmwsmiaa rd ra rb : Statement (.evmwsmiaa rd ra rb) := rfl
theorem evmwsmian rd ra rb : Statement (.evmwsmian rd ra rb) := rfl
theorem evmwssf rd ra rb : Statement (.evmwssf rd ra rb) := rfl
theorem evmwssfa rd ra rb : Statement (.evmwssfa rd ra rb) := rfl
theorem evmwssfaa rd ra rb : Statement (.evmwssfaa rd ra rb) := rfl
theorem evmwssfan rd ra rb : Statement (.evmwssfan rd ra rb) := rfl
theorem evmwumi rd ra rb : Statement (.evmwumi rd ra rb) := rfl
theorem evmwumia rd ra rb : Statement (.evmwumia rd ra rb) := rfl
theorem evmwumiaa rd ra rb : Statement (.evmwumiaa rd ra rb) := rfl
theorem evmwumian rd ra rb : Statement (.evmwumian rd ra rb) := rfl
theorem evaddsmiaaw rd ra : Statement (.evaddsmiaaw rd ra) := rfl
theorem evaddssiaaw rd ra : Statement (.evaddssiaaw rd ra) := rfl
theorem evaddumiaaw rd ra : Statement (.evaddumiaaw rd ra) := rfl
theorem evaddusiaaw rd ra : Statement (.evaddusiaaw rd ra) := rfl
theorem evsubfsmiaaw rd ra : Statement (.evsubfsmiaaw rd ra) := rfl
theorem evsubfssiaaw rd ra : Statement (.evsubfssiaaw rd ra) := rfl
theorem evsubfumiaaw rd ra : Statement (.evsubfumiaaw rd ra) := rfl
theorem evsubfusiaaw rd ra : Statement (.evsubfusiaaw rd ra) := rfl
theorem evmra rd ra : Statement (.evmra rd ra) := rfl
theorem evmhegsmfaa rd ra rb : Statement (.evmhegsmfaa rd ra rb) := rfl
theorem evmhegsmfan rd ra rb : Statement (.evmhegsmfan rd ra rb) := rfl
theorem evmhegsmiaa rd ra rb : Statement (.evmhegsmiaa rd ra rb) := rfl
theorem evmhegsmian rd ra rb : Statement (.evmhegsmian rd ra rb) := rfl
theorem evmhegumiaa rd ra rb : Statement (.evmhegumiaa rd ra rb) := rfl
theorem evmhegumian rd ra rb : Statement (.evmhegumian rd ra rb) := rfl
theorem evmhesmf rd ra rb : Statement (.evmhesmf rd ra rb) := rfl
theorem evmhesmfa rd ra rb : Statement (.evmhesmfa rd ra rb) := rfl
theorem evmhesmfaaw rd ra rb : Statement (.evmhesmfaaw rd ra rb) := rfl
theorem evmhesmfanw rd ra rb : Statement (.evmhesmfanw rd ra rb) := rfl
theorem evmhesmi rd ra rb : Statement (.evmhesmi rd ra rb) := rfl
theorem evmhesmia rd ra rb : Statement (.evmhesmia rd ra rb) := rfl
theorem evmhesmiaaw rd ra rb : Statement (.evmhesmiaaw rd ra rb) := rfl
theorem evmhesmianw rd ra rb : Statement (.evmhesmianw rd ra rb) := rfl
theorem evmhessf rd ra rb : Statement (.evmhessf rd ra rb) := rfl
theorem evmhessfa rd ra rb : Statement (.evmhessfa rd ra rb) := rfl
theorem evmhessfaaw rd ra rb : Statement (.evmhessfaaw rd ra rb) := rfl
theorem evmhessfanw rd ra rb : Statement (.evmhessfanw rd ra rb) := rfl
theorem evmhessiaaw rd ra rb : Statement (.evmhessiaaw rd ra rb) := rfl
theorem evmhessianw rd ra rb : Statement (.evmhessianw rd ra rb) := rfl
theorem evmheumi rd ra rb : Statement (.evmheumi rd ra rb) := rfl
theorem evmheumia rd ra rb : Statement (.evmheumia rd ra rb) := rfl
theorem evmheumiaaw rd ra rb : Statement (.evmheumiaaw rd ra rb) := rfl
theorem evmheumianw rd ra rb : Statement (.evmheumianw rd ra rb) := rfl
theorem evmheusiaaw rd ra rb : Statement (.evmheusiaaw rd ra rb) := rfl
theorem evmheusianw rd ra rb : Statement (.evmheusianw rd ra rb) := rfl
theorem evmhogsmfaa rd ra rb : Statement (.evmhogsmfaa rd ra rb) := rfl
theorem evmhogsmfan rd ra rb : Statement (.evmhogsmfan rd ra rb) := rfl
theorem evmhogsmiaa rd ra rb : Statement (.evmhogsmiaa rd ra rb) := rfl
theorem evmhogsmian rd ra rb : Statement (.evmhogsmian rd ra rb) := rfl
theorem evmhogumiaa rd ra rb : Statement (.evmhogumiaa rd ra rb) := rfl
theorem evmhogumian rd ra rb : Statement (.evmhogumian rd ra rb) := rfl
theorem evmhosmf rd ra rb : Statement (.evmhosmf rd ra rb) := rfl
theorem evmhosmfa rd ra rb : Statement (.evmhosmfa rd ra rb) := rfl
theorem evmhosmfaaw rd ra rb : Statement (.evmhosmfaaw rd ra rb) := rfl
theorem evmhosmfanw rd ra rb : Statement (.evmhosmfanw rd ra rb) := rfl
theorem evmhosmi rd ra rb : Statement (.evmhosmi rd ra rb) := rfl
theorem evmhosmia rd ra rb : Statement (.evmhosmia rd ra rb) := rfl
theorem evmhosmiaaw rd ra rb : Statement (.evmhosmiaaw rd ra rb) := rfl
theorem evmhosmianw rd ra rb : Statement (.evmhosmianw rd ra rb) := rfl
theorem evmhossf rd ra rb : Statement (.evmhossf rd ra rb) := rfl
theorem evmhossfa rd ra rb : Statement (.evmhossfa rd ra rb) := rfl
theorem evmhossfaaw rd ra rb : Statement (.evmhossfaaw rd ra rb) := rfl
theorem evmhossfanw rd ra rb : Statement (.evmhossfanw rd ra rb) := rfl
theorem evmhossiaaw rd ra rb : Statement (.evmhossiaaw rd ra rb) := rfl
theorem evmhossianw rd ra rb : Statement (.evmhossianw rd ra rb) := rfl
theorem evmhoumi rd ra rb : Statement (.evmhoumi rd ra rb) := rfl
theorem evmhoumia rd ra rb : Statement (.evmhoumia rd ra rb) := rfl
theorem evmhoumiaaw rd ra rb : Statement (.evmhoumiaaw rd ra rb) := rfl
theorem evmhoumianw rd ra rb : Statement (.evmhoumianw rd ra rb) := rfl
theorem evmhousiaaw rd ra rb : Statement (.evmhousiaaw rd ra rb) := rfl
theorem evmhousianw rd ra rb : Statement (.evmhousianw rd ra rb) := rfl
theorem evldd rd ra uimm : Statement (.evldd rd ra uimm) := rfl
theorem evlddx rd ra rb : Statement (.evlddx rd ra rb) := rfl
theorem evldw rd ra uimm : Statement (.evldw rd ra uimm) := rfl
theorem evldwx rd ra rb : Statement (.evldwx rd ra rb) := rfl
theorem evldh rd ra uimm : Statement (.evldh rd ra uimm) := rfl
theorem evldhx rd ra rb : Statement (.evldhx rd ra rb) := rfl
theorem evlwhe rd ra uimm : Statement (.evlwhe rd ra uimm) := rfl
theorem evlwhex rd ra rb : Statement (.evlwhex rd ra rb) := rfl
theorem evlwhou rd ra uimm : Statement (.evlwhou rd ra uimm) := rfl
theorem evlwhoux rd ra rb : Statement (.evlwhoux rd ra rb) := rfl
theorem evlwhos rd ra uimm : Statement (.evlwhos rd ra uimm) := rfl
theorem evlwhosx rd ra rb : Statement (.evlwhosx rd ra rb) := rfl
theorem evlwwsplat rd ra uimm : Statement (.evlwwsplat rd ra uimm) := rfl
theorem evlwwsplatx rd ra rb : Statement (.evlwwsplatx rd ra rb) := rfl
theorem evlwhsplat rd ra uimm : Statement (.evlwhsplat rd ra uimm) := rfl
theorem evlwhsplatx rd ra rb : Statement (.evlwhsplatx rd ra rb) := rfl
theorem evlhhesplat rd ra uimm : Statement (.evlhhesplat rd ra uimm) := rfl
theorem evlhhesplatx rd ra rb : Statement (.evlhhesplatx rd ra rb) := rfl
theorem evlhhousplat rd ra uimm : Statement (.evlhhousplat rd ra uimm) := rfl
theorem evlhhousplatx rd ra rb : Statement (.evlhhousplatx rd ra rb) := rfl
theorem evlhhossplat rd ra uimm : Statement (.evlhhossplat rd ra uimm) := rfl
theorem evlhhossplatx rd ra rb : Statement (.evlhhossplatx rd ra rb) := rfl
theorem evstdd rs ra uimm : Statement (.evstdd rs ra uimm) := rfl
theorem evstddx rs ra rb : Statement (.evstddx rs ra rb) := rfl
theorem evstdw rs ra uimm : Statement (.evstdw rs ra uimm) := rfl
theorem evstdwx rs ra rb : Statement (.evstdwx rs ra rb) := rfl
theorem evstdh rs ra uimm : Statement (.evstdh rs ra uimm) := rfl
theorem evstdhx rs ra rb : Statement (.evstdhx rs ra rb) := rfl
theorem evstwhe rs ra uimm : Statement (.evstwhe rs ra uimm) := rfl
theorem evstwhex rs ra rb : Statement (.evstwhex rs ra rb) := rfl
theorem evstwho rs ra uimm : Statement (.evstwho rs ra uimm) := rfl
theorem evstwhox rs ra rb : Statement (.evstwhox rs ra rb) := rfl
theorem evstwwe rs ra uimm : Statement (.evstwwe rs ra uimm) := rfl
theorem evstwwex rs ra rb : Statement (.evstwwex rs ra rb) := rfl
theorem evstwwo rs ra uimm : Statement (.evstwwo rs ra uimm) := rfl
theorem evstwwox rs ra rb : Statement (.evstwwox rs ra rb) := rfl

end Sys2Proof.Laws.Length
end

