-- ==== Sys2Proof/Laws/Results.lean ====
section
/-! SUPPORT. What the shared operations of the register instructions do: integer results, sums, SPE and floating-point
results. -/

namespace Sys2Proof.Machine

/-! ## Integer results -/

/-- XER after a result of a form. -/
def Form.xerAfter (f : Form) (xer : Word) (ca ov : Bool) : Word :=
  let x := if f.ca then setBit xer 2 ca else xer
  if f.ov then setBit (x ||| when ov (oneBit 0)) 1 ov else x

/-- CR after a result of a form. -/
def Form.crAfter (f : Form) (cr xer : Word) (v : Word) (ca ov : Bool) : Word :=
  if f.rc then putBits 0 4 (compareSigned v 0 (bit (f.xerAfter xer ca ov) 0)) cr else cr

/-- Everything a result does. -/
theorem State.result_eq (s : State) (f : Form) (rt : Reg) (v : Word) (ca ov : Bool) :
    s.result f rt v ca ov =
      { s with gpr := (s.setR rt v).gpr, xer := f.xerAfter s.xer ca ov, cr := f.crAfter s.cr s.xer v ca ov } := by
  obtain ⟨a, b, c⟩ := f
  cases a <;> cases b <;> cases c <;> rfl

/-- A result touches general registers, CR and XER only. -/
theorem State.result_onlyCore (s : State) (f : Form) (rt : Reg) (v : Word) (ca ov : Bool) :
    s.OnlyCore (s.result f rt v ca ov) := by
  rw [State.OnlyCore, State.result_eq]

/-- The destination register of a result. -/
theorem State.result_r64 (s : State) (f : Form) (rt r : Reg) (v : Word) (ca ov : Bool) :
    (s.result f rt v ca ov).r64 r = if rt = r then hi (s.r64 rt) ++ v else s.r64 r := by
  rw [State.result_eq]
  exact State.r64_setR64 s rt r _

/-- XER[CA] after a result. -/
theorem Form.xerAfter_ca (f : Form) (xer : Word) (ca ov : Bool) :
    bit (f.xerAfter xer ca ov) 2 = if f.ca then ca else bit xer 2 := by
  obtain ⟨a, b, c⟩ := f
  cases a <;> cases b <;>
    simp [Form.xerAfter, bit_setBit, bit_or, bit_when, bit_oneBit]

/-- XER[OV] after a result. -/
theorem Form.xerAfter_ov (f : Form) (xer : Word) (ca ov : Bool) :
    bit (f.xerAfter xer ca ov) 1 = if f.ov then ov else bit xer 1 := by
  obtain ⟨a, b, c⟩ := f
  cases a <;> cases b <;>
    simp [Form.xerAfter, bit_setBit]

/-- XER[SO] after a result: sticky. -/
theorem Form.xerAfter_so (f : Form) (xer : Word) (ca ov : Bool) :
    bit (f.xerAfter xer ca ov) 0 = (bit xer 0 || (f.ov && ov)) := by
  obtain ⟨a, b, c⟩ := f
  cases a <;> cases b <;>
    simp [Form.xerAfter, bit_setBit, bit_or, bit_when, bit_oneBit]

/-- The other bits of XER after a result. -/
theorem Form.xerAfter_rest (f : Form) (xer : Word) (ca ov : Bool) (i : Nat) (h : 3 ≤ i) (hi : i < 32) :
    bit (f.xerAfter xer ca ov) i = bit xer i := by
  have h0 : ¬0 = i := by omega
  have h1 : ¬1 = i := by omega
  have h2 : ¬2 = i := by omega
  obtain ⟨a, b, c⟩ := f
  cases a <;> cases b <;>
    simp [Form.xerAfter, bit_setBit _ _ _ _ hi, bit_or, bit_when, bit_oneBit _ _ hi, h0, h1, h2]

/-- The sum of addWord. -/
theorem addWord_sum (a b : Word) (c : Bool) : (addWord a b c).1 = a + b + BitVec.ofNat 32 c.toNat := by
  apply BitVec.eq_of_toNat_eq
  simp [addWord, BitVec.toNat_add, Nat.add_mod]

/-- The carry of addWord. -/
theorem addWord_carry (a b : Word) (c : Bool) :
    (addWord a b c).2.1 = decide (4294967296 ≤ a.toNat + b.toNat + c.toNat) := rfl

/-! ## SPE results -/

/-- An SPE instruction without memory access runs, with pc moved past it, or takes the SPE unavailable interrupt. -/
theorem State.vector_eq (s t : State) :
    s.vector t = if s.speOn then .next (t.advance 4) else .next s.speUnavailable := by
  unfold State.vector
  cases s.speOn <;> rfl

theorem State.vector_on (s t : State) (h : s.speOn = true) : s.vector t = .next (t.advance 4) := by
  rw [State.vector_eq, if_pos h]

/-- SPEFSCR after SetOV. -/
theorem setOvPair_bit (s : State) (h l : Bool) (i : Nat) (hi : i < 32) :
    bit (s.setOvPair h l).spefscr i =
      if i = 0 then bit s.spefscr 0 || h
      else if i = 1 then h
      else if i = 16 then bit s.spefscr 16 || l
      else if i = 17 then l
      else bit s.spefscr i := by
  simp only [State.setOvPair_spefscr, bit_or, bit_when, bit_setBit _ _ _ _ hi, bit_oneBit _ _ hi]
  by_cases h0 : i = 0
  · subst h0
    simp
  by_cases h1 : i = 1
  · subst h1
    simp
  by_cases h16 : i = 16
  · subst h16
    simp
  by_cases h17 : i = 17
  · subst h17
    simp
  · have e0 : ¬0 = i := fun h => h0 h.symm
    have e1 : ¬1 = i := fun h => h1 h.symm
    have e16 : ¬16 = i := fun h => h16 h.symm
    have e17 : ¬17 = i := fun h => h17 h.symm
    simp [h0, h1, h16, h17, e0, e1, e16, e17]

/-- A multiply or accumulate result while MSR[SPE] = 1. -/
theorem State.macResult_on (s : State) (rd : Reg) (toAcc : Bool) (v : Dword) (ov : Option (Bool × Bool)) (h : s.speOn = true) :
    s.macResult rd toAcc v ov =
      .next { s with
        gpr := (s.setR64 rd v).gpr
        acc := if toAcc then v else s.acc
        spefscr := match ov with
          | some o => (s.setOvPair o.1 o.2).spefscr
          | none => s.spefscr
        pc := s.pc + 4 } := by
  unfold State.macResult
  rw [State.vector_on _ _ h]
  cases toAcc <;> cases ov <;> rfl

/-! ## Floating-point results -/

/-- Everything the end of a floating-point instruction does: the data interrupt, or the round interrupt with the truncated
result, or the rounded result. -/
theorem State.efpCommit_eq (s : State) (h l : ElementResult) (write : Bool → State → State) :
    s.efpCommit h l write =
      if h.dataException s.spefscr || l.dataException s.spefscr then
        .next (s.setSpefscr (efpStatus h l s.spefscr)).efpData
      else if (h.inexact || l.inexact) && bit s.spefscr 25 then
        .next ((write true (s.setSpefscr (efpFinal h l s.spefscr))).efpRoundAt (s.pc + 4))
      else .next ((write false (s.setSpefscr (efpFinal h l s.spefscr))).advance 4) := rfl

/-- With every enable of SPEFSCR off a floating-point instruction writes its rounded result. -/
theorem State.efpCommit_disabled (s : State) (h l : ElementResult) (write : Bool → State → State)
    (hE : ∀ i, 25 ≤ i → i ≤ 29 → bit s.spefscr i = false) :
    s.efpCommit h l write = .next ((write false (s.setSpefscr (efpFinal h l s.spefscr))).advance 4) := by
  rw [State.efpCommit_eq]
  simp [ElementResult.dataException, hE]

end Sys2Proof.Machine
end

