-- ==== Sys2Proof/Tests/Slice0.lean ====
section
/-! SUPPORT. Tests: what the well-formedness check refuses, a word of every row of the opcode table, one step of one
instruction of every family with the result the spec writes down, and for every obligation with hypotheses a state and
operands that meet them. -/

set_option maxRecDepth 100000
set_option Elab.async false

namespace Sys2Proof.Tests
open Sys2Proof Sys2Proof.Machine

/-! ## Small states -/

/-- One page of four gigabytes with every permission. -/
def allPage : TlbEntry := { resetTlbEntry0 Pins.idle with size := 22, i := false }

/-- Reset, with every address mapped to itself, pc at 0x1000 and vectors at 0x10000. -/
def base : State :=
  { State.reset with
    pc := 0x1000
    mmu.tlb := State.reset.mmu.tlb.set 0 allPage
    int.ivpr := 0x00010000
    int.ivor := Vector.ofFn fun k =>
      if k.val < 16 then BitVec.ofNat 32 (16 * k.val) else BitVec.ofNat 32 (0x200 + 16 * (k.val - 16)) }

def r (n : Reg) (v : Word) (s : State) : State := s.setR n v
def q (n : Reg) (v : Dword) (s : State) : State := s.setR64 n v
def m4 (a v : Word) (s : State) : State := s.busWrite a (wordBytes v)
def m2 (a : Word) (v : Half) (s : State) : State := s.busWrite a (halfBytes v)
def withXer (v : Word) (s : State) : State := s.setXer v
def withCr (v : Word) (s : State) : State := s.setCr v
def withCtr (v : Word) (s : State) : State := s.setCtr v
def withLr (v : Word) (s : State) : State := s.setLr v
def withCrField (k : CrField) (v : BitVec 4) (s : State) : State := s.setCrField k v
def withAcc (v : Dword) (s : State) : State := s.setAcc v
def withSpefscr (v : Word) (s : State) : State := s.setSpefscr v
def withMsr (v : Word) (s : State) : State := { s with msr := v }

/-- MSR[SPE] = 1. -/
def on (s : State) : State := withMsr 0x02000000 s

/-- User mode. -/
def user (s : State) : State := withMsr 0x4000 s

/-- The big-endian word of memory at a real address. -/
def word (s : State) (a : Word) : Word := s.byteAt a ++ s.byteAt (a + 1) ++ s.byteAt (a + 2) ++ s.byteAt (a + 3)

/-- The instruction runs and f holds of the state it leaves. -/
def after (i : Instr) (s : State) (f : State → Bool) : Bool :=
  match exec i s with
  | .next t => f t
  | _ => false

/-- One step of a machine in which the word was placed at pc. -/
noncomputable def stepped (nbits w : Nat) (s : State) (f : State → Bool) : Bool :=
  match step (s.withFetchWord nbits w) with
  | .next t => f t
  | _ => false

/-! ## Well-formed instructions -/

theorem test_mbar_refuses_other_values : (Instr.mbar 3).wellFormed = false ∧ (Instr.mbar 31).wellFormed = false := by decide
theorem test_mbar_takes_its_values :
    (Instr.mbar 0).wellFormed = true ∧ (Instr.mbar 1).wellFormed = true ∧ (Instr.mbar 2).wellFormed = true := by decide

/-! ## Decoding: a word of every row, its fields filled with different values -/

/-- Every word decodes to the instruction beside it. -/
noncomputable def decodesTo (rows : List (Nat × Nat × Instr)) : Bool :=
  rows.all fun p => decide (decodeTableWord p.1 p.2.1 = some p.2.2)

theorem test_decode_1 : decodesTo ([
    (32, 0x7C766A14, .add 3 22 13), (32, 0x7C766A15, .addRc 3 22 13), (32, 0x7C766814, .addc 3 22 13),
    (32, 0x7C766815, .addcRc 3 22 13), (32, 0x7C766C14, .addco 3 22 13), (32, 0x7C766C15, .addcoRc 3 22 13),
    (32, 0x7C766914, .adde 3 22 13), (32, 0x7C766915, .addeRc 3 22 13), (32, 0x7C766D14, .addeo 3 22 13),
    (32, 0x7C766D15, .addeoRc 3 22 13), (32, 0x38768765, .addi 3 22 34661), (32, 0x30768765, .addic 3 22 34661),
    (32, 0x34768765, .addicRc 3 22 34661), (32, 0x3C768765, .addis 3 22 34661), (32, 0x7C7601D4, .addme 3 22),
    (32, 0x7C7601D5, .addmeRc 3 22), (32, 0x7C7605D4, .addmeo 3 22), (32, 0x7C7605D5, .addmeoRc 3 22),
    (32, 0x7C766E14, .addo 3 22 13), (32, 0x7C766E15, .addoRc 3 22 13), (32, 0x7C760194, .addze 3 22),
    (32, 0x7C760195, .addzeRc 3 22), (32, 0x7C760594, .addzeo 3 22), (32, 0x7C760595, .addzeoRc 3 22),
    (32, 0x7C766838, .and 3 22 13), (32, 0x7C766839, .andRc 3 22 13), (32, 0x7C766878, .andc 3 22 13),
    (32, 0x7C766879, .andcRc 3 22 13), (32, 0x70768765, .andiRc 3 22 34661), (32, 0x74768765, .andisRc 3 22 34661),
    (32, 0x4A970FC4, .b 10863601), (32, 0x4A970FC6, .ba 10863601), (32, 0x4076A974, .bc 3 22 10845),
    (32, 0x4076A976, .bca 3 22 10845), (32, 0x4C760420, .bcctr 3 22), (32, 0x4C760421, .bcctrl 3 22),
    (32, 0x4076A975, .bcl 3 22 10845), (32, 0x4076A977, .bcla 3 22 10845), (32, 0x4C760020, .bclr 3 22),
    (32, 0x4C760021, .bclrl 3 22), (32, 0x4A970FC5, .bl 10863601), (32, 0x4A970FC7, .bla 10863601),
    (32, 0x7F166800, .cmp 6 22 13), (32, 0x2F168765, .cmpi 6 22 34661), (32, 0x7F166840, .cmpl 6 22 13)]) = true := by decide +kernel

theorem test_decode_2 : decodesTo ([
    (32, 0x2B168765, .cmpli 6 22 34661), (32, 0x7C760034, .cntlzw 3 22), (32, 0x7C760035, .cntlzwRc 3 22),
    (32, 0x4C766A02, .crand 3 22 13), (32, 0x4C766902, .crandc 3 22 13), (32, 0x4C766A42, .creqv 3 22 13),
    (32, 0x4C7669C2, .crnand 3 22 13), (32, 0x4C766842, .crnor 3 22 13), (32, 0x4C766B82, .cror 3 22 13),
    (32, 0x4C766B42, .crorc 3 22 13), (32, 0x4C766982, .crxor 3 22 13), (32, 0x7C03B5EC, .dcba 3 22),
    (32, 0x7C03B0AC, .dcbf 3 22), (32, 0x7C03B3AC, .dcbi 3 22), (32, 0x7C766B0C, .dcblc 3 22 13),
    (32, 0x7C03B06C, .dcbst 3 22), (32, 0x7C766A2C, .dcbt 3 22 13), (32, 0x7C76694C, .dcbtls 3 22 13),
    (32, 0x7C7669EC, .dcbtst 3 22 13), (32, 0x7C76690C, .dcbtstls 3 22 13), (32, 0x7C03B7EC, .dcbz 3 22),
    (32, 0x7C766BD6, .divw 3 22 13), (32, 0x7C766BD7, .divwRc 3 22 13), (32, 0x7C766FD6, .divwo 3 22 13),
    (32, 0x7C766FD7, .divwoRc 3 22 13), (32, 0x7C766B96, .divwu 3 22 13), (32, 0x7C766B97, .divwuRc 3 22 13),
    (32, 0x7C766F96, .divwuo 3 22 13), (32, 0x7C766F97, .divwuoRc 3 22 13), (32, 0x7C766A38, .eqv 3 22 13),
    (32, 0x7C766A39, .eqvRc 3 22 13), (32, 0x7C760774, .extsb 3 22), (32, 0x7C760775, .extsbRc 3 22),
    (32, 0x7C760734, .extsh 3 22), (32, 0x7C760735, .extshRc 3 22), (32, 0x7C03B7AC, .icbi 3 22),
    (32, 0x7C7669CC, .icblc 3 22 13), (32, 0x7C76682C, .icbt 3 22 13), (32, 0x7C766BCC, .icbtls 3 22 13),
    (32, 0x7C766EDE, .isel 3 22 13 27), (32, 0x4C00012C, .isync), (32, 0x88768765, .lbz 3 22 34661),
    (32, 0x8C768765, .lbzu 3 22 34661), (32, 0x7C7668EE, .lbzux 3 22 13), (32, 0x7C7668AE, .lbzx 3 22 13)]) = true := by decide +kernel

theorem test_decode_3 : decodesTo ([
    (32, 0xA8768765, .lha 3 22 34661), (32, 0xAC768765, .lhau 3 22 34661), (32, 0x7C766AEE, .lhaux 3 22 13),
    (32, 0x7C766AAE, .lhax 3 22 13), (32, 0x7C766E2C, .lhbrx 3 22 13), (32, 0xA0768765, .lhz 3 22 34661),
    (32, 0xA4768765, .lhzu 3 22 34661), (32, 0x7C766A6E, .lhzux 3 22 13), (32, 0x7C766A2E, .lhzx 3 22 13),
    (32, 0xB8768765, .lmw 3 22 34661), (32, 0x7C766828, .lwarx 3 22 13), (32, 0x7C766C2C, .lwbrx 3 22 13),
    (32, 0x80768765, .lwz 3 22 34661), (32, 0x84768765, .lwzu 3 22 34661), (32, 0x7C76686E, .lwzux 3 22 13),
    (32, 0x7C76682E, .lwzx 3 22 13), (32, 0x7C4006AC, .mbar 2), (32, 0x4F140000, .mcrf 6 5),
    (32, 0x7F000400, .mcrxr 6), (32, 0x7C600026, .mfcr 3), (32, 0x7C769A86, .mfdcr 3 723), (32, 0x7C6000A6, .mfmsr 3),
    (32, 0x7C769AA6, .mfspr 3 723), (32, 0x7C0004AC, .msync), (32, 0x7C693120, .mtcrf 3 147),
    (32, 0x7C769B86, .mtdcr 3 723), (32, 0x7C600124, .mtmsr 3), (32, 0x7C769BA6, .mtspr 3 723),
    (32, 0x7C766896, .mulhw 3 22 13), (32, 0x7C766897, .mulhwRc 3 22 13), (32, 0x7C766816, .mulhwu 3 22 13),
    (32, 0x7C766817, .mulhwuRc 3 22 13), (32, 0x1C768765, .mulli 3 22 34661), (32, 0x7C7669D6, .mullw 3 22 13),
    (32, 0x7C7669D7, .mullwRc 3 22 13), (32, 0x7C766DD6, .mullwo 3 22 13), (32, 0x7C766DD7, .mullwoRc 3 22 13),
    (32, 0x7C766BB8, .nand 3 22 13), (32, 0x7C766BB9, .nandRc 3 22 13), (32, 0x7C7600D0, .neg 3 22),
    (32, 0x7C7600D1, .negRc 3 22), (32, 0x7C7604D0, .nego 3 22), (32, 0x7C7604D1, .negoRc 3 22),
    (32, 0x7C7668F8, .nor 3 22 13), (32, 0x7C7668F9, .norRc 3 22 13)]) = true := by decide +kernel

theorem test_decode_4 : decodesTo ([
    (32, 0x7C766B78, .or 3 22 13), (32, 0x7C766B79, .orRc 3 22 13), (32, 0x7C766B38, .orc 3 22 13),
    (32, 0x7C766B39, .orcRc 3 22 13), (32, 0x60768765, .ori 3 22 34661), (32, 0x64768765, .oris 3 22 34661),
    (32, 0x4C000066, .rfci), (32, 0x4C00004E, .rfdi), (32, 0x4C000064, .rfi), (32, 0x4C00004C, .rfmci),
    (32, 0x50766ED2, .rlwimi 3 22 13 27 9), (32, 0x50766ED3, .rlwimiRc 3 22 13 27 9),
    (32, 0x54766ED2, .rlwinm 3 22 13 27 9), (32, 0x54766ED3, .rlwinmRc 3 22 13 27 9),
    (32, 0x5C766ED2, .rlwnm 3 22 13 27 9), (32, 0x5C766ED3, .rlwnmRc 3 22 13 27 9), (32, 0x44000002, .sc),
    (32, 0x7C766830, .slw 3 22 13), (32, 0x7C766831, .slwRc 3 22 13), (32, 0x7C766E30, .sraw 3 22 13),
    (32, 0x7C766E31, .srawRc 3 22 13), (32, 0x7C766E70, .srawi 3 22 13), (32, 0x7C766E71, .srawiRc 3 22 13),
    (32, 0x7C766C30, .srw 3 22 13), (32, 0x7C766C31, .srwRc 3 22 13), (32, 0x98768765, .stb 3 22 34661),
    (32, 0x9C768765, .stbu 3 22 34661), (32, 0x7C7669EE, .stbux 3 22 13), (32, 0x7C7669AE, .stbx 3 22 13),
    (32, 0xB0768765, .sth 3 22 34661), (32, 0x7C766F2C, .sthbrx 3 22 13), (32, 0xB4768765, .sthu 3 22 34661),
    (32, 0x7C766B6E, .sthux 3 22 13), (32, 0x7C766B2E, .sthx 3 22 13), (32, 0xBC768765, .stmw 3 22 34661),
    (32, 0x90768765, .stw 3 22 34661), (32, 0x7C766D2C, .stwbrx 3 22 13), (32, 0x7C76692D, .stwcxRc 3 22 13),
    (32, 0x94768765, .stwu 3 22 34661), (32, 0x7C76696E, .stwux 3 22 13), (32, 0x7C76692E, .stwx 3 22 13),
    (32, 0x7C766850, .subf 3 22 13), (32, 0x7C766851, .subfRc 3 22 13), (32, 0x7C766810, .subfc 3 22 13),
    (32, 0x7C766811, .subfcRc 3 22 13)]) = true := by decide +kernel

theorem test_decode_5 : decodesTo ([
    (32, 0x7C766C10, .subfco 3 22 13), (32, 0x7C766C11, .subfcoRc 3 22 13), (32, 0x7C766910, .subfe 3 22 13),
    (32, 0x7C766911, .subfeRc 3 22 13), (32, 0x7C766D10, .subfeo 3 22 13), (32, 0x7C766D11, .subfeoRc 3 22 13),
    (32, 0x20768765, .subfic 3 22 34661), (32, 0x7C7601D0, .subfme 3 22), (32, 0x7C7601D1, .subfmeRc 3 22),
    (32, 0x7C7605D0, .subfmeo 3 22), (32, 0x7C7605D1, .subfmeoRc 3 22), (32, 0x7C766C50, .subfo 3 22 13),
    (32, 0x7C766C51, .subfoRc 3 22 13), (32, 0x7C760190, .subfze 3 22), (32, 0x7C760191, .subfzeRc 3 22),
    (32, 0x7C760590, .subfzeo 3 22), (32, 0x7C760591, .subfzeoRc 3 22), (32, 0x7C03B624, .tlbivax 3 22),
    (32, 0x7C000764, .tlbre), (32, 0x7C03B724, .tlbsx 3 22), (32, 0x7C00046C, .tlbsync), (32, 0x7C0007A4, .tlbwe),
    (32, 0x7C766808, .tw 3 22 13), (32, 0x0C768765, .twi 3 22 34661), (32, 0x7C600106, .wrtee 3),
    (32, 0x7C008146, .wrteei 1), (32, 0x7C766A78, .xor 3 22 13), (32, 0x7C766A79, .xorRc 3 22 13),
    (32, 0x68768765, .xori 3 22 34661), (32, 0x6C768765, .xoris 3 22 34661), (32, 0x7C00007C, .wait),
    (32, 0x7C766868, .lbarx 3 22 13), (32, 0x7C7668E8, .lharx 3 22 13), (32, 0x7C766D6D, .stbcxRc 3 22 13),
    (32, 0x7C766DAD, .sthcxRc 3 22 13), (32, 0x4C76998C, .dnh 3 723), (16, 0x0001, .seIsync), (16, 0x0002, .seSc),
    (16, 0x0008, .seRfi), (16, 0x0009, .seRfci), (16, 0x000A, .seRfdi), (16, 0x000B, .seRfmci), (16, 0x000F, .seDnh),
    (32, 0x7C7698C2, .eDnh 3 723), (32, 0x18031093, .eLmvgprw 3 147)]) = true := by decide +kernel

theorem test_decode_6 : decodesTo ([
    (32, 0x18031193, .eStmvgprw 3 147), (32, 0x18231093, .eLmvsprw 3 147), (32, 0x18231193, .eStmvsprw 3 147),
    (32, 0x18831093, .eLmvsrrw 3 147), (32, 0x18831193, .eStmvsrrw 3 147), (32, 0x18A31093, .eLmvcsrrw 3 147),
    (32, 0x18A31193, .eStmvcsrrw 3 147), (32, 0x18C31093, .eLmvdsrrw 3 147), (32, 0x18C31193, .eStmvdsrrw 3 147),
    (32, 0x18E31093, .eLmvmcsrrw 3 147), (32, 0x18E31193, .eStmvmcsrrw 3 147), (32, 0x18760893, .eLmw 3 22 147),
    (32, 0x18760993, .eStmw 3 22 147), (32, 0x107602C4, .efsabs 3 22), (32, 0x107602C5, .efsnabs 3 22),
    (32, 0x107602C6, .efsneg 3 22), (32, 0x10766AC0, .efsadd 3 22 13), (32, 0x10766AC1, .efssub 3 22 13),
    (32, 0x10766AC8, .efsmul 3 22 13), (32, 0x10766AC9, .efsdiv 3 22 13), (32, 0x10766AC2, .efsmadd 3 22 13),
    (32, 0x10766AC3, .efsmsub 3 22 13), (32, 0x10766ACA, .efsnmadd 3 22 13), (32, 0x10766ACB, .efsnmsub 3 22 13),
    (32, 0x107602C7, .efssqrt 3 22), (32, 0x10766AB0, .efsmax 3 22 13), (32, 0x10766AB1, .efsmin 3 22 13),
    (32, 0x13166ACC, .efscmpgt 6 22 13), (32, 0x13166ACD, .efscmplt 6 22 13), (32, 0x13166ACE, .efscmpeq 6 22 13),
    (32, 0x13166ADC, .efststgt 6 22 13), (32, 0x13166ADD, .efststlt 6 22 13), (32, 0x13166ADE, .efststeq 6 22 13),
    (32, 0x1060B2D0, .efscfui 3 22), (32, 0x1060B2D1, .efscfsi 3 22), (32, 0x1060B2D2, .efscfuf 3 22),
    (32, 0x1060B2D3, .efscfsf 3 22), (32, 0x1064B2D1, .efscfh 3 22), (32, 0x1060B2D4, .efsctui 3 22),
    (32, 0x1060B2D5, .efsctsi 3 22), (32, 0x1060B2D8, .efsctuiz 3 22), (32, 0x1060B2DA, .efsctsiz 3 22),
    (32, 0x1060B2D6, .efsctuf 3 22), (32, 0x1060B2D7, .efsctsf 3 22), (32, 0x1064B2D5, .efscth 3 22)]) = true := by decide +kernel

theorem test_decode_7 : decodesTo ([
    (32, 0x10760284, .evfsabs 3 22), (32, 0x10760285, .evfsnabs 3 22), (32, 0x10760286, .evfsneg 3 22),
    (32, 0x10766A80, .evfsadd 3 22 13), (32, 0x10766A81, .evfssub 3 22 13), (32, 0x10766AA2, .evfsaddsub 3 22 13),
    (32, 0x10766AA3, .evfssubadd 3 22 13), (32, 0x10766AA8, .evfsaddx 3 22 13), (32, 0x10766AA9, .evfssubx 3 22 13),
    (32, 0x10766AAA, .evfsaddsubx 3 22 13), (32, 0x10766AAB, .evfssubaddx 3 22 13), (32, 0x10766AA4, .evfssum 3 22 13),
    (32, 0x10766AA5, .evfsdiff 3 22 13), (32, 0x10766AA6, .evfssumdiff 3 22 13),
    (32, 0x10766AA7, .evfsdiffsum 3 22 13), (32, 0x10766A88, .evfsmul 3 22 13), (32, 0x10766AAE, .evfsmule 3 22 13),
    (32, 0x10766AAF, .evfsmulo 3 22 13), (32, 0x10766AAC, .evfsmulx 3 22 13), (32, 0x10766A89, .evfsdiv 3 22 13),
    (32, 0x10766A82, .evfsmadd 3 22 13), (32, 0x10766A83, .evfsmsub 3 22 13), (32, 0x10766A8A, .evfsnmadd 3 22 13),
    (32, 0x10766A8B, .evfsnmsub 3 22 13), (32, 0x10760287, .evfssqrt 3 22), (32, 0x10766AA0, .evfsmax 3 22 13),
    (32, 0x10766AA1, .evfsmin 3 22 13), (32, 0x13166A8C, .evfscmpgt 6 22 13), (32, 0x13166A8D, .evfscmplt 6 22 13),
    (32, 0x13166A8E, .evfscmpeq 6 22 13), (32, 0x13166A9C, .evfststgt 6 22 13), (32, 0x13166A9D, .evfststlt 6 22 13),
    (32, 0x13166A9E, .evfststeq 6 22 13), (32, 0x1060B290, .evfscfui 3 22), (32, 0x1060B291, .evfscfsi 3 22),
    (32, 0x1060B292, .evfscfuf 3 22), (32, 0x1060B293, .evfscfsf 3 22), (32, 0x1064B291, .evfscfh 3 22),
    (32, 0x1064B295, .evfscth 3 22), (32, 0x1060B294, .evfsctui 3 22), (32, 0x1060B295, .evfsctsi 3 22),
    (32, 0x1060B298, .evfsctuiz 3 22), (32, 0x1060B29A, .evfsctsiz 3 22), (32, 0x1060B296, .evfsctuf 3 22),
    (32, 0x1060B297, .evfsctsf 3 22)]) = true := by decide +kernel

theorem test_decode_8 : decodesTo ([
    (32, 0x10766A0F, .brinc 3 22 13), (32, 0x10760208, .evabs 3 22), (32, 0x10766A02, .evaddiw 3 22 13),
    (32, 0x10766A00, .evaddw 3 22 13), (32, 0x10760209, .evneg 3 22), (32, 0x10766A04, .evsubfw 3 22 13),
    (32, 0x10766A06, .evsubifw 3 22 13), (32, 0x10766A11, .evand 3 22 13), (32, 0x10766A12, .evandc 3 22 13),
    (32, 0x10766A19, .eveqv 3 22 13), (32, 0x10766A1E, .evnand 3 22 13), (32, 0x10766A18, .evnor 3 22 13),
    (32, 0x10766A17, .evor 3 22 13), (32, 0x10766A1B, .evorc 3 22 13), (32, 0x10766A16, .evxor 3 22 13),
    (32, 0x13166A34, .evcmpeq 6 22 13), (32, 0x13166A31, .evcmpgts 6 22 13), (32, 0x13166A30, .evcmpgtu 6 22 13),
    (32, 0x13166A33, .evcmplts 6 22 13), (32, 0x13166A32, .evcmpltu 6 22 13), (32, 0x1076020E, .evcntlsw 3 22),
    (32, 0x1076020D, .evcntlzw 3 22), (32, 0x1076020A, .evextsb 3 22), (32, 0x1076020B, .evextsh 3 22),
    (32, 0x10766A2C, .evmergehi 3 22 13), (32, 0x10766A2E, .evmergehilo 3 22 13), (32, 0x10766A2D, .evmergelo 3 22 13),
    (32, 0x10766A2F, .evmergelohi 3 22 13), (32, 0x10766A28, .evrlw 3 22 13), (32, 0x10766A2A, .evrlwi 3 22 13),
    (32, 0x1076020C, .evrndw 3 22), (32, 0x10766A7D, .evsel 3 22 13 5), (32, 0x10766A24, .evslw 3 22 13),
    (32, 0x10766A26, .evslwi 3 22 13), (32, 0x10766A23, .evsrwis 3 22 13), (32, 0x10766A22, .evsrwiu 3 22 13),
    (32, 0x10766A21, .evsrws 3 22 13), (32, 0x10766A20, .evsrwu 3 22 13), (32, 0x1076022B, .evsplatfi 3 22),
    (32, 0x10760229, .evsplati 3 22), (32, 0x10766CC6, .evdivws 3 22 13), (32, 0x10766CC7, .evdivwu 3 22 13),
    (32, 0x10766C4F, .evmwhsmf 3 22 13), (32, 0x10766C6F, .evmwhsmfa 3 22 13), (32, 0x10766C4D, .evmwhsmi 3 22 13)]) = true := by decide +kernel

theorem test_decode_9 : decodesTo ([
    (32, 0x10766C6D, .evmwhsmia 3 22 13), (32, 0x10766C47, .evmwhssf 3 22 13), (32, 0x10766C67, .evmwhssfa 3 22 13),
    (32, 0x10766C4C, .evmwhumi 3 22 13), (32, 0x10766C6C, .evmwhumia 3 22 13), (32, 0x10766D49, .evmwlsmiaaw 3 22 13),
    (32, 0x10766DC9, .evmwlsmianw 3 22 13), (32, 0x10766D41, .evmwlssiaaw 3 22 13),
    (32, 0x10766DC1, .evmwlssianw 3 22 13), (32, 0x10766C48, .evmwlumi 3 22 13), (32, 0x10766C68, .evmwlumia 3 22 13),
    (32, 0x10766D48, .evmwlumiaaw 3 22 13), (32, 0x10766DC8, .evmwlumianw 3 22 13),
    (32, 0x10766D40, .evmwlusiaaw 3 22 13), (32, 0x10766DC0, .evmwlusianw 3 22 13), (32, 0x10766C5B, .evmwsmf 3 22 13),
    (32, 0x10766C7B, .evmwsmfa 3 22 13), (32, 0x10766D5B, .evmwsmfaa 3 22 13), (32, 0x10766DDB, .evmwsmfan 3 22 13),
    (32, 0x10766C59, .evmwsmi 3 22 13), (32, 0x10766C79, .evmwsmia 3 22 13), (32, 0x10766D59, .evmwsmiaa 3 22 13),
    (32, 0x10766DD9, .evmwsmian 3 22 13), (32, 0x10766C53, .evmwssf 3 22 13), (32, 0x10766C73, .evmwssfa 3 22 13),
    (32, 0x10766D53, .evmwssfaa 3 22 13), (32, 0x10766DD3, .evmwssfan 3 22 13), (32, 0x10766C58, .evmwumi 3 22 13),
    (32, 0x10766C78, .evmwumia 3 22 13), (32, 0x10766D58, .evmwumiaa 3 22 13), (32, 0x10766DD8, .evmwumian 3 22 13),
    (32, 0x107604C9, .evaddsmiaaw 3 22), (32, 0x107604C1, .evaddssiaaw 3 22), (32, 0x107604C8, .evaddumiaaw 3 22),
    (32, 0x107604C0, .evaddusiaaw 3 22), (32, 0x107604CB, .evsubfsmiaaw 3 22), (32, 0x107604C3, .evsubfssiaaw 3 22),
    (32, 0x107604CA, .evsubfumiaaw 3 22), (32, 0x107604C2, .evsubfusiaaw 3 22), (32, 0x107604C4, .evmra 3 22),
    (32, 0x10766D2B, .evmhegsmfaa 3 22 13), (32, 0x10766DAB, .evmhegsmfan 3 22 13),
    (32, 0x10766D29, .evmhegsmiaa 3 22 13), (32, 0x10766DA9, .evmhegsmian 3 22 13),
    (32, 0x10766D28, .evmhegumiaa 3 22 13)]) = true := by decide +kernel

theorem test_decode_10 : decodesTo ([
    (32, 0x10766DA8, .evmhegumian 3 22 13), (32, 0x10766C0B, .evmhesmf 3 22 13), (32, 0x10766C2B, .evmhesmfa 3 22 13),
    (32, 0x10766D0B, .evmhesmfaaw 3 22 13), (32, 0x10766D8B, .evmhesmfanw 3 22 13),
    (32, 0x10766C09, .evmhesmi 3 22 13), (32, 0x10766C29, .evmhesmia 3 22 13), (32, 0x10766D09, .evmhesmiaaw 3 22 13),
    (32, 0x10766D89, .evmhesmianw 3 22 13), (32, 0x10766C03, .evmhessf 3 22 13), (32, 0x10766C23, .evmhessfa 3 22 13),
    (32, 0x10766D03, .evmhessfaaw 3 22 13), (32, 0x10766D83, .evmhessfanw 3 22 13),
    (32, 0x10766D01, .evmhessiaaw 3 22 13), (32, 0x10766D81, .evmhessianw 3 22 13),
    (32, 0x10766C08, .evmheumi 3 22 13), (32, 0x10766C28, .evmheumia 3 22 13), (32, 0x10766D08, .evmheumiaaw 3 22 13),
    (32, 0x10766D88, .evmheumianw 3 22 13), (32, 0x10766D00, .evmheusiaaw 3 22 13),
    (32, 0x10766D80, .evmheusianw 3 22 13), (32, 0x10766D2F, .evmhogsmfaa 3 22 13),
    (32, 0x10766DAF, .evmhogsmfan 3 22 13), (32, 0x10766D2D, .evmhogsmiaa 3 22 13),
    (32, 0x10766DAD, .evmhogsmian 3 22 13), (32, 0x10766D2C, .evmhogumiaa 3 22 13),
    (32, 0x10766DAC, .evmhogumian 3 22 13), (32, 0x10766C0F, .evmhosmf 3 22 13), (32, 0x10766C2F, .evmhosmfa 3 22 13),
    (32, 0x10766D0F, .evmhosmfaaw 3 22 13), (32, 0x10766D8F, .evmhosmfanw 3 22 13),
    (32, 0x10766C0D, .evmhosmi 3 22 13), (32, 0x10766C2D, .evmhosmia 3 22 13), (32, 0x10766D0D, .evmhosmiaaw 3 22 13),
    (32, 0x10766D8D, .evmhosmianw 3 22 13), (32, 0x10766C07, .evmhossf 3 22 13), (32, 0x10766C27, .evmhossfa 3 22 13),
    (32, 0x10766D07, .evmhossfaaw 3 22 13), (32, 0x10766D87, .evmhossfanw 3 22 13),
    (32, 0x10766D05, .evmhossiaaw 3 22 13), (32, 0x10766D85, .evmhossianw 3 22 13),
    (32, 0x10766C0C, .evmhoumi 3 22 13), (32, 0x10766C2C, .evmhoumia 3 22 13), (32, 0x10766D0C, .evmhoumiaaw 3 22 13),
    (32, 0x10766D8C, .evmhoumianw 3 22 13)]) = true := by decide +kernel

theorem test_decode_11 : decodesTo ([
    (32, 0x10766D04, .evmhousiaaw 3 22 13), (32, 0x10766D84, .evmhousianw 3 22 13), (32, 0x10766B01, .evldd 3 22 13),
    (32, 0x10766B00, .evlddx 3 22 13), (32, 0x10766B03, .evldw 3 22 13), (32, 0x10766B02, .evldwx 3 22 13),
    (32, 0x10766B05, .evldh 3 22 13), (32, 0x10766B04, .evldhx 3 22 13), (32, 0x10766B11, .evlwhe 3 22 13),
    (32, 0x10766B10, .evlwhex 3 22 13), (32, 0x10766B15, .evlwhou 3 22 13), (32, 0x10766B14, .evlwhoux 3 22 13),
    (32, 0x10766B17, .evlwhos 3 22 13), (32, 0x10766B16, .evlwhosx 3 22 13), (32, 0x10766B19, .evlwwsplat 3 22 13),
    (32, 0x10766B18, .evlwwsplatx 3 22 13), (32, 0x10766B1D, .evlwhsplat 3 22 13),
    (32, 0x10766B1C, .evlwhsplatx 3 22 13), (32, 0x10766B09, .evlhhesplat 3 22 13),
    (32, 0x10766B08, .evlhhesplatx 3 22 13), (32, 0x10766B0D, .evlhhousplat 3 22 13),
    (32, 0x10766B0C, .evlhhousplatx 3 22 13), (32, 0x10766B0F, .evlhhossplat 3 22 13),
    (32, 0x10766B0E, .evlhhossplatx 3 22 13), (32, 0x10766B21, .evstdd 3 22 13), (32, 0x10766B20, .evstddx 3 22 13),
    (32, 0x10766B23, .evstdw 3 22 13), (32, 0x10766B22, .evstdwx 3 22 13), (32, 0x10766B25, .evstdh 3 22 13),
    (32, 0x10766B24, .evstdhx 3 22 13), (32, 0x10766B31, .evstwhe 3 22 13), (32, 0x10766B30, .evstwhex 3 22 13),
    (32, 0x10766B35, .evstwho 3 22 13), (32, 0x10766B34, .evstwhox 3 22 13), (32, 0x10766B39, .evstwwe 3 22 13),
    (32, 0x10766B38, .evstwwex 3 22 13), (32, 0x10766B3D, .evstwwo 3 22 13), (32, 0x10766B3C, .evstwwox 3 22 13)]) = true := by decide +kernel

/-! ## Single instructions -/

/-- `add`: a vector of spec/95_test_vectors.md. -/
theorem test_add : after (.add 3 4 5) (base |> r 4 0xFFFFFFFF |> r 5 0x00000001 |> withXer 0x00000000)
    (fun t => t.r 3 == 0x00000000 && t.xer == 0x00000000) = true := by decide +kernel

/-- `addo.`: a vector of spec/95_test_vectors.md. -/
theorem test_addoRc : after (.addoRc 3 4 5) (base |> r 4 0x80000000 |> r 5 0x80000000 |> withXer 0x00000000)
    (fun t => t.r 3 == 0x00000000 && t.crField 0 == 0b0011 && t.xer == 0xC0000000) = true := by decide +kernel

/-- `addc`: a vector of spec/95_test_vectors.md. -/
theorem test_addc : after (.addc 3 4 5) (base |> r 4 0xFFFFFFFF |> r 5 0x00000001 |> withXer 0x00000000)
    (fun t => t.r 3 == 0x00000000 && t.xer == 0x20000000) = true := by decide +kernel

/-- `adde`: a vector of spec/95_test_vectors.md. -/
theorem test_adde : after (.adde 3 4 5) (base |> r 4 0xFFFFFFFF |> r 5 0x00000000 |> withXer 0x20000000)
    (fun t => t.r 3 == 0x00000000 && t.xer == 0x20000000) = true := by decide +kernel

/-- `addme`: a vector of spec/95_test_vectors.md. -/
theorem test_addme : after (.addme 3 4) (base |> r 4 0x00000000 |> withXer 0x00000000)
    (fun t => t.r 3 == 0xFFFFFFFF && t.xer == 0x00000000) = true := by decide +kernel

/-- `addze`: a vector of spec/95_test_vectors.md. -/
theorem test_addze : after (.addze 3 4) (base |> r 4 0xFFFFFFFF |> withXer 0x20000000)
    (fun t => t.r 3 == 0x00000000 && t.xer == 0x20000000) = true := by decide +kernel

/-- `addi`: a vector of spec/95_test_vectors.md. -/
theorem test_addi : after (.addi 3 0 65535) (base |> r 0 0x00001234)
    (fun t => t.r 3 == 0xFFFFFFFF) = true := by decide +kernel

/-- `addic.`: a vector of spec/95_test_vectors.md. -/
theorem test_addicRc : after (.addicRc 3 4 1) (base |> r 4 0xFFFFFFFF |> withXer 0x80000000)
    (fun t => t.r 3 == 0x00000000 && t.crField 0 == 0b0011 && t.xer == 0xA0000000) = true := by decide +kernel

/-- `addis`: a vector of spec/95_test_vectors.md. -/
theorem test_addis : after (.addis 3 0 32768) (base |> r 0 0x00000007)
    (fun t => t.r 3 == 0x80000000) = true := by decide +kernel

/-- `subf`: a vector of spec/95_test_vectors.md. -/
theorem test_subf : after (.subf 3 4 5) (base |> r 4 0x00000005 |> r 5 0x00000003 |> withXer 0x00000000)
    (fun t => t.r 3 == 0xFFFFFFFE && t.xer == 0x00000000) = true := by decide +kernel

/-- `subfc`: a vector of spec/95_test_vectors.md. -/
theorem test_subfc : after (.subfc 3 4 5) (base |> r 4 0x00000005 |> r 5 0x00000003 |> withXer 0x00000000)
    (fun t => t.r 3 == 0xFFFFFFFE && t.xer == 0x00000000) = true := by decide +kernel

/-- `subfe`: a vector of spec/95_test_vectors.md. -/
theorem test_subfe : after (.subfe 3 4 5) (base |> r 4 0x00000000 |> r 5 0x00000000 |> withXer 0x00000000)
    (fun t => t.r 3 == 0xFFFFFFFF && t.xer == 0x00000000) = true := by decide +kernel

/-- `nego.`: a vector of spec/95_test_vectors.md. -/
theorem test_negoRc : after (.negoRc 3 4) (base |> r 4 0x80000000 |> withXer 0x00000000)
    (fun t => t.r 3 == 0x80000000 && t.crField 0 == 0b1001 && t.xer == 0xC0000000) = true := by decide +kernel

/-- `mullwo`: a vector of spec/95_test_vectors.md. -/
theorem test_mullwo : after (.mullwo 3 4 5) (base |> r 4 0x00010000 |> r 5 0x00010000 |> withXer 0x00000000)
    (fun t => t.r 3 == 0x00000000 && t.xer == 0xC0000000) = true := by decide +kernel

/-- `mulhw`: a vector of spec/95_test_vectors.md. -/
theorem test_mulhw : after (.mulhw 3 4 5) (base |> r 4 0x80000000 |> r 5 0x80000000)
    (fun t => t.r 3 == 0x40000000) = true := by decide +kernel

/-- `mulhwu`: a vector of spec/95_test_vectors.md. -/
theorem test_mulhwu : after (.mulhwu 3 4 5) (base |> r 4 0xFFFFFFFF |> r 5 0xFFFFFFFF)
    (fun t => t.r 3 == 0xFFFFFFFE) = true := by decide +kernel

/-- `mulli`: a vector of spec/95_test_vectors.md. -/
theorem test_mulli : after (.mulli 3 4 65533) (base |> r 4 0x55555556)
    (fun t => t.r 3 == 0xFFFFFFFE) = true := by decide +kernel

/-- `divw`: a vector of spec/95_test_vectors.md. -/
theorem test_divw : after (.divw 3 4 5) (base |> r 4 0xFFFFFFF9 |> r 5 0xFFFFFFFE)
    (fun t => t.r 3 == 0x00000003) = true := by decide +kernel

/-- `divwu`: a vector of spec/95_test_vectors.md. -/
theorem test_divwu : after (.divwu 3 4 5) (base |> r 4 0xFFFFFFFF |> r 5 0x00000002)
    (fun t => t.r 3 == 0x7FFFFFFF) = true := by decide +kernel

/-- `and.`: a vector of spec/95_test_vectors.md. -/
theorem test_andRc : after (.andRc 4 3 5) (base |> r 4 0xF0F0F0F0 |> r 5 0x0F0F0F0F |> withXer 0x00000000)
    (fun t => t.r 3 == 0x00000000 && t.crField 0 == 0b0010) = true := by decide +kernel

/-- `nor`: a vector of spec/95_test_vectors.md. -/
theorem test_nor : after (.nor 4 3 4) (base |> r 4 0x0000FFFF)
    (fun t => t.r 3 == 0xFFFF0000) = true := by decide +kernel

/-- `orc`: a vector of spec/95_test_vectors.md. -/
theorem test_orc : after (.orc 4 3 5) (base |> r 4 0x00000000 |> r 5 0xFFFFFFFF)
    (fun t => t.r 3 == 0x00000000) = true := by decide +kernel

/-- `extsb`: a vector of spec/95_test_vectors.md. -/
theorem test_extsb : after (.extsb 4 3) (base |> r 4 0x12345680)
    (fun t => t.r 3 == 0xFFFFFF80) = true := by decide +kernel

/-- `cntlzw.`: a vector of spec/95_test_vectors.md. -/
theorem test_cntlzwRc : after (.cntlzwRc 4 3) (base |> r 4 0x00010000 |> withXer 0x00000000)
    (fun t => t.r 3 == 0x0000000F && t.crField 0 == 0b0100) = true := by decide +kernel

/-- `rlwimi`: a vector of spec/95_test_vectors.md. -/
theorem test_rlwimi : after (.rlwimi 4 3 16 0 15) (base |> r 3 0xAAAABBBB |> r 4 0x1111CCCC)
    (fun t => t.r 3 == 0xCCCCBBBB) = true := by decide +kernel

/-- `rlwinm`: a vector of spec/95_test_vectors.md. -/
theorem test_rlwinm : after (.rlwinm 4 3 8 0 31) (base |> r 4 0x12345678)
    (fun t => t.r 3 == 0x34567812) = true := by decide +kernel

/-- `rlwnm`: a vector of spec/95_test_vectors.md. -/
theorem test_rlwnm : after (.rlwnm 4 3 5 0 31) (base |> r 4 0x80000001 |> r 5 0x00000021)
    (fun t => t.r 3 == 0x00000003) = true := by decide +kernel

/-- `slw`: a vector of spec/95_test_vectors.md. -/
theorem test_slw : after (.slw 4 3 5) (base |> r 4 0xFFFFFFFF |> r 5 0x0000001F)
    (fun t => t.r 3 == 0x80000000) = true := by decide +kernel

/-- `srw`: a vector of spec/95_test_vectors.md. -/
theorem test_srw : after (.srw 4 3 5) (base |> r 4 0x80000000 |> r 5 0x0000001F)
    (fun t => t.r 3 == 0x00000001) = true := by decide +kernel

/-- `sraw`: a vector of spec/95_test_vectors.md. -/
theorem test_sraw : after (.sraw 4 3 5) (base |> r 4 0x80000001 |> r 5 0x00000001 |> withXer 0x00000000)
    (fun t => t.r 3 == 0xC0000000 && t.xer == 0x20000000) = true := by decide +kernel

/-- `srawi`: a vector of spec/95_test_vectors.md. -/
theorem test_srawi : after (.srawi 4 3 4) (base |> r 4 0xFFFFFFF0 |> withXer 0x00000000)
    (fun t => t.r 3 == 0xFFFFFFFF && t.xer == 0x00000000) = true := by decide +kernel

/-- `cmp`: a vector of spec/95_test_vectors.md. -/
theorem test_cmp : after (.cmp 0 4 5) (base |> r 4 0xFFFFFFFF |> r 5 0x00000001 |> withXer 0x00000000 |> withCr 0x00000000)
    (fun t => t.cr == 0x80000000) = true := by decide +kernel

/-- `cmpli`: a vector of spec/95_test_vectors.md. -/
theorem test_cmpli : after (.cmpli 1 4 65535) (base |> r 4 0xFFFFFFFF |> withXer 0x00000000 |> withCr 0xFFFFFFFF)
    (fun t => t.cr == 0xF4FFFFFF) = true := by decide +kernel

/-- `isel`: a vector of spec/95_test_vectors.md. -/
theorem test_isel : after (.isel 3 4 5 2) (base |> r 4 0x11111111 |> r 5 0x22222222 |> withCr 0x20000000)
    (fun t => t.r 3 == 0x11111111) = true := by decide +kernel

/-- `tw`: a vector of spec/95_test_vectors.md. -/
theorem test_tw : after (.tw 31 0 0) (base |> r 0 0x00000005)
    (fun t => t.pc == 0x10060 && t.int.esr == 0x02000000) = true := by decide +kernel

/-- `bl`: a vector of spec/95_test_vectors.md. -/
theorem test_bl : after (.bl 16777215) (base |> withLr 0x00000000)
    (fun t => t.pc == 0x00000FFC && t.lr == 0x00001004) = true := by decide +kernel

/-- `bc`: a vector of spec/95_test_vectors.md. -/
theorem test_bc : after (.bc 12 2 8) (base |> withCr 0x20000000 |> withCtr 0x00000005)
    (fun t => t.pc == 0x00001020 && t.ctr == 0x00000005) = true := by decide +kernel

/-- `bclrl`: a vector of spec/95_test_vectors.md. -/
theorem test_bclrl : after (.bclrl 20 0) (base |> withLr 0x00002000)
    (fun t => t.pc == 0x00002000 && t.lr == 0x00001004) = true := by decide +kernel

/-- `bcctrl`: a vector of spec/95_test_vectors.md. -/
theorem test_bcctrl : after (.bcctrl 12 0) (base |> withCr 0x80000000 |> withCtr 0x00003000 |> withLr 0x00000000)
    (fun t => t.pc == 0x00003000 && t.lr == 0x00001004) = true := by decide +kernel

/-- `crandc`: a vector of spec/95_test_vectors.md. -/
theorem test_crandc : after (.crandc 0 1 2) (base |> withCr 0x40000000)
    (fun t => t.cr == 0xC0000000) = true := by decide +kernel

/-- `crnor`: a vector of spec/95_test_vectors.md. -/
theorem test_crnor : after (.crnor 0 1 1) (base |> withCr 0x00000000)
    (fun t => t.cr == 0x80000000) = true := by decide +kernel

/-- `mcrf`: a vector of spec/95_test_vectors.md. -/
theorem test_mcrf : after (.mcrf 7 0) (base |> withCr 0xA0000005)
    (fun t => t.cr == 0xA000000A) = true := by decide +kernel

/-- `mcrxr`: a vector of spec/95_test_vectors.md. -/
theorem test_mcrxr : after (.mcrxr 1) (base |> withXer 0xE0000000 |> withCr 0x0F000000)
    (fun t => t.cr == 0x0E000000 && t.xer == 0x00000000) = true := by decide +kernel

/-- `mtcrf`: a vector of spec/95_test_vectors.md. -/
theorem test_mtcrf : after (.mtcrf 3 129) (base |> r 3 0x12345678 |> withCr 0xFFFFFFFF)
    (fun t => t.cr == 0x1FFFFFF8) = true := by decide +kernel

/-- `lbz`: a vector of spec/95_test_vectors.md. -/
theorem test_lbz : after (.lbz 3 4 1) (base |> r 4 0x00002000 |> m4 0x00002000 0x11223344 |> m4 0x00002004 0x8899AABB)
    (fun t => t.r 3 == 0x00000022) = true := by decide +kernel

/-- `lha`: a vector of spec/95_test_vectors.md. -/
theorem test_lha : after (.lha 3 4 4) (base |> r 4 0x00002000 |> m4 0x00002000 0x11223344 |> m4 0x00002004 0x8899AABB)
    (fun t => t.r 3 == 0xFFFF8899) = true := by decide +kernel

/-- `lwzu`: a vector of spec/95_test_vectors.md. -/
theorem test_lwzu : after (.lwzu 3 4 4) (base |> r 4 0x00002000 |> m4 0x00002000 0x11223344 |> m4 0x00002004 0x8899AABB)
    (fun t => t.r 3 == 0x8899AABB && t.r 4 == 0x00002004) = true := by decide +kernel

/-- `lhaux`: a vector of spec/95_test_vectors.md. -/
theorem test_lhaux : after (.lhaux 3 4 5) (base |> r 4 0x00002000 |> r 5 0x00000006 |> m4 0x00002000 0x11223344
      |> m4 0x00002004 0x8899AABB)
    (fun t => t.r 3 == 0xFFFFAABB && t.r 4 == 0x00002006) = true := by decide +kernel

/-- `lhbrx`: a vector of spec/95_test_vectors.md. -/
theorem test_lhbrx : after (.lhbrx 3 4 5) (base |> r 4 0x00002000 |> r 5 0x00000000 |> m4 0x00002000 0x11223344
      |> m4 0x00002004 0x8899AABB)
    (fun t => t.r 3 == 0x00002211) = true := by decide +kernel

/-- `lwbrx`: a vector of spec/95_test_vectors.md. -/
theorem test_lwbrx : after (.lwbrx 3 0 5) (base |> r 0 0x00000055 |> r 5 0x00002004 |> m4 0x00002000 0x11223344
      |> m4 0x00002004 0x8899AABB)
    (fun t => t.r 3 == 0xBBAA9988) = true := by decide +kernel

/-- `stb`: a vector of spec/95_test_vectors.md. -/
theorem test_stb : after (.stb 3 4 0) (base |> r 3 0x123456AB |> r 4 0x00002001 |> m4 0x00002000 0x11223344
      |> m4 0x00002004 0x8899AABB)
    (fun t => word t 0x00002000 == 0x11AB3344) = true := by decide +kernel

/-- `stwu`: a vector of spec/95_test_vectors.md. -/
theorem test_stwu : after (.stwu 1 1 65520) (base |> r 1 0x00002010 |> m4 0x00002000 0x11223344 |> m4 0x00002004 0x8899AABB)
    (fun t => t.r 1 == 0x00002000 && word t 0x00002000 == 0x00002010) = true := by decide +kernel

/-- `stwbrx`: a vector of spec/95_test_vectors.md. -/
theorem test_stwbrx : after (.stwbrx 3 4 5) (base |> r 3 0x01020304 |> r 4 0x00002000 |> r 5 0x00000004
      |> m4 0x00002000 0x11223344 |> m4 0x00002004 0x8899AABB)
    (fun t => word t 0x00002004 == 0x04030201) = true := by decide +kernel

/-- `sthbrx`: a vector of spec/95_test_vectors.md. -/
theorem test_sthbrx : after (.sthbrx 3 4 5) (base |> r 3 0x0000BEEF |> r 4 0x00002000 |> r 5 0x00000000
      |> m4 0x00002000 0x11223344 |> m4 0x00002004 0x8899AABB)
    (fun t => word t 0x00002000 == 0xEFBE3344) = true := by decide +kernel

/-- `lmw`: a vector of spec/95_test_vectors.md. -/
theorem test_lmw : after (.lmw 30 4 0) (base |> r 4 0x00002000 |> m4 0x00002000 0x11223344 |> m4 0x00002004 0x8899AABB)
    (fun t => t.r 30 == 0x11223344 && t.r 31 == 0x8899AABB) = true := by decide +kernel

/-- `stmw`: a vector of spec/95_test_vectors.md. -/
theorem test_stmw : after (.stmw 30 4 0) (base |> r 4 0x00002000 |> r 30 0xAAAAAAAA |> r 31 0xBBBBBBBB
      |> m4 0x00002000 0x11223344 |> m4 0x00002004 0x8899AABB)
    (fun t => word t 0x00002000 == 0xAAAAAAAA && word t 0x00002004 == 0xBBBBBBBB) = true := by decide +kernel

/-- `efsadd`: a vector of spec/96_test_vectors_spe_efpu.md. -/
theorem test_efsadd : after (.efsadd 3 4 5) (base |> q 3 0xAAAAAAAA55555555 |> r 4 0x3F800000 |> r 5 0x33800000
      |> withSpefscr 0)
    (fun t => t.r64 3 == 0xAAAAAAAA3F800000 && t.spefscr == 0x00202000 && t.pc == 0x1004) = true := by decide +kernel

/-- `efssub`: a vector of spec/96_test_vectors_spe_efpu.md. -/
theorem test_efssub : after (.efssub 3 4 5) (base |> q 3 0xAAAAAAAA55555555 |> r 4 0x00800000 |> r 5 0x00800001
      |> withSpefscr 0)
    (fun t => t.r64 3 == 0xAAAAAAAA00000000 && t.spefscr == 0x00240200 && t.pc == 0x1004) = true := by decide +kernel

/-- `efsmul`: a vector of spec/96_test_vectors_spe_efpu.md. -/
theorem test_efsmul : after (.efsmul 3 4 5) (base |> q 3 0xAAAAAAAA55555555 |> r 4 0x3FC00000 |> r 5 0x3FC00000
      |> withSpefscr 0)
    (fun t => t.r64 3 == 0xAAAAAAAA40100000 && t.spefscr == 0x00000000 && t.pc == 0x1004) = true := by decide +kernel

/-- `efsdiv`: a vector of spec/96_test_vectors_spe_efpu.md. -/
theorem test_efsdiv : after (.efsdiv 3 4 5) (base |> q 3 0xAAAAAAAA55555555 |> r 4 0x40C00000 |> r 5 0x40000000
      |> withSpefscr 0)
    (fun t => t.r64 3 == 0xAAAAAAAA40400000 && t.spefscr == 0x00000000 && t.pc == 0x1004) = true := by decide +kernel

/-- `efscmpgt`: a vector of spec/96_test_vectors_spe_efpu.md. -/
theorem test_efscmpgt : after (.efscmpgt 1 4 5) (base |> r 4 0x40000000 |> r 5 0x3F800000)
    (fun t => t.spefscr == 0x00000000
      && t.pc == 0x1004) = true := by decide +kernel

/-- `efscfsi`: a vector of spec/96_test_vectors_spe_efpu.md. -/
theorem test_efscfsi : after (.efscfsi 3 5) (base |> q 3 0xAAAAAAAA55555555 |> r 5 0x80000000 |> withSpefscr 0)
    (fun t => t.r64 3 == 0xAAAAAAAACF000000 && t.spefscr == 0x00000000 && t.pc == 0x1004) = true := by decide +kernel

/-- `efsctsi`: a vector of spec/96_test_vectors_spe_efpu.md. -/
theorem test_efsctsi : after (.efsctsi 3 5) (base |> q 3 0xAAAAAAAA55555555 |> r 5 0x40200000 |> withSpefscr 0)
    (fun t => t.r64 3 == 0xAAAAAAAA00000002 && t.spefscr == 0x00202000 && t.pc == 0x1004) = true := by decide +kernel

/-- `efsctuf`: a vector of spec/96_test_vectors_spe_efpu.md. -/
theorem test_efsctuf : after (.efsctuf 3 5) (base |> q 3 0xAAAAAAAA55555555 |> r 5 0x3F400000 |> withSpefscr 0)
    (fun t => t.r64 3 == 0xAAAAAAAAC0000000 && t.spefscr == 0x00000000 && t.pc == 0x1004) = true := by decide +kernel

/-- `efscth`: a vector of spec/96_test_vectors_spe_efpu.md. -/
theorem test_efscth : after (.efscth 3 5) (base |> q 3 0xAAAAAAAA55555555 |> r 5 0x3F800000 |> withSpefscr 0)
    (fun t => t.r64 3 == 0xAAAAAAAA00003C00 && t.spefscr == 0x00000000 && t.pc == 0x1004) = true := by decide +kernel

/-- `evfsadd`: a vector of spec/96_test_vectors_spe_efpu.md. -/
theorem test_evfsadd : after (.evfsadd 3 4 5) (base |> on |> q 3 0xAAAAAAAA55555555 |> q 4 0x3F8000007F800000
      |> q 5 0x338000013F800000 |> withSpefscr 0)
    (fun t => t.r64 3 == 0x3F8000017F7FFFFF && t.spefscr == 0x30300800 && t.pc == 0x1004) = true := by decide +kernel

/-- `brinc`: a vector of spec/96_test_vectors_spe_efpu.md. -/
theorem test_brinc : after (.brinc 3 4 5) (base |> on |> q 3 0xAAAAAAAA55555555 |> r 4 0x00010000 |> r 5 0x00000007)
    (fun t => t.r64 3 == 0xAAAAAAAA00010004 && t.pc == 0x1004) = true := by decide +kernel

/-- `evabs`: a vector of spec/96_test_vectors_spe_efpu.md. -/
theorem test_evabs : after (.evabs 3 4) (base |> on |> q 3 0xAAAAAAAA55555555 |> q 4 0x8000000000007FFF)
    (fun t => t.r64 3 == 0x8000000000007FFF && t.pc == 0x1004) = true := by decide +kernel

/-- `evsubfw`: a vector of spec/96_test_vectors_spe_efpu.md. -/
theorem test_evsubfw : after (.evsubfw 3 4 5) (base |> on |> q 3 0xAAAAAAAA55555555 |> q 4 0x8000000000007FFF
      |> q 5 0x00000021FFFFFFE4)
    (fun t => t.r64 3 == 0x80000021FFFF7FE5 && t.pc == 0x1004) = true := by decide +kernel

/-- `evcntlsw`: a vector of spec/96_test_vectors_spe_efpu.md. -/
theorem test_evcntlsw : after (.evcntlsw 3 4) (base |> on |> q 3 0xAAAAAAAA55555555 |> q 4 0x8000000000007FFF)
    (fun t => t.r64 3 == 0x0000000100000011 && t.pc == 0x1004) = true := by decide +kernel

/-- `evmergelohi`: a vector of spec/96_test_vectors_spe_efpu.md. -/
theorem test_evmergelohi : after (.evmergelohi 3 4 5) (base |> on |> q 3 0xAAAAAAAA55555555
      |> q 4 0x0123456789ABCDEF |> q 5 0xFEDCBA9876543210)
    (fun t => t.r64 3 == 0x89ABCDEFFEDCBA98 && t.pc == 0x1004) = true := by decide +kernel

/-- `evrlwi`: a vector of spec/96_test_vectors_spe_efpu.md. -/
theorem test_evrlwi : after (.evrlwi 3 4 9) (base |> on |> q 3 0xAAAAAAAA55555555 |> q 4 0x8000000000007FFF)
    (fun t => t.r64 3 == 0x0000010000FFFE00 && t.pc == 0x1004) = true := by decide +kernel

/-- `evrndw`: a vector of spec/96_test_vectors_spe_efpu.md. -/
theorem test_evrndw : after (.evrndw 3 4) (base |> on |> q 3 0xAAAAAAAA55555555 |> q 4 0x7FFF8000FFFF7FFF)
    (fun t => t.r64 3 == 0x80000000FFFF0000 && t.pc == 0x1004) = true := by decide +kernel

/-- `evsel`: a vector of spec/96_test_vectors_spe_efpu.md. -/
theorem test_evsel : after (.evsel 3 4 5 2) (base |> on |> q 3 0xAAAAAAAA55555555 |> withCrField 2 0b0110
      |> q 4 0x0123456789ABCDEF |> q 5 0xFEDCBA9876543210)
    (fun t => t.r64 3 == 0xFEDCBA9889ABCDEF && t.pc == 0x1004) = true := by decide +kernel

/-- `evslw`: a vector of spec/96_test_vectors_spe_efpu.md. -/
theorem test_evslw : after (.evslw 3 4 5) (base |> on |> q 3 0xAAAAAAAA55555555 |> q 4 0x8000000000007FFF
      |> q 5 0x00000021FFFFFFE4)
    (fun t => t.r64 3 == 0x0000000000000000 && t.pc == 0x1004) = true := by decide +kernel

/-- `evsrwis`: a vector of spec/96_test_vectors_spe_efpu.md. -/
theorem test_evsrwis : after (.evsrwis 3 4 9) (base |> on |> q 3 0xAAAAAAAA55555555 |> q 4 0x8000000000007FFF)
    (fun t => t.r64 3 == 0xFFC000000000003F && t.pc == 0x1004) = true := by decide +kernel

/-- `evsplatfi`: a vector of spec/96_test_vectors_spe_efpu.md. -/
theorem test_evsplatfi : after (.evsplatfi 3 15) (base |> on |> q 3 0xAAAAAAAA55555555)
    (fun t => t.r64 3 == 0x7800000078000000 && t.pc == 0x1004) = true := by decide +kernel

/-- `evcmpgts`: a vector of spec/96_test_vectors_spe_efpu.md. -/
theorem test_evcmpgts : after (.evcmpgts 2 4 5) (base |> on |> q 3 0xAAAAAAAA55555555 |> q 4 0xFFFFFFFF00000005
      |> q 5 0x0000000100000005)
    (fun t => t.crField 2 == 0b0000 && t.pc == 0x1004) = true := by decide +kernel

/-- `evdivws`: a vector of spec/96_test_vectors_spe_efpu.md. -/
theorem test_evdivws : after (.evdivws 3 4 5) (base |> on |> q 3 0xAAAAAAAA55555555 |> q 4 0x80000000FFFFFFF9
      |> q 5 0x00000000FFFFFFFE)
    (fun t => t.spefscr == 0xC0000000 && t.r64 3 == 0x8000000000000003 && t.pc == 0x1004) = true := by decide +kernel

/-- `evdivwu`: a vector of spec/96_test_vectors_spe_efpu.md. -/
theorem test_evdivwu : after (.evdivwu 3 4 5) (base |> on |> q 3 0xAAAAAAAA55555555 |> q 4 0xFFFFFFFF00000064
      |> q 5 0x0000001000000000)
    (fun t => t.spefscr == 0x0000C000 && t.r64 3 == 0x0FFFFFFFFFFFFFFF && t.pc == 0x1004) = true := by decide +kernel

/-- `evmwhssf`: a vector of spec/96_test_vectors_spe_efpu.md. -/
theorem test_evmwhssf : after (.evmwhssf 3 4 5) (base |> on |> q 4 0x7FFF80001234FFFE |> q 5 0x7FFF800000038000
      |> withAcc 0xFFFFFFFF7FFFFFF0)
    (fun t => t.r64 3 == 0x7FFF000000007F72 && t.acc == 0xFFFFFFFF7FFFFFF0 && t.spefscr == 0) = true := by decide +kernel

/-- `evmwlumiaaw`: a vector of spec/96_test_vectors_spe_efpu.md. -/
theorem test_evmwlumiaaw : after (.evmwlumiaaw 3 4 5) (base |> on |> q 4 0x7FFF80001234FFFE
      |> q 5 0x7FFF800000038000 |> withAcc 0xFFFFFFFF7FFFFFF0)
    (fun t => t.r64 3 == 0x3FFFFFFFFFF8FFF0 && t.acc == 0x3FFFFFFFFFF8FFF0 && t.spefscr == 0) = true := by decide +kernel

/-- `evmwlssianw`: a vector of spec/96_test_vectors_spe_efpu.md. -/
theorem test_evmwlssianw : after (.evmwlssianw 3 4 5) (base |> on |> q 4 0x7FFF80001234FFFE
      |> q 5 0x7FFF800000038000 |> withAcc 0xFFFFFFFF7FFFFFF0)
    (fun t => t.r64 3 == 0xBFFFFFFF0006FFF0 && t.acc == 0xBFFFFFFF0006FFF0 && t.spefscr == 0) = true := by decide +kernel

/-- `evmwssfaa`: a vector of spec/96_test_vectors_spe_efpu.md. -/
theorem test_evmwssfaa : after (.evmwssfaa 3 4 5) (base |> on |> q 4 0x7FFF80001234FFFE |> q 5 0x7FFF800000038000
      |> withAcc 0xFFFFFFFF7FFFFFF0)
    (fun t => t.r64 3 == 0x00007F727FF1FFF0 && t.acc == 0x00007F727FF1FFF0 && t.spefscr == 0) = true := by decide +kernel

/-- `evmwumian`: a vector of spec/96_test_vectors_spe_efpu.md. -/
theorem test_evmwumian : after (.evmwumian 3 4 5) (base |> on |> q 4 0x7FFF80001234FFFE |> q 5 0x7FFF800000038000
      |> withAcc 0xFFFFFFFF7FFFFFF0)
    (fun t => t.r64 3 == 0xFFFFC0460006FFF0 && t.acc == 0xFFFFC0460006FFF0 && t.spefscr == 0) = true := by decide +kernel

/-- `evaddssiaaw`: a vector of spec/96_test_vectors_spe_efpu.md. -/
theorem test_evaddssiaaw : after (.evaddssiaaw 3 4) (base |> on |> q 4 0x7FFF80001234FFFE
      |> q 5 0x7FFF800000038000 |> withAcc 0xFFFFFFFF7FFFFFF0)
    (fun t => t.r64 3 == 0x7FFF7FFF7FFFFFFF && t.acc == 0x7FFF7FFF7FFFFFFF
      && t.spefscr == 49152) = true := by decide +kernel

/-- `evsubfusiaaw`: a vector of spec/96_test_vectors_spe_efpu.md. -/
theorem test_evsubfusiaaw : after (.evsubfusiaaw 3 4) (base |> on |> q 4 0x7FFF80001234FFFE
      |> q 5 0x7FFF800000038000 |> withAcc 0xFFFFFFFF7FFFFFF0)
    (fun t => t.r64 3 == 0x80007FFF6DCAFFF2 && t.acc == 0x80007FFF6DCAFFF2 && t.spefscr == 0) = true := by decide +kernel

/-- `evmra`: a vector of spec/96_test_vectors_spe_efpu.md. -/
theorem test_evmra : after (.evmra 3 4) (base |> on |> q 4 0x7FFF80001234FFFE |> q 5 0x7FFF800000038000
      |> withAcc 0xFFFFFFFF7FFFFFF0)
    (fun t => t.r64 3 == 0x7FFF80001234FFFE && t.acc == 0x7FFF80001234FFFE && t.spefscr == 0) = true := by decide +kernel

/-- `evmhegsmfaa`: a vector of spec/96_test_vectors_spe_efpu.md. -/
theorem test_evmhegsmfaa : after (.evmhegsmfaa 3 4 5) (base |> on |> q 4 0x7FFF80001234FFFE
      |> q 5 0x7FFF800000038000 |> withAcc 0xFFFFFFFF7FFFFFF0)
    (fun t => t.r64 3 == 0xFFFFFFFF80006D28 && t.acc == 0xFFFFFFFF80006D28 && t.spefscr == 0) = true := by decide +kernel

/-- `evmhessf`: a vector of spec/96_test_vectors_spe_efpu.md. -/
theorem test_evmhessf : after (.evmhessf 3 4 5) (base |> on |> q 4 0x7FFF80001234FFFE |> q 5 0x7FFF800000038000
      |> withAcc 0xFFFFFFFF7FFFFFF0)
    (fun t => t.r64 3 == 0x7FFE000200006D38 && t.acc == 0xFFFFFFFF7FFFFFF0 && t.spefscr == 0) = true := by decide +kernel

/-- `evmhesmianw`: a vector of spec/96_test_vectors_spe_efpu.md. -/
theorem test_evmhesmianw : after (.evmhesmianw 3 4 5) (base |> on |> q 4 0x7FFF80001234FFFE
      |> q 5 0x7FFF800000038000 |> withAcc 0xFFFFFFFF7FFFFFF0)
    (fun t => t.r64 3 == 0xC000FFFE7FFFC954 && t.acc == 0xC000FFFE7FFFC954 && t.spefscr == 0) = true := by decide +kernel

/-- `evmheusiaaw`: a vector of spec/96_test_vectors_spe_efpu.md. -/
theorem test_evmheusiaaw : after (.evmheusiaaw 3 4 5) (base |> on |> q 4 0x7FFF80001234FFFE
      |> q 5 0x7FFF800000038000 |> withAcc 0xFFFFFFFF7FFFFFF0)
    (fun t => t.r64 3 == 0xFFFFFFFF8000368C && t.acc == 0xFFFFFFFF8000368C
      && t.spefscr == 3221225472) = true := by decide +kernel

/-- `evmhossiaaw`: a vector of spec/96_test_vectors_spe_efpu.md. -/
theorem test_evmhossiaaw : after (.evmhossiaaw 3 4 5) (base |> on |> q 4 0x7FFF80001234FFFE
      |> q 5 0x7FFF800000038000 |> withAcc 0xFFFFFFFF7FFFFFF0)
    (fun t => t.r64 3 == 0x3FFFFFFF7FFFFFFF && t.acc == 0x3FFFFFFF7FFFFFFF
      && t.spefscr == 49152) = true := by decide +kernel

/-- `evmhoumia`: a vector of spec/96_test_vectors_spe_efpu.md. -/
theorem test_evmhoumia : after (.evmhoumia 3 4 5) (base |> on |> q 4 0x7FFF80001234FFFE |> q 5 0x7FFF800000038000
      |> withAcc 0xFFFFFFFF7FFFFFF0)
    (fun t => t.r64 3 == 0x400000007FFF0000 && t.acc == 0x400000007FFF0000 && t.spefscr == 0) = true := by decide +kernel

/-- `evldd`: a vector of spec/96_test_vectors_spe_efpu.md. -/
theorem test_evldd : after (.evldd 3 4 0) (base |> on |> r 4 0x800 |> m4 0x800 0x8001FEDC |> m4 0x804 0x7F029003)
    (fun t => t.r64 3 == 0x8001FEDC7F029003) = true := by decide +kernel

/-- `evldw`: a vector of spec/96_test_vectors_spe_efpu.md. -/
theorem test_evldw : after (.evldw 3 4 0) (base |> on |> r 4 0x800 |> m4 0x800 0x8001FEDC |> m4 0x804 0x7F029003)
    (fun t => t.r64 3 == 0x8001FEDC7F029003) = true := by decide +kernel

/-- `evlwhou`: a vector of spec/96_test_vectors_spe_efpu.md. -/
theorem test_evlwhou : after (.evlwhou 3 4 0) (base |> on |> r 4 0x800 |> m4 0x800 0x8001FEDC |> m4 0x804 0x7F029003)
    (fun t => t.r64 3 == 0x000080010000FEDC) = true := by decide +kernel

/-- `evlwhos`: a vector of spec/96_test_vectors_spe_efpu.md. -/
theorem test_evlwhos : after (.evlwhos 3 4 0) (base |> on |> r 4 0x800 |> m4 0x800 0x8001FEDC |> m4 0x804 0x7F029003)
    (fun t => t.r64 3 == 0xFFFF8001FFFFFEDC) = true := by decide +kernel

/-- `evlhhesplat`: a vector of spec/96_test_vectors_spe_efpu.md. -/
theorem test_evlhhesplat : after (.evlhhesplat 3 4 0) (base |> on |> r 4 0x800 |> m4 0x800 0x8001FEDC
      |> m4 0x804 0x7F029003)
    (fun t => t.r64 3 == 0x8001000080010000) = true := by decide +kernel

/-- `evstdh`: a vector of spec/96_test_vectors_spe_efpu.md. -/
theorem test_evstdh : after (.evstdh 3 4 0) (base |> on |> r 4 0x800 |> q 3 0x0123456789ABCDEF)
    (fun t => t.mem == [(0x800, 0x01), (0x801, 0x23), (0x802, 0x45), (0x803, 0x67), (0x804, 0x89), (0x805, 0xAB), (0x806, 0xCD), (0x807, 0xEF)]) = true := by decide +kernel

/-- `evstwho`: a vector of spec/96_test_vectors_spe_efpu.md. -/
theorem test_evstwho : after (.evstwho 3 4 0) (base |> on |> r 4 0x800 |> q 3 0x0123456789ABCDEF)
    (fun t => t.mem == [(0x800, 0x45), (0x801, 0x67), (0x802, 0xCD), (0x803, 0xEF)]) = true := by decide +kernel

/-- `evstwwe`: a vector of spec/96_test_vectors_spe_efpu.md. -/
theorem test_evstwwe : after (.evstwwe 3 4 0) (base |> on |> r 4 0x800 |> q 3 0x0123456789ABCDEF)
    (fun t => t.mem == [(0x800, 0x01), (0x801, 0x23), (0x802, 0x45), (0x803, 0x67)]) = true := by decide +kernel

/-! ## Single steps -/

/-- spec/60_exceptions.md R2028: sc saves the next address. -/
theorem test_step_sc : stepped 32 0x44000002 (withMsr 0x29000 base)
    (fun t => t.int.srr0 == 0x1004 && t.int.srr1 == 0x29000 && t.msr == 0x21000 && t.pc == 0x10080) = true := by
  decide +kernel

/-- spec/44_vle.md R977: se_sc is two bytes long and sets ESR[VLEMI]. -/
theorem test_step_seSc : stepped 16 0x0002 (withMsr 0x8000 base)
    (fun t => t.int.srr0 == 0x1002 && t.int.esr == 0x20 && t.pc == 0x10080) = true := by decide +kernel

/-- spec/43_system.md R854: rfi drops bit 31 of SRR0. -/
theorem test_step_rfi : stepped 32 0x4C000064 { base with int.srr0 := 0x2005, int.srr1 := 0x2D000 }
    (fun t => t.pc == 0x2004 && t.msr == 0x2D000) = true := by decide +kernel

/-- spec/60_exceptions.md R2026: rfi in user mode. -/
theorem test_step_rfi_user : stepped 32 0x4C000064 (user base)
    (fun t => t.int.srr0 == 0x1000 && t.int.esr == 0x04000000 && t.pc == 0x10060) = true := by decide +kernel

/-- spec/10_state.md R70: only implemented MSR bits are stored. -/
theorem test_step_mtmsr : stepped 32 0x7C600124 (base |> r 3 0xFFFFFFFF) (fun t => t.msr == 0x0606FB32) = true := by
  decide +kernel

/-- The word 0 is an illegal instruction. -/
theorem test_step_illegal : stepped 32 0 (withMsr 0x1000 base)
    (fun t => t.int.srr0 == 0x1000 && t.int.srr1 == 0x1000 && t.int.esr == 0x08000000 && t.msr == 0x1000) = true := by
  decide +kernel

/-- spec/30_encoding.md R560, spec/44_vle.md R969: the half word 0 on a VLE page is illegal. -/
theorem test_step_seIllegal : stepped 16 0 (withMsr 0x1000 base)
    (fun t => t.int.srr0 == 0x1000 && t.int.esr == 0x08000020 && t.pc == 0x10060) = true := by decide +kernel

/-- spec/47_spe_simple.md R1301, spec/44_vle.md R952: efsabs with a non-zero reserved field is illegal on a VLE page too. -/
theorem test_vle_opcode4_reserved :
    (match decodeWord .vle 0x10642AC4 with | .error .illegal => true | _ => false) = true := by decide +kernel

/-- spec/42_load_store.md R810, spec/60_exceptions.md R2011: an external input after two of four transfers. -/
theorem test_step_lmw_interrupted :
    stepped 32 0xBB800000 ({ withMsr 0x8000 base with
        hostQueue := [[.during { after := 2, ticks := 0, pins := { Pins.idle with extint := true, avec := true } }]] }
          |> m4 0 0x11111111 |> m4 4 0x22222222 |> m4 8 0x33333333)
      (fun t => t.int.srr0 == 0x1000 && t.r 28 == 0x11111111 && t.r 29 == 0x22222222 && t.r 30 == 0 && t.pc == 0x10040) =
      true := by decide +kernel

/-- spec/61_debug.md R2225 item 3: an edge of p_devt1 inside a multiple is counted, once, and stays counted. -/
theorem test_step_lmw_counts_devt :
    stepped 32 0xBB800000 ({ base with
        dbg.dbcr0 := 0x40000000
        dbg.dbcr3 := 0x80000000
        dbg.dbcnt := 0x00050007
        hostQueue := [[.during { after := 2, ticks := 0, pins := { Pins.idle with devt1 := true } }]] }
          |> m4 0 0x11111111 |> m4 4 0x22222222 |> m4 8 0x33333333 |> m4 12 0x44444444)
      (fun t => t.r 31 == 0x44444444 && t.dbg.dbcnt == 0x00040007) = true := by decide +kernel

/-- spec/61_debug.md R2225 item 1: in a debug session the counters are frozen. -/
theorem test_counters_frozen :
    (let s := { base with dbg.dbcr0 := 0x40000000, dbg.dbcr3 := 0x80000000, dbg.dbcnt := 0x00050007, debugHalt := true }
     (s.setPins { Pins.idle with devt1 := true }).dbg.dbcnt == 0x00050007) = true := by decide +kernel

/-- spec/60_exceptions.md R2020: a critical input is taken before the instruction. -/
theorem test_step_critical_input :
    stepped 32 0x60000000 { withMsr 0x29200 base with pins := { Pins.idle with critint := true, avec := true } }
      (fun t => t.int.csrr0 == 0x1000 && t.int.csrr1 == 0x29200 && t.msr == 0x1000 && t.pc == 0x10000) = true := by
  decide +kernel

/-- spec/60_exceptions.md R2006: an external input that is not autovectored. -/
theorem test_step_external_input :
    stepped 32 0x60000000 { withMsr 0x29200 base with pins := { Pins.idle with extint := true, voffset := 0x1230 } }
      (fun t => t.msr == 0x21200 && t.pc == 0x11230) = true := by decide +kernel

/-- spec/61_debug.md R2215: a trap debug event takes the debug interrupt instead. -/
theorem test_step_trap_event :
    stepped 32 0x0FE00000 { withMsr 0x200 base with dbg.dbcr0 := 0x41000000, dbg.dbsr := 0, hid.hid0 := 0x100 }
      (fun t => t.dbg.dbsr == 0x01000000 && t.int.dsrr0 == 0x1000 && t.int.dsrr1 == 0x200 && t.pc == 0x100F0) = true := by
  decide +kernel

/-- spec/20_memory.md R440: a data TLB miss loads MAS2 and DEAR. -/
theorem test_step_tlb_miss :
    stepped 32 0x90640004 ({ State.reset with int.ivpr := 0x00010000 } |> r 4 0x40010000)
      (fun t => t.int.dear == 0x40010004 && t.int.esr == 0x00800000 && bits 0 22 t.mmu.mas2 == bits 0 22 0x40010004#32) =
      true := by decide +kernel

/-- spec/60_exceptions.md R2025 (d): dcbz takes the alignment interrupt. -/
theorem test_step_dcbz : stepped 32 0x7C0027EC (base |> r 4 0x802)
    (fun t => t.int.dear == 0x802 && t.int.esr == 0 && t.pc == 0x10050) = true := by decide +kernel

/-- spec/44_vle.md R981, R980: the volatile registers are stored and loaded in order. -/
theorem test_step_stmvgprw : stepped 32 0x180111F0 (base |> r 1 0xF02 |> r 0 0xA0 |> r 3 0xA3 |> r 12 0xAC)
    (fun t => t.int.esr == 0x00800020 && t.int.dear == 0xEF2) = true := by decide +kernel

/-- spec/62_timers_power_platform.md R2142: the decrementer reaches zero and reloads. -/
theorem test_tick_decrementer :
    (let t := ({ base with hid.hid0 := 0x4000, tim.dec := 1, tim.decar := 9, tim.tcr := 0x00400000 } : State).tick
     t.tim.dec == 9 && t.tim.tsr == 0x08000000 && t.tim.tb == 1) = true := by decide +kernel

/-- spec/70_reset_and_hazards.md R2300: reset takes pc and the reset page from the pins. -/
theorem test_reset_pins :
    (let t := ({ base with pins := { Pins.idle with rstbase := 0x3FFFFFFF, rstEndmode := true } } : State).hardReset
     t.pc == 0xFFFFFFFC && (t.mmu.entry 0).epn == 0x3FFFFF && (t.mmu.entry 0).e) = true := by decide +kernel

/-- spec/11_state_mmu_cache.md R205: a reset event invalidates entries 1 to 15 and maps the reset page with entry 0. -/
theorem test_reset_tlb :
    (let t := ({ base with mmu.tlb := Vector.replicate 16 allPage } : State).hardReset
     (t.mmu.entry 0).size == 2 && (t.mmu.entry 0).v && !(t.mmu.entry 1).v && !(t.mmu.entry 15).v) = true := by decide +kernel

/-- spec/60_exceptions.md R2050: a bus error on a store conditional is an error report with ST and G on a guarded page; on
another page it sets only BUS_WRERR with the address, and the instruction completes. -/
theorem test_stwcx_bus_error :
    (let at' (g : Bool) : State := { base with
       mmu.tlb := base.mmu.tlb.set 0 { allPage with g := g }, busErrors := [⟨.store, 0x2000, 0x2007⟩], reserve := true }
     after (.stwcxRc 3 0 4) (at' true |> r 4 0x2004) (fun t =>
         t.pc == 0x10010 && t.int.mcsr == 0x00086004 && t.int.mcsrr0 == 0x1000 && t.reserve && t.cr == 0) &&
       after (.stwcxRc 3 0 4) (at' false |> r 4 0x2004 |> r 3 7) (fun t =>
         t.pc == 0x1004 && t.int.mcsr == 0x00080004 && t.int.mcar == 0x2004 && !t.reserve && t.cr == 0x20000000 &&
           word t 0x2004 == 0)) = true := by decide +kernel

/-- spec/62_timers_power_platform.md R2170 (2): while stopped without m_clk an NMI pulse is lost, a level that is held is seen
when the clock is back. -/
theorem test_nmi_without_clock :
    (let asleep : Pins := { Pins.idle with stop := true, mclkOn := false }
     let s := (base.setPins asleep).setPins { asleep with nmi := true }
     s.nmiPending == false && (s.setPins Pins.idle).nmiPending == false &&
       (s.setPins { Pins.idle with nmi := true }).nmiPending) = true := by decide +kernel

/-! ## Witnesses: the hypotheses of every obligation are met -/

/-- The field of an SPR or DCR number. -/
def fieldOf (n : Nat) : BitVec 10 := BitVec.ofNat 10 (32 * (n % 32) + n / 32)

/-- An outcome that is a next state. -/
def isNext (o : Host.Outcome State Fault Refusal) : Bool :=
  match o with
  | .next _ => true
  | _ => false

theorem next_of {o : Host.Outcome State Fault Refusal} (h : isNext o = true) : ∃ t, o = .next t := by
  cases o with
  | next s => exact ⟨s, rfl⟩
  | fault _ => cases h
  | refused _ => cases h

theorem witness_ResetEvent : bit State.reset.dbg.dbcr0 0 = false := by decide +kernel

theorem reset_legal : State.reset.Legal := ⟨by decide +kernel, by decide +kernel, by decide +kernel, by decide +kernel⟩

theorem reset_samplesPins : State.reset.SamplesPins := fun _ => rfl

theorem witness_LegalIsKept : ∃ s t, s.Legal ∧ s.SamplesPins ∧ step s = .next t :=
  (next_of (o := step State.reset) (by decide +kernel)).elim fun t h =>
    ⟨State.reset, t, reset_legal, reset_samplesPins, h⟩

/-- The bytes and the page of a fetch. -/
def fetched (x : Fetched) : Option (List Byte × Page) :=
  match x with
  | .bytes bs p _ => some (bs, p)
  | _ => none

theorem bytes_of {x : Fetched} {bs : List Byte} {p : Page} (h : fetched x = some (bs, p)) : ∃ u, x = .bytes bs p u := by
  cases x with
  | bytes b p' u =>
    simp only [fetched, Option.some.injEq, Prod.mk.injEq] at h
    exact ⟨u, by rw [h.1, h.2]⟩
  | raised _ => cases h
  | stop _ => cases h

/-- What a decoder gives. -/
def decoded (x : Except Reject (Instr × List Byte)) : Option (Instr × List Byte) :=
  match x with
  | .ok p => some p
  | .error _ => none

/-- Why a decoder refuses. -/
noncomputable def rejection (p : Page) (bs : List Byte) : Option Reject :=
  match decodeBytes p bs with
  | .ok _ => none
  | .error e => some e

theorem error_of {p : Page} {bs : List Byte} {e : Reject} (h : rejection p bs = some e) : decodeBytes p bs = .error e := by
  unfold rejection at h
  split at h
  · cases h
  · cases h; assumption

theorem ok_of {x : Except Reject (Instr × List Byte)} {p : Instr × List Byte} (h : decoded x = some p) : x = .ok p := by
  cases x with
  | ok y => exact congrArg Except.ok (Option.some.inj h)
  | error _ => cases h

/-- The state of the step that runs `add 3, 4, 5` after reset. -/
noncomputable def placed : State := State.reset.withFetchWord 32 0x7C642A14

theorem witness_StepRunsDecoded : ∃ (s b u : State) (page : Page) (bs rest : List Byte) (i : Instr), s.Ready b ∧
    (let w := b.withIacHits
     let events := iacEvents w.dbg w.cur.iacHits
     ¬(events ≠ 0 ∧ w.idm = true ∧ w.de = true) ∧ (w.record events true).fetch = .bytes bs page u ∧
       decodeBytes page bs = .ok (i, rest)) := by
  obtain ⟨u, h⟩ := bytes_of (x := (placed.begin.withIacHits.record
    (iacEvents placed.begin.withIacHits.dbg placed.begin.withIacHits.cur.iacHits) true).fetch)
    (bs := [0x7C, 0x64, 0x2A, 0x14]) (p := .bookE) (by decide +kernel)
  exact ⟨placed, placed.begin, u, .bookE, _, [], .add 3 4 5,
    ⟨rfl, by decide +kernel, by decide +kernel, by decide +kernel, by decide +kernel⟩, by decide +kernel, h,
    ok_of (by decide +kernel)⟩

/-- The same state with a word of zeros at pc, which is no instruction. -/
theorem witness_StepRunsDecoded_rejected : ∃ (b u : State) (bs : List Byte), base.Ready b ∧
    (let w := b.withIacHits
     let events := iacEvents w.dbg w.cur.iacHits
     ¬(events ≠ 0 ∧ w.idm = true ∧ w.de = true) ∧ (w.record events true).fetch = .bytes bs .bookE u ∧
       decodeBytes .bookE bs = .error .illegal) := by
  obtain ⟨u, h⟩ := bytes_of (x := (base.begin.withIacHits.record
    (iacEvents base.begin.withIacHits.dbg base.begin.withIacHits.cur.iacHits) true).fetch)
    (bs := [0, 0, 0, 0]) (p := .bookE) (by decide +kernel)
  exact ⟨base.begin, u, _, ⟨rfl, by decide +kernel, by decide +kernel, by decide +kernel, by decide +kernel⟩,
    by decide +kernel, h, error_of (by decide +kernel)⟩

/-- Every address mapped to itself. -/
def whole : Mapping := { entry := allPage, flip := 0, multi := false }

/-- One page over every address. -/
def paged (e : TlbEntry) (a : Word) : State := { base with pc := a, mmu.tlb := base.mmu.tlb.set 0 e }

/-- The mapping of a page whose real addresses are its effective addresses. -/
def through (e : TlbEntry) : Mapping := { entry := e, flip := 0, multi := false }

/-- Two pages of 4 kilobytes: 0x1000 mapped to itself and 0x2000 mapped to 0x5000. -/
def lowPage : TlbEntry := { allPage with size := 2, epn := 4, rpn := 4 }
def highPage : TlbEntry := { allPage with size := 2, epn := 8, rpn := 20 }
def twoPages : State := { base with mmu.tlb := (base.mmu.tlb.set 0 lowPage).set 1 highPage }

/-- Two 4-kilobyte pages, with pc at the last half word of the first, which begins a 32-bit VLE instruction. -/
def vleEnd (second : TlbEntry) : State :=
  m2 0x1FFE 0x1C00 { twoPages with
    pc := 0x1FFE
    mmu.tlb := (base.mmu.tlb.set 0 { lowPage with vle := true }).set 1 second }

/-- The bytes that a fetch of n bytes at a reads. -/
def fetchedFrom (m : Mapping) (a : Word) (n : Nat) : List Word := (List.range n).map fun k => m.real a + BitVec.ofNat 32 k

/-- No mapping; a page that may not be executed, of either kind. -/
theorem witness_FetchReadsMemory_faults :
    State.reset.ic.enabled = false ∧
    (let s := { State.reset with pc := 0x1000 }
     s.ic.enabled = false ∧ s.lookup (bit s.msr 26) s.pc = none ∧ s.firstFetch = false) ∧
    (∀ vle : Bool,
      let e := { allPage with sx := false, vle := vle }
      let s := paged e 0x1000
      s.ic.enabled = false ∧ s.lookup (bit s.msr 26) s.pc = some (through e) ∧ (through e).mayExecute s.userMode = false ∧
      s.firstFetch = false) := by decide +kernel

/-- A Book E page with pc at a word and between two words; a little-endian VLE page. -/
theorem witness_FetchReadsMemory_bookE :
    (let s := paged allPage 0xFFFFFFFC
     s.ic.enabled = false ∧ s.lookup (bit s.msr 26) s.pc = some whole ∧ whole.multi = false ∧
     whole.mayExecute s.userMode = true ∧ whole.entry.vle = false ∧ bit s.pc 30 = false ∧
     s.busError .fetch (fetchedFrom whole s.pc 4) = false) ∧
    (let s := paged allPage 0x1002
     s.lookup (bit s.msr 26) s.pc = some whole ∧ bit s.pc 30 = true) ∧
    (let e := { allPage with vle := true, e := true }
     let s := paged e 0x1002
     s.lookup (bit s.msr 26) s.pc = some (through e) ∧ (through e).mayExecute s.userMode = true) := by decide +kernel

/-- A VLE page with a 16-bit and a 32-bit instruction. -/
theorem witness_FetchReadsMemory_vle :
    let e := { allPage with vle := true }
    let m := through e
    let s := paged e 0x1002
    let l := m2 0x1002 0x1C00 s
    (s.ic.enabled = false ∧ s.lookup (bit s.msr 26) s.pc = some m ∧ m.multi = false ∧ m.mayExecute s.userMode = true ∧
      m.entry.vle = true ∧ m.entry.e = false ∧ s.busError .fetch (fetchedFrom m s.pc 2) = false ∧
      isLongVle (s.byteAt (m.real s.pc) ++ s.byteAt (m.real s.pc + 1)) = false) ∧
    l.ic.enabled = false ∧ l.lookup (bit l.msr 26) l.pc = some m ∧ l.busError .fetch (fetchedFrom m l.pc 2) = false ∧
    isLongVle (l.byteAt (m.real l.pc) ++ l.byteAt (m.real l.pc + 1)) = true ∧ m.samePage l.pc (l.pc + 2) = true ∧
    l.busError .fetch (fetchedFrom m (l.pc + 2) 2) = false := by decide +kernel

/-- A 32-bit VLE instruction across two pages: the second is not mapped, not executable, not VLE, little-endian, good. -/
theorem witness_FetchReadsMemory_crossing :
    let m := through { lowPage with vle := true }
    (let s := vleEnd { highPage with v := false }
     s.ic.enabled = false ∧ s.lookup (bit s.msr 26) s.pc = some m ∧ m.mayExecute s.userMode = true ∧ m.entry.vle = true ∧
     m.entry.e = false ∧ s.busError .fetch (fetchedFrom m s.pc 2) = false ∧
     isLongVle (s.byteAt (m.real s.pc) ++ s.byteAt (m.real s.pc + 1)) = true ∧ m.samePage s.pc (s.pc + 2) = false ∧
     s.lookup (bit s.msr 26) (s.pc + 2) = none ∧ s.firstFetch = false) ∧
    (let e := { highPage with sx := false }
     let s := vleEnd e
     s.lookup (bit s.msr 26) s.pc = some m ∧ s.lookup (bit s.msr 26) (s.pc + 2) = some { whole with entry := e } ∧
     ({ whole with entry := e } : Mapping).mayExecute s.userMode = false) ∧
    (let s := vleEnd highPage
     s.lookup (bit s.msr 26) (s.pc + 2) = some { whole with entry := highPage } ∧ highPage.vle = false ∧
     ({ whole with entry := highPage } : Mapping).mayExecute s.userMode = true) ∧
    (let e := { highPage with vle := true, e := true }
     (vleEnd e).lookup (bit (vleEnd e).msr 26) ((vleEnd e).pc + 2) = some { whole with entry := e } ∧ e.e = true) ∧
    (let e := { highPage with vle := true }
     let n : Mapping := { whole with entry := e }
     (vleEnd e).lookup (bit (vleEnd e).msr 26) ((vleEnd e).pc + 2) = some n ∧
     (vleEnd e).busError .fetch (fetchedFrom n ((vleEnd e).pc + 2) 2) = false) := by decide +kernel

/-- The instruction cache on, check bits off, with one line: 0x2000 in way 1, whose tag check bits fit. -/
def cached : State :=
  { base with ic := { base.ic with l1csr1 := 1 }.setLine 0 1 { zeroLine with tag := 8, v := true, tchk := tagCheck 0 0 8 true } }

/-- The same with other contents of L1CSR1, and way 0 of set 0 locked or not. -/
def cachedWith (l1csr1 : Word) (lock : Bool) : State :=
  { cached with ic := { cached.ic with l1csr1 := l1csr1 }.setLine 0 0 { zeroLine with l := lock } }

/-- Both ways of set 0 locked. -/
def allLocked (l1csr1 : Word) : State :=
  { cachedWith l1csr1 true with ic := (cachedWith l1csr1 true).ic.setLine 0 1 { zeroLine with l := true } }

/-- Both ways disabled by L1CSR0[WID]. -/
def noWays : State := { cached with ic.l1csr0 := 0xC0000000 }

/-- A line with check bits that fit. -/
def goodLine (tag : BitVec 22) : CacheLine :=
  { zeroLine with tag := tag, v := true, tchk := tagCheck 0 0 tag true, dchk := Vector.replicate 4 (dataCheck 0 0 0) }

/-- The instruction cache with L1CSR1 as given and good lines in set 0, but for the data check bits if asked: 0x2000 in way 1,
way 0 locked or not, way 1 locked too if asked. -/
def checked (l1csr1 : Word) (lock : Bool) (badData : Bool := false) (lock1 : Bool := false) : State :=
  let l : CacheLine := if badData then { goodLine 8 with dchk := zeroLine.dchk } else goodLine 8
  let c := { base.ic with l1csr1 := l1csr1 }.setLine 0 0 { goodLine 20 with l := lock }
  { base with ic := c.setLine 0 1 { l with l := lock1 } }

/-- What may be decided of a set without tag errors. -/
abbrev CleanFacts (s : State) (ea : Word) : Prop :=
  s.ic.checking = false ∨ ∀ k < s.ic.ways, tagError s.ic.edt (s.ic.line (s.ic.setOf ea) k) = false

theorem noTagError_of {s : State} {ea : Word} (h : CleanFacts s ea) : ¬s.TagError ea := fun e =>
  h.elim (fun f => Bool.false_ne_true (f.symm.trans e.1))
    fun f => e.2.elim fun k hk => Bool.false_ne_true ((f k hk.1).symm.trans hk.2)

/-- What may be decided of a tag error in way k. -/
abbrev DirtyFacts (s : State) (ea : Word) (k : Nat) : Prop :=
  s.ic.checking = true ∧ k < s.ic.ways ∧ tagError s.ic.edt (s.ic.line (s.ic.setOf ea) k) = true

theorem tagError_of {s : State} {ea : Word} {k : Nat} (h : DirtyFacts s ea k) : s.TagError ea := ⟨h.1, k, h.2⟩

/-- No way can be filled if every line of the set is locked. -/
theorem noneAvailable_of {s : State} {set : Nat} (h : ∀ k < s.ic.ways, (s.ic.line set k).l = true) :
    ∀ k, k < s.ic.ways → ¬s.ic.Available set false k :=
  fun k hk e => e.2.elim nofun fun hl => Bool.false_ne_true (hl.symm.trans (h k hk))

/-- The first way of a set is the next to fill if it may be. -/
theorem nextWay_of {s : State} {set : Nat}
    (h : 0 < s.ic.ways ∧ s.ic.replace.toNat % s.ic.ways = 0 ∧ bit s.ic.l1csr0 0 = false ∧ (s.ic.line set 0).l = false) :
    s.ic.NextWay set false 0 :=
  ⟨0, h.1, by simpa using h.2.1.symm, ⟨h.2.2.1, .inr h.2.2.2⟩, fun i hi => absurd hi (Nat.not_lt_zero i)⟩

/-- spec/10_state.md R74, spec/62_timers_power_platform.md R2187: a bus error on a beat of a line fill beside the bytes wanted
sets BUS_IRERR and MAV at once, leaves the line invalid, and the bytes are delivered. -/
theorem test_fill_bus_error :
    (match { checked 0x10001 false with busErrors := [⟨.fetch, 0x4000, 0x4003⟩] }.fetchBytes 0x4004 0x4004 4 allPage with
    | .bytes bs t => bs == [0, 0, 0, 0] && t.int.mcsr == 0x00080010 && t.int.mcar == 0x4004 && (t.ic.hitWay 0x4004 0x4004).isNone
    | _ => false) = true := by decide +kernel

/-- The cache off, with a bus error and without; a reserved code of ICEDT. -/
theorem witness_FetchReadsMemory_cacheOff :
    base.ic.enabled = false ∧ base.codeError 0x2000 4 = false ∧
    (let s := { base with busErrors := [⟨.fetch, 0x2002, 0x2003⟩] }
     s.ic.enabled = false ∧ s.codeError 0x2000 4 = true) ∧
    (let s := cachedWith 0x12001 false
     s.ic.enabled = true ∧ s.ic.checking = true ∧ 2 ≤ s.ic.edt) ∧
    (0x2004#32).toNat % 1024 = (0x4004#32).toNat % 1024 ∧ (0x2004#32).toNat % 8 + 4 ≤ 8 := by decide +kernel

/-- The cache on without a tag error: a hit with good data. -/
theorem witness_FetchReadsMemory_hit :
    (∀ s ∈ [cached, checked 0x10001 false, checked 0x10021 false],
      s.ic.enabled = true ∧ s.ic.edt < 2 ∧ CleanFacts s 0x2004 ∧ s.ic.hitWay 0x2004 0x2004 = some 1) ∧
    ¬cached.DataError (cached.ic.line 0 1) 0x2004 ∧
    ¬(checked 0x10001 false).DataError ((checked 0x10001 false).ic.line 0 1) 0x2004 :=
  ⟨by decide +kernel, fun h => absurd h.1 (by decide +kernel), fun h => absurd h.2 (by decide +kernel)⟩

/-- A hit with a data error for each ICEA, in a locked line and in one that is not, with a bus error and without. -/
theorem witness_FetchReadsMemory_dataErrors :
    (∀ l1csr1 ∈ [0x10001#32, 0x10021, 0x10041], ∀ lock ∈ [false, true],
      ∀ errors ∈ [[], [(⟨.fetch, 0x2000, 0x2003⟩ : BusErrorRegion)]],
      let s := { checked l1csr1 false true lock with busErrors := errors }
      s.ic.enabled = true ∧ s.ic.edt < 2 ∧ CleanFacts s 0x2004 ∧ s.ic.setOf 0x2004 = 0 ∧
      s.ic.hitWay 0x2004 0x2004 = some 1 ∧ s.ic.action = (l1csr1 - 0x10001).toNat / 32 ∧ (s.ic.line 0 1).l = lock ∧
      s.lineError 0x2004 = !errors.isEmpty) ∧
    (checked 0x10001 false true).DataError ((checked 0x10001 false true).ic.line 0 1) 0x2004 :=
  ⟨by decide +kernel, by decide +kernel, by decide +kernel⟩

/-- The cache on without a tag error: a miss with a way to fill, with a bus error and without, and with every way locked. -/
theorem witness_FetchReadsMemory_miss :
    (∀ s ∈ [cached, checked 0x10001 false, checked 0x10001 true false true,
        { checked 0x10001 false with busErrors := [⟨.fetch, 0x4000, 0x4003⟩] }],
      s.ic.enabled = true ∧ s.ic.edt < 2 ∧ CleanFacts s 0x4004 ∧ s.ic.setOf 0x4004 = 0 ∧
      s.ic.hitWay 0x4004 0x4004 = none ∧ s.lineError 0x4004 = !s.busErrors.isEmpty) ∧
    (checked 0x10001 false).ic.NextWay 0 false 0 ∧ cached.ic.NextWay 0 false 0 ∧
    ∀ k, k < (checked 0x10001 true false true).ic.ways → ¬(checked 0x10001 true false true).ic.Available 0 false k :=
  ⟨by decide +kernel, nextWay_of (by decide +kernel), nextWay_of (by decide +kernel), noneAvailable_of (by decide +kernel)⟩

/-- Tag errors for each ICEA, in a locked line and with none locked. -/
theorem witness_FetchReadsMemory_tagErrors :
    (∀ p ∈ [(0x10001#32, 0), (0x10021#32, 1), (0x10041#32, 2)], ∀ lock ∈ [false, true],
      let s := cachedWith p.1 lock
      s.ic.enabled = true ∧ s.ic.edt < 2 ∧ DirtyFacts s 0x2004 0 ∧ s.ic.action = p.2 ∧ s.ic.setOf 0x2004 = 0 ∧
      checkTag s.ic.edt (s.ic.line 0 0) = .bad ∧ (s.ic.line 0 0).l = lock) ∧
    ¬(cachedWith 0x10021 false).LockedTagLost 0x2004 ∧ (cachedWith 0x10021 true).LockedTagLost 0x2004 :=
  ⟨by decide +kernel,
    fun ⟨k, hk, _, hl⟩ => Bool.false_ne_true
      (((by decide +kernel : ∀ k < (cachedWith 0x10021 false).ic.ways,
        ((cachedWith 0x10021 false).ic.line ((cachedWith 0x10021 false).ic.setOf 0x2004) k).l = false) k hk).symm.trans hl),
    ⟨0, by decide +kernel, by decide +kernel, by decide +kernel⟩⟩

/-- The first fetch of a handler: no page, no permission, a Book E half word, a little-endian VLE page. -/
theorem witness_FetchReadsMemory_handler :
    (∀ p ∈ [({ allPage with sx := false }, 0x1000#32), (allPage, 0x1002), ({ allPage with vle := true, e := true }, 0x1000)],
      let s := { paged p.1 p.2 with firstFetch := true }
      s.lookup (bit s.msr 26) s.pc = some (through p.1) ∧ s.firstFetch = true ∧
      ((through p.1).mayExecute s.userMode = false ∨ (p.1.vle = false ∧ bit s.pc 30 = true) ∨
        (p.1.vle = true ∧ p.1.e = true))) := by decide +kernel

/-- After the first half of a 32-bit VLE instruction the second page is not mapped, not executable, of the other kind, or good;
as an ordinary fetch and as the first one of a handler. -/
theorem witness_FetchReadsMemory_goesOn :
    ∀ e ∈ [{ highPage with v := false }, { highPage with sx := false }, highPage, { highPage with vle := true }],
      ∀ first ∈ [false, true],
      (match ({ vleEnd e with firstFetch := first, cur.vle := true } : State).fetchBytes 0x1FFE 0x1FFE 2 lowPage with
        | .bytes bs u => decide (isLongVle (bs.getD 0 0 ++ bs.getD 1 0) = true ∧ u.firstFetch = first ∧
          u.lookup (bit u.msr 26) 0x2000 = if e.v then some (through e) else none)
        | _ => false) = true := by decide +kernel

theorem witness_DecodeInvertsEncode : (Instr.add 31 0 31).wellFormed = true ∧ (Instr.mbar 2).wellFormed = true := by decide

theorem witness_DecodedIsWellFormed : ∃ p bs rest i, decodeBytes p bs = .ok (i, rest) :=
  ⟨.bookE, [0x7C, 0x64, 0x2A, 0x14], [], .add 3 4 5, ok_of (by decide +kernel)⟩

/-- lswx; lfs and fadd; a double-precision word; a reserved field of isync; an opcode-4 word, and half words, of a VLE page. -/
theorem witness_DecodedIsWellFormed_rejected :
    UnimplementedWord 0x7C64042A ∧ FloatingPointWord 0xC0640000 ∧ FloatingPointWord 0xFC64282A ∧ FloatingPointWord 0x7C64042E ∧
    DoublePrecisionWord 0x106422E0 ∧ DoublePrecisionWord 0x100002CF ∧
    (¬UnimplementedWord 0x4C00012D ∧ ¬FloatingPointWord 0x4C00012D ∧ ¬DoublePrecisionWord 0x4C00012D) ∧
    ¬DoublePrecisionWord 0x10000000 ∧ (0x10000000#32).toNat / 2 ^ 26 = 4 ∧
    rejection .bookE (wordBytes 0x4C00012D) = some .illegal ∧ rejection .vle (wordBytes 0x10000000) = some .illegal ∧
    rejection .vle [0x70, 0, 0, 0] = some .vleOutside ∧ rejection .vle [0x70, 0] = some .truncated ∧
    rejection .vle [0x80, 0] = some .vleOutside := by
  unfold UnimplementedWord FloatingPointWord DoublePrecisionWord; decide +kernel

theorem witness_InterruptEntry : bit (0x10010#32) 31 = false := by decide

theorem witness_ReturnsFromInterrupt :
    (let s := { base with hid.hid0 := 0x100 }
     s.userMode = false ∧ s.debugNow 16 = false ∧ s.debugNow 26 = false ∧ bit s.hid.hid0 23 = true) ∧
    bit base.hid.hid0 23 = false := by decide +kernel

theorem witness_PrivilegedInstructionsTrap :
    let s := { user base with hid.hid0 := 0x100 }
    s.userMode = true ∧ Instr.tlbwe.isPrivileged = true ∧ bit s.hid.hid0 23 = true ∧
    (numberOf 0x200).testBit 4 = true ∧ (numberOf 0x3FF).testBit 4 = true := by decide +kernel

theorem witness_UserModeKeepsControl : ∃ i s t, s.userMode = true ∧ s.midway = [] ∧ exec i s = .next t :=
  (next_of (o := exec (.add 3 4 5) (user base)) (by decide +kernel)).elim fun t h =>
    ⟨.add 3 4 5, user base, t, by decide +kernel, by decide +kernel, h⟩

/-- A state with pins, MSR, TSR and TCR as given. -/
def asked (p : Pins) (msr tsr tcr : Word) : State := { base with pins := p, msr := msr, tim.tsr := tsr, tim.tcr := tcr }

theorem witness_AsynchronousInterrupts :
    let free := asked Pins.idle 0 0 0
    (free.begin.suspended = false ∧ { free with waiting := true }.begin.pending = none ∧
      { free with waiting := true }.begin.waiting = true ∧ { free with debugHalt := true }.begin.suspended = true) ∧
    (let s := { asked { Pins.idle with extint := true, mclkOn := false } 0x8000 0 0 with waiting := true }
     s.begin.waiting = true ∧ s.begin.pins.mclkOn = false) ∧
    (asked { Pins.idle with critint := true } 0x20000 0 0).begin.pending = some .criticalInput ∧
    (asked Pins.idle 0x20000 0x40000000 0x08000000).begin.pending = some .watchdog ∧
    (asked { Pins.idle with extint := true } 0x8000 0 0).begin.pending = some .externalInput ∧
    (asked Pins.idle 0x8000 0x04000000 0x00800000).begin.pending = some .fixedInterval ∧
    (asked Pins.idle 0x8000 0x08000000 0x04000000).begin.pending = some .decrementer := by decide +kernel

/-- HID0[TBEN] = 1, with the decrementer, the status and the control as given. -/
def ticking (d tsr tcr : Word) : State := { base with hid.hid0 := 0x4000, tim.dec := d, tim.tsr := tsr, tim.tcr := tcr }

/-- The time base one tick before its most significant bit is set, in the last stage of the watchdog. -/
def rising : State := { ticking 2 0xC0000000 0x30000000 with tim.tb := 0x7FFFFFFFFFFFFFFF }

/-- The clock that does not count, or the time base off; the decrementer at 0, 1 and 2; the watched bit rising or not, in
every stage of the watchdog. -/
theorem witness_TimerTick :
    (TimeBaseClock.tbclk ≠ if bit base.hid.hid0 18 then .tbclk else .mclk) ∧ bit base.hid.hid0 17 = false ∧
    (let s := ticking 2 0 0
     (TimeBaseClock.mclk = if bit s.hid.hid0 18 then .tbclk else .mclk) ∧ bit s.hid.hid0 17 = true ∧
     s.pins.tbdisable = false ∧ s.timersFrozen = false ∧ s.debugHalt = false) ∧
    (ticking 0 0 0).timersFrozen = false ∧ (ticking 1 0 0).timersFrozen = false ∧
    (ticking 0 0 0).tim.dec = 0 ∧ (ticking 1 0 0).tim.dec = 1 ∧ (ticking 2 0 0).tim.dec = 2 ∧
    (let s := ticking 2 0 0x0301E000
     s.tim.tb.getMsbD 63 = false ∧ (s.applyEvent (.tick .mclk)).tim.tb.getMsbD 63 = true ∧
     4 * (bits 15 4 s.tim.tcr).toNat + (bits 6 2 s.tim.tcr).toNat = 63) ∧
    rising.tim.tb.getMsbD 0 = false ∧ (rising.applyEvent (.tick .mclk)).tim.tb.getMsbD 0 = true ∧
    bit (ticking 2 0 0).tim.tsr 0 = false ∧ bit (ticking 2 0x80000000 0).tim.tsr 1 = false ∧
    bit (ticking 2 0xC0000000 0).tim.tsr 1 = true ∧
    (let s := ticking 2 0 0
     (s.applyEvent (.tick .mclk)).tim.tb.getMsbD 0 = false) := by decide +kernel

/-- Ticks that do not count: p_tbdisable, the debug freeze, no m_clk; a debug session with each EDBCR0[DFT]. -/
theorem witness_TimerTick_frozen :
    (let s := { ticking 2 0 0 with pins := { Pins.idle with tbdisable := true } }
     s.pins.tbdisable = true) ∧
    (let s := { ticking 2 0 0 with dbg.dbcr0 := 1, dbg.dbsr := 0x40000000 }
     bit s.dbg.dbcr0 31 = true ∧ bit s.dbg.dbsr 1 = true) ∧
    (let s := { ticking 2 0 0 with pins := { Pins.idle with mclkOn := false }, waiting := true }
     s.pins.mclkOn = false ∧ s.waiting = true) ∧
    ∀ n ∈ [0, 1, 2, 3],
      let s := { ticking 2 0 0 with debugHalt := true, once.edbcr0 := BitVec.ofNat 32 (n * 0x10000000) }
      s.debugHalt = true ∧ (bits 2 2 s.once.edbcr0).toNat = n := by decide +kernel

/-- An instruction of each kind, and mtspr of a register other than SPEFSCR. -/
theorem witness_OnlyTheirInstructionsChange :
    (∃ i s t, exec i s = .next t ∧ Instr.isReservation i = false ∧ s.midway = []) ∧
    (∃ i s t, exec i s = .next t ∧ Instr.usesSpe i = false ∧ ∀ r f, i ≠ .mfspr r f) ∧
    ∀ i ∈ [Instr.add 3 4 5, .brinc 3 4 5, .stw 3 4 0, .mtspr 3 (fieldOf 1)], ∃ t, exec i base = .next t ∧
      i.isFloating = false ∧ i.setsOverflow = false ∧ ∀ r f, i = .mtspr r f → numberOf f ≠ 512 := by
  refine ⟨(next_of (o := exec (.add 3 4 5) base) (by decide +kernel)).elim fun t h =>
      ⟨.add 3 4 5, base, t, h, by decide, by decide +kernel⟩,
    (next_of (o := exec (.add 3 4 5) base) (by decide +kernel)).elim fun t h => ⟨.add 3 4 5, base, t, h, by decide, nofun⟩,
    fun i hi => ?_⟩
  have h := (by decide +kernel : ∀ i ∈ [Instr.add 3 4 5, .brinc 3 4 5, .stw 3 4 0, .mtspr 3 (fieldOf 1)],
    isNext (exec i base) = true ∧ i.isFloating = false ∧ i.setsOverflow = false ∧
      (match i with | .mtspr _ f => decide (numberOf f ≠ 512) | _ => true) = true) i hi
  exact (next_of h.1).elim fun t ht => ⟨t, ht, h.2.1, h.2.2.1, fun r f e => by
    subst e; exact of_decide_eq_true h.2.2.2⟩

/-- The double word at 0x2000 answers loads and stores with ERROR. -/
def broken (e : TlbEntry) : State :=
  { paged e 0x1000 with busErrors := [⟨.load, 0x2000, 0x2007⟩, ⟨.store, 0x2000, 0x2007⟩] }

/-- What may be decided of a mapping. -/
abbrev MapFacts (s : State) (ea : Word) (n : Nat) (m m2 : Mapping) : Prop :=
  s.lookup (bit s.msr 27) ea = some m ∧ m.multi = false ∧
  (m.samePage ea (ea + BitVec.ofNat 32 (n - 1)) = true → m2 = m) ∧
  (m.samePage ea (ea + BitVec.ofNat 32 (n - 1)) = false → s.lookup (bit s.msr 27) (m.nextPage ea) = some m2) ∧
  m2.multi = false ∧ m2.entry.e = m.entry.e

theorem mapsData_of {s : State} {ea : Word} {n : Nat} {m m2 : Mapping} (h : MapFacts s ea n m m2) : s.MapsData ea n m m2 :=
  ⟨h.1, h.2.1, h.2.2.1, h.2.2.2.1, h.2.2.2.2.1, h.2.2.2.2.2⟩

/-- A pending NMI, an enabled asynchronous machine check, an enabled debug event. -/
theorem witness_MachineCheckAndDebugInterrupts :
    (∀ s ∈ [{ base with nmiPending := true }, { withMsr 0x1000 base with int.mcsr := 0x4 }],
      s.begin.suspended = false ∧ s.begin.pending = some .machineCheck) ∧
    (let s := { withMsr 0x200 base with dbg.dbcr0 := 0x40000000, dbg.dbsr := 0x80000000 }
     s.begin.suspended = false ∧ s.begin.pending = some .debug) ∧
    (let s := { State.reset with pc := 0x1000, firstFetch := true }
     s.firstFetch = true ∧ s.lookup (bit s.msr 26) s.pc = none) := by decide +kernel

/-- Bus errors within a double word, in a page that is neither cache-inhibited nor guarded, is guarded, or is both. -/
theorem witness_MachineCheckAndDebugInterrupts_busErrors :
    (∀ e ∈ [allPage, { allPage with g := true }, { allPage with i := true, g := true }],
      let s := broken e
      (0x2004#32).toNat % 8 + 4 ≤ 8 ∧ s.idm = false ∧ MapFacts s 0x2004 4 (through e) (through e) ∧
      (through e).mayRead s.userMode = true ∧ (through e).mayWrite s.userMode = true ∧
      s.busError .load (realAddresses (through e) (through e) 0x2004 4) = true ∧
      s.busError .store (realAddresses (through e) (through e) 0x2004 4) = true) ∧
    (broken allPage).MapsData 0x2004 4 whole whole ∧
    ¬(whole.entry.g = true ∧ (AccessKind.atomic = .atomic ∨ whole.entry.i = true)) :=
  ⟨by decide +kernel, mapsData_of (by decide +kernel), by decide +kernel⟩

/-- An edge with m_clk and without; a bus error on a fetch with the cache off, in a Book E and in a VLE page, on the first fetch
of a handler and on another. -/
theorem witness_MachineCheckAndDebugInterrupts_fetch :
    (let p : Pins := { Pins.idle with nmi := true, mcp := true }
     base.sampled.nmi = false ∧ base.sampled.mcp = false ∧ p.mclkOn = true ∧ p.nmi = true ∧ p.mcp = true) ∧
    (let p : Pins := { Pins.idle with nmi := true, mclkOn := false, stop := true }
     ¬(p.mclkOn = true ∨ (base.waiting = false ∧ base.debugHalt = false ∧ p.halt = false ∧ p.stop = false))) ∧
    (∀ vle ∈ [false, true], ∀ first ∈ [false, true],
      let e := { allPage with vle := vle }
      let s := { paged e 0x1000 with busErrors := [⟨.fetch, 0x1000, 0x1001⟩], firstFetch := first }
      s.lookup (bit s.msr 26) s.pc = some (through e) ∧ (through e).multi = false ∧
      (through e).mayExecute s.userMode = true ∧ s.ic.enabled = false ∧
      s.codeError ((through e).real s.pc) (if e.vle then 2 else 4) = true ∧ bit s.pc 30 = false ∧ e.e = false) := by
  decide +kernel

/-- Internal debug mode with the DBCR0 bits given enabled, and MSR[DE] = 1. -/
def debugged (events : Word) : State := { withMsr 0x200 base with dbg.dbcr0 := 0x40000000 ||| events }

theorem witness_DebugEventsInstead :
    (debugged 0x04000000).debugNow 5 = true ∧ Taken (debugged 0x04000000) 20 0 ∧ (debugged 0x01000000).debugNow 7 = true ∧
    Traps 4 ((debugged 0x01000000).r 3) ((debugged 0x01000000).r 4) ∧ Traps 4 ((debugged 0x01000000).r 3) (wordOf 0) ∧
    (debugged 0x00008000).userMode = false ∧ (debugged 0x00008000).debugNow 16 = true ∧
    (debugged 0x00000020).userMode = false ∧ (debugged 0x00000020).debugNow 26 = true := by
  unfold Taken Traps; decide +kernel

/-- The same with DE = 0; an instruction address compare at pc that takes the interrupt. -/
theorem witness_DebugEventsInstead_iac :
    (bit base.msr 22 = false ∧ Traps 4 (base.r 3) (base.r 4) ∧ base.userMode = false) ∧
    (let s := { debugged 0x00800000 with dbg.iac := (debugged 0).dbg.iac.set 0 0x1000 }
     let b := s.begin
     b.suspended = false ∧ b.pending = none ∧ b.waiting = false ∧ b.debugReserved = false ∧ b.idm = true ∧
     bit b.msr 22 = true ∧ b.withIacHits.cur.iacHits.getLsbD 0 = true ∧ b.dbg.IacEvent b.withIacHits.cur.iacHits 8) := by
  refine ⟨by unfold Traps; decide +kernel, by decide +kernel, by decide +kernel, by decide +kernel, by decide +kernel,
    by decide +kernel, by decide +kernel, by decide +kernel, .inl ⟨rfl, ?_⟩⟩
  unfold DebugRegs.OwnIacEvent; decide +kernel

/-- Internal debug mode with DE 1 or 0, DAC1 = 0x2000 and the DBCR0 bits given enabled, in a page of its own or in none. -/
def watching (s : State) (de : Bool) (enabled : Word) : State :=
  { s with msr := if de then 0x200 else 0, dbg.dbcr0 := 0x40000000 ||| enabled, dbg.dac1 := 0x2000 }

/-- A data access without a page and one without permission, with and without an address compare that is enabled, with DE 1 and
0. -/
theorem witness_DebugEventsInstead_data :
    (∀ de ∈ [false, true],
      let s := watching { State.reset with pc := 0x1000 } de 0x000C0000
      s.idm = true ∧ s.dbg.dbcr3 = 0 ∧ s.lookup (bit s.msr 27) 0x2000 = none) ∧
    (∀ de ∈ [false, true], ∀ hit ∈ [false, true],
      let m := through { allPage with sr := false, sw := false }
      let s := watching (paged m.entry 0x1000) de (if hit then 0x000C0000 else 0)
      s.idm = true ∧ s.dbg.dbcr3 = 0 ∧ s.lookup (bit s.msr 27) 0x2000 = some m ∧ m.mayRead s.userMode = false ∧
      m.mayWrite s.userMode = false ∧ bits 12 2 s.dbg.dbcr0 = if hit then 3 else 0) := by decide +kernel

/-- The enabled compare records a load and a store at its address that fault. -/
theorem watching_records (de store : Bool) : (watching base de 0x000C0000).FaultRecords 0x2000 store 0 store :=
  .inr ⟨rfl, .inl (by cases de <;> decide +kernel),
    ⟨⟨.inl (by cases de <;> decide +kernel), .inl (by cases de <;> decide +kernel)⟩,
      .inl ⟨by cases de <;> decide +kernel, by unfold sameAbove; cases de <;> decide +kernel⟩⟩,
    by cases de <;> decide +kernel,
    fun h => absurd h (by unfold DebugRegs.Linked; cases de <;> decide +kernel)⟩

/-- Internal debug mode on and off, no reserved value compare code; edges of the debug pins outside a debug session and in one;
DEVENT with and without an output. -/
theorem witness_DebugEventsInstead_rest :
    base.dbg.ValueCodes ∧ base.idm = false ∧ (debugged 0).idm = true ∧
    (∀ halted ∈ [false, true],
      let s := { debugged 0 with debugHalt := halted }
      s.idm = true ∧ s.cur.wroteDbcnt = false ∧ s.debugHalt = halted ∧ s.pins.devt1 = false ∧ s.pins.devt2 = false ∧
      s.pins.ude = false) ∧
    numberOf (fieldOf 975) = 975 ∧ bit ((base |> r 3 0x0F).r 3) 31 = true ∧ bits 24 8 (base.r 3) = 0 := by
  unfold DebugRegs.ValueCodes; decide +kernel

theorem witness_AlignmentInterrupts :
    let s := { on base with reserve := true } |> r 4 0x1001
    (s.eaD 4 0).toNat % 4 ≠ 0 ∧ (s.eaD8 4 2).toNat % 4 ≠ 0 ∧ (s.eaX 4 0).toNat % 4 ≠ 0 ∧ (s.eaX 4 0).toNat % 2 ≠ 0 ∧
    s.reserve = true ∧ s.userMode = false ∧ s.speOn = true ∧ (s.eaScaled 4 1 8).toNat % 4 ≠ 0 := by decide +kernel

theorem witness_TranslationFaults :
    let m : Mapping := { whole with entry.sr := false, entry.sw := false }
    let s := { base with mmu.tlb := base.mmu.tlb.set 0 m.entry }
    State.reset.idm = false ∧ State.reset.lookup (bit State.reset.msr 27) 0x1000 = none ∧ s.idm = false ∧
    s.lookup (bit s.msr 27) 0x2000 = some m ∧ m.mayRead s.userMode = false ∧ m.mayWrite s.userMode = false := by
  decide +kernel

/-- An access across two pages: the second is not mapped, gives no permission, or is little-endian. -/
theorem witness_TranslationFaults_secondPage :
    let m := through lowPage
    ∀ e ∈ [{ highPage with v := false }, { highPage with sr := false, sw := false }, { highPage with e := true }],
      let s := { twoPages with mmu.tlb := (base.mmu.tlb.set 0 lowPage).set 1 e }
      s.idm = false ∧ s.lookup (bit s.msr 27) 0x1FFE = some m ∧ m.mayRead s.userMode = true ∧
      m.mayWrite s.userMode = true ∧ m.samePage 0x1FFE (0x1FFE + BitVec.ofNat 32 (4 - 1)) = false ∧
      m.nextPage 0x1FFE = 0x2000 ∧ m.multi = false ∧
      (if e.v then s.lookup (bit s.msr 27) 0x2000 = some (through e) ∧ (through e).mayRead s.userMode = e.sr ∧
          (through e).mayWrite s.userMode = e.sw ∧ (e.e = true → m.entry.e ≠ e.e)
        else s.lookup (bit s.msr 27) 0x2000 = none) := by decide +kernel

theorem witness_SpeUnavailable : base.speOn = false ∧ (Instr.evabs 3 4).usesSpe = true := by decide +kernel

theorem witness_MultiplyDivideInstructions :
    (∃ a b : Word, ¬(b = 0 ∨ (a = 0x80000000 ∧ b = 0xFFFFFFFF)) ∧ b ≠ 0) ∧ (∃ b : Word, b = 0) ∧
    ∃ s : State, s.r 3 = 0x80000000 ∧ s.r 4 = 0xFFFFFFFF :=
  ⟨⟨0x80000000, 1, by decide, by decide⟩, ⟨0, rfl⟩, base |> r 3 0x80000000 |> r 4 0xFFFFFFFF, by decide +kernel⟩

theorem witness_CompareAndTrapInstructions :
    ¬Traps 0 (base.r 3) (base.r 4) ∧ ¬Traps 24 (base.r 3) (wordOf 0) ∧ base.debugNow 7 = false ∧
    Traps 4 (base.r 3) (base.r 4) ∧ Traps 4 (base.r 3) (wordOf 0) := by unfold Traps; decide +kernel

theorem witness_BranchInstructions :
    bit base.pc 31 = false ∧ base.debugNow 5 = false ∧ Taken base 20 0 ∧ ¬Taken base 12 0 := by
  unfold Taken; decide +kernel

/-- What may be decided of a load. -/
abbrev LoadFacts (s : State) (ea : Word) (n : Nat) (m m2 : Mapping) : Prop :=
  s.lookup (bit s.msr 27) ea = some m ∧ m.multi = false ∧
  (m.samePage ea (ea + BitVec.ofNat 32 (n - 1)) = true → m2 = m) ∧
  (m.samePage ea (ea + BitVec.ofNat 32 (n - 1)) = false → s.lookup (bit s.msr 27) (m.nextPage ea) = some m2) ∧
  m2.multi = false ∧ m2.entry.e = m.entry.e ∧
  (m.mayRead s.userMode = true ∧ m2.mayRead s.userMode = true) ∧
  s.busError .load (realAddresses m m2 ea n) = false

theorem canLoad_of {s : State} {ea : Word} {n : Nat} {m m2 : Mapping} (h : LoadFacts s ea n m m2) : s.CanLoad ea n m m2 :=
  ⟨⟨h.1, h.2.1, h.2.2.1, h.2.2.2.1, h.2.2.2.2.1, h.2.2.2.2.2.1⟩, h.2.2.2.2.2.2.1, h.2.2.2.2.2.2.2⟩

/-- What may be decided of a store. -/
abbrev StoreFacts (s : State) (ea : Word) (n : Nat) (m m2 : Mapping) : Prop :=
  s.lookup (bit s.msr 27) ea = some m ∧ m.multi = false ∧
  (m.samePage ea (ea + BitVec.ofNat 32 (n - 1)) = true → m2 = m) ∧
  (m.samePage ea (ea + BitVec.ofNat 32 (n - 1)) = false → s.lookup (bit s.msr 27) (m.nextPage ea) = some m2) ∧
  m2.multi = false ∧ m2.entry.e = m.entry.e ∧
  (m.mayWrite s.userMode = true ∧ m2.mayWrite s.userMode = true) ∧
  s.busError .store (realAddresses m m2 ea n) = false

theorem canStore_of {s : State} {ea : Word} {n : Nat} {m m2 : Mapping} (h : StoreFacts s ea n m m2) : s.CanStore ea n m m2 :=
  ⟨⟨h.1, h.2.1, h.2.2.1, h.2.2.2.1, h.2.2.2.2.1, h.2.2.2.2.2.1⟩, h.2.2.2.2.2.2.1, h.2.2.2.2.2.2.2⟩

/-- A load of registers 4 and 5 within a page, at the end of the address space, and across two pages. -/
theorem witness_LoadInstructions :
    (base |> r 4 0x2000).CanLoad ((base |> r 4 0x2000).eaD 4 1) 4 whole whole ∧
    base.CanLoad (base.eaD 0 0xFFFE) 4 whole whole ∧
    twoPages.CanLoad 0x1FFD 4 { whole with entry := lowPage } { whole with entry := highPage } :=
  ⟨canLoad_of (by decide +kernel), canLoad_of (by decide +kernel), canLoad_of (by decide +kernel)⟩

theorem witness_StoreInstructions :
    (base |> r 4 0x2000).CanStore ((base |> r 4 0x2000).eaD 4 1) 4 whole whole ∧
    base.CanStore (base.eaD 0 0xFFFE) 4 whole whole ∧
    twoPages.CanStore 0x1FFD 4 { whole with entry := lowPage } { whole with entry := highPage } :=
  ⟨canStore_of (by decide +kernel), canStore_of (by decide +kernel), canStore_of (by decide +kernel)⟩

theorem words_loadable (n : Nat) (hn : n ≤ 32) : base.CanLoadWords 0 n fun _ => whole := by
  intro k hk
  have h : ∀ k, k < 32 → base.CanLoad (0 + BitVec.ofNat 32 (4 * k)) 4 whole whole := fun k hk =>
    canLoad_of
      ((by decide +kernel : ∀ k < 32, LoadFacts base (0 + BitVec.ofNat 32 (4 * k)) 4 whole whole) k hk)
  exact h k (Nat.lt_of_lt_of_le hk hn)

theorem words_storable (n : Nat) (hn : n ≤ 32) : base.CanStoreWords 0 n fun _ => whole := by
  intro k hk
  have h : ∀ k, k < 32 → base.CanStore (0 + BitVec.ofNat 32 (4 * k)) 4 whole whole := fun k hk =>
    canStore_of
      ((by decide +kernel : ∀ k < 32, StoreFacts base (0 + BitVec.ofNat 32 (4 * k)) 4 whole whole) k hk)
  exact h k (Nat.lt_of_lt_of_le hk hn)

/-- A state in which an external input arrives inside the multiple that runs next, after j transfers. -/
def interruptedAt (j : Nat) : State :=
  { withMsr 0x8000 base with midway := [{ after := j, ticks := 0, pins := { Pins.idle with extint := true } }] }

theorem interrupted_loadable : (interruptedAt 31).CanLoadWords 0 31 fun _ => whole := fun k hk =>
  canLoad_of
    ((by decide +kernel : ∀ k < 31, LoadFacts (interruptedAt 31) (0 + BitVec.ofNat 32 (4 * k)) 4 whole whole) k hk)

theorem interrupted_storable : (interruptedAt 31).CanStoreWords 0 31 fun _ => whole := fun k hk =>
  canStore_of
    ((by decide +kernel : ∀ k < 31, StoreFacts (interruptedAt 31) (0 + BitVec.ofNat 32 (4 * k)) 4 whole whole) k hk)

/-- All 32 registers, and the last one alone; an interrupt before the first transfer, and before the last of 32. -/
theorem witness_MultipleInstructions :
    ((base.eaD 0 0).toNat % 4 = 0 ∧ (base.eaD8 0 0).toNat % 4 = 0 ∧ base.midway = [] ∧
      (interruptedAt 31).eaD 0 0 = 0 ∧ (interruptedAt 31).eaD8 0 0 = 0) ∧
    base.CanLoadWords (base.eaD 0 0) (32 - (0 : Reg).toNat) (fun _ => whole) ∧
    base.CanLoadWords (base.eaD8 0 0) (32 - (31 : Reg).toNat) (fun _ => whole) ∧
    base.CanStoreWords (base.eaD 0 0) (32 - (0 : Reg).toNat) (fun _ => whole) ∧
    base.CanStoreWords (base.eaD8 0 0) (32 - (31 : Reg).toNat) (fun _ => whole) ∧
    (∀ j ∈ [0, 31], let s := interruptedAt j
      s.midway = [{ after := j, ticks := 0, pins := { s.pins with extint := true } }] ∧ j < 32 - (0 : Reg).toNat ∧
        bit s.msr 16 = true ∧ s.pending = none) ∧
    (interruptedAt 0).SamplesPins ∧ (interruptedAt 31).SamplesPins ∧
    (interruptedAt 0).CanLoadWords 0 0 (fun _ => whole) ∧ (interruptedAt 31).CanLoadWords 0 31 (fun _ => whole) ∧
    (interruptedAt 31).CanStoreWords 0 31 (fun _ => whole) :=
  ⟨by decide +kernel, words_loadable 32 (by decide), words_loadable 1 (by decide),
    words_storable 32 (by decide), words_storable 1 (by decide), by decide +kernel, fun _ => rfl, fun _ => rfl, nofun,
    interrupted_loadable, interrupted_storable⟩

theorem witness_ReservationInstructions :
    (base.eaX 0 0).toNat % 4 = 0 ∧ base.CanLoad (base.eaX 0 0) 4 whole whole ∧ base.reserve = false ∧
    (let s := { base with reserve := true }
     s.reserve = true ∧ (s.eaX 0 0).toNat % 4 = 0 ∧ s.CanStore (s.eaX 0 0) 4 whole whole) ∧
    ∀ g : Bool,
      let e := { allPage with g := g }
      let m := through e
      let s := { broken e with reserve := true } |> r 4 0x2004
      s.reserve = true ∧ (s.eaX 4 0).toNat % 4 = 0 ∧ s.MapsData (s.eaX 4 0) 4 m m ∧
      (m.mayWrite s.userMode = true ∧ s.busError .store (realAddresses m m (s.eaX 4 0) 4) = true ∧ s.idm = false ∧
       m.entry.g = g) :=
  ⟨by decide +kernel, canLoad_of (by decide +kernel), rfl, ⟨rfl, by decide +kernel, canStore_of (by decide +kernel)⟩,
    fun g => ⟨rfl, by cases g <;> decide +kernel, mapsData_of (by cases g <;> decide +kernel), by cases g <;> decide +kernel⟩⟩

theorem witness_InstructionsWithoutEffect :
    (2 : BitVec 5).toNat ≤ 2 ∧ 2 < (3 : BitVec 5).toNat ∧ base.userMode = false := by decide +kernel

theorem witness_MsrInstructions : State.reset.userMode = false ∧ State.reset.Legal := ⟨by decide +kernel, reset_legal⟩

theorem witness_SprAccessChecks :
    base.userMode = false ∧ (numberOf (fieldOf 1)).testBit 4 = false ∧
    (∀ n ∈ [1, 1023], numberOf (fieldOf n) = n ∧ n ∈ readableSprs ∧ n ≠ 318 ∧ n ≠ 319) ∧
    (∀ n ∈ [318, 319], numberOf (fieldOf n) = n) ∧ (∀ n ∈ [0, 1022], numberOf (fieldOf n) = n ∧ n ∉ readableSprs) ∧
    (∀ n ∈ [1, 1013], numberOf (fieldOf n) = n ∧ n ∈ writableSprs ∧ n ≠ 959) ∧
    (∀ n ∈ [0, 287, 1023], numberOf (fieldOf n) = n ∧ n ∉ writableSprs) := by decide +kernel

/-- The table of what mfspr reads names every readable SPR of 32 bits. -/
theorem test_sprTable_complete :
    base.sprTable.map Prod.fst = readableSprs.filter fun n => n != 318 && n != 319 := by decide +kernel

theorem witness_SprReadsBack :
    (1, 0xE000007F#32) ∈ plainSprs ∧ (1013, 0x37#32) ∈ plainSprs ∧ base.userMode = false ∧
    (∀ n ∈ [1, 284, 285, 308, 318, 319, 340, 576, 1009, 1011, 1012, 1013], numberOf (fieldOf n) = n) ∧
    (let s := base |> r 3 0x2
     bit (s.r 3) 30 = true ∧ ({ s.ic with l1csr1 := 0x2 &&& 0x0001B6F5 } : ICache).edt < 2) ∧
    (∃ k : BitVec 4, (base.mmu.entry k).iprot = true) ∧ ∃ k : BitVec 4, (base.mmu.entry k).iprot = false := by
  decide +kernel

theorem witness_WriteOneToClear :
    base.userMode = false ∧ numberOf (fieldOf 304) = 304 ∧ numberOf (fieldOf 572) = 572 ∧ numberOf (fieldOf 336) = 336 := by
  decide +kernel

theorem witness_DcrInstructions :
    base.userMode = false ∧
    (∀ n ∈ [272, 273, 274, 275, 276, 277, 278, 350, 351, 271, 279, 0, 1023], numberOf (fieldOf n) = n) ∧
    bit ((base |> r 3 1).r 3) 31 = true ∧ bit (base.r 3) 31 = false := by decide +kernel

/-- The cache with four ways. -/
def fourWays : ICache := { base.ic with l1csr1 := 0x10 }

/-- CDACNTL with GO = 01: no access; the first way and the last set that exist and the first beyond them; the tag and the
data array, read and written; with four ways the last set and the first beyond. -/
theorem witness_DcrInstructions_cache :
    bits 30 2 (1#32) = 1 ∧ bit (1#32) 28 = false ∧
    bits 30 2 (0x91F8000D#32) = 1 ∧ bit (0x91F8000D#32) 28 = true ∧ (bits 2 2 (0x91F8000D#32)).toNat < base.ic.ways ∧
    (bits 7 6 (0x91F8000D#32)).toNat < base.ic.sets ∧ bits 30 2 (0x11F80009#32) = 1 ∧ bit (0x11F80009#32) 28 = true ∧
    bit (0x91F8000D#32) 0 = true ∧ bit (0x91F8000D#32) 29 = true ∧ bit (0x11F80009#32) 0 = false ∧
    bit (0x11F80009#32) 29 = false ∧ bits 30 2 (0x2000000D#32) = 1 ∧ bit (0x2000000D#32) 28 = true ∧
    base.ic.ways ≤ (bits 2 2 (0x2000000D#32)).toNat ∧
    fourWays.ways = 4 ∧ (bits 2 2 (0x30F8000D#32)).toNat < fourWays.ways ∧
    (bits 7 6 (0x30F8000D#32)).toNat < fourWays.sets ∧ (bits 2 2 (0x3100000D#32)).toNat < fourWays.ways ∧
    fourWays.sets ≤ (bits 7 6 (0x3100000D#32)).toNat ∧ bits 30 2 (0x3100000D#32) = 1 ∧
    bit (0x3100000D#32) 28 = true := by decide +kernel

/-- The first way is the next one to fill; way 1 is when way 0 is locked; way 0 is when all are locked and may go. -/
theorem nextWay_witness :
    cached.ic.NextWay 0 false 0 ∧ (cachedWith 1 true).ic.NextWay 0 false 1 ∧ (allLocked 1).ic.NextWay 0 true 0 ∧
    (allLocked 0x81).ic.NextWay 0 true 0 :=
  ⟨⟨0, by decide +kernel, by decide +kernel, ⟨by decide +kernel, .inr (by decide +kernel)⟩, nofun⟩,
    ⟨1, by decide +kernel, by decide +kernel, ⟨by decide +kernel, .inr (by decide +kernel)⟩, fun i hi h => by
      obtain rfl : i = 0 := by omega
      exact absurd h.2 (by decide +kernel)⟩,
    ⟨0, by decide +kernel, by decide +kernel, ⟨by decide +kernel, .inl rfl⟩, nofun⟩,
    ⟨0, by decide +kernel, by decide +kernel, ⟨by decide +kernel, .inl rfl⟩, nofun⟩⟩

/-- No way of set 0 can be filled: both locked, or both disabled. -/
theorem noWay_witness :
    (∀ k, k < (allLocked 1).ic.ways → ¬(allLocked 1).ic.Available 0 false k) ∧
    ∀ k, k < noWays.ic.ways → ¬noWays.ic.Available 0 false k :=
  ⟨fun k hk h => h.2.elim nofun fun hl => Bool.false_ne_true (hl.symm.trans
      ((by decide +kernel : ∀ k < (allLocked 1).ic.ways, ((allLocked 1).ic.line 0 k).l = true) k hk)),
    fun k hk h => Bool.false_ne_true (h.1.symm.trans
      ((by decide +kernel : ∀ k < noWays.ic.ways, bit noWays.ic.l1csr0 k = true) k hk))⟩

/-- The cache off; a hit and a miss with a way to fill, with the check bits looked at and not, in a page that may be read or only
executed. -/
theorem witness_CacheInstructions :
    base.ic.enabled = false ∧
    (∀ c ∈ [cached, checked 0x10001 false, checked 0x10021 false],
      ∀ m ∈ [whole, through { allPage with sr := false }],
      let s := { c with mmu.tlb := base.mmu.tlb.set 0 m.entry } |> r 4 0x2004
      let ea := s.eaX 4 0
      s.ic.enabled = true ∧ CleanFacts s ea ∧ s.ic.edt < 2 ∧ s.lookup (bit s.msr 27) ea = some m ∧
      m.multi = false ∧ m.mayExecute s.userMode = true ∧ s.lockDenied = false ∧ s.ic.hitWay ea (m.real ea) = some 1) ∧
    whole.mayRead base.userMode = true ∧
    (∀ s ∈ [cached |> r 4 0x4004, cachedWith 1 true |> r 4 0x4004, checked 0x10001 false |> r 4 0x4004],
      let ea := s.eaX 4 0
      s.ic.enabled = true ∧ CleanFacts s ea ∧ s.ic.edt < 2 ∧ s.lookup (bit s.msr 27) ea = some whole ∧
      bit s.hid.hid0 31 = false ∧ s.ic.hitWay ea (whole.real ea) = none ∧ whole.entry.i = false ∧
      s.ic.setOf ea = 0 ∧ s.lineError (whole.real ea) = false) ∧
    (cached |> r 4 0x4004).ic = cached.ic ∧ cached.ic.NextWay 0 false 0 ∧
    (cachedWith 1 true |> r 4 0x4004).ic = (cachedWith 1 true).ic ∧ (cachedWith 1 true).ic.NextWay 0 false 1 ∧
    (checked 0x10001 false |> r 4 0x4004).ic = (checked 0x10001 false).ic ∧ (checked 0x10001 false).ic.NextWay 0 false 0 :=
  ⟨by decide +kernel, by decide +kernel, by decide +kernel, by decide +kernel, rfl, nextWay_witness.1, rfl,
    nextWay_witness.2.1, rfl, nextWay_of (by decide +kernel)⟩

/-- CleanFacts rules out a tag error, so the hypotheses on the check bits of witness_CacheInstructions are those asked for. -/
theorem witness_CacheInstructions_noTagError :
    ¬(checked 0x10001 false).TagError 0x2004 ∧ ¬cached.TagError 0x4004 ∧ (cachedWith 0x10001 false).TagError 0x2004 :=
  ⟨noTagError_of (by decide +kernel), noTagError_of (by decide +kernel), tagError_of (k := 0) (by decide +kernel)⟩

theorem witness_CacheConditionsAndCommands :
    (let s := { State.reset with ic.l1csr1 := 1 }
     s.ic.enabled = true ∧ s.lookup (bit s.msr 27) (s.eaX 0 0 + 0x1000) = none ∧
     (s |> r 4 0x1000).lookup (bit s.msr 27) ((s |> r 4 0x1000).eaX 4 0) = none) ∧
    bit ({ base with hid.hid0 := 1 } : State).hid.hid0 31 = true ∧
    (let s := user cached
     s.ic.enabled = true ∧ s.lookup (bit s.msr 27) (s.eaX 0 0) = some whole ∧ s.lockDenied = true) ∧
    (let m : Mapping := { whole with entry.sr := false, entry.sx := false }
     let s := { cached with mmu.tlb := base.mmu.tlb.set 0 m.entry }
     s.lookup (bit s.msr 27) (s.eaX 0 0) = some m ∧ m.mayRead s.userMode = false ∧ m.mayExecute s.userMode = false ∧
     s.lockDenied = false) ∧
    (let s := { cached with ic.l1csr1 := 0x12001 }
     s.ic.enabled = true ∧ s.lockDenied = false ∧ s.ic.checking = true ∧ 2 ≤ s.ic.edt ∧
     s.lookup (bit s.msr 27) (s.eaX 0 0) = some whole ∧ whole.mayRead s.userMode = true ∧ bit s.hid.hid0 31 = false) ∧
    (let s := cachedWith 0x10041 false
     s.ic.checking = true ∧ s.ic.edt < 2 ∧ DirtyFacts s 0 0 ∧ s.ic.setOf 0 = 0 ∧ 2 ≤ s.ic.action ∧ s.lockDenied = false) :=
  by decide +kernel

/-- The state after the correction cycle of ICEA = 01, as the statement asks for it. -/
def fixed (spare : Bool) (s : State) : State := { s with ic.lines := (s.ic.correctSet 0 spare).1.lines }

/-- ICEA = 01 beside a clean hit, and on a miss with no locked line lost: the corrected state exists. -/
theorem witness_CacheConditions_corrected :
    ∀ p ∈ [(cachedWith 0x10021 true |> r 4 0x2004, some 1), (cachedWith 0x10021 false |> r 4 0x4004, none)],
      let s : State := p.1
      let ea := s.eaX 4 0
      let u := fixed (s.ic.cleanWay ea (whole.real ea)).isSome s
      s.ic.setOf ea = 0 ∧ s.lookup (bit s.msr 27) ea = some whole ∧ s.lockDenied = false ∧ s.ic.checking = true ∧
      s.ic.edt < 2 ∧ s.ic.action = 1 ∧ tagError s.ic.edt (s.ic.line 0 0) = true ∧ s.ic.cleanWay ea (whole.real ea) = p.2 ∧
      (s.ic.cleanWay ea (whole.real ea) = none → ∀ k < s.ic.ways, (s.ic.line 0 k).l = false) ∧
      u = { s with ic.lines := u.ic.lines } ∧
      (∀ j < s.ic.sets, ∀ k < s.ic.ways, j ≠ 0 → u.ic.line j k = s.ic.line j k) ∧
      (∀ k < s.ic.ways, u.ic.line 0 k = s.ic.corrected (s.ic.cleanWay ea (whole.real ea)).isSome (s.ic.line 0 k)) ∧
      u.ic.cleanWay ea (whole.real ea) = p.2 := by decide +kernel

/-- Tag errors with ICEA = 00 and 01: beside a clean hit, without one, in a locked line and with none locked. -/
theorem witness_CacheConditions_tagErrors :
    (∀ l1csr1 ∈ [0x10001#32, 0x10021#32], ∀ lock ∈ [false, true],
      let s := cachedWith l1csr1 lock |> r 4 0x2004 |> r 5 0x4004
      s.ic.enabled = true ∧ s.ic.checking = true ∧ s.ic.edt < 2 ∧ s.ic.action = (bif l1csr1 == 0x10001 then 0 else 1) ∧
      s.lockDenied = false ∧ tagError s.ic.edt (s.ic.line 0 0) = true ∧ 0 < s.ic.ways ∧
      checkTag s.ic.edt (s.ic.line 0 0) = .bad ∧ (s.ic.line 0 0).l = lock ∧ tagError s.ic.edt (s.ic.line 0 1) = false ∧
      (∀ k ∈ [(4 : Reg), 5], s.ic.setOf (s.eaX k 0) = 0 ∧ s.lookup (bit s.msr 27) (s.eaX k 0) = some whole) ∧
      s.ic.cleanWay (s.eaX 4 0) (whole.real (s.eaX 4 0)) = some 1 ∧
      s.ic.cleanWay (s.eaX 5 0) (whole.real (s.eaX 5 0)) = none) ∧
    whole.multi = false ∧ whole.mayRead base.userMode = true := by decide +kernel

/-- No hit: a cache-inhibited page; no way to fill, with ICLOA 0 and 1 and with every way disabled; a bus error. -/
theorem witness_CacheConditions_noHit :
    (∀ p ∈ [({ whole with entry.i := true }, cached), ({ whole with entry.i := true }, checked 0x10001 false),
        (whole, allLocked 1), (whole, allLocked 0x81), (whole, checked 0x10001 true false true),
        (whole, noWays), (whole, { cached with busErrors := [⟨.fetch, 0x4000, 0x4003⟩] })],
      let m : Mapping := p.1
      let s := { p.2 with mmu.tlb := base.mmu.tlb.set 0 m.entry } |> r 4 0x4004
      s.ic.enabled = true ∧ s.lockDenied = false ∧ CleanFacts s (s.eaX 4 0) ∧ s.ic.edt < 2 ∧ s.ic = p.2.ic ∧
      s.lookup (bit s.msr 27) (s.eaX 4 0) = some m ∧ m.multi = false ∧ m.mayRead s.userMode = true ∧
      s.ic.setOf (s.eaX 4 0) = 0 ∧ s.ic.hitWay (s.eaX 4 0) (m.real (s.eaX 4 0)) = none ∧ bit s.hid.hid0 31 = false ∧
      s.lineError (m.real (s.eaX 4 0)) = !s.busErrors.isEmpty) ∧
    bit (allLocked 1).ic.l1csr1 24 = false ∧ bit (allLocked 0x81).ic.l1csr1 24 = true ∧
    (∀ k < 2, bit noWays.ic.l1csr0 k = true) ∧
    (∀ k, k < (allLocked 1).ic.ways → ¬(allLocked 1).ic.Available 0 false k) ∧
    (∀ k, k < noWays.ic.ways → ¬noWays.ic.Available 0 false k) ∧ (allLocked 1).ic.NextWay 0 true 0 ∧ (allLocked 0x81).ic.NextWay 0 true 0 ∧ cached.ic.NextWay 0 false 0 :=
  ⟨by decide +kernel, by decide +kernel, by decide +kernel, by decide +kernel, noWay_witness.1, noWay_witness.2, nextWay_witness.2.2.1,
    nextWay_witness.2.2.2, nextWay_witness.1⟩

/-- L1FINV1: the last way and set with each command, and the first way that does not exist; CDACNTL: GO 0 and 2. -/
theorem witness_CacheCommands :
    base.userMode = false ∧ numberOf (fieldOf 959) = 959 ∧ numberOf (fieldOf 351) = 351 ∧ base.ic.ways = 2 ∧
    base.ic.sets = 64 ∧
    (let v : Word := 0x010007E0
     (bits 6 2 v).toNat < base.ic.ways ∧ (bits 21 6 v).toNat < base.ic.sets ∧ bits 30 2 v = 0 ∧
     bits 30 2 (v ||| 3) = 3 ∧ bits 30 2 (v ||| 1) = 1) ∧
    base.ic.ways ≤ (bits 6 2 (0x02000000#32)).toNat ∧ bits 30 2 (0#32) = 0 ∧ 2 ≤ (bits 30 2 (2#32)).toNat := by
  decide +kernel

theorem witness_TlbInstructions :
    base.userMode = false ∧
    (let s := { base with mmu.mas6 := 0 }
     (s.mmu.entry 0).Maps (bit s.mmu.mas6 31) (bits 8 8 s.mmu.mas6) s.pins (s.eaX 0 0) ∧
     ∀ j : BitVec 4, j ≠ 0 → ¬(s.mmu.entry j).Maps (bit s.mmu.mas6 31) (bits 8 8 s.mmu.mas6) s.pins (s.eaX 0 0)) ∧
    (let s := { base with mmu.mas6 := 1 }
     ∀ j : BitVec 4, ¬(s.mmu.entry j).Maps (bit s.mmu.mas6 31) (bits 8 8 s.mmu.mas6) s.pins (s.eaX 0 0)) := by
  unfold TlbEntry.Maps TlbEntry.Serves; decide +kernel

/-- The first and the last address of a page match, the next does not; two entries match one address; TIDs of every kind. -/
theorem witness_TlbInstructions_translation :
    highPage.Maps false 0 Pins.idle 0x2000 ∧ highPage.Maps false 0 Pins.idle 0x2FFF ∧ ¬highPage.Maps false 0 Pins.idle 0x3000 ∧
    ¬highPage.Maps true 0 Pins.idle 0x2000 ∧ allPage.Maps false 0 Pins.idle 0x2000 ∧
    { highPage with tid := 5 }.Maps false 5 Pins.idle 0x2000 ∧ ¬{ highPage with tid := 5 }.Maps false 4 Pins.idle 0x2000 ∧
    { highPage with tid := 0xF1 }.Maps false 0xF2 { Pins.idle with extpidEn := true, extpid := 1 } 0x2000 ∧
    { highPage with tid := 0xF3 }.Maps false 0xF2 { Pins.idle with extpidEn := true, extpid := 1 } 0x2000 ∧
    ¬{ highPage with tid := 0xF2 }.Maps false 0xF2 { Pins.idle with extpidEn := true, extpid := 1 } 0x2000 ∧
    ¬{ highPage with size := 23 }.Maps false 0 Pins.idle 0x2000 := by
  refine ⟨?_, ?_, ?_, ?_, ?_, ?_, ?_, ?_, ?_, ?_, ?_⟩ <;> (unfold TlbEntry.Maps TlbEntry.Serves; decide +kernel)

theorem witness_DebuggerNotifyHalt :
    bit ({ base with once.edbcr0 := 0x40000000 } : State).once.edbcr0 1 = true ∧ bit base.once.edbcr0 1 = false := by
  decide +kernel

/-- spec/61_debug.md R2210, spec/12_state_debug.md R283: with DAC2LNK = 1 a hit of IAC3 sets no DBSR bit, in whatever mode DAC12M
is, and DAC1LNK does the same to IAC1; without them the hits set their bits. -/
theorem test_iac_link_bits :
    (let events (dbcr2 : Word) := iacEvents { base.dbg with dbcr0 := 0x40F00000, dbcr2 := dbcr2 } 0x05
     events 0 == 0x00A00000 && events 0x00100000 == 0x00800000 && events 0x00900000 == 0x00800000 &&
       events 0x00200000 == 0x00200000) = true := by decide +kernel

/-- spec/12_state_debug.md R326: the IAC events of the instruction that halts are in CPUSCR[CTL], IAC1 to IAC4 at 24 to 27, IAC5 to
IAC8 at 11 to 14, a VLE instruction at 30; one that DBCR0 does not enable is not. -/
theorem test_halt_control :
    (let s := { base with dbg.dbcr0 := 0x40F07800, cur.iacHits := 0xFF }
     s.haltControl == 0x001E00F0 && { s with cur.iacHits := 0x14, cur.vle := true }.haltControl == 0x00100022 &&
       { s with dbg.dbcr0 := 0x40804000 }.haltControl == 0x00100080 && { s with dbg.dbcr0 := 0x00F07800 }.haltControl == 0) =
      true := by decide +kernel

theorem witness_VolatileContextMoves :
    (let ea := (if (0 : Reg) = 0 then 0 else base.r 0) + wordOf (0 : BitVec 8).toInt
     ea.toNat % 4 = 0 ∧ ea = 0) ∧
    base.CanLoadWords 0 11 (fun _ => whole) ∧ base.CanStoreWords 0 11 (fun _ => whole) ∧ base.userMode = false ∧
    base.midway = [] :=
  ⟨by decide +kernel, words_loadable 11 (by decide), words_storable 11 (by decide), by decide +kernel, by decide +kernel⟩

/-- An external input before the first word and before the last of both groups. -/
theorem witness_VolatileContextMoves_interrupted :
    (interruptedAt 0).InputInside 0 11 ∧ (interruptedAt 10).InputInside 10 11 ∧ (interruptedAt 3).InputInside 3 4 ∧
    (interruptedAt 10).CanLoadWords 0 10 (fun _ => whole) ∧ (interruptedAt 10).CanStoreWords 0 10 (fun _ => whole) ∧
    (interruptedAt 3).CanLoadWords 0 3 (fun _ => whole) ∧ (interruptedAt 3).CanStoreWords 0 3 (fun _ => whole) ∧
    wordOf (0 : BitVec 8).toInt = 0 :=
  ⟨⟨rfl, by decide, by decide +kernel, by decide +kernel, fun _ => rfl⟩,
    ⟨rfl, by decide, by decide +kernel, by decide +kernel, fun _ => rfl⟩,
    ⟨rfl, by decide, by decide +kernel, by decide +kernel, fun _ => rfl⟩,
    fun k hk => canLoad_of
      ((by decide +kernel : ∀ k < 10, LoadFacts (interruptedAt 10) (0 + BitVec.ofNat 32 (4 * k)) 4 whole whole) k hk),
    fun k hk => canStore_of
      ((by decide +kernel : ∀ k < 10, StoreFacts (interruptedAt 10) (0 + BitVec.ofNat 32 (4 * k)) 4 whole whole) k hk),
    fun k hk => canLoad_of
      ((by decide +kernel : ∀ k < 3, LoadFacts (interruptedAt 3) (0 + BitVec.ofNat 32 (4 * k)) 4 whole whole) k hk),
    fun k hk => canStore_of
      ((by decide +kernel : ∀ k < 3, StoreFacts (interruptedAt 3) (0 + BitVec.ofNat 32 (4 * k)) 4 whole whole) k hk),
    by decide +kernel⟩

theorem witness_ScalarFloatingPoint :
    (base |> withSpefscr 0x3C).NoFpTrap noElement (elemAdd .nearest 0x3F800000 0x40000000) ∧
    base.NoFpTrap noElement (elemDiv .nearest 0x3F800000 0) := by
  unfold State.NoFpTrap; decide +kernel

theorem witness_FloatingPointComparesAndTests :
    base.NoFpTrap noElement (invalidOf 0x7F800000 0) ∧ (on base).speOn = true ∧
    (on base).NoFpTrap (invalidOf 0 0) (invalidOf 0x7F800000 0) := by
  unfold State.NoFpTrap; decide +kernel

theorem witness_VectorFloatingPoint :
    (on base).speOn = true ∧
    (on base).NoFpTrap (elemMul .nearest 0x3F800000 0x40000000) (elemMul .nearest 0x3F800001 0x3F800001) := by
  unfold State.NoFpTrap; decide +kernel

/-- A division by zero, an operand that is infinite, and an inexact quotient, in one element and in two. -/
theorem witness_FloatingPointInterrupts :
    let s := on base |> withSpefscr 0x7C |> q 4 0x3F8000003F800000 |> q 6 0x4040000040400000 |> q 7 0x7F8000007F800000
    let bad := elemDiv .nearest 0x3F800000 0
    let rough := elemDiv .nearest 0x3F800000 0x40400000
    let odd := invalidOf 0x7F800000 0
    s.speOn = true ∧ s.scalarElement (.efsdiv 3 4 5) = some (3, bad) ∧ s.dataTrap noElement bad = true ∧
    s.scalarElement (.efsdiv 3 4 6) = some (3, rough) ∧ s.roundTrap noElement rough = true ∧
    s.vectorElements (.evfsdiv 3 4 5) = some (3, bad, bad) ∧ s.dataTrap bad bad = true ∧
    s.vectorElements (.evfsdiv 3 4 6) = some (3, rough, rough) ∧ s.roundTrap rough rough = true ∧
    s.comparedElement (.efscmpgt 0 7 5) = some odd ∧ s.dataTrap noElement odd = true ∧
    s.comparedElements (.evfscmpgt 0 7 5) = some (odd, odd) ∧ s.dataTrap odd odd = true := by decide +kernel

/-- A record that holds all of its number, and one that has lost the last bit of it. -/
theorem witness_RoundsCorrectly :
    (⟨false, 3, 0, false⟩ : Exact).Represents 3 ∧ (⟨true, 16777216, 0, true⟩ : Exact).Represents (-16777216.5) :=
  ⟨⟨by decide, by norm_num, by norm_num, by simp⟩, ⟨by decide, by norm_num, by simp, by norm_num [abs_of_neg]⟩⟩

/-- Numbers with a sum, a difference and a multiply-add that are zero or not; both signs of a square root. -/
theorem witness_ElementArithmetic :
    fpClass 0x3F800000 = .norm ∧ fpClass 0xBF800000 = .norm ∧ fpValue 0x3F800000 = 1 ∧ fpValue 0xBF800000 = -1 ∧
    fpSign 0x3F800000 = false ∧ fpSign 0xBF800000 = true := by
  refine ⟨by decide, by decide, ?_, ?_, by decide, by decide⟩ <;>
    norm_num [fpValue, show fpSign 0x3F800000 = false by decide, show fpSign 0xBF800000 = true by decide,
      show fpSig 0x3F800000 = 8388608 by decide, show fpSig 0xBF800000 = 8388608 by decide,
      show fpScale 0x3F800000 = -23 by decide, show fpScale 0xBF800000 = -23 by decide]

/-- Zero and another integer; numbers of both signs; the half-precision one; an overflow and an underflow. -/
theorem witness_ElementConversions :
    (0#32).toNat = 0 ∧ (0xFFFFFFFF#32).toInt ≠ 0 ∧ fpClass 0x40490FDB = .norm ∧ fpSign 0x40490FDB = false ∧
    fpClass 0xC0490FDB = .norm ∧ fpSign 0xC0490FDB = true ∧ 1 ≤ halfExp 0x3C00 ∧ halfExp 0x3C00 ≤ 30 ∧
    (elemToHalf .nearest 0x7F000000).ovf = true ∧ (elemToHalf .nearest 0x00800000).unf = true ∧
    (elemToHalf .nearest 0x40490FDB).ovf = false ∧ (elemToHalf .nearest 0x40490FDB).unf = false := by decide +kernel

/-- An element of every class. -/
theorem witness_ElementSpecialOperands :
    fpClass 0 = .zero ∧ fpClass 0x80000001 = .denorm ∧ fpClass 0x00800000 = .norm ∧ fpClass 0xFF800000 = .inf ∧
    fpClass 0x7FC00000 = .nan := by decide +kernel

/-- MSR[SPE] = 1: SpeSimpleInstructions, SpeCompareAndDivide, WordMultiplyAccumulate and HalfWordMultiplyAccumulate. -/
theorem witness_SpeInstructions : (on base).speOn = true := by decide +kernel

/-- A double word at the end of a page, and a half word at an odd address. -/
theorem witness_VectorLoadStoreInstructions :
    (let s := on base |> r 4 0x1FFC
     s.speOn = true ∧ (s.eaScaled 4 0 8).toNat % 4 = 0 ∧ s.CanLoad (s.eaScaled 4 0 8) 8 whole whole ∧
     s.CanStore (s.eaScaled 4 0 8) 8 whole whole) ∧
    (let s := on base |> r 4 0x1FFF
     s.CanLoad (s.eaScaled 4 0 2) 2 whole whole ∧ s.CanStore (s.eaScaled 4 0 4) 4 whole whole) :=
  ⟨⟨by decide +kernel, by decide +kernel, canLoad_of (by decide +kernel), canStore_of (by decide +kernel)⟩,
    canLoad_of (by decide +kernel), canStore_of (by decide +kernel)⟩

/-- Accesses of one byte, of a double word within its lanes, and of one that crosses into the next. -/
theorem witness_BusRequests :
    base.CanLoad 0x2007 1 whole whole ∧ base.CanStore 0x2000 8 whole whole ∧ base.CanLoad 0x2001 8 whole whole ∧
    base.CanStore 0x2006 4 whole whole :=
  ⟨canLoad_of (by decide +kernel), canStore_of (by decide +kernel), canLoad_of (by decide +kernel),
    canStore_of (by decide +kernel)⟩

/-- A command of each kind reaches a next state; the fetches are those of the witnesses of FetchReadsMemory. -/
theorem witness_BusRequests_commands : base.userMode = false ∧
    ∀ i ∈ [Instr.icbi 3 4, .icbt 0 3 4, .icblc 0 3 4, .icbtls 0 3 4, .tlbivax 3 4, .tlbsx 3 4, .tlbre, .tlbwe],
      ∃ t, exec i base = .next t :=
  ⟨by decide +kernel, fun i hi => next_of ((by decide +kernel : ∀ i ∈ [Instr.icbi 3 4, .icbt 0 3 4, .icblc 0 3 4,
    .icbtls 0 3 4, .tlbivax 3 4, .tlbsx 3 4, .tlbre, .tlbwe], isNext (exec i base) = true) i hi)⟩

end Sys2Proof.Tests
end

section
/-! SUPPORT. The state after reset, and writes of special-purpose registers. -/

namespace Sys2Proof.Machine

/-! ## The TLB after reset -/

/-- Writing entry 0 of a TLB leaves the others. -/
theorem tlb_set_zero_getElem (v : Vector TlbEntry 16) (e : TlbEntry) {k : BitVec 4} (hk : k ≠ 0) :
    (v.set 0 e)[k.toNat]'k.isLt = v[k.toNat]'k.isLt :=
  Vector.getElem_set_ne _ _ fun h => hk (BitVec.eq_of_toNat_eq h.symm)

/-- Entries 1 to 15 are invalid right after reset (spec/11_state_mmu_cache.md R205). -/
theorem resetTlb_invalid (p : Pins) {k : BitVec 4} (hk : k ≠ 0) : ((resetTlb p)[k.toNat]'k.isLt).v = false := by
  unfold resetTlb
  rw [tlb_set_zero_getElem _ _ hk, Vector.getElem_replicate]
  rfl

/-- Entry 0 holds the reset mapping after a reset event (R205). -/
theorem freshTlb_zero (n : Nat) (p : Pins) : (freshTlb n p)[0] = resetTlbEntry0 p := by
  unfold freshTlb
  rw [Vector.getElem_set_self]

/-- Entries 1 to 15 are invalid after a reset event (R205). -/
theorem freshTlb_invalid (n : Nat) (p : Pins) {k : BitVec 4} (hk : k ≠ 0) :
    ((freshTlb n p)[k.toNat]'k.isLt).v = false := by
  unfold freshTlb
  rw [tlb_set_zero_getElem _ _ hk, Vector.getElem_ofFn]
  rfl

/-- The debug registers after a reset event while DBCR0[EDM] = 0 (spec/12_state_debug.md R289). -/
theorem State.hardReset_dbg {s : State} (h : bit s.dbg.dbcr0 0 = false) : s.hardReset.dbg = resetDebug s.dbg := by
  simp [State.hardReset, h]

/-- HID1 reads 0 after a reset event: SYSCTL is cleared and no reservation is left (spec/10_state.md R123, R190). -/
theorem State.hardReset_hid1Value (s : State) : s.hardReset.hid1Value = 0 := by
  simp [State.hardReset, State.hid1Value, when]

/-! ## Special-purpose register numbers -/

/-- The number that the two exchanged halves of an SPRN or DCRN field hold (spec/43_system.md R866, R868). -/
theorem registerNumber_eq_numberOf (f : BitVec 10) : registerNumber f = numberOf f := by
  have hf := f.isLt
  have h : f.toNat / 32 % 32 < 2 ^ 5 := by omega
  simp only [registerNumber, numberOf, BitVec.toNat_append, BitVec.extractLsb'_toNat, Nat.shiftRight_eq_div_pow,
    Nat.shiftLeft_eq, Nat.reducePow, Nat.div_one]
  rw [Nat.mul_comm, ← Nat.two_pow_add_eq_or_of_lt h]
  omega

/-- In supervisor mode mtspr is the write after the privilege check (spec/43_system.md R870). -/
theorem execMtspr_supervisor {s : State} (h : s.userMode = false) (r : Reg) (f : BitVec 10) :
    execMtspr r f s = s.moveToSpr (numberOf f) (s.r64 r) := by
  simp [execMtspr, h, registerNumber_eq_numberOf]

/-- mtspr of a 32-bit register that writeSpr writes runs (spec/43_system.md R869). -/
theorem runs_mtspr_of_writeSpr {s t : State} {r : Reg} {f : BitVec 10} {n : Nat} (hs : s.userMode = false)
    (hf : numberOf f = n) (hn : n ∉ [318, 319, 959]) (hw : s.writeSpr n (s.r r) = some t) :
    Runs (.mtspr r f) s fun u => u = t.advance 4 := by
  simp only [List.mem_cons, List.not_mem_nil, or_false, not_or] at hn
  obtain ⟨h318, h319, h959⟩ := hn
  refine ⟨t.advance 4, ?_, rfl⟩
  rw [exec_mtspr, execMtspr_supervisor hs, hf, State.moveToSpr, if_neg h318, if_neg h319, if_neg h959]
  rw [State.r] at hw
  rw [hw]

end Sys2Proof.Machine
end

section
/-! SUPPORT. The two invariants of LegalIsKept, what it is to keep them, and the operations that leave alone what they speak of. -/

namespace Sys2Proof.Machine

/-! ## The invariants of LegalIsKept, and what keeps them -/

/-- The fields that the two invariants speak of. An operation that leaves them alone keeps both. -/
def State.guarded (s : State) : Memory × Word × Word × Word × Pins × PinSamples × Bool × Bool :=
  (s.mem, s.pc, s.msr, s.xer, s.pins, s.sampled, s.waiting, s.debugHalt)

/-- The core is not waiting and its pin samples are those of its pins if m_clk runs. An instruction begins in such a state. -/
structure State.Awake (s : State) : Prop where
  notWaiting : s.waiting = false
  samples : s.SamplesPins

/-- A step that begins in s and ends in t keeps both invariants. -/
structure State.Preserves (s t : State) : Prop where
  legal : s.Legal → t.Legal
  samples : s.SamplesPins → t.SamplesPins

/-- An operation inside an instruction leads from s to t and keeps the invariants. That the core stays awake is part of it, since
entering an interrupt clears the waiting state, in which m_clk may not run and the samples may be old. -/
structure State.Keeps (s t : State) : Prop where
  legal : s.Legal → t.Legal
  awake : s.Awake → t.Awake

/-- An instruction that begins in s ends in t with both invariants; it may leave the core waiting. -/
structure State.EndsIn (s t : State) : Prop where
  legal : s.Legal → t.Legal
  samples : s.Awake → t.SamplesPins

/-- An instruction that begins in s keeps the invariants if it answers a next state. -/
def State.Answers (s : State) : Answer → Prop
  | .next t => s.EndsIn t
  | .fault _ => True
  | .refused _ => True

theorem State.Preserves.refl (s : State) : s.Preserves s := ⟨id, id⟩

theorem State.Preserves.trans {s t u : State} (h : s.Preserves t) (h' : t.Preserves u) : s.Preserves u :=
  ⟨h'.legal ∘ h.legal, h'.samples ∘ h.samples⟩

theorem State.Keeps.refl (s : State) : s.Keeps s := ⟨id, id⟩

theorem State.Keeps.trans {s t u : State} (h : s.Keeps t) (h' : t.Keeps u) : s.Keeps u :=
  ⟨h'.legal ∘ h.legal, h'.awake ∘ h.awake⟩

theorem State.Keeps.answers {s t : State} (h : s.Keeps t) : s.Answers (.next t) := ⟨h.legal, fun hs => (h.awake hs).samples⟩

theorem State.Keeps.trans_answers {s t : State} {o : Answer} (h : s.Keeps t) (ho : t.Answers o) : s.Answers o := by
  cases o with
  | next u => exact ⟨ho.legal ∘ h.legal, ho.samples ∘ h.awake⟩
  | fault _ => trivial
  | refused _ => trivial

/-- Legality is a matter of memory, pc, MSR and XER. -/
theorem State.Legal.congr {s t : State} (h : s.Legal) (hmem : t.mem = s.mem) (hpc : t.pc = s.pc) (hmsr : t.msr = s.msr)
    (hxer : t.xer = s.xer) : t.Legal :=
  ⟨hmem ▸ h.memory, hpc ▸ h.evenPc, hmsr ▸ h.msrBits, hxer ▸ h.xerBits⟩

/-- An operation that leaves pins, samples and the debug halt alone keeps the samples of a core that it leaves awake. -/
theorem State.Keeps.of_sampled {s t : State} (hlegal : s.Legal → t.Legal) (hwaiting : s.waiting = false → t.waiting = false)
    (hpins : t.pins = s.pins) (hsampled : t.sampled = s.sampled) (hhalt : t.debugHalt = s.debugHalt) : s.Keeps t := by
  refine ⟨hlegal, fun hs => ⟨hwaiting hs.notWaiting, fun hclk => ?_⟩⟩
  rw [hsampled, hpins]
  refine hs.samples ?_
  simpa only [State.clocked, State.suspended, hwaiting hs.notWaiting, hs.notWaiting, hpins, hhalt] using hclk

/-- Fields of states that agree in what the invariants speak of. -/
theorem State.guarded_eq_iff {s t : State} :
    t.guarded = s.guarded ↔ t.mem = s.mem ∧ t.pc = s.pc ∧ t.msr = s.msr ∧ t.xer = s.xer ∧ t.pins = s.pins ∧
      t.sampled = s.sampled ∧ t.waiting = s.waiting ∧ t.debugHalt = s.debugHalt := by
  simp only [State.guarded, Prod.mk.injEq]

theorem State.Keeps.of_guarded {s t : State} (h : t.guarded = s.guarded) : s.Keeps t := by
  obtain ⟨hmem, hpc, hmsr, hxer, hpins, hsampled, hwaiting, hhalt⟩ := State.guarded_eq_iff.1 h
  exact .of_sampled (fun hl => hl.congr hmem hpc hmsr hxer) (fun hw => hwaiting.trans hw) hpins hsampled hhalt

theorem State.Preserves.of_guarded {s t : State} (h : t.guarded = s.guarded) : s.Preserves t := by
  obtain ⟨hmem, hpc, hmsr, hxer, hpins, hsampled, hwaiting, hhalt⟩ := State.guarded_eq_iff.1 h
  refine ⟨fun hl => hl.congr hmem hpc hmsr hxer, fun hs hclk => ?_⟩
  rw [hsampled, hpins]
  exact hs (by simpa only [State.clocked, State.suspended, hwaiting, hpins, hhalt] using hclk)

theorem State.waiting_of_guarded {s t : State} (h : t.guarded = s.guarded) : t.waiting = s.waiting := by
  obtain ⟨-, -, -, -, -, -, hwaiting, -⟩ := State.guarded_eq_iff.1 h
  exact hwaiting

/-- Outside the waiting state an operation that preserves the samples keeps them. -/
theorem State.Preserves.keeps {s t : State} (h : s.Preserves t) (hwaiting : t.waiting = s.waiting) : s.Keeps t :=
  ⟨h.legal, fun hs => ⟨hwaiting.trans hs.notWaiting, h.samples hs.samples⟩⟩

/-! ## Operations that leave the guarded fields alone -/

section
variable (s : State)

@[simp] theorem State.guarded_setR64 (r : Reg) (v : Dword) : (s.setR64 r v).guarded = s.guarded := rfl
@[simp] theorem State.guarded_setR (r : Reg) (v : Word) : (s.setR r v).guarded = s.guarded := rfl
@[simp] theorem State.guarded_setCr (v : Word) : (s.setCr v).guarded = s.guarded := rfl
@[simp] theorem State.guarded_setCrBit (b : CrBit) (v : Bool) : (s.setCrBit b v).guarded = s.guarded := rfl
@[simp] theorem State.guarded_setCrField (f : CrField) (v : BitVec 4) : (s.setCrField f v).guarded = s.guarded := rfl
@[simp] theorem State.guarded_setLr (v : Word) : (s.setLr v).guarded = s.guarded := rfl
@[simp] theorem State.guarded_setCtr (v : Word) : (s.setCtr v).guarded = s.guarded := rfl
@[simp] theorem State.guarded_setSpefscr (v : Word) : (s.setSpefscr v).guarded = s.guarded := rfl
@[simp] theorem State.guarded_setOvPair (h l : Bool) : (s.setOvPair h l).guarded = s.guarded := rfl
@[simp] theorem State.guarded_setReserve (v : Bool) : (s.setReserve v).guarded = s.guarded := rfl
@[simp] theorem State.guarded_spendFree : s.spendFree.guarded = s.guarded := rfl
@[simp] theorem State.guarded_pulse (o : OutputEvent) : (s.pulse o).guarded = s.guarded := rfl
@[simp] theorem State.guarded_setEsr (v : Word) : (s.setEsr v).guarded = s.guarded := rfl
@[simp] theorem State.guarded_setDear (v : Word) : (s.setDear v).guarded = s.guarded := rfl
@[simp] theorem State.guarded_suppress : s.suppress.guarded = s.guarded := rfl
@[simp] theorem State.guarded_noteAccess (x : DataAccess) : (s.noteAccess x).guarded = s.guarded := rfl
@[simp] theorem State.guarded_signal (o : OutputEvent) : (s.signal o).guarded = s.guarded := rfl
@[simp] theorem State.guarded_command (c : BitVec 5) (ea : Word) : (s.command c ea).guarded = s.guarded := rfl
@[simp] theorem State.guarded_fetchRequest (real : Word) (n : Nat) (e : TlbEntry) (fill : Option Nat) :
    (s.fetchRequest real n e fill).guarded = s.guarded := rfl
@[simp] theorem State.guarded_transfer (q : Request) (m m2 : Mapping) (real : List Word) (bs : List Byte) (e1 e2 : Bool) :
    (s.transfer q m m2 real bs e1 e2).guarded = s.guarded := rfl
@[simp] theorem State.guarded_dropLine (ea : Word) (way : Nat) : (s.dropLine ea way).guarded = s.guarded := rfl
@[simp] theorem State.guarded_stepReplace (way : Nat) : (s.stepReplace way).guarded = s.guarded := rfl
@[simp] theorem State.guarded_setLock (set way : Nat) (v : Bool) : (s.setLock set way v).guarded = s.guarded := rfl
@[simp] theorem State.guarded_setIcul : s.setIcul.guarded = s.guarded := rfl
@[simp] theorem State.guarded_setIclo : s.setIclo.guarded = s.guarded := rfl
@[simp] theorem State.guarded_withIacHits : s.withIacHits.guarded = s.guarded := rfl

@[simp] theorem State.guarded_record (e : Word) (v : Bool) : (s.record e v).guarded = s.guarded := by
  rw [State.record_eq]
  rfl

@[simp] theorem State.guarded_countEvents (old : DebugRegs) (de : Bool) (e : CountEvents) :
    (s.countEvents old de e).guarded = s.guarded := by
  rw [State.countEvents_eq]
  rfl

@[simp] theorem State.guarded_asyncCheck (e a : Word) (effective : Bool) : (s.asyncCheck e a effective).guarded = s.guarded := by
  rw [State.asyncCheck_eq]
  rfl

@[simp] theorem State.guarded_refuseLine (ea real : Word) (w : Nat) : (s.refuseLine ea real w).guarded = s.guarded := by
  rw [State.refuseLine_eq]
  rfl

@[simp] theorem State.guarded_tick : s.tick.guarded = s.guarded := by
  rw [State.tick_eq]
  rfl

@[simp] theorem State.guarded_pinLevels : s.pinLevels.guarded = s.guarded := by
  rw [State.pinLevels_eq]
  rfl

@[simp] theorem State.guarded_usedMapping (m : Mapping) : (s.usedMapping m).guarded = s.guarded := by
  unfold State.usedMapping
  split <;> rfl

@[simp] theorem State.guarded_loadMissMas (as : Bool) (ea : Word) : (s.loadMissMas as ea).guarded = s.guarded := by
  unfold State.loadMissMas
  simp only []
  split <;> rfl

@[simp] theorem State.guarded_reportTags (ea real : Word) : (s.reportTags ea real).guarded = s.guarded := by
  unfold State.reportTags
  split <;> rfl

@[simp] theorem State.guarded_fillLine (ea real : Word) (way : Nat) (lock : Bool) :
    (s.fillLine ea real way lock).guarded = s.guarded := by
  unfold State.fillLine
  simp only []
  split <;> rfl

@[simp] theorem State.guarded_postEvents (before : State) : (s.postEvents before).guarded = s.guarded := by
  unfold State.postEvents
  exact (apply_ite State.guarded _ _ _).trans (ite_self _)

@[simp] theorem State.guarded_finish (before : State) : (s.finish before).guarded = s.guarded :=
  (State.guarded_countEvents _ _ _ _).trans (State.guarded_postEvents s before)

@[simp] theorem State.guarded_setHid0 (v : Word) : (s.setHid0 v).guarded = s.guarded := by
  unfold State.setHid0
  simp only []
  split <;> rfl

end

/-! ## pc, MSR and XER -/

/-- Bit 31 is the least significant one. -/
theorem bit_low (w : Word) : bit w 31 = w.getLsbD 0 := by simp [bit, BitVec.getMsbD]

/-- The low bit of a sum. -/
theorem bit_add_low (a b : Word) : bit (a + b) 31 = (bit a 31 ^^ bit b 31) := by
  rw [bit_low, bit_low, bit_low, BitVec.getLsbD_add (by decide)]
  simp [BitVec.carry, Nat.mod_one]

theorem codeAddress_even (w : Word) : bit (codeAddress w) 31 = false := by
  rw [codeAddress, bit_and, show bit 0xFFFFFFFE 31 = false by decide, Bool.and_false]

/-- Taking an interrupt only clears MSR bits. -/
theorem newMsr_implemented {m : Word} (hid0 : Word) (c : IntClass) (h : m &&& ~~~msrMask = 0) :
    newMsr hid0 c m &&& ~~~msrMask = 0 := by
  rw [newMsr, BitVec.and_assoc, BitVec.and_comm (keptMsr hid0 c), ← BitVec.and_assoc, h]
  exact BitVec.zero_and

/-- A word ANDed with implemented bits has no others. -/
theorem and_mask_implemented (v : Word) {k m : Word} (h : k &&& ~~~m = 0) : v &&& k &&& ~~~m = 0 := by
  rw [BitVec.and_assoc, h]
  exact BitVec.and_zero

/-- Two words of implemented bits have no others together. -/
theorem or_implemented {v w m : Word} (hv : v &&& ~~~m = 0) (hw : w &&& ~~~m = 0) : (v ||| w) &&& ~~~m = 0 := by
  refine word_ext _ _ fun i hi => ?_
  have hvi := congrArg (bit · i) hv
  have hwi := congrArg (bit · i) hw
  simp only [bit_and, bit_or] at hvi hwi ⊢
  rw [Bool.and_or_distrib_right, hvi, hwi, Bool.or_self]

/-- Writing an implemented bit leaves the others alone. -/
theorem setBit_implemented {w m : Word} {i : Nat} (v : Bool) (h : w &&& ~~~m = 0) (hi : oneBit i &&& ~~~m = 0) :
    setBit w i v &&& ~~~m = 0 := by
  cases v
  · rw [setBit, if_neg (by decide), BitVec.and_assoc, BitVec.and_comm (~~~oneBit i), ← BitVec.and_assoc, h]
    exact BitVec.zero_and
  · rw [setBit, if_pos rfl]
    exact or_implemented h hi

/-- What a result leaves in XER are implemented bits. -/
theorem Form.xerAfter_implemented {x : Word} (f : Form) (ca ov : Bool) (h : x &&& ~~~xerMask = 0) :
    f.xerAfter x ca ov &&& ~~~xerMask = 0 := by
  have afterCa : (if f.ca then setBit x 2 ca else x) &&& ~~~xerMask = 0 := by
    split
    · exact setBit_implemented ca h (by decide)
    · exact h
  have so : when ov (oneBit 0) &&& ~~~xerMask = 0 := by cases ov <;> decide
  unfold Form.xerAfter
  simp only []
  split
  · exact setBit_implemented ov (or_implemented afterCa so) (by decide)
  · exact afterCa

end Sys2Proof.Machine
end

section
/-! SUPPORT. The shared operations keep the invariants: pc, MSR and XER, interrupts, inputs from outside, data accesses. -/

namespace Sys2Proof.Machine

/-! ## Operations on pc, MSR and XER -/

theorem State.keeps_advance (s : State) {n : Word} (hn : bit n 31 = false) : s.Keeps (s.advance n) := by
  refine .of_sampled (fun h => ⟨h.memory, ?_, h.msrBits, h.xerBits⟩) id rfl rfl rfl
  rw [State.advance_pc, bit_add_low, h.evenPc, hn, Bool.xor_self]

theorem State.keeps_jump (s : State) (target : Word) : s.Keeps (s.jump target) :=
  .of_sampled (fun h => ⟨h.memory, codeAddress_even target, h.msrBits, h.xerBits⟩) id rfl rfl rfl

theorem State.keeps_setMsr (s : State) (v : Word) : s.Keeps (s.setMsr v) :=
  .of_sampled (fun h => ⟨h.memory, h.evenPc, and_mask_implemented v (by decide), h.xerBits⟩) id rfl rfl rfl

theorem State.keeps_setXer (s : State) {v : Word} (hv : s.xer &&& ~~~xerMask = 0 → v &&& ~~~xerMask = 0) :
    s.Keeps (s.setXer v) :=
  .of_sampled (fun h => ⟨h.memory, h.evenPc, h.msrBits, hv h.xerBits⟩) id rfl rfl rfl

theorem State.keeps_result (s : State) (f : Form) (rt : Reg) (v : Word) (ca ov : Bool) :
    s.Keeps (s.result f rt v ca ov) := by
  rw [State.result_eq]
  exact .of_sampled (fun h => ⟨h.memory, h.evenPc, h.msrBits, Form.xerAfter_implemented f ca ov h.xerBits⟩) id rfl rfl rfl

/-- An instruction that ends by moving on to the next one. -/
theorem State.Keeps.answers_advance {s t : State} (h : s.Keeps t) {n : Word} (hn : bit n 31 = false := by decide) :
    s.Answers (.next (t.advance n)) :=
  (h.trans (t.keeps_advance hn)).answers

/-- The same for a state that agrees with the first in what the invariants speak of. -/
theorem State.answers_advance_of_guarded {s t : State} (h : t.guarded = s.guarded) {n : Word}
    (hn : bit n 31 = false := by decide) : s.Answers (.next (t.advance n)) :=
  (State.Keeps.of_guarded h).answers_advance hn

/-! ## Interrupts -/

theorem State.Keeps.suppress {s t : State} (h : s.Keeps t) : s.Keeps t.suppress := h.trans (.of_guarded t.guarded_suppress)

theorem State.Keeps.pulse {s t : State} (h : s.Keeps t) (o : OutputEvent) : s.Keeps (t.pulse o) :=
  h.trans (.of_guarded (t.guarded_pulse o))

theorem State.keeps_record (s : State) (e : Word) (v : Bool) : s.Keeps (s.record e v) := .of_guarded (s.guarded_record e v)

theorem State.keeps_enter (s : State) (c : IntClass) (v a : Word) : s.Keeps (s.enter c v a) :=
  .of_sampled (fun h => ⟨h.memory, codeAddress_even v, newMsr_implemented s.hid.hid0 c h.msrBits, h.xerBits⟩) (fun _ => rfl)
    rfl rfl rfl

theorem State.keeps_takeInterrupt (s : State) (c : IntClass) (v a : Word) : s.Keeps (s.takeInterrupt c v a) := by
  rw [State.takeInterrupt_eq]
  exact (s.keeps_enter c v a).trans (.of_guarded rfl)

theorem State.keeps_raise (s : State) (n : Nat) : s.Keeps (s.raise n) :=
  (s.keeps_takeInterrupt _ _ _).suppress

/-- An exception raised after ESR, DEAR or other registers were written. -/
theorem State.keeps_raise_of_guarded {s t : State} (h : t.guarded = s.guarded) (n : Nat) : s.Keeps (t.raise n) :=
  (State.Keeps.of_guarded h).trans (t.keeps_raise n)

theorem State.keeps_program (s : State) (cause : Word) : s.Keeps (s.program cause) := by
  rw [State.program_eq]
  exact State.keeps_raise_of_guarded (by simp) 6

theorem State.keeps_alignment (s : State) (ea : Word) (store spe : Bool) : s.Keeps (s.alignment ea store spe) := by
  rw [State.alignment_eq]
  exact State.keeps_raise_of_guarded (by simp) 5

theorem State.keeps_speUnavailable (s : State) : s.Keeps s.speUnavailable := by
  rw [State.speUnavailable_eq]
  exact State.keeps_raise_of_guarded (by simp) 16

theorem State.keeps_efpData (s : State) : s.Keeps s.efpData := by
  rw [State.efpData_eq]
  exact State.keeps_raise_of_guarded (by simp) 17

/-- An interrupt taken after ESR was written. -/
theorem State.keeps_setEsr_takeInterrupt (s : State) (esr : Word) (c : IntClass) (v a : Word) :
    s.Keeps ((s.setEsr esr).takeInterrupt c v a) :=
  (State.Keeps.of_guarded (s.guarded_setEsr esr)).trans (State.keeps_takeInterrupt _ c v a)

theorem State.keeps_efpRoundAt (s : State) (next : Word) : s.Keeps (s.efpRoundAt next) :=
  (s.keeps_setEsr_takeInterrupt (oneBit 24 ||| s.vlemi) .nonCritical (vectorOf s 18) next).trans (.of_guarded rfl)

theorem State.keeps_systemCall (s : State) (next : Word) : s.Keeps (s.systemCall next) :=
  s.keeps_setEsr_takeInterrupt s.vlemi .nonCritical (vectorOf s 8) next

theorem State.keeps_takeDebug (s : State) (a : Word) : s.Keeps (s.takeDebug a) := s.keeps_takeInterrupt _ _ _

theorem State.keeps_debugInstead (s : State) (e : Word) : s.Keeps (s.debugInstead e) :=
  ((s.keeps_record e true).trans (State.keeps_takeDebug _ s.pc)).suppress

theorem State.keeps_machineCheck (s : State) (report a : Word) : s.Keeps (s.machineCheck report a) := by
  have reported : s.Keeps { s with int.mcsr := s.int.mcsr ||| report } := .of_guarded rfl
  exact reported.trans (State.keeps_takeInterrupt _ .machineCheck (vectorOf s 1) a)

theorem State.keeps_errorReport (s : State) (report : Word) : s.Keeps (s.errorReport report) :=
  (s.keeps_machineCheck report s.pc).suppress

theorem State.keeps_returnFrom (s : State) (x0 x1 : Word) : s.Keeps (s.returnFrom x0 x1) :=
  (s.keeps_setMsr x1).trans (State.keeps_jump _ x0)

theorem State.keeps_takePending (s : State) (p : Pending) : s.Keeps (s.takePending p) := by
  cases p with
  | machineCheck =>
    have taken : s.Keeps { s with nmiPending := false } := .of_guarded rfl
    exact taken.trans (State.keeps_machineCheck _ (when s.nmiPending (oneBit 11)) s.pc)
  | debug => exact s.keeps_takeDebug _
  | criticalInput => exact (s.keeps_takeInterrupt _ _ _).pulse _
  | watchdog => exact s.keeps_takeInterrupt _ _ _
  | externalInput => exact (s.keeps_takeInterrupt _ _ _).pulse _
  | fixedInterval => exact s.keeps_takeInterrupt _ _ _
  | decrementer => exact s.keeps_takeInterrupt _ _ _

/-- Taking an interrupt does not depend on the waiting state, which it ends (spec/62_timers_power_platform.md R2170). -/
theorem State.takePending_of_waiting (s : State) (p : Pending) :
    { s with waiting := false }.takePending p = s.takePending p := by
  cases p <;> rfl

/-! ## Inputs from outside -/

/-- New pin levels are sampled if m_clk runs with them, so the samples are the levels whatever they were before
(spec/62_timers_power_platform.md R2160). -/
theorem State.setPins_samplesPins (s : State) (p : Pins) : (s.setPins p).SamplesPins := by
  intro hclk
  have hnow : { s with pins := p }.clocked = true := by
    rw [State.setPins_eq] at hclk
    exact hclk
  rw [State.setPins_eq]
  simp only [State.samplePins, hnow, if_true]

theorem State.preserves_setPins (s : State) (p : Pins) : s.Preserves (s.setPins p) := by
  refine ⟨fun h => ?_, fun _ => s.setPins_samplesPins p⟩
  rw [State.setPins_eq]
  exact h.congr rfl rfl rfl rfl

theorem State.setPins_waiting (s : State) (p : Pins) : (s.setPins p).waiting = s.waiting := by
  rw [State.setPins_eq]

/-- Ticks leave the guarded fields alone. -/
theorem State.guarded_ticks (s : State) (n : Nat) : ((List.range n).foldl (fun t _ => t.tick) s).guarded = s.guarded :=
  List.foldlRecOn _ (fun (t : State) _ => t.tick) (motive := fun t => t.guarded = s.guarded) rfl
    fun t ht _ _ => t.guarded_tick.trans ht

theorem State.preserves_arrive (s : State) (m : MidwayInput) : s.Preserves (s.arrive m) :=
  (State.Preserves.of_guarded (s.guarded_ticks m.ticks)).trans (State.preserves_setPins _ m.pins)

theorem State.arrive_waiting (s : State) (m : MidwayInput) : (s.arrive m).waiting = s.waiting := by
  rw [State.arrive, State.setPins_waiting]
  exact State.waiting_of_guarded (s.guarded_ticks m.ticks)

theorem State.keeps_arrive (s : State) (m : MidwayInput) : s.Keeps (s.arrive m) :=
  (s.preserves_arrive m).keeps (s.arrive_waiting m)

/-- After a reset the state is legal as far as reset writes it, and memory is as before
(spec/10_state.md R190, spec/70_reset_and_hazards.md R2300). -/
theorem State.preserves_hardReset (s : State) : s.Preserves s.hardReset := by
  refine ⟨fun h => ⟨h.memory, ?_, BitVec.zero_and, BitVec.zero_and⟩, fun _ _ => rfl⟩
  change bit (s.pins.rstbase ++ 0#2) 31 = false
  rw [bit_low, BitVec.getLsbD_append]
  rfl

/-- A power-on reset differs from a reset in other fields only. -/
theorem State.guarded_powerOnReset (s : State) : s.powerOnReset.guarded = { s with dbg.dbcr0 := 0 }.hardReset.guarded := by
  simp only [State.powerOnReset, State.guarded]

theorem State.preserves_powerOnReset (s : State) : s.Preserves s.powerOnReset := by
  have undebugged : s.Preserves { s with dbg.dbcr0 := 0 } := .of_guarded rfl
  exact (undebugged.trans (State.preserves_hardReset _)).trans (.of_guarded s.guarded_powerOnReset)

/-- Bytes that another bus master writes leave memory in its canonical form (spec/20_memory.md R400). -/
theorem State.preserves_busWrite (s : State) (a : Word) (bs : List Byte) : s.Preserves (s.busWrite a bs) :=
  ⟨fun h => ⟨Memory.wf_writeAll _ _ h.memory, h.evenPc, h.msrBits, h.xerBits⟩, id⟩

theorem State.preserves_applyEvent (s : State) (e : HostEvent) : s.Preserves (s.applyEvent e) := by
  cases e with
  | tick c =>
    rw [State.applyEvent]
    split
    · exact .of_guarded s.guarded_tick
    · exact .refl s
  | pins p => exact s.preserves_setPins p
  | reset => exact s.preserves_hardReset
  | powerOn => exact s.preserves_powerOnReset
  | write a bs => exact s.preserves_busWrite a bs
  | busErrors rs => exact .of_guarded rfl
  | cacheLine i l => exact .of_guarded rfl
  | platform rs => exact .of_guarded rfl
  | during m => exact .of_guarded rfl

theorem State.preserves_settle (s : State) : s.Preserves s.settle :=
  List.foldlRecOn s.midway State.arrive (motive := s.Preserves) (.of_guarded rfl) fun t ht m _ => ht.trans (t.preserves_arrive m)

theorem State.preserves_deliver (s : State) : s.Preserves s.deliver := by
  unfold State.deliver
  split
  · exact .refl s
  · exact List.foldlRecOn _ State.applyEvent (motive := s.Preserves) (.of_guarded rfl)
      fun t ht e _ => ht.trans (t.preserves_applyEvent e)

theorem State.preserves_begin (s : State) : s.Preserves s.begin := by
  have cleared : s.Preserves { s with cur := Current.idle, outputs := [] } := .of_guarded rfl
  exact ((cleared.trans (State.preserves_settle _)).trans (State.preserves_deliver _)).trans
    (.of_guarded (State.guarded_pinLevels _))

/-! ## Data accesses -/

/-- The state an access operation leaves, whether it completes or is interrupted. -/
def Access.state {α : Type} : Access α → State
  | .done _ t => t
  | .raised t => t

theorem State.Keeps.access_bind {s : State} {α β : Type} {x : Access α} {f : α → State → Access β} (hx : s.Keeps x.state)
    (hf : ∀ v (t : State), t.Keeps (f v t).state) : s.Keeps (x.bind f).state := by
  cases x with
  | done v t => exact hx.trans (hf v t)
  | raised t => exact hx

theorem State.Keeps.access_next {s : State} {α : Type} {x : Access α} {f : α → State → State} (hx : s.Keeps x.state)
    (hf : ∀ v (t : State), t.Keeps (f v t)) : s.Answers (x.next f) := by
  cases x with
  | done v t => exact (hx.trans (hf v t)).answers
  | raised t => exact hx.answers

theorem State.keeps_dataFault (s : State) (q : Request) {fault : State → State} (hfault : ∀ t : State, t.Keeps (fault t)) :
    s.Keeps (s.dataFault q fault) := by
  have faulted (x : List DataAccess) : s.Keeps { s with cur.faulted := x } := .of_guarded rfl
  have recorded (x : List DataAccess) (e : Word) (v : Bool) : s.Keeps ({ s with cur.faulted := x }.record e v) :=
    (faulted x).trans (.of_guarded (State.guarded_record _ e v))
  unfold State.dataFault
  simp only []
  split
  · split
    · exact ((recorded _ _ _).trans (State.keeps_takeDebug _ s.pc)).suppress
    · exact (recorded _ _ _).trans (hfault _)
  · exact (faulted _).trans (hfault _)

theorem State.keeps_dataTlbError (s : State) (store spe : Bool) (ea : Word) : s.Keeps (s.dataTlbError store spe ea) := by
  unfold State.dataTlbError
  exact State.keeps_raise_of_guarded (by simp) 13

theorem State.keeps_dataStorage (s : State) (store spe : Bool) (extra ea : Word) :
    s.Keeps (s.dataStorage store spe extra ea) := by
  unfold State.dataStorage
  exact State.keeps_raise_of_guarded (by simp) 2

theorem State.keeps_translateData (s : State) (q : Request) : s.Keeps (s.translateData q).state := by
  have missed (ea : Word) := s.keeps_dataFault q fun t => t.keeps_dataTlbError q.store (q.kind == .spe) ea
  have denied (extra ea : Word) := s.keeps_dataFault q fun t => t.keeps_dataStorage q.store (q.kind == .spe) extra ea
  unfold State.translateData
  split
  · exact missed _
  · split
    · exact denied _ _
    · split
      · exact .of_guarded (State.guarded_usedMapping _ _)
      · simp only []
        split
        · exact missed _
        · split
          · exact denied _ _
          · split
            · exact denied _ _
            · exact .of_guarded (by simp [Access.state])

theorem State.keeps_loadBytes (s : State) (ea : Word) (n : Nat) (kind : AccessKind) :
    s.Keeps (s.loadBytes ea n kind).state := by
  unfold State.loadBytes
  refine (s.keeps_translateData _).access_bind fun mm t => ?_
  simp only []
  split
  · exact (State.Keeps.of_guarded (by simp)).trans (State.keeps_dataFault _ _ fun u => u.keeps_errorReport _)
  · exact .of_guarded rfl

theorem State.keeps_load (s : State) (ea : Word) (n : Nat) (kind : AccessKind) : s.Keeps (s.load ea n kind).state :=
  (s.keeps_loadBytes ea n kind).access_bind fun _ _ => .refl _

/-- What the core writes leaves memory in its canonical form (spec/20_memory.md R400). -/
theorem State.keeps_writeCells (s : State) (cells : List (Word × Byte)) : s.Keeps { s with mem := s.writeCells cells } :=
  .of_sampled (fun h => ⟨Memory.wf_writeAll _ _ h.memory, h.evenPc, h.msrBits, h.xerBits⟩) id rfl rfl rfl

theorem State.keeps_storeImage (s : State) (ea : Word) (n : Nat) (image : Bool → List Byte) (kind : AccessKind) :
    s.Keeps (s.storeImage ea n image kind).state := by
  unfold State.storeImage
  refine (s.keeps_translateData _).access_bind fun mm t => ?_
  extract_lets real bytes k err1 err2 e precise refused cells kept moved u u'
  have transferred : u.guarded = { t with mem := t.writeCells kept }.guarded := rfl
  have written : t.Keeps u := (t.keeps_writeCells kept).trans (.of_guarded transferred)
  have checked : t.Keeps u' := written.trans (.of_guarded (State.guarded_asyncCheck _ _ _ _))
  split
  · split
    · exact checked.trans (State.keeps_dataFault _ _ fun w => w.keeps_errorReport _)
    · exact checked.trans (.of_guarded (State.guarded_noteAccess _ _))
  · exact written.trans (.of_guarded (State.guarded_noteAccess _ _))

theorem State.keeps_store (s : State) (ea : Word) (n : Nat) (v : Dword) (kind : AccessKind) :
    s.Keeps (s.store ea n v kind).state :=
  s.keeps_storeImage ea n _ kind

end Sys2Proof.Machine
end

section
/-! SUPPORT. The instructions keep the invariants: one lemma for each shape, register instructions, loads and stores. -/

namespace Sys2Proof.Machine

/-! ## The answers of the shared shapes -/

theorem State.answers_illegal (s : State) : s.Answers (.next s.illegal) := (s.keeps_program _).answers

theorem State.answers_speUnavailable (s : State) : s.Answers (.next s.speUnavailable) := s.keeps_speUnavailable.answers

theorem State.answers_alignment (s : State) (ea : Word) (store spe : Bool) : s.Answers (.next (s.alignment ea store spe)) :=
  (s.keeps_alignment ea store spe).answers

theorem State.answers_supervisor {s : State} {f : State → Answer} (h : s.Answers (f s)) : s.Answers (s.supervisor f) := by
  unfold State.supervisor
  split
  · exact (s.keeps_program _).answers
  · exact h

/-! ### Integer, branch and system instructions -/

theorem State.answers_addForm (s : State) (f : Form) (rt : Reg) (a b : Word) (c : Bool) : s.Answers (s.addForm f rt a b c) :=
  (s.keeps_result _ _ _ _ _).answers_advance

theorem State.answers_plainResult (s : State) (f : Form) (rt : Reg) (v : Word) : s.Answers (s.plainResult f rt v) :=
  (s.keeps_result _ _ _ _ _).answers_advance

theorem State.answers_multiplyLow (s : State) (f : Form) (rt : Reg) (a b : Word) : s.Answers (s.multiplyLow f rt a b) :=
  (s.keeps_result _ _ _ _ _).answers_advance

theorem State.answers_shiftRightAlgebraic (s : State) (f : Form) (ra : Reg) (v : Word) (n : Nat) :
    s.Answers (s.shiftRightAlgebraic f ra v n) :=
  (s.keeps_result _ _ _ _ _).answers_advance

theorem State.keeps_divideUndefined (s : State) (f : Form) (rt : Reg) : s.Keeps (s.divideUndefined f rt) := by
  have divided (q : Word) : s.Keeps (s.result { f with rc := false } rt q false true).spendFree :=
    (s.keeps_result _ _ _ _ _).trans (.of_guarded (State.guarded_spendFree _))
  unfold State.divideUndefined
  simp only []
  split
  · exact (divided _).trans (.of_guarded (State.guarded_setCrField _ _ _))
  · exact divided _

theorem State.answers_divideSigned (s : State) (f : Form) (rt : Reg) (a b : Word) : s.Answers (s.divideSigned f rt a b) := by
  unfold State.divideSigned
  split
  · exact (s.keeps_divideUndefined f rt).answers_advance
  · exact s.answers_plainResult _ _ _

theorem State.answers_divideUnsigned (s : State) (f : Form) (rt : Reg) (a b : Word) :
    s.Answers (s.divideUnsigned f rt a b) := by
  unfold State.divideUnsigned
  split
  · exact (s.keeps_divideUndefined f rt).answers_advance
  · exact s.answers_plainResult _ _ _

theorem State.answers_compareResult (s : State) (bf : CrField) (v : BitVec 4) : s.Answers (s.compareResult bf v) :=
  State.answers_advance_of_guarded (s.guarded_setCrField bf v)

theorem State.answers_trap (s : State) (met : Bool) : s.Answers (s.trap met) := by
  unfold State.trap
  split
  · exact (State.Keeps.refl s).answers_advance
  · split
    · exact (s.keeps_debugInstead _).answers
    · exact ((s.keeps_record _ true).trans (State.keeps_program _ _)).answers

theorem State.answers_branch (s : State) (taken link : Bool) (ctr target : Word) :
    s.Answers (s.branch taken link ctr target) := by
  have linked : s.Keeps { s with ctr := ctr, lr := if link then s.pc + 4 else s.lr } := .of_guarded rfl
  unfold State.branch
  split
  · exact (s.keeps_debugInstead _).answers
  · simp only []
    split
    · exact (linked.trans (State.keeps_jump _ target)).answers
    · exact linked.answers_advance

theorem State.answers_crLogical (s : State) (bt : CrBit) (v : Bool) : s.Answers (s.crLogical bt v) :=
  State.answers_advance_of_guarded (s.guarded_setCrBit bt v)

theorem State.answers_mcrxr (s : State) (bf : CrField) : s.Answers (execMcrxr bf s) := by
  have moved : s.Keeps (s.setCrField bf (bits 0 4 s.xer)) := .of_guarded (s.guarded_setCrField _ _)
  refine (moved.trans (State.keeps_setXer _ fun h => ?_)).answers_advance
  rw [BitVec.and_assoc, BitVec.and_comm 0x0FFFFFFF, ← BitVec.and_assoc]
  exact (congrArg (· &&& _) h).trans BitVec.zero_and

theorem State.answers_returnPlain (s : State) (x0 x1 : Word) (o : OutputEvent) : s.Answers (s.returnPlain x0 x1 o) :=
  State.answers_supervisor ((s.keeps_returnFrom x0 x1).pulse o).answers

theorem State.answers_returnNonCritical (s : State) : s.Answers s.returnNonCritical := by
  have noted : s.Keeps { s with cur.ret := true } := .of_guarded rfl
  refine State.answers_supervisor ?_
  simp only []
  split
  · exact (noted.trans (State.keeps_debugInstead _ _)).answers
  · exact (((noted.trans (State.keeps_record _ _ true)).trans (State.keeps_returnFrom _ _ _)).pulse _).answers

theorem State.answers_returnCritical (s : State) : s.Answers s.returnCritical := by
  have noted : s.Keeps { s with cur.cret := true } := .of_guarded rfl
  refine State.answers_supervisor ?_
  simp only []
  split
  · exact (noted.trans (State.keeps_debugInstead _ _)).answers
  · exact (((noted.trans (State.keeps_record _ _ true)).trans (State.keeps_returnFrom _ _ _)).pulse _).answers

theorem State.answers_returnDebug (s : State) : s.Answers s.returnDebug := by
  unfold State.returnDebug
  split
  · exact s.answers_illegal
  · exact s.answers_returnPlain _ _ _

/-- A core that halts in debug mode keeps its samples: m_clk runs then only if it ran before. -/
theorem State.answers_notifyHalt (s : State) (ir : Word) (dui : BitVec 5) : s.Answers (s.notifyHalt ir dui) := by
  unfold State.notifyHalt
  split
  · exact s.answers_illegal
  · refine ⟨fun h => h.congr rfl rfl rfl rfl, fun hs hclk => hs.samples ?_⟩
    have hmclk : s.pins.mclkOn = true := by simpa [State.clocked, State.suspended, State.pulse, State.suppress] using hclk
    simp only [State.clocked, hmclk, Bool.true_or]

/-- wait leaves the core waiting, and its samples as they are. -/
theorem State.answers_wait (s : State) : s.Answers (execWait s) := by
  refine ⟨fun h => ((s.keeps_advance (n := 4) (by decide)).legal h).congr rfl rfl rfl rfl, fun hs hclk => hs.samples ?_⟩
  cases hsusp : s.suspended with
  | false => exact State.clocked_of_active hs.notWaiting hsusp
  | true =>
    have hmclk : s.pins.mclkOn = true := by simpa [State.clocked] using hclk
    simp only [State.clocked, hmclk, Bool.true_or]

/-! ### Floating-point and SPE instructions -/

theorem State.answers_efpCommit {s : State} {h l : ElementResult} {write : Bool → State → State}
    (hwrite : ∀ b (t : State), (write b t).guarded = t.guarded) : s.Answers (s.efpCommit h l write) := by
  have written (b : Bool) (w : Word) : s.Keeps (write b (s.setSpefscr w)) :=
    .of_guarded ((hwrite b _).trans (s.guarded_setSpefscr w))
  rw [State.efpCommit_eq]
  split
  · exact ((State.Keeps.of_guarded (s.guarded_setSpefscr _)).trans (State.keeps_efpData _)).answers
  · split
    · exact ((written true _).trans (State.keeps_efpRoundAt _ _)).answers
    · exact (written false _).answers_advance

theorem State.answers_scalarCommit (s : State) (rd : Reg) (e : ElementResult) : s.Answers (s.scalarCommit rd e) :=
  State.answers_efpCommit fun _ t => t.guarded_setR rd _

theorem State.answers_vectorCommit (s : State) (rd : Reg) (h l : ElementResult) : s.Answers (s.vectorCommit rd h l) := by
  unfold State.vectorCommit
  split
  · exact s.answers_speUnavailable
  · exact State.answers_efpCommit fun _ t => t.guarded_setR64 rd _

theorem State.guarded_scalarCompareField (s : State) (crfD : CrField) (c : Bool) :
    (s.scalarCompareField crfD c).guarded = s.guarded := rfl

theorem State.answers_scalarCompare (s : State) (crfD : CrField) (c : Bool) (a b : Word) :
    s.Answers (s.scalarCompare crfD c a b) :=
  State.answers_efpCommit fun _ t => t.guarded_scalarCompareField crfD c

theorem State.answers_scalarTest (s : State) (crfD : CrField) (c : Bool) : s.Answers (s.scalarTest crfD c) :=
  State.answers_advance_of_guarded (s.guarded_scalarCompareField crfD c)

theorem State.answers_vectorCompare (s : State) (crfD : CrField) (rel : Word → Word → Bool) (a b : Dword) :
    s.Answers (s.vectorCompare crfD rel a b) := by
  unfold State.vectorCompare
  split
  · exact s.answers_speUnavailable
  · exact State.answers_efpCommit fun _ t => t.guarded_setCrField crfD _

theorem State.answers_vectorTest (s : State) (crfD : CrField) (rel : Word → Word → Bool) (a b : Dword) :
    s.Answers (s.vectorTest crfD rel a b) := by
  unfold State.vectorTest
  split
  · exact s.answers_speUnavailable
  · exact State.answers_advance_of_guarded (s.guarded_setCrField _ _)

theorem State.answers_vector {s t : State} (h : t.guarded = s.guarded) : s.Answers (s.vector t) := by
  rw [State.vector_eq]
  split
  · exact State.answers_advance_of_guarded h
  · exact s.answers_speUnavailable

theorem State.answers_vectorResult (s : State) (rd : Reg) (v : Dword) : s.Answers (s.vectorResult rd v) :=
  State.answers_vector (s.guarded_setR64 rd v)

theorem State.answers_vectorCr (s : State) (crfD : CrField) (rel : Word → Word → Bool) (a b : Dword) :
    s.Answers (s.vectorCr crfD rel a b) :=
  State.answers_vector (s.guarded_setCrField crfD _)

theorem State.answers_divideElements (s : State) (rd : Reg) (f : Word → Word → Word × Bool) (a b : Dword) :
    s.Answers (s.divideElements rd f a b) :=
  State.answers_vector (by simp)

theorem State.answers_macResult (s : State) (rd : Reg) (toAcc : Bool) (v : Dword) (ov : Option (Bool × Bool)) :
    s.Answers (s.macResult rd toAcc v ov) := by
  refine State.answers_vector ?_
  cases toAcc <;> cases ov <;> rfl

theorem State.answers_productPair (s : State) (rd : Reg) (toAcc : Bool) (h l : Word) :
    s.Answers (s.productPair rd toAcc h l) :=
  s.answers_macResult _ _ _ _

theorem State.answers_productPairSaturated (s : State) (rd : Reg) (toAcc : Bool) (h l : Word × Bool) :
    s.Answers (s.productPairSaturated rd toAcc h l) :=
  s.answers_macResult _ _ _ _

theorem State.answers_accumulatePair (s : State) (rd : Reg) (g : AccSign) (h l : Word) :
    s.Answers (s.accumulatePair rd g h l) :=
  s.answers_macResult _ _ _ _

theorem State.answers_accumulatePairSaturated (s : State) (rd : Reg) (acc : Word → Word → Word × Bool) (h l : Word × Bool) :
    s.Answers (s.accumulatePairSaturated rd acc h l) := by
  unfold State.accumulatePairSaturated
  exact s.answers_macResult _ _ _ _

theorem State.answers_accumulateDouble (s : State) (rd : Reg) (g : AccSign) (t : Dword) :
    s.Answers (s.accumulateDouble rd g t) :=
  s.answers_macResult _ _ _ _

theorem State.answers_accumulateDoubleSaturated (s : State) (rd : Reg) (g : AccSign) (t : Dword × Bool) :
    s.Answers (s.accumulateDoubleSaturated rd g t) := by
  unfold State.accumulateDoubleSaturated
  exact s.answers_macResult _ _ _ _

/-! ### Loads and stores -/

/-- The end of a load or store: registers written, and on to the next instruction. -/
theorem State.keeps_next_of_guarded {s t : State} (h : t.guarded = s.guarded) : s.Keeps (t.advance 4) :=
  (State.Keeps.of_guarded h).trans (t.keeps_advance (by decide))

theorem State.answers_loadInto (s : State) (n : Nat) (f : Dword → Word) (update : Option Reg) (rt : Reg) (ea : Word) :
    s.Answers (s.loadInto n f update rt ea) := by
  refine (s.keeps_load ea n .base).access_next fun v t => State.keeps_next_of_guarded ?_
  cases update <;> rfl

theorem State.answers_storeFrom (s : State) (n : Nat) (v : Word) (update : Option Reg) (ea : Word) :
    s.Answers (s.storeFrom n v update ea) := by
  refine (s.keeps_store ea n _ .base).access_next fun v t => State.keeps_next_of_guarded ?_
  cases update <;> rfl

/-- Inputs that arrive inside a multiple (spec/60_exceptions.md R2011). -/
theorem State.keeps_arrivals (s : State) (due later : List MidwayInput) :
    s.Keeps (due.foldl State.arrive { s with midway := later }).pinLevels := by
  have arrived : s.Keeps (due.foldl State.arrive { s with midway := later }) :=
    List.foldlRecOn due State.arrive (.of_guarded rfl) fun t ht m _ => ht.trans (t.keeps_arrive m)
  exact arrived.trans (.of_guarded (State.guarded_pinLevels _))

/-- A multiple abandoned for an interrupt (R2011). -/
theorem State.keeps_abandon (s : State) (p : Pending) :
    s.Keeps ({ s with cur := { s.cur with accesses := [], abandoned := true } }.takePending p).suppress := by
  have dropped : s.Keeps { s with cur := { s.cur with accesses := [], abandoned := true } } := .of_guarded rfl
  exact (dropped.trans (State.keeps_takePending _ p)).suppress

theorem State.keeps_between (s : State) (k : Nat) : s.Keeps (s.between k).state := by
  unfold State.between
  split
  · exact .refl s
  · simp only []
    split
    · exact s.keeps_arrivals _ _
    · split
      · exact (s.keeps_arrivals _ _).trans (State.keeps_abandon _ _)
      · exact s.keeps_arrivals _ _

theorem State.keeps_mayAbandon (s : State) (interruptible : Bool) (k : Nat) : s.Keeps (s.mayAbandon interruptible k).state := by
  unfold State.mayAbandon
  split
  · exact s.keeps_between k
  · exact .refl s

theorem State.keeps_loadWords (s : State) (interruptible : Bool) (ea : Word) (k : Nat) (fs : List (Word → State → State))
    (hfs : ∀ f ∈ fs, ∀ v (t : State), t.Keeps (f v t)) : s.Keeps (s.loadWords interruptible ea k fs).state := by
  induction fs generalizing s ea k with
  | nil => exact .refl s
  | cons f fs ih =>
    obtain ⟨hf, hrest⟩ := List.forall_mem_cons.1 hfs
    exact (s.keeps_mayAbandon interruptible k).access_bind fun _ t =>
      (t.keeps_load ea 4 .multiple).access_bind fun v u => (hf (lo v) u).trans (ih _ _ _ hrest)

theorem State.keeps_storeWords (s : State) (interruptible : Bool) (ea : Word) (k : Nat) (vs : List Word) :
    s.Keeps (s.storeWords interruptible ea k vs).state := by
  induction vs generalizing s ea k with
  | nil => exact .refl s
  | cons v vs ih =>
    exact (s.keeps_mayAbandon interruptible k).access_bind fun _ t =>
      (t.keeps_store ea 4 _ .multiple).access_bind fun _ u => ih u _ _

theorem State.answers_loadMultiple (s : State) (rt : Reg) (ea : Word) : s.Answers (s.loadMultiple rt ea) := by
  unfold State.loadMultiple
  split
  · exact s.answers_alignment _ _ _
  · refine (s.keeps_loadWords true ea 0 _ fun f hf v t => ?_).access_next fun _ t => t.keeps_advance (by decide)
    obtain ⟨r, -, rfl⟩ := List.mem_map.1 hf
    exact .of_guarded (t.guarded_setR r v)

theorem State.answers_storeMultiple (s : State) (rs : Reg) (ea : Word) : s.Answers (s.storeMultiple rs ea) := by
  unfold State.storeMultiple
  split
  · exact s.answers_alignment _ _ _
  · exact (s.keeps_storeWords true ea 0 _).access_next fun _ t => t.keeps_advance (by decide)

theorem State.answers_loadGroup {s : State} {interruptible : Bool} {ra : Reg} {d8 : BitVec 8}
    {fs : List (Word → State → State)} (hfs : ∀ f ∈ fs, ∀ v (t : State), t.Keeps (f v t)) :
    s.Answers (s.loadGroup interruptible ra d8 fs) := by
  unfold State.loadGroup
  split
  · exact s.answers_alignment _ _ _
  · exact (s.keeps_loadWords interruptible _ 0 fs hfs).access_next fun _ t => t.keeps_advance (by decide)

/-- The two registers of a save/restore pair, loaded in supervisor mode (spec/44_vle.md R984 to R991). -/
theorem State.answers_loadPair {s : State} {ra : Reg} {d8 : BitVec 8} {f g : Word → State → State}
    (hf : ∀ v (t : State), (f v t).guarded = t.guarded) (hg : ∀ v (t : State), (g v t).guarded = t.guarded) :
    s.Answers (s.supervisor fun u => u.loadGroup false ra d8 [f, g]) := by
  refine State.answers_supervisor (State.answers_loadGroup ?_)
  simp only [List.forall_mem_cons, List.not_mem_nil, false_imp_iff, implies_true, and_true]
  exact ⟨fun v t => .of_guarded (hf v t), fun v t => .of_guarded (hg v t)⟩

theorem State.answers_storeGroup (s : State) (interruptible : Bool) (ra : Reg) (d8 : BitVec 8) (vs : List Word) :
    s.Answers (s.storeGroup interruptible ra d8 vs) := by
  unfold State.storeGroup
  split
  · exact s.answers_alignment _ _ _
  · exact (s.keeps_storeWords interruptible _ 0 vs).access_next fun _ t => t.keeps_advance (by decide)

theorem State.answers_loadReserve (s : State) (n : Nat) (rt : Reg) (ea : Word) : s.Answers (s.loadReserve n rt ea) := by
  unfold State.loadReserve
  split
  · exact s.answers_alignment _ _ _
  · exact (s.keeps_load ea n .atomic).access_next fun v t => State.keeps_next_of_guarded (by simp)

theorem State.answers_storeConditional (s : State) (n : Nat) (rs : Reg) (ea : Word) :
    s.Answers (s.storeConditional n rs ea) := by
  unfold State.storeConditional
  split
  · exact State.answers_advance_of_guarded (s.guarded_setCrField _ _)
  · split
    · exact s.answers_alignment _ _ _
    · exact (s.keeps_store ea n _ .atomic).access_next fun ok t =>
        State.keeps_next_of_guarded (t := (t.conditionalCr0 ok).setReserve false) rfl

theorem State.answers_vectorLoad (s : State) (strict : Bool) (n : Nat) (rd : Reg) (ea : Word)
    (layout : List Byte × Mapping → Dword) : s.Answers (s.vectorLoad strict n rd ea layout) := by
  unfold State.vectorLoad
  split
  · exact s.answers_speUnavailable
  · split
    · exact s.answers_alignment _ _ _
    · exact (s.keeps_loadBytes ea n .spe).access_next fun r t =>
        State.keeps_next_of_guarded (t.guarded_setR64 rd _)

theorem State.answers_vectorStore (s : State) (strict : Bool) (n : Nat) (ea : Word) (elements : List Dword) :
    s.Answers (s.vectorStore strict n ea elements) := by
  unfold State.vectorStore
  split
  · exact s.answers_speUnavailable
  · split
    · exact s.answers_alignment _ _ _
    · exact (s.keeps_storeImage ea _ _ .spe).access_next fun _ t => t.keeps_advance (by decide)

theorem State.answers_mbar (s : State) (mo : BitVec 5) : s.Answers (execMbar mo s) := by
  unfold execMbar
  split
  · exact (State.Keeps.refl s).answers_advance
  · exact s.answers_illegal

end Sys2Proof.Machine
end

section
/-! SUPPORT. The instructions keep the invariants: cache, TLB and special-purpose registers; and so does the fetch. -/

namespace Sys2Proof.Machine

/-! ### The cache instructions -/

theorem State.answers_done {s t : State} (h : t.guarded = s.guarded) : s.Answers (t.done 4) :=
  State.answers_advance_of_guarded h

theorem State.answers_cacheCheck {s t : State} (h : t.guarded = s.guarded) (async real : Word) :
    s.Answers (.next (t.cacheCheck async real)) :=
  ((State.Keeps.of_guarded ((t.guarded_asyncCheck async real false).trans h)).trans (State.keeps_errorReport _ _)).answers

theorem State.answers_dataTlbError {s t : State} (h : t.guarded = s.guarded) (store spe : Bool) (ea : Word) :
    s.Answers (.next (t.dataTlbError store spe ea)) :=
  ((State.Keeps.of_guarded h).trans (t.keeps_dataTlbError store spe ea)).answers

theorem State.answers_dataStorage {s t : State} (h : t.guarded = s.guarded) (store spe : Bool) (extra ea : Word) :
    s.Answers (.next (t.dataStorage store spe extra ea)) :=
  ((State.Keeps.of_guarded h).trans (t.keeps_dataStorage store spe extra ea)).answers

theorem State.answers_lockStorage {s t : State} (h : t.guarded = s.guarded) : s.Answers (.next t.lockStorage) :=
  State.answers_dataStorage ((t.guarded_spendFree).trans h) _ _ _ _

/-- A state that differs from another in the instruction cache only. -/
@[simp] theorem State.guarded_withIc (s : State) (c : ICache) : { s with ic := c }.guarded = s.guarded := rfl

theorem State.answers_cacheInvalidate (s : State) (ea : Word) : s.Answers (s.cacheInvalidate ea) := by
  unfold State.cacheInvalidate
  simp only []
  split
  · exact State.answers_done (s.guarded_command _ _)
  · split
    · exact State.answers_dataTlbError (s.guarded_command _ _) _ _ _
    · split
      · exact State.answers_dataStorage (s.guarded_command _ _) _ _ _ _
      · split
        · trivial
        · exact State.answers_done (by simp)

theorem State.answers_cacheTouch (s : State) (ct : BitVec 5) (ea : Word) : s.Answers (s.cacheTouch ct ea) := by
  unfold State.cacheTouch
  simp only []
  split
  · exact State.answers_done (s.guarded_command _ _)
  · split
    · exact State.answers_done (s.guarded_command _ _)
    · split
      · exact State.answers_done (by simp)
      · split
        · trivial
        · split
          · exact State.answers_done (by simp)
          · split
            · exact State.answers_done (by simp)
            · split
              · exact State.answers_done (by simp)
              · split
                · exact State.answers_done (by simp)
                · split
                  · exact State.answers_done (by simp)
                  · exact State.answers_done (by simp)

theorem State.answers_lockLine {s t : State} (h : t.guarded = s.guarded) (ea : Word) (m : Mapping) :
    s.Answers (t.lockLine ea m) := by
  unfold State.lockLine
  simp only []
  split
  · exact State.answers_done (by simp [h])
  · split
    · exact State.answers_done (by simp [h])
    · split
      · split
        · exact State.answers_cacheCheck (by simp [h]) _ _
        · exact State.answers_done (by simp [h])
      · split
        · exact State.answers_done (by simp [h])
        · split
          · split
            · exact State.answers_cacheCheck (by simp [h]) _ _
            · exact State.answers_done (by simp [h])
          · exact State.answers_done (by simp [h])

theorem State.answers_cacheLock (s : State) (ct : BitVec 5) (ea : Word) : s.Answers (s.cacheLock ct ea) := by
  unfold State.cacheLock
  simp only []
  split
  · exact State.answers_done (by simp)
  · split
    · exact State.answers_dataTlbError (s.guarded_command _ _) _ _ _
    · split
      · exact State.answers_lockStorage (s.guarded_command _ _)
      · split
        · exact State.answers_dataStorage (s.guarded_command _ _) _ _ _ _
        · split
          · trivial
          · split
            · split
              · trivial
              · split
                · split
                  · exact State.answers_lockLine (by simp) _ _
                  · exact State.answers_cacheCheck (by simp) _ _
                · split
                  · exact State.answers_cacheCheck (by simp) _ _
                  · exact State.answers_lockLine (by simp) _ _
            · exact State.answers_lockLine (by simp) _ _

theorem State.answers_unlockLine {s t : State} (h : t.guarded = s.guarded) (ea : Word) (m : Mapping) :
    s.Answers (t.unlockLine ea m) := by
  unfold State.unlockLine
  split
  · exact State.answers_done (by simp [h])
  · exact State.answers_done h

theorem State.answers_cacheUnlock (s : State) (ct : BitVec 5) (ea : Word) : s.Answers (s.cacheUnlock ct ea) := by
  unfold State.cacheUnlock
  simp only []
  split
  · exact State.answers_done (s.guarded_command _ _)
  · split
    · exact State.answers_dataTlbError (s.guarded_command _ _) _ _ _
    · split
      · exact State.answers_lockStorage (s.guarded_command _ _)
      · split
        · exact State.answers_dataStorage (s.guarded_command _ _) _ _ _ _
        · split
          · trivial
          · split
            · split
              · trivial
              · split
                · split
                  · exact State.answers_unlockLine (by simp) _ _
                  · exact State.answers_cacheCheck (by simp) _ _
                · split
                  · exact State.answers_cacheCheck (by simp) _ _
                  · exact State.answers_unlockLine (by simp) _ _
            · exact State.answers_unlockLine (by simp) _ _

/-! ### The TLB instructions and special-purpose registers -/

@[simp] theorem State.guarded_withMmu (s : State) (m : MmuRegs) : { s with mmu := m }.guarded = s.guarded := rfl

@[simp] theorem State.guarded_tlbSearch (s : State) (ea : Word) : (s.tlbSearch ea).guarded = s.guarded := by
  unfold State.tlbSearch
  split <;> rfl

@[simp] theorem State.guarded_flashInvalidate (s : State) : s.flashInvalidate.guarded = s.guarded := rfl

/-- What mtspr writes: XER keeps its implemented bits, and no other register is one of the guarded fields. The cases are those of
writeSpr: the first is XER, 84 is HID0 and 88 is MMUCSR0, whose writes branch, and 90 is no register. -/
theorem State.keeps_writeSpr {s t : State} {n : Nat} {v : Word} (h : s.writeSpr n v = some t) : s.Keeps t := by
  unfold State.writeSpr at h
  split at h
  case h_1 =>
    cases h
    exact s.keeps_setXer fun _ => and_mask_implemented v (by decide)
  case h_84 =>
    cases h
    exact .of_guarded (s.guarded_setHid0 v)
  case h_88 =>
    split at h <;> cases h
    · exact .of_guarded s.guarded_flashInvalidate
    · exact .refl s
  case h_90 => cases h
  all_goals
    cases h
    exact .of_guarded rfl

theorem State.answers_moveToSpr (s : State) (n : Nat) (v : Dword) : s.Answers (s.moveToSpr n v) := by
  unfold State.moveToSpr
  split
  · exact State.answers_advance_of_guarded (by rfl)
  · split
    · exact State.answers_advance_of_guarded (by rfl)
    · split
      · split
        · exact State.answers_advance_of_guarded (by rfl)
        · trivial
      · split
        · next t h => exact (State.keeps_writeSpr h).answers_advance
        · exact s.answers_illegal

theorem State.answers_moveFromSpr (s : State) (rt : Reg) (n : Nat) : s.Answers (s.moveFromSpr rt n) := by
  unfold State.moveFromSpr
  split
  · exact State.answers_advance_of_guarded (s.guarded_setR64 _ _)
  · split
    · exact State.answers_advance_of_guarded (s.guarded_setR64 _ _)
    · split
      · exact State.answers_advance_of_guarded (s.guarded_setR _ _)
      · exact s.answers_illegal

theorem State.answers_mtspr (s : State) (rs : Reg) (f : BitVec 10) : s.Answers (execMtspr rs f s) := by
  unfold execMtspr
  split
  · exact (s.keeps_program _).answers
  · exact s.answers_moveToSpr _ _

theorem State.answers_mfspr (s : State) (rt : Reg) (f : BitVec 10) : s.Answers (execMfspr rt f s) := by
  unfold execMfspr
  split
  · exact (s.keeps_program _).answers
  · exact s.answers_moveFromSpr _ _

theorem State.guarded_writeDcr {s t : State} {n : Nat} {v : Word} (h : s.writeDcr n v = some t) : t.guarded = s.guarded := by
  unfold State.writeDcr at h
  split at h <;> cases h <;> rfl

theorem State.answers_moveToDcr (s : State) (n : Nat) (v : Word) : s.Answers (s.moveToDcr n v) := by
  unfold State.moveToDcr
  split
  · split
    · exact State.answers_advance_of_guarded (by rfl)
    · trivial
  · split
    · next t h => exact State.answers_advance_of_guarded (State.guarded_writeDcr h)
    · exact s.answers_illegal

theorem State.answers_moveFromDcr (s : State) (rt : Reg) (n : Nat) : s.Answers (s.moveFromDcr rt n) := by
  unfold State.moveFromDcr
  split
  · exact State.answers_advance_of_guarded (s.guarded_setR _ _)
  · exact s.answers_illegal

/-- The volatile special-purpose registers as e_lmvsprw loads them; XER keeps its implemented bits (spec/44_vle.md R982). -/
theorem State.keeps_volatileSprWriters :
    ∀ f ∈ volatileSprWriters, ∀ v (t : State), t.Keeps (f v t) := by
  simp only [volatileSprWriters, List.forall_mem_cons, List.not_mem_nil, false_imp_iff, implies_true, and_true]
  exact ⟨fun v t => .of_guarded (t.guarded_setCr v), fun v t => .of_guarded (t.guarded_setLr v),
    fun v t => .of_guarded (t.guarded_setCtr v), fun v t => t.keeps_setXer fun _ => and_mask_implemented v (by decide)⟩

/-! ## Fetching -/

/-- A fetch of bytes that begins in s keeps the invariants unless it stops the machine. -/
def Fetch.KeptFrom (s : State) : Fetch → Prop
  | .bytes _ t => t.guarded = s.guarded
  | .check _ _ t => t.guarded = s.guarded
  | .stop _ => True

/-- The fetch of an instruction that begins in s keeps the invariants unless it stops the machine. -/
def Fetched.KeptFrom (s : State) : Fetched → Prop
  | .bytes _ _ t => s.Keeps t
  | .raised t => s.Keeps t
  | .stop _ => True

theorem State.keptFrom_fetchRead {s t : State} (h : t.guarded = s.guarded) (real : Word) (n : Nat) :
    (t.fetchRead real n).KeptFrom s := by
  unfold State.fetchRead
  simp only []
  split <;> exact h

theorem State.keptFrom_fetchMemory {s t : State} (h : t.guarded = s.guarded) (real : Word) (n : Nat) (e : TlbEntry) :
    (t.fetchMemory real n e).KeptFrom s :=
  State.keptFrom_fetchRead ((t.guarded_fetchRequest _ _ _ _).trans h) real n

theorem State.keptFrom_fetchFill {s t : State} (h : t.guarded = s.guarded) (ea real : Word) (n : Nat) (e : TlbEntry)
    (way : Nat) : (t.fetchFill ea real n e way).KeptFrom s := by
  unfold State.fetchFill
  simp only []
  split
  · exact State.keptFrom_fetchRead (by simp [h]) _ _
  · exact State.keptFrom_fetchRead (by simp [h]) _ _

theorem State.keptFrom_fetchClean {s t : State} (h : t.guarded = s.guarded) (ea real : Word) (n : Nat) (e : TlbEntry) :
    (t.fetchClean ea real n e).KeptFrom s := by
  unfold State.fetchClean
  simp only []
  split
  · split
    · exact h
    · split
      · exact State.keptFrom_fetchMemory (by simp [h]) _ _ _
      · split
        · exact h
        · split
          · split
            · split
              · exact h
              · exact State.keptFrom_fetchRead (by simp [h]) _ _
            · exact State.keptFrom_fetchRead (by simp [h]) _ _
          · trivial
  · split
    · exact State.keptFrom_fetchMemory h _ _ _
    · split
      · exact State.keptFrom_fetchMemory h _ _ _
      · exact State.keptFrom_fetchFill h _ _ _ _ _

theorem State.keptFrom_fetchBytes (s : State) (ea real : Word) (n : Nat) (e : TlbEntry) :
    (s.fetchBytes ea real n e).KeptFrom s := by
  unfold State.fetchBytes
  simp only []
  split
  · exact State.keptFrom_fetchMemory rfl _ _ _
  · split
    · trivial
    · split
      · split
        · trivial
        · split
          · split
            · exact State.keptFrom_fetchMemory (by simp) _ _ _
            · exact State.keptFrom_fetchMemory (by simp) _ _ _
          · split
            · exact s.guarded_reportTags _ _
            · split
              · exact s.guarded_reportTags _ _
              · exact State.keptFrom_fetchClean (by simp) _ _ _ _
      · exact State.keptFrom_fetchClean rfl _ _ _ _

theorem State.keeps_handlerFault (s : State) (extra a : Word) (effective : Bool) : s.Keeps (s.handlerFault extra a effective) :=
  (State.Keeps.of_guarded (s.guarded_asyncCheck _ _ _)).trans (State.keeps_errorReport _ _)

theorem State.keeps_instrTlbError (s : State) (ea : Word) (second : Bool) : s.Keeps (s.instrTlbError ea second) := by
  unfold State.instrTlbError
  split
  · exact s.keeps_handlerFault _ _ _
  · exact State.keeps_raise_of_guarded (by simp) 14

theorem State.keeps_instrStorage (s : State) (cause real : Word) : s.Keeps (s.instrStorage cause real) := by
  unfold State.instrStorage
  split
  · exact s.keeps_handlerFault _ _ _
  · exact State.keeps_raise_of_guarded (s.guarded_setEsr _) 3

theorem State.keeps_fetchError (s : State) (async a : Word) : s.Keeps (s.fetchError async a) := by
  unfold State.fetchError
  split
  · exact s.keeps_handlerFault _ _ _
  · exact (State.Keeps.of_guarded (s.guarded_asyncCheck _ _ _)).trans (State.keeps_errorReport _ _)

theorem Fetch.KeptFrom.andThen {s : State} {x : Fetch} {f : List Byte → State → Fetched} (hx : x.KeptFrom s)
    (hf : ∀ bs (t : State), s.Keeps t → (f bs t).KeptFrom s) : (x.andThen f).KeptFrom s := by
  cases x with
  | bytes bs t => exact hf bs t (.of_guarded hx)
  | check async a t => exact (State.Keeps.of_guarded hx).trans (t.keeps_fetchError async a)
  | stop _ => trivial

theorem Fetched.KeptFrom.trans {s t : State} {x : Fetched} (h : s.Keeps t) (hx : x.KeptFrom t) : x.KeptFrom s := by
  cases x with
  | bytes bs p u => exact h.trans hx
  | raised u => exact h.trans hx
  | stop _ => trivial

theorem State.keptFrom_fetchSecond (s : State) (m : Mapping) (first : List Byte) : (s.fetchSecond m first).KeptFrom s := by
  have used (m2 : Mapping) : s.Keeps (s.usedMapping m2) := .of_guarded (s.guarded_usedMapping m2)
  unfold State.fetchSecond
  simp only []
  split
  · exact (s.keptFrom_fetchBytes _ _ _ _).andThen fun _ _ h => h
  · split
    · exact s.keeps_instrTlbError _ _
    · split
      · exact (used _).trans (State.keeps_instrStorage _ _ _)
      · split
        · exact (used _).trans (State.keeps_instrStorage _ _ _)
        · exact .trans (used _) ((State.keptFrom_fetchBytes _ _ _ _ _).andThen fun _ _ h => h)

theorem State.keptFrom_fetch (s : State) : s.fetch.KeptFrom s := by
  have used (m : Mapping) : s.Keeps { s.usedMapping m with cur.vle := m.entry.vle } :=
    (State.Keeps.of_guarded (s.guarded_usedMapping m)).trans (.of_guarded rfl)
  unfold State.fetch
  split
  · exact s.keeps_instrTlbError _ _
  · simp only []
    split
    · exact (used _).trans (State.keeps_instrStorage _ _ _)
    · split
      · split
        · exact (used _).trans (State.keeps_instrStorage _ _ _)
        · exact .trans (used _) ((State.keptFrom_fetchBytes _ _ _ _ _).andThen fun _ _ h => h)
      · split
        · exact (used _).trans (State.keeps_instrStorage _ _ _)
        · refine .trans (used _) ((State.keptFrom_fetchBytes _ _ _ _ _).andThen fun bs u h => ?_)
          split
          · exact .trans h (u.keptFrom_fetchSecond _ bs)
          · exact h

/-- The exception of a word that is no instruction (spec/30_encoding.md R560 to R575). -/
theorem State.answers_reject (s : State) (r : Reject) : s.Answers (s.reject r) := by
  cases r with
  | illegal => exact s.answers_illegal
  | unimplemented => exact (s.keeps_program _).answers
  | floatingPoint =>
    rw [State.reject]
    split
    · exact (s.keeps_program _).answers
    · exact (s.keeps_raise 7).answers
  | doublePrecision =>
    rw [State.reject]
    split
    · exact (s.keeps_program _).answers
    · exact s.answers_speUnavailable
  | vleOutside => trivial
  | truncated => trivial

end Sys2Proof.Machine
end

section
/-! SUPPORT. Every instruction and every step keeps the invariants. -/

namespace Sys2Proof.Machine

/-! ### Every instruction -/

/-- Every instruction keeps the invariants, by the lemma of the shape its meaning has. -/
theorem State.answers_exec (i : Instr) (s : State) : s.Answers (exec i s) := by
  unfold exec
  cases i with
  | add | addRc | addc | addcRc | addco | addcoRc | adde | addeRc | addeo | addeoRc | addi | addic | addicRc | addis | addme
  | addmeRc | addmeo | addmeoRc | addo | addoRc | addze | addzeRc | addzeo | addzeoRc | neg | negRc | nego | negoRc | subf
  | subfRc | subfc | subfcRc | subfco | subfcoRc | subfe | subfeRc | subfeo | subfeoRc | subfic | subfme | subfmeRc | subfmeo
  | subfmeoRc | subfo | subfoRc | subfze | subfzeRc | subfzeo | subfzeoRc => exact s.answers_addForm _ _ _ _ _
  | and | andRc | andc | andcRc | andiRc | andisRc | cntlzw | cntlzwRc | eqv | eqvRc | extsb | extsbRc | extsh | extshRc
  | mulhw | mulhwRc | mulhwu | mulhwuRc | nand | nandRc | nor | norRc | or | orRc | orc | orcRc | ori | oris | rlwimi
  | rlwimiRc | rlwinm | rlwinmRc | rlwnm | rlwnmRc | slw | slwRc | srw | srwRc | xor | xorRc | xori | xoris =>
    exact s.answers_plainResult _ _ _
  | b | ba | bc | bca | bcctr | bcctrl | bcl | bcla | bclr | bclrl | bl | bla => exact s.answers_branch _ _ _ _
  | cmp | cmpi | cmpl | cmpli => exact s.answers_compareResult _ _
  | crand | crandc | creqv | crnand | crnor | cror | crorc | crxor => exact s.answers_crLogical _ _
  | dcba | dcbf | dcblc | dcbst | dcbt | dcbtls | dcbtst | dcbtstls | isync | msync | seIsync =>
    exact (State.Keeps.refl s).answers_advance
  | dcbi | tlbsync => exact State.answers_supervisor (State.Keeps.refl s).answers_advance
  | dcbz => exact s.answers_alignment _ _ _
  | divw | divwRc | divwo | divwoRc => exact s.answers_divideSigned _ _ _ _
  | divwu | divwuRc | divwuo | divwuoRc => exact s.answers_divideUnsigned _ _ _ _
  | icbi => exact s.answers_cacheInvalidate _
  | icblc => exact s.answers_cacheUnlock _ _
  | icbt => exact s.answers_cacheTouch _ _
  | icbtls => exact s.answers_cacheLock _ _
  | isel | mfcr | brinc => exact State.answers_advance_of_guarded (s.guarded_setR _ _)
  | lbz | lbzu | lbzux | lbzx | lha | lhau | lhaux | lhax | lhbrx | lhz | lhzu | lhzux | lhzx | lwbrx | lwz | lwzu | lwzux
  | lwzx => exact s.answers_loadInto _ _ _ _ _
  | lmw | eLmw => exact s.answers_loadMultiple _ _
  | lwarx | lbarx | lharx => exact s.answers_loadReserve _ _ _
  | mbar => exact s.answers_mbar _
  | mcrf => exact State.answers_advance_of_guarded (s.guarded_setCrField _ _)
  | mcrxr => exact s.answers_mcrxr _
  | mfdcr => exact State.answers_supervisor (State.answers_moveFromDcr _ _ _)
  | mfmsr => exact State.answers_supervisor (State.answers_advance_of_guarded (s.guarded_setR _ _))
  | mfspr => exact s.answers_mfspr _ _
  | mtcrf => exact State.answers_advance_of_guarded (s.guarded_setCr _)
  | mtdcr => exact State.answers_supervisor (State.answers_moveToDcr _ _ _)
  | mtmsr | wrtee | wrteei => exact State.answers_supervisor (s.keeps_setMsr _).answers_advance
  | mtspr => exact s.answers_mtspr _ _
  | mulli | mullw | mullwRc | mullwo | mullwoRc => exact s.answers_multiplyLow _ _ _ _
  | rfci | seRfci => exact s.answers_returnCritical
  | rfdi | seRfdi => exact s.answers_returnDebug
  | rfi | seRfi => exact s.answers_returnNonCritical
  | rfmci | seRfmci => exact s.answers_returnPlain _ _ _
  | sc | seSc => exact (s.keeps_systemCall _).answers
  | sraw | srawRc | srawi | srawiRc => exact s.answers_shiftRightAlgebraic _ _ _ _
  | stb | stbu | stbux | stbx | sth | sthbrx | sthu | sthux | sthx | stw | stwbrx | stwu | stwux | stwx =>
    exact s.answers_storeFrom _ _ _ _
  | stmw | eStmw => exact s.answers_storeMultiple _ _
  | stwcxRc | stbcxRc | sthcxRc => exact s.answers_storeConditional _ _ _
  | tlbivax | tlbre | tlbsx | tlbwe => exact State.answers_supervisor (State.answers_advance_of_guarded (by simp))
  | tw | twi => exact s.answers_trap _
  | wait => exact s.answers_wait
  | dnh | seDnh | eDnh => exact s.answers_notifyHalt _ _
  | eLmvgprw =>
    refine State.answers_loadGroup fun f hf v t => ?_
    obtain ⟨r, -, rfl⟩ := List.mem_map.1 hf
    exact .of_guarded (t.guarded_setR r v)
  | eStmvgprw | eStmvsprw => exact s.answers_storeGroup _ _ _ _
  | eLmvsprw => exact State.answers_loadGroup State.keeps_volatileSprWriters
  | eLmvsrrw | eLmvcsrrw | eLmvdsrrw | eLmvmcsrrw => exact State.answers_loadPair (fun _ _ => rfl) fun _ _ => rfl
  | eStmvsrrw | eStmvcsrrw | eStmvdsrrw | eStmvmcsrrw => exact State.answers_supervisor (State.answers_storeGroup _ _ _ _ _)
  | efsabs | efsnabs | efsneg | efsadd | efssub | efsmul | efsdiv | efsmadd | efsmsub | efsnmadd | efsnmsub | efssqrt
  | efsmax | efsmin | efscfui | efscfsi | efscfuf | efscfsf | efscfh | efsctui | efsctsi | efsctuiz | efsctsiz | efsctuf
  | efsctsf | efscth => exact s.answers_scalarCommit _ _
  | efscmpgt | efscmplt | efscmpeq => exact s.answers_scalarCompare _ _ _ _
  | efststgt | efststlt | efststeq => exact s.answers_scalarTest _ _
  | evfsabs | evfsnabs | evfsneg | evfsadd | evfssub | evfsaddsub | evfssubadd | evfsaddx | evfssubx | evfsaddsubx
  | evfssubaddx | evfssum | evfsdiff | evfssumdiff | evfsdiffsum | evfsmul | evfsmule | evfsmulo | evfsmulx | evfsdiv
  | evfsmadd | evfsmsub | evfsnmadd | evfsnmsub | evfssqrt | evfsmax | evfsmin | evfscfui | evfscfsi | evfscfuf | evfscfsf
  | evfscfh | evfscth | evfsctui | evfsctsi | evfsctuiz | evfsctsiz | evfsctuf | evfsctsf =>
    exact s.answers_vectorCommit _ _ _
  | evfscmpgt | evfscmplt | evfscmpeq => exact s.answers_vectorCompare _ _ _ _
  | evfststgt | evfststlt | evfststeq => exact s.answers_vectorTest _ _ _ _
  | evabs | evaddiw | evaddw | evneg | evsubfw | evsubifw | evand | evandc | eveqv | evnand | evnor | evor | evorc | evxor
  | evcntlsw | evcntlzw | evextsb | evextsh | evmergehi | evmergehilo | evmergelo | evmergelohi | evrlw | evrlwi | evrndw
  | evsel | evslw | evslwi | evsrwis | evsrwiu | evsrws | evsrwu | evsplatfi | evsplati => exact s.answers_vectorResult _ _
  | evcmpeq | evcmpgts | evcmpgtu | evcmplts | evcmpltu => exact s.answers_vectorCr _ _ _ _
  | evdivws | evdivwu => exact s.answers_divideElements _ _ _ _
  | evmwhsmf | evmwhsmfa | evmwhsmi | evmwhsmia | evmwhumi | evmwhumia | evmwlumi | evmwlumia | evmhesmf | evmhesmfa
  | evmhesmi | evmhesmia | evmheumi | evmheumia | evmhosmf | evmhosmfa | evmhosmi | evmhosmia | evmhoumi | evmhoumia =>
    exact s.answers_productPair _ _ _ _
  | evmwhssf | evmwhssfa | evmhessf | evmhessfa | evmhossf | evmhossfa => exact s.answers_productPairSaturated _ _ _ _
  | evmwlsmiaaw | evmwlsmianw | evmwlumiaaw | evmwlumianw | evaddsmiaaw | evaddumiaaw | evsubfsmiaaw | evsubfumiaaw
  | evmhesmfaaw | evmhesmfanw | evmhesmiaaw | evmhesmianw | evmheumiaaw | evmheumianw | evmhosmfaaw | evmhosmfanw
  | evmhosmiaaw | evmhosmianw | evmhoumiaaw | evmhoumianw => exact s.answers_accumulatePair _ _ _ _
  | evmwlssiaaw | evmwlssianw | evmwlusiaaw | evmwlusianw | evaddssiaaw | evaddusiaaw | evsubfssiaaw | evsubfusiaaw
  | evmhessfaaw | evmhessfanw | evmhessiaaw | evmhessianw | evmheusiaaw | evmheusianw | evmhossfaaw | evmhossfanw
  | evmhossiaaw | evmhossianw | evmhousiaaw | evmhousianw => exact s.answers_accumulatePairSaturated _ _ _ _
  | evmwsmf | evmwsmfa | evmwsmi | evmwsmia | evmwumi | evmwumia | evmra => exact s.answers_macResult _ _ _ _
  | evmwsmfaa | evmwsmfan | evmwsmiaa | evmwsmian | evmwumiaa | evmwumian | evmhegsmfaa | evmhegsmfan | evmhegsmiaa
  | evmhegsmian | evmhegumiaa | evmhegumian | evmhogsmfaa | evmhogsmfan | evmhogsmiaa | evmhogsmian | evmhogumiaa
  | evmhogumian => exact s.answers_accumulateDouble _ _ _
  | evmwssf | evmwssfa => exact s.answers_macResult _ _ _ (some (false, _))
  | evmwssfaa | evmwssfan => exact s.answers_accumulateDoubleSaturated _ _ _
  | evldd | evlddx | evldw | evldwx | evldh | evldhx | evlwhe | evlwhex | evlwhou | evlwhoux | evlwhos | evlwhosx
  | evlwwsplat | evlwwsplatx | evlwhsplat | evlwhsplatx | evlhhesplat | evlhhesplatx | evlhhousplat | evlhhousplatx
  | evlhhossplat | evlhhossplatx => exact s.answers_vectorLoad _ _ _ _ _
  | evstdd | evstddx | evstdw | evstdwx | evstdh | evstdhx | evstwhe | evstwhex | evstwho | evstwhox | evstwwe | evstwwex
  | evstwwo | evstwwox => exact s.answers_vectorStore _ _ _ _

/-! ## The step -/

/-- The end of a step leaves the guarded fields alone. -/
theorem State.Answers.finish {s : State} {o : Answer} (h : s.Answers o) (before : State) :
    s.Answers (finishOutcome before o) := by
  cases o with
  | next t =>
    obtain ⟨hlegal, hsamples⟩ := State.Preserves.of_guarded (t.guarded_finish before)
    exact ⟨hlegal ∘ h.legal, hsamples ∘ h.samples⟩
  | fault _ => trivial
  | refused _ => trivial

theorem State.Keeps.answers_finish {s t : State} (h : s.Keeps t) (before : State) : s.Answers (.next (t.finish before)) :=
  h.answers.finish before

theorem State.answers_execute (s : State) (page : Page) (bs : List Byte) : s.Answers (s.execute page bs) := by
  unfold State.execute
  split
  · exact State.answers_exec _ s
  · exact s.answers_reject _

theorem State.answers_attempt (s before : State) : s.Answers (s.attempt before) := by
  have recorded (e : Word) : s.Keeps (s.record e true) := s.keeps_record e true
  unfold State.attempt
  simp only []
  split
  · exact ((recorded _).trans (State.keeps_takeDebug _ s.pc)).suppress.answers_finish before
  · have fetched := Fetched.KeptFrom.trans (recorded (iacEvents s.dbg s.cur.iacHits)) (State.keptFrom_fetch _)
    split
    · next u hu =>
      rw [hu] at fetched
      exact (State.Keeps.suppress fetched).answers_finish before
    · trivial
    · next bs page u hu =>
      rw [hu] at fetched
      have placed : s.Keeps { u with firstFetch := false, cur.executed := true } := State.Keeps.trans fetched (.of_guarded rfl)
      exact (placed.trans_answers (State.answers_execute _ page bs)).finish before

/-- A core whose m_clk runs has new samples, so an interrupt that wakes it leaves them new. -/
theorem State.awake_of_clocked {s : State} (hclk : s.clocked = true) (h : s.SamplesPins) :
    { s with waiting := false }.Awake :=
  ⟨rfl, fun _ => h hclk⟩

/-- Taking an interrupt at a boundary at which m_clk runs. -/
theorem State.preserves_takePending {s : State} (hclk : s.clocked = true) (p : Pending) :
    s.Preserves (s.takePending p) := by
  obtain ⟨hlegal, hawake⟩ := { s with waiting := false }.keeps_takePending p
  rw [State.takePending_of_waiting] at hlegal hawake
  exact ⟨fun h => hlegal (h.congr rfl rfl rfl rfl), fun h => (hawake (State.awake_of_clocked hclk h)).samples⟩

/-- What a step does after its boundary keeps both invariants: nothing, an interrupt, or an instruction. -/
theorem State.preserves_of_proceed {s t : State} (h : s.proceed = .next t) : s.Preserves t := by
  unfold State.proceed at h
  split at h
  · cases h
    exact .refl s
  · next hrun =>
    simp only [Bool.or_eq_true, Bool.not_eq_true', not_or, Bool.not_eq_false] at hrun
    obtain ⟨-, hclk⟩ := hrun
    split at h
    · next p _ =>
      cases h
      exact (State.preserves_takePending hclk p).trans (.of_guarded (State.guarded_finish _ s))
    · split at h
      · cases h
        exact .refl s
      · next hawake =>
        split at h
        · cases h
        · have begun : s.Keeps s.withIacHits := .of_guarded s.guarded_withIacHits
          have ended := begun.trans_answers (State.answers_attempt _ s)
          rw [h] at ended
          exact ⟨ended.legal, fun hs => ended.samples ⟨by simpa using hawake, hs⟩⟩

end Sys2Proof.Machine
end

section
/-! The statements of the state: the invariants, reset, and the registers that are cleared by writing ones. -/

namespace Sys2Proof.Proofs
open Sys2Proof.Machine

/-- Settles O4: the boundary, and what comes after it, keep both invariants. -/
theorem legalIsKept : Obligations.LegalIsKept := by
  unfold Obligations.LegalIsKept
  intro s t h
  obtain ⟨hlegal, hsamples⟩ := s.preserves_begin.trans (State.preserves_of_proceed h)
  exact ⟨hlegal, hsamples⟩

/-- Settles O1: the reset state is evaluated; of the TLB entries only entry 0 is not the zero entry. -/
theorem resetState : Obligations.ResetState := by
  unfold Obligations.ResetState
  refine ⟨rfl, rfl, rfl, rfl, rfl, rfl, rfl, rfl, rfl, rfl, rfl, rfl, rfl, rfl, rfl, rfl, rfl, rfl, rfl, rfl, rfl, rfl, rfl, rfl,
    rfl, fun k hk => resetTlb_invalid Pins.idle hk⟩

/-- Settles O2: each field is the one hardReset writes, or the one it leaves. -/
theorem resetEvent : Obligations.ResetEvent := by
  unfold Obligations.ResetEvent
  intro s hedm
  refine ⟨rfl, rfl, rfl, rfl, rfl, rfl, rfl, rfl, rfl, rfl, rfl, State.hardReset_hid1Value s, rfl, rfl, rfl, rfl, rfl, rfl,
    State.hardReset_dbg hedm,
    rfl, rfl, rfl, freshTlb_zero s.freeCtr s.pins, fun k hk => freshTlb_invalid s.freeCtr s.pins hk, rfl, rfl, rfl, rfl, rfl, rfl, rfl, rfl, rfl, rfl,
    rfl, rfl, rfl⟩

/-- Settles O3: memory lists nothing, and the masked registers are 0. -/
theorem resetIsLegal : Obligations.ResetIsLegal := by
  unfold Obligations.ResetIsLegal
  exact ⟨⟨State.reset_mem_wf, by decide, by decide, by decide⟩, fun _ => rfl⟩

/-- Settles O40: each of the three numbers is an arm of writeSpr, which ANDs with the complement. -/
theorem writeOneToClear : Obligations.WriteOneToClear := by
  unfold Obligations.WriteOneToClear
  intro s r f hs
  exact ⟨fun hf => runs_mtspr_of_writeSpr hs hf (by decide) rfl, fun hf => runs_mtspr_of_writeSpr hs hf (by decide) rfl,
    fun hf => runs_mtspr_of_writeSpr hs hf (by decide) rfl⟩

end Sys2Proof.Proofs
end

section
/-! SUPPORT. What an instruction may change of the reservation, the upper register halves and SPEFSCR, and the operations that
change none of them. -/

namespace Sys2Proof

/-- The instruction is mfspr, which moves 64 bits from DVC1 and DVC2 (spec/12_state_debug.md R297). -/
def Instr.isMfspr : Instr → Bool
  | .mfspr .. => true
  | _ => false

/-- The instruction is mtspr to SPEFSCR (spec/13_state_spe.md R1054). -/
def Instr.writesSpefscr : Instr → Bool
  | .mtspr _ f => Machine.numberOf f == 512
  | _ => false

theorem Instr.isMfspr_false {i : Instr} (h : ∀ r f, i ≠ .mfspr r f) : i.isMfspr = false := by
  unfold Instr.isMfspr
  split
  · next r f => exact absurd rfl (h r f)
  · rfl

theorem Instr.writesSpefscr_false {i : Instr} (h : ∀ r f, i = .mtspr r f → Machine.numberOf f ≠ 512) :
    i.writesSpefscr = false := by
  unfold Instr.writesSpefscr
  split
  · next r f => exact beq_false_of_ne (h r f rfl)
  · rfl

end Sys2Proof

namespace Sys2Proof.Machine

/-! ## What may change -/

/-- Which of the reservation, the upper register halves and SPEFSCR an instruction may change. -/
structure Changes where
  reservation : Bool
  upper : Bool
  status : Bool

/-- What the rules let an instruction change (spec/20_memory.md R450, spec/10_state.md R51, spec/13_state_spe.md R1054; mfspr:
assumption log entry 44). -/
def changesOf (i : Instr) : Changes :=
  { reservation := i.isReservation
    upper := i.usesSpe || i.isMfspr
    status := i.isFloating || i.setsOverflow || i.writesSpefscr }

/-- An operation leads from s to t and changes only what c lets it. An input that arrives inside a multiple may clear the
reservation, so the claim for it is of a state with none waiting. -/
structure State.Spares (c : Changes) (s t : State) : Prop where
  midway : s.midway = [] → t.midway = []
  reserve : c.reservation = false → s.midway = [] → t.reserve = s.reserve
  upper : c.upper = false → s.KeepsUpper t
  status : c.status = false → t.spefscr = s.spefscr

/-- An instruction that begins in s changes only what c lets it, if it answers a next state. -/
def State.SparesIn (c : Changes) (s : State) : Answer → Prop
  | .next t => s.Spares c t
  | .fault _ => True
  | .refused _ => True

/-- The fields that State.Spares speaks of. An operation that leaves them alone changes nothing it speaks of. -/
def State.spared (s : State) : Vector Dword 32 × Word × Bool × List MidwayInput := (s.gpr, s.spefscr, s.reserve, s.midway)

variable {c : Changes} {s t u : State}

theorem State.Spares.of_spared (h : t.spared = s.spared) : s.Spares c t := by
  simp only [State.spared, Prod.mk.injEq] at h
  obtain ⟨hgpr, hstatus, hreserve, hmidway⟩ := h
  exact ⟨fun hm => hmidway.trans hm, fun _ _ => hreserve, fun _ r => by simp only [State.r64, hgpr], fun _ => hstatus⟩

theorem State.Spares.refl (s : State) : s.Spares c s := .of_spared rfl

theorem State.Spares.trans (h : s.Spares c t) (h' : t.Spares c u) : s.Spares c u where
  midway hm := h'.midway (h.midway hm)
  reserve hc hm := (h'.reserve hc (h.midway hm)).trans (h.reserve hc hm)
  upper hc r := (h'.upper hc r).trans (h.upper hc r)
  status hc := (h'.status hc).trans (h.status hc)

theorem State.Spares.trans_spared (h : s.Spares c t) (h' : u.spared = t.spared) : s.Spares c u := h.trans (.of_spared h')

theorem State.sparesIn_of_spared (h : t.spared = s.spared) : s.SparesIn c (.next t) := State.Spares.of_spared h

/-! ## Operations that leave the spared fields alone -/

section
variable (s : State)

@[simp] theorem State.spared_advance (n : Word) : (s.advance n).spared = s.spared := rfl
@[simp] theorem State.spared_jump (target : Word) : (s.jump target).spared = s.spared := rfl
@[simp] theorem State.spared_setCr (v : Word) : (s.setCr v).spared = s.spared := rfl
@[simp] theorem State.spared_setCrBit (b : CrBit) (v : Bool) : (s.setCrBit b v).spared = s.spared := rfl
@[simp] theorem State.spared_setCrField (f : CrField) (v : BitVec 4) : (s.setCrField f v).spared = s.spared := rfl
@[simp] theorem State.spared_setXer (v : Word) : (s.setXer v).spared = s.spared := rfl
@[simp] theorem State.spared_setLr (v : Word) : (s.setLr v).spared = s.spared := rfl
@[simp] theorem State.spared_setCtr (v : Word) : (s.setCtr v).spared = s.spared := rfl
@[simp] theorem State.spared_setMsr (v : Word) : (s.setMsr v).spared = s.spared := rfl
@[simp] theorem State.spared_spendFree : s.spendFree.spared = s.spared := rfl
@[simp] theorem State.spared_pulse (o : OutputEvent) : (s.pulse o).spared = s.spared := rfl
@[simp] theorem State.spared_setEsr (v : Word) : (s.setEsr v).spared = s.spared := rfl
@[simp] theorem State.spared_setDear (v : Word) : (s.setDear v).spared = s.spared := rfl
@[simp] theorem State.spared_suppress : s.suppress.spared = s.spared := rfl
@[simp] theorem State.spared_noteAccess (x : DataAccess) : (s.noteAccess x).spared = s.spared := rfl
@[simp] theorem State.spared_command (k : BitVec 5) (ea : Word) : (s.command k ea).spared = s.spared := rfl
@[simp] theorem State.spared_fetchRequest (real : Word) (n : Nat) (e : TlbEntry) (fill : Option Nat) :
    (s.fetchRequest real n e fill).spared = s.spared := rfl
@[simp] theorem State.spared_dropLine (ea : Word) (way : Nat) : (s.dropLine ea way).spared = s.spared := rfl
@[simp] theorem State.spared_stepReplace (way : Nat) : (s.stepReplace way).spared = s.spared := rfl
@[simp] theorem State.spared_setLock (set way : Nat) (v : Bool) : (s.setLock set way v).spared = s.spared := rfl
@[simp] theorem State.spared_setIcul : s.setIcul.spared = s.spared := rfl
@[simp] theorem State.spared_setIclo : s.setIclo.spared = s.spared := rfl
@[simp] theorem State.spared_withIc (k : ICache) : { s with ic := k }.spared = s.spared := rfl
@[simp] theorem State.spared_withMmu (m : MmuRegs) : { s with mmu := m }.spared = s.spared := rfl
@[simp] theorem State.spared_returnFrom (x0 x1 : Word) : (s.returnFrom x0 x1).spared = s.spared := rfl

@[simp] theorem State.spared_record (e : Word) (v : Bool) : (s.record e v).spared = s.spared := by
  rw [State.record_eq]
  rfl

@[simp] theorem State.spared_asyncCheck (e a : Word) (effective : Bool) : (s.asyncCheck e a effective).spared = s.spared := by
  rw [State.asyncCheck_eq]
  rfl

@[simp] theorem State.spared_usedMapping (m : Mapping) : (s.usedMapping m).spared = s.spared := by
  unfold State.usedMapping
  split <;> rfl

@[simp] theorem State.spared_loadMissMas (as : Bool) (ea : Word) : (s.loadMissMas as ea).spared = s.spared := by
  unfold State.loadMissMas
  simp only []
  split <;> rfl

@[simp] theorem State.spared_reportTags (ea real : Word) : (s.reportTags ea real).spared = s.spared := by
  unfold State.reportTags
  split <;> rfl

@[simp] theorem State.spared_fillLine (ea real : Word) (way : Nat) (lock : Bool) :
    (s.fillLine ea real way lock).spared = s.spared := by
  unfold State.fillLine
  simp only []
  split <;> rfl

@[simp] theorem State.spared_tlbSearch (ea : Word) : (s.tlbSearch ea).spared = s.spared := by
  unfold State.tlbSearch
  split <;> rfl

@[simp] theorem State.spared_setHid0 (v : Word) : (s.setHid0 v).spared = s.spared := by
  unfold State.setHid0
  simp only []
  split <;> rfl

/-! ### Interrupts -/

@[simp] theorem State.spared_takeInterrupt (k : IntClass) (v a : Word) : (s.takeInterrupt k v a).spared = s.spared := by
  rw [State.takeInterrupt_eq]
  rfl

@[simp] theorem State.spared_raise (n : Nat) : (s.raise n).spared = s.spared := by
  rw [State.raise_eq]
  rfl

@[simp] theorem State.spared_program (cause : Word) : (s.program cause).spared = s.spared := by simp [State.program_eq]

@[simp] theorem State.spared_illegal : s.illegal.spared = s.spared := s.spared_program _

@[simp] theorem State.spared_privileged : s.privileged.spared = s.spared := s.spared_program _

@[simp] theorem State.spared_speUnavailable : s.speUnavailable.spared = s.spared := by simp [State.speUnavailable_eq]

@[simp] theorem State.spared_efpData : s.efpData.spared = s.spared := by simp [State.efpData_eq]

@[simp] theorem State.spared_efpRoundAt (next : Word) : (s.efpRoundAt next).spared = s.spared :=
  ((s.setEsr _).spared_takeInterrupt .nonCritical (vectorOf s 18) next).trans (s.spared_setEsr _)

@[simp] theorem State.spared_systemCall (next : Word) : (s.systemCall next).spared = s.spared := by simp [State.systemCall]

@[simp] theorem State.spared_alignment (ea : Word) (store spe : Bool) : (s.alignment ea store spe).spared = s.spared := by
  simp [State.alignment_eq]

@[simp] theorem State.spared_takeDebug (a : Word) : (s.takeDebug a).spared = s.spared := by simp [State.takeDebug]

@[simp] theorem State.spared_debugInstead (e : Word) : (s.debugInstead e).spared = s.spared := by simp [State.debugInstead]

@[simp] theorem State.spared_machineCheck (report a : Word) : (s.machineCheck report a).spared = s.spared :=
  State.spared_takeInterrupt _ _ _ _

@[simp] theorem State.spared_errorReport (report : Word) : (s.errorReport report).spared = s.spared := by
  simp [State.errorReport]

@[simp] theorem State.spared_dataTlbError (store spe : Bool) (ea : Word) :
    (s.dataTlbError store spe ea).spared = s.spared := by
  simp [State.dataTlbError]

@[simp] theorem State.spared_dataStorage (store spe : Bool) (extra ea : Word) :
    (s.dataStorage store spe extra ea).spared = s.spared := by
  simp [State.dataStorage]

@[simp] theorem State.spared_lockStorage : s.lockStorage.spared = s.spared := by simp [State.lockStorage]

@[simp] theorem State.spared_cacheCheck (async real : Word) : (s.cacheCheck async real).spared = s.spared := by
  simp [State.cacheCheck]

@[simp] theorem State.spared_takePending (p : Pending) : (s.takePending p).spared = s.spared := by
  cases p with
  | machineCheck => exact State.spared_machineCheck _ _ _
  | debug => exact s.spared_takeDebug _
  | criticalInput | externalInput => exact (State.spared_pulse _ _).trans (s.spared_takeInterrupt _ _ _)
  | watchdog | fixedInterval | decrementer => exact s.spared_takeInterrupt _ _ _

end

/-! ## Registers, SPEFSCR and the reservation -/

theorem State.keepsUpper_setR (s : State) (r : Reg) (v : Word) : s.KeepsUpper (s.setR r v) := fun x => by
  by_cases h : x = r
  · rw [h, State.hi_setR_same]
  · rw [State.r64_setR_other s r x v h]

/-- A 32-bit result keeps the upper halves, and everything else that is spared (spec/10_state.md R51). -/
theorem State.spares_setR (s : State) (r : Reg) (v : Word) : s.Spares c (s.setR r v) :=
  ⟨id, fun _ _ => rfl, fun _ => s.keepsUpper_setR r v, fun _ => rfl⟩

/-- A 64-bit result, of an instruction that may change the upper halves. -/
theorem State.spares_setR64 (hc : c.upper = true) (s : State) (r : Reg) (v : Dword) : s.Spares c (s.setR64 r v) :=
  ⟨id, fun _ _ => rfl, fun h => absurd (hc.symm.trans h) (by decide), fun _ => rfl⟩

theorem State.spares_setSpefscr (hc : c.status = true) (s : State) (v : Word) : s.Spares c (s.setSpefscr v) :=
  ⟨id, fun _ _ => rfl, fun _ _ => rfl, fun h => absurd (hc.symm.trans h) (by decide)⟩

theorem State.spares_setOvPair (hc : c.status = true) (s : State) (h l : Bool) : s.Spares c (s.setOvPair h l) :=
  s.spares_setSpefscr hc _

theorem State.spares_setReserve (hc : c.reservation = true) (s : State) (v : Bool) : s.Spares c (s.setReserve v) :=
  ⟨id, fun h => absurd (hc.symm.trans h) (by decide), fun _ _ => rfl, fun _ => rfl⟩

theorem State.spares_result (s : State) (f : Form) (rt : Reg) (v : Word) (ca ov : Bool) :
    s.Spares c (s.result f rt v ca ov) := by
  rw [State.result_eq]
  exact (s.spares_setR rt v).trans_spared rfl

/-! ## Data accesses -/

theorem State.Spares.access_bind {α β : Type} {x : Access α} {f : α → State → Access β} (hx : s.Spares c x.state)
    (hf : ∀ v (t : State), t.Spares c (f v t).state) : s.Spares c (x.bind f).state := by
  cases x with
  | done v t => exact hx.trans (hf v t)
  | raised t => exact hx

theorem State.Spares.access_next {α : Type} {x : Access α} {f : α → State → State} (hx : s.Spares c x.state)
    (hf : ∀ v (t : State), t.Spares c (f v t)) : s.SparesIn c (x.next f) := by
  cases x with
  | done v t => exact hx.trans (hf v t)
  | raised t => exact hx

theorem State.spared_dataFault (s : State) (q : Request) {fault : State → State}
    (hfault : ∀ t : State, (fault t).spared = t.spared) : (s.dataFault q fault).spared = s.spared := by
  unfold State.dataFault
  simp only []
  split
  · split
    · rw [State.spared_suppress, State.spared_takeDebug, State.spared_record]
      rfl
    · rw [hfault, State.spared_record]
      rfl
  · exact hfault _

theorem State.spared_translateData (s : State) (q : Request) : (s.translateData q).state.spared = s.spared := by
  have missed (ea : Word) := s.spared_dataFault q fun t => t.spared_dataTlbError q.store (q.kind == .spe) ea
  have denied (extra ea : Word) := s.spared_dataFault q fun t => t.spared_dataStorage q.store (q.kind == .spe) extra ea
  unfold State.translateData
  split
  · exact missed _
  · split
    · exact denied _ _
    · split
      · exact State.spared_usedMapping _ _
      · simp only []
        split
        · exact missed _
        · split
          · exact denied _ _
          · split
            · exact denied _ _
            · simp [Access.state]

theorem State.spares_loadBytes (s : State) (ea : Word) (n : Nat) (kind : AccessKind) :
    s.Spares c (s.loadBytes ea n kind).state := by
  unfold State.loadBytes
  refine State.Spares.access_bind (.of_spared (s.spared_translateData _)) fun mm t => .of_spared ?_
  simp only []
  split
  · exact (State.spared_dataFault _ _ fun u => u.spared_errorReport _).trans (State.spared_asyncCheck _ _ _ _)
  · rfl

theorem State.spares_load (s : State) (ea : Word) (n : Nat) (kind : AccessKind) : s.Spares c (s.load ea n kind).state :=
  (s.spares_loadBytes ea n kind).access_bind fun _ _ => .refl _

theorem State.spares_storeImage (s : State) (ea : Word) (n : Nat) (image : Bool → List Byte) (kind : AccessKind) :
    s.Spares c (s.storeImage ea n image kind).state := by
  unfold State.storeImage
  refine State.Spares.access_bind (.of_spared (s.spared_translateData _)) fun mm t => .of_spared ?_
  extract_lets real bytes k err1 err2 e precise refused cells kept moved u u'
  have checked : u'.spared = t.spared := State.spared_asyncCheck _ _ _ _
  split
  · split
    · exact (State.spared_dataFault _ _ fun w => w.spared_errorReport _).trans checked
    · exact checked
  · rfl

theorem State.spares_store (s : State) (ea : Word) (n : Nat) (v : Dword) (kind : AccessKind) :
    s.Spares c (s.store ea n v kind).state :=
  s.spares_storeImage ea n _ kind

/-! ## Inputs that arrive inside a multiple -/

/-- The general registers and SPEFSCR, which no input from outside changes. -/
def State.results (s : State) : Vector Dword 32 × Word := (s.gpr, s.spefscr)

theorem State.results_setPins (s : State) (p : Pins) : (s.setPins p).results = s.results := by
  rw [State.setPins_eq]
  rfl

theorem State.results_arrive (s : State) (m : MidwayInput) : (s.arrive m).results = s.results :=
  (State.results_setPins _ _).trans <|
    List.foldlRecOn _ (fun (t : State) _ => t.tick) (motive := fun t => t.results = s.results) rfl fun t ht _ _ => by
      rw [State.tick_eq]
      exact ht

theorem State.results_pinLevels (s : State) : s.pinLevels.results = s.results := by
  rw [State.pinLevels_eq]
  rfl

theorem State.results_arrivals (s : State) (due later : List MidwayInput) :
    (due.foldl State.arrive { s with midway := later }).pinLevels.results = s.results := by
  have begun : { s with midway := later }.results = s.results := rfl
  have arrived : (due.foldl State.arrive { s with midway := later }).results = s.results :=
    List.foldlRecOn due State.arrive (motive := fun t => t.results = s.results) begun
      fun t ht m _ => (t.results_arrive m).trans ht
  exact (State.results_pinLevels _).trans arrived

/-- With an input waiting, only the general registers and SPEFSCR are claimed to be kept. -/
theorem State.Spares.of_waiting (hm : s.midway ≠ []) (h : t.results = s.results) : s.Spares c t := by
  simp only [State.results, Prod.mk.injEq] at h
  obtain ⟨hgpr, hstatus⟩ := h
  exact ⟨fun h => absurd h hm, fun _ h => absurd h hm, fun _ r => by simp only [State.r64, hgpr], fun _ => hstatus⟩

theorem State.spares_between (s : State) (k : Nat) : s.Spares c (s.between k).state := by
  by_cases hm : s.midway = []
  · rw [State.between_idle hm]
    exact .refl s
  have arrived := State.Spares.of_waiting (c := c) hm (s.results_arrivals (s.midway.filter fun m => m.after ≤ k)
      (s.midway.filter fun m => !(m.after ≤ k)))
  unfold State.between
  split
  · exact .refl s
  · simp only []
    split
    · exact arrived
    · split
      · exact arrived.trans_spared ((State.spared_suppress _).trans (State.spared_takePending _ _))
      · exact arrived

theorem State.spares_mayAbandon (s : State) (interruptible : Bool) (k : Nat) :
    s.Spares c (s.mayAbandon interruptible k).state := by
  unfold State.mayAbandon
  split
  · exact s.spares_between k
  · exact .refl s

theorem State.spares_loadWords (s : State) (interruptible : Bool) (ea : Word) (k : Nat) (fs : List (Word → State → State))
    (hfs : ∀ f ∈ fs, ∀ v (t : State), t.Spares c (f v t)) : s.Spares c (s.loadWords interruptible ea k fs).state := by
  induction fs generalizing s ea k with
  | nil => exact .refl s
  | cons f fs ih =>
    obtain ⟨hf, hrest⟩ := List.forall_mem_cons.1 hfs
    exact (s.spares_mayAbandon interruptible k).access_bind fun _ t =>
      (t.spares_load ea 4 .multiple).access_bind fun v u => (hf (lo v) u).trans (ih _ _ _ hrest)

theorem State.spares_storeWords (s : State) (interruptible : Bool) (ea : Word) (k : Nat) (vs : List Word) :
    s.Spares c (s.storeWords interruptible ea k vs).state := by
  induction vs generalizing s ea k with
  | nil => exact .refl s
  | cons v vs ih =>
    exact (s.spares_mayAbandon interruptible k).access_bind fun _ t =>
      (t.spares_store ea 4 _ .multiple).access_bind fun _ u => ih u _ _

end Sys2Proof.Machine
end

section
/-! SUPPORT. What every instruction may change of the reservation, the upper register halves and SPEFSCR: one lemma for each shape
that instructions have, then the instructions. -/

namespace Sys2Proof.Machine

variable {c : Changes} {s t : State}

/-! ## Registers and control -/

theorem State.Spares.sparesIn_advance (h : s.Spares c t) (n : Word) : s.SparesIn c (.next (t.advance n)) :=
  h.trans_spared (t.spared_advance n)

theorem State.sparesIn_advance (s : State) (n : Word) : s.SparesIn c (.next (s.advance n)) :=
  State.sparesIn_of_spared (s.spared_advance n)

theorem State.sparesIn_illegal (s : State) : s.SparesIn c (.next s.illegal) := State.sparesIn_of_spared s.spared_illegal

theorem State.sparesIn_speUnavailable (s : State) : s.SparesIn c (.next s.speUnavailable) :=
  State.sparesIn_of_spared s.spared_speUnavailable

theorem State.sparesIn_alignment (s : State) (ea : Word) (store spe : Bool) :
    s.SparesIn c (.next (s.alignment ea store spe)) :=
  State.sparesIn_of_spared (s.spared_alignment ea store spe)

theorem State.sparesIn_supervisor {f : State → Answer} (h : s.SparesIn c (f s)) : s.SparesIn c (s.supervisor f) := by
  unfold State.supervisor
  split
  · exact State.sparesIn_of_spared s.spared_privileged
  · exact h

theorem State.sparesIn_addForm (s : State) (f : Form) (rt : Reg) (a b : Word) (k : Bool) :
    s.SparesIn c (s.addForm f rt a b k) :=
  (s.spares_result _ _ _ _ _).sparesIn_advance 4

theorem State.sparesIn_plainResult (s : State) (f : Form) (rt : Reg) (v : Word) : s.SparesIn c (s.plainResult f rt v) :=
  (s.spares_result _ _ _ _ _).sparesIn_advance 4

theorem State.sparesIn_multiplyLow (s : State) (f : Form) (rt : Reg) (a b : Word) : s.SparesIn c (s.multiplyLow f rt a b) :=
  (s.spares_result _ _ _ _ _).sparesIn_advance 4

theorem State.sparesIn_shiftRightAlgebraic (s : State) (f : Form) (ra : Reg) (v : Word) (n : Nat) :
    s.SparesIn c (s.shiftRightAlgebraic f ra v n) :=
  (s.spares_result _ _ _ _ _).sparesIn_advance 4

theorem State.spares_divideUndefined (s : State) (f : Form) (rt : Reg) : s.Spares c (s.divideUndefined f rt) := by
  have divided (q : Word) : s.Spares c (s.result { f with rc := false } rt q false true).spendFree :=
    (s.spares_result _ _ _ _ _).trans_spared (State.spared_spendFree _)
  unfold State.divideUndefined
  simp only []
  split
  · exact (divided _).trans_spared (State.spared_setCrField _ _ _)
  · exact divided _

theorem State.sparesIn_divideSigned (s : State) (f : Form) (rt : Reg) (a b : Word) :
    s.SparesIn c (s.divideSigned f rt a b) := by
  unfold State.divideSigned
  split
  · exact (s.spares_divideUndefined f rt).sparesIn_advance 4
  · exact s.sparesIn_plainResult _ _ _

theorem State.sparesIn_divideUnsigned (s : State) (f : Form) (rt : Reg) (a b : Word) :
    s.SparesIn c (s.divideUnsigned f rt a b) := by
  unfold State.divideUnsigned
  split
  · exact (s.spares_divideUndefined f rt).sparesIn_advance 4
  · exact s.sparesIn_plainResult _ _ _

theorem State.sparesIn_setR (s : State) (r : Reg) (v n : Word) : s.SparesIn c (.next ((s.setR r v).advance n)) :=
  (s.spares_setR r v).sparesIn_advance n

theorem State.sparesIn_trap (s : State) (met : Bool) : s.SparesIn c (s.trap met) := by
  unfold State.trap
  split
  · exact s.sparesIn_advance 4
  · split
    · exact State.sparesIn_of_spared (s.spared_debugInstead _)
    · exact State.sparesIn_of_spared ((State.spared_program _ _).trans (s.spared_record _ _))

theorem State.sparesIn_branch (s : State) (taken link : Bool) (ctr target : Word) :
    s.SparesIn c (s.branch taken link ctr target) := by
  unfold State.branch
  split
  · exact State.sparesIn_of_spared (s.spared_debugInstead _)
  · simp only []
    split <;> exact State.sparesIn_of_spared rfl

theorem State.sparesIn_returnPlain (s : State) (x0 x1 : Word) (o : OutputEvent) : s.SparesIn c (s.returnPlain x0 x1 o) :=
  State.sparesIn_supervisor (State.sparesIn_of_spared rfl)

theorem State.sparesIn_returnNonCritical (s : State) : s.SparesIn c s.returnNonCritical := by
  refine State.sparesIn_supervisor ?_
  simp only []
  split
  · exact State.sparesIn_of_spared (State.spared_debugInstead _ _)
  · exact State.sparesIn_of_spared (State.spared_record _ _ _)

theorem State.sparesIn_returnCritical (s : State) : s.SparesIn c s.returnCritical := by
  refine State.sparesIn_supervisor ?_
  simp only []
  split
  · exact State.sparesIn_of_spared (State.spared_debugInstead _ _)
  · exact State.sparesIn_of_spared (State.spared_record _ _ _)

theorem State.sparesIn_returnDebug (s : State) : s.SparesIn c s.returnDebug := by
  unfold State.returnDebug
  split
  · exact s.sparesIn_illegal
  · exact s.sparesIn_returnPlain _ _ _

theorem State.sparesIn_notifyHalt (s : State) (ir : Word) (dui : BitVec 5) : s.SparesIn c (s.notifyHalt ir dui) := by
  unfold State.notifyHalt
  split
  · exact s.sparesIn_illegal
  · exact State.sparesIn_of_spared rfl

theorem State.sparesIn_mbar (s : State) (mo : BitVec 5) : s.SparesIn c (execMbar mo s) := by
  unfold execMbar
  split
  · exact s.sparesIn_advance 4
  · exact s.sparesIn_illegal

/-! ## Floating-point and SPE instructions -/

theorem State.sparesIn_efpCommit {h l : ElementResult} {write : Bool → State → State} (hc : c.status = true)
    (hwrite : ∀ b (t : State), t.Spares c (write b t)) : s.SparesIn c (s.efpCommit h l write) := by
  have written (b : Bool) (w : Word) : s.Spares c (write b (s.setSpefscr w)) := (s.spares_setSpefscr hc w).trans (hwrite b _)
  rw [State.efpCommit_eq]
  split
  · exact (s.spares_setSpefscr hc _).trans_spared (State.spared_efpData _)
  · split
    · exact (written true _).trans_spared (State.spared_efpRoundAt _ _)
    · exact (written false _).sparesIn_advance 4

theorem State.sparesIn_scalarCommit (hc : c.status = true) (s : State) (rd : Reg) (e : ElementResult) :
    s.SparesIn c (s.scalarCommit rd e) :=
  State.sparesIn_efpCommit hc fun _ t => t.spares_setR rd _

theorem State.sparesIn_vectorCommit (hs : c.status = true) (hu : c.upper = true) (s : State) (rd : Reg)
    (h l : ElementResult) : s.SparesIn c (s.vectorCommit rd h l) := by
  unfold State.vectorCommit
  split
  · exact s.sparesIn_speUnavailable
  · exact State.sparesIn_efpCommit hs fun _ t => t.spares_setR64 hu rd _

theorem State.spared_scalarCompareField (s : State) (crfD : CrField) (b : Bool) :
    (s.scalarCompareField crfD b).spared = s.spared := rfl

theorem State.sparesIn_scalarCompare (hc : c.status = true) (s : State) (crfD : CrField) (k : Bool) (a b : Word) :
    s.SparesIn c (s.scalarCompare crfD k a b) :=
  State.sparesIn_efpCommit hc fun _ t => .of_spared (t.spared_scalarCompareField crfD k)

theorem State.sparesIn_scalarTest (s : State) (crfD : CrField) (k : Bool) : s.SparesIn c (s.scalarTest crfD k) :=
  State.sparesIn_of_spared (s.spared_scalarCompareField crfD k)

theorem State.sparesIn_vectorCompare (hc : c.status = true) (s : State) (crfD : CrField) (rel : Word → Word → Bool)
    (a b : Dword) : s.SparesIn c (s.vectorCompare crfD rel a b) := by
  unfold State.vectorCompare
  split
  · exact s.sparesIn_speUnavailable
  · exact State.sparesIn_efpCommit hc fun _ t => .of_spared (t.spared_setCrField crfD _)

theorem State.sparesIn_vectorTest (s : State) (crfD : CrField) (rel : Word → Word → Bool) (a b : Dword) :
    s.SparesIn c (s.vectorTest crfD rel a b) := by
  unfold State.vectorTest
  split
  · exact s.sparesIn_speUnavailable
  · exact State.sparesIn_of_spared rfl

theorem State.sparesIn_vector (h : s.Spares c t) : s.SparesIn c (s.vector t) := by
  rw [State.vector_eq]
  split
  · exact h.sparesIn_advance 4
  · exact s.sparesIn_speUnavailable

theorem State.sparesIn_vectorResult (hc : c.upper = true) (s : State) (rd : Reg) (v : Dword) :
    s.SparesIn c (s.vectorResult rd v) :=
  State.sparesIn_vector (s.spares_setR64 hc rd v)

theorem State.sparesIn_vectorCr (s : State) (crfD : CrField) (rel : Word → Word → Bool) (a b : Dword) :
    s.SparesIn c (s.vectorCr crfD rel a b) :=
  State.sparesIn_vector (.of_spared (s.spared_setCrField crfD _))

theorem State.sparesIn_divideElements (hu : c.upper = true) (hs : c.status = true) (s : State) (rd : Reg)
    (f : Word → Word → Word × Bool) (a b : Dword) : s.SparesIn c (s.divideElements rd f a b) :=
  State.sparesIn_vector ((s.spares_setR64 hu rd _).trans (State.spares_setOvPair hs _ _ _))

/-- A result of the multiply and accumulate group changes SPEFSCR only if it calls SetOV (spec/13_state_spe.md R1054). -/
theorem State.sparesIn_macResult {ov : Option (Bool × Bool)} (hu : c.upper = true) (hs : ov.isSome = true → c.status = true)
    (s : State) (rd : Reg) (toAcc : Bool) (v : Dword) : s.SparesIn c (s.macResult rd toAcc v ov) := by
  have accumulated : s.Spares c (if toAcc then (s.setR64 rd v).setAcc v else s.setR64 rd v) := by
    cases toAcc
    · exact s.spares_setR64 hu rd v
    · exact (s.spares_setR64 hu rd v).trans_spared rfl
  refine State.sparesIn_vector ?_
  cases ov with
  | none => exact accumulated
  | some o => exact accumulated.trans (State.spares_setOvPair (hs rfl) _ _ _)

theorem State.sparesIn_macModulo (hu : c.upper = true) (s : State) (rd : Reg) (toAcc : Bool) (v : Dword) :
    s.SparesIn c (s.macResult rd toAcc v none) :=
  State.sparesIn_macResult hu (by simp) s rd toAcc v

theorem State.sparesIn_macSaturated (hu : c.upper = true) (hs : c.status = true) (s : State) (rd : Reg) (toAcc : Bool)
    (v : Dword) (o : Bool × Bool) : s.SparesIn c (s.macResult rd toAcc v (some o)) :=
  State.sparesIn_macResult hu (fun _ => hs) s rd toAcc v

/-! ## Loads and stores -/

theorem State.sparesIn_loadInto (s : State) (n : Nat) (f : Dword → Word) (update : Option Reg) (rt : Reg) (ea : Word) :
    s.SparesIn c (s.loadInto n f update rt ea) := by
  refine (s.spares_load ea n .base).access_next fun v t => State.Spares.trans_spared ?_ (State.spared_advance _ 4)
  cases update with
  | none => exact t.spares_setR rt _
  | some ra => exact (t.spares_setR ra ea).trans (State.spares_setR _ rt _)

theorem State.sparesIn_storeFrom (s : State) (n : Nat) (v : Word) (update : Option Reg) (ea : Word) :
    s.SparesIn c (s.storeFrom n v update ea) := by
  refine (s.spares_store ea n _ .base).access_next fun _ t => State.Spares.trans_spared ?_ (State.spared_advance _ 4)
  cases update with
  | none => exact .refl t
  | some ra => exact t.spares_setR ra ea

/-- The end of a multiple: its transfers, and on to the next instruction. -/
theorem State.Spares.sparesIn_transfers {x : Access Unit} (h : s.Spares c x.state) :
    s.SparesIn c (x.next fun _ t => t.advance 4) :=
  h.access_next fun _ t => .of_spared (t.spared_advance 4)

/-- The writers of a multiple that loads general registers. -/
theorem State.spares_gprWriters (rs : List Reg) :
    ∀ f ∈ rs.map (fun r v (t : State) => t.setR r v), ∀ v (t : State), t.Spares c (f v t) := by
  intro f hf v t
  obtain ⟨r, -, rfl⟩ := List.mem_map.1 hf
  exact t.spares_setR r v

theorem State.sparesIn_loadMultiple (s : State) (rt : Reg) (ea : Word) : s.SparesIn c (s.loadMultiple rt ea) := by
  unfold State.loadMultiple
  split
  · exact s.sparesIn_alignment _ _ _
  · exact (s.spares_loadWords true ea 0 _ (State.spares_gprWriters _)).sparesIn_transfers

theorem State.sparesIn_storeMultiple (s : State) (rs : Reg) (ea : Word) : s.SparesIn c (s.storeMultiple rs ea) := by
  unfold State.storeMultiple
  split
  · exact s.sparesIn_alignment _ _ _
  · exact (s.spares_storeWords true ea 0 _).sparesIn_transfers

theorem State.sparesIn_loadGroup {interruptible : Bool} {ra : Reg} {d8 : BitVec 8} {fs : List (Word → State → State)}
    (hfs : ∀ f ∈ fs, ∀ v (t : State), t.Spares c (f v t)) : s.SparesIn c (s.loadGroup interruptible ra d8 fs) := by
  unfold State.loadGroup
  split
  · exact s.sparesIn_alignment _ _ _
  · exact (s.spares_loadWords interruptible _ 0 fs hfs).sparesIn_transfers

theorem State.sparesIn_storeGroup (s : State) (interruptible : Bool) (ra : Reg) (d8 : BitVec 8) (vs : List Word) :
    s.SparesIn c (s.storeGroup interruptible ra d8 vs) := by
  unfold State.storeGroup
  split
  · exact s.sparesIn_alignment _ _ _
  · exact (s.spares_storeWords interruptible _ 0 vs).sparesIn_transfers

theorem State.spares_volatileSprWriters : ∀ f ∈ volatileSprWriters, ∀ v (t : State), t.Spares c (f v t) := by
  simp only [volatileSprWriters, List.forall_mem_cons, List.not_mem_nil, false_imp_iff, implies_true, and_true]
  exact ⟨fun _ _ => .of_spared rfl, fun _ _ => .of_spared rfl, fun _ _ => .of_spared rfl, fun _ _ => .of_spared rfl⟩

/-- The two registers of a save/restore pair, loaded in supervisor mode (spec/44_vle.md R984 to R991). -/
theorem State.sparesIn_loadPair {ra : Reg} {d8 : BitVec 8} {f g : Word → State → State}
    (hf : ∀ v (t : State), (f v t).spared = t.spared) (hg : ∀ v (t : State), (g v t).spared = t.spared) :
    s.SparesIn c (s.supervisor fun u => u.loadGroup false ra d8 [f, g]) := by
  refine State.sparesIn_supervisor (State.sparesIn_loadGroup ?_)
  simp only [List.forall_mem_cons, List.not_mem_nil, false_imp_iff, implies_true, and_true]
  exact ⟨fun v t => .of_spared (hf v t), fun v t => .of_spared (hg v t)⟩

theorem State.sparesIn_loadReserve (hc : c.reservation = true) (s : State) (n : Nat) (rt : Reg) (ea : Word) :
    s.SparesIn c (s.loadReserve n rt ea) := by
  unfold State.loadReserve
  split
  · exact s.sparesIn_alignment _ _ _
  · exact (s.spares_load ea n .atomic).access_next fun v t =>
      ((t.spares_setR rt (lo v)).trans (State.spares_setReserve hc _ true)).trans_spared (State.spared_advance _ 4)

theorem State.sparesIn_storeConditional (hc : c.reservation = true) (s : State) (n : Nat) (rs : Reg) (ea : Word) :
    s.SparesIn c (s.storeConditional n rs ea) := by
  have recorded (t : State) (ok : Bool) : t.Spares c (t.conditionalCr0 ok) := .of_spared (t.spared_setCrField 0 _)
  unfold State.storeConditional
  split
  · exact (recorded s false).sparesIn_advance 4
  · split
    · exact s.sparesIn_alignment _ _ _
    · exact (s.spares_store ea n _ .atomic).access_next fun ok t =>
        ((recorded t ok).trans (State.spares_setReserve hc _ false)).trans_spared (State.spared_advance _ 4)

theorem State.sparesIn_vectorLoad (hc : c.upper = true) (s : State) (strict : Bool) (n : Nat) (rd : Reg) (ea : Word)
    (layout : List Byte × Mapping → Dword) : s.SparesIn c (s.vectorLoad strict n rd ea layout) := by
  unfold State.vectorLoad
  split
  · exact s.sparesIn_speUnavailable
  · split
    · exact s.sparesIn_alignment _ _ _
    · exact (s.spares_loadBytes ea n .spe).access_next fun r t =>
        (t.spares_setR64 hc rd _).trans_spared (State.spared_advance _ 4)

theorem State.sparesIn_vectorStore (s : State) (strict : Bool) (n : Nat) (ea : Word) (elements : List Dword) :
    s.SparesIn c (s.vectorStore strict n ea elements) := by
  unfold State.vectorStore
  split
  · exact s.sparesIn_speUnavailable
  · split
    · exact s.sparesIn_alignment _ _ _
    · exact (s.spares_storeImage ea _ _ .spe).access_next fun _ t => .of_spared (t.spared_advance 4)

/-! ## The cache instructions: every path ends in an operation that leaves the spared fields alone -/

theorem State.sparesIn_done (h : t.spared = s.spared) : s.SparesIn c (t.done 4) := State.sparesIn_of_spared h

theorem State.sparesIn_cacheInvalidate (s : State) (ea : Word) : s.SparesIn c (s.cacheInvalidate ea) := by
  unfold State.cacheInvalidate
  simp only []
  split
  · exact State.sparesIn_done (s.spared_command _ _)
  · split
    · exact State.sparesIn_of_spared (by simp)
    · split
      · exact State.sparesIn_of_spared (by simp)
      · split
        · trivial
        · exact State.sparesIn_done (by simp)

theorem State.sparesIn_cacheTouch (s : State) (ct : BitVec 5) (ea : Word) : s.SparesIn c (s.cacheTouch ct ea) := by
  unfold State.cacheTouch
  simp only []
  split
  · exact State.sparesIn_done (s.spared_command _ _)
  · split
    · exact State.sparesIn_done (s.spared_command _ _)
    · split
      · exact State.sparesIn_done (by simp)
      · split
        · trivial
        · split
          · exact State.sparesIn_done (by simp)
          · split
            · exact State.sparesIn_done (by simp)
            · split
              · exact State.sparesIn_done (by simp)
              · split
                · exact State.sparesIn_done (by simp)
                · split <;> exact State.sparesIn_done (by simp)

theorem State.sparesIn_lockLine (h : t.spared = s.spared) (ea : Word) (m : Mapping) : s.SparesIn c (t.lockLine ea m) := by
  unfold State.lockLine
  simp only []
  split
  · exact State.sparesIn_done (by simp [h])
  · split
    · exact State.sparesIn_done (by simp [h])
    · split
      · split
        · exact State.sparesIn_of_spared (by simp [h])
        · exact State.sparesIn_done (by simp [h])
      · split
        · exact State.sparesIn_done (by simp [h])
        · split
          · split
            · exact State.sparesIn_of_spared (by simp [h])
            · exact State.sparesIn_done (by simp [h])
          · exact State.sparesIn_done (by simp [h])

theorem State.sparesIn_unlockLine (h : t.spared = s.spared) (ea : Word) (m : Mapping) :
    s.SparesIn c (t.unlockLine ea m) := by
  unfold State.unlockLine
  split
  · exact State.sparesIn_done (by simp [h])
  · exact State.sparesIn_done h

theorem State.sparesIn_cacheLock (s : State) (ct : BitVec 5) (ea : Word) : s.SparesIn c (s.cacheLock ct ea) := by
  unfold State.cacheLock
  simp only []
  split
  · exact State.sparesIn_done (by simp)
  · split
    · exact State.sparesIn_of_spared (by simp)
    · split
      · exact State.sparesIn_of_spared (by simp)
      · split
        · exact State.sparesIn_of_spared (by simp)
        · split
          · trivial
          · split
            · split
              · trivial
              · split
                · split
                  · exact State.sparesIn_lockLine (by simp) _ _
                  · exact State.sparesIn_of_spared (by simp)
                · split
                  · exact State.sparesIn_of_spared (by simp)
                  · exact State.sparesIn_lockLine (by simp) _ _
            · exact State.sparesIn_lockLine (by simp) _ _

theorem State.sparesIn_cacheUnlock (s : State) (ct : BitVec 5) (ea : Word) : s.SparesIn c (s.cacheUnlock ct ea) := by
  unfold State.cacheUnlock
  simp only []
  split
  · exact State.sparesIn_done (s.spared_command _ _)
  · split
    · exact State.sparesIn_of_spared (by simp)
    · split
      · exact State.sparesIn_of_spared (by simp)
      · split
        · exact State.sparesIn_of_spared (by simp)
        · split
          · trivial
          · split
            · split
              · trivial
              · split
                · split
                  · exact State.sparesIn_unlockLine (by simp) _ _
                  · exact State.sparesIn_of_spared (by simp)
                · split
                  · exact State.sparesIn_of_spared (by simp)
                  · exact State.sparesIn_unlockLine (by simp) _ _
            · exact State.sparesIn_unlockLine (by simp) _ _

/-! ## Special-purpose and device control registers -/

/-- What mtspr writes: no register but SPEFSCR is one of the spared fields. The cases are those of writeSpr: 84 is HID0 and 88 is
MMUCSR0, whose writes branch, 54 is SPEFSCR, and 90 is no register. -/
theorem State.spares_writeSpr {n : Nat} {v : Word} (hc : n = 512 → c.status = true) (h : s.writeSpr n v = some t) :
    s.Spares c t := by
  unfold State.writeSpr at h
  split at h
  case h_54 =>
    cases h
    exact s.spares_setSpefscr (hc rfl) _
  case h_84 =>
    cases h
    exact .of_spared (s.spared_setHid0 v)
  case h_88 =>
    split at h <;> cases h
    · exact .of_spared rfl
    · exact .refl s
  case h_90 => cases h
  all_goals
    cases h
    exact .of_spared rfl

theorem State.sparesIn_moveToSpr {n : Nat} (hc : n = 512 → c.status = true) (s : State) (v : Dword) :
    s.SparesIn c (s.moveToSpr n v) := by
  unfold State.moveToSpr
  split
  · exact State.sparesIn_of_spared rfl
  · split
    · exact State.sparesIn_of_spared rfl
    · split
      · split
        · exact State.sparesIn_of_spared rfl
        · trivial
      · split
        · next t h => exact (State.spares_writeSpr hc h).sparesIn_advance 4
        · exact s.sparesIn_illegal

theorem State.sparesIn_moveFromSpr (hc : c.upper = true) (s : State) (rt : Reg) (n : Nat) :
    s.SparesIn c (s.moveFromSpr rt n) := by
  unfold State.moveFromSpr
  split
  · exact (s.spares_setR64 hc _ _).sparesIn_advance 4
  · split
    · exact (s.spares_setR64 hc _ _).sparesIn_advance 4
    · split
      · exact s.sparesIn_setR _ _ 4
      · exact s.sparesIn_illegal

theorem State.sparesIn_mtspr {f : BitVec 10} (hc : numberOf f = 512 → c.status = true) (s : State) (rs : Reg) :
    s.SparesIn c (execMtspr rs f s) := by
  unfold execMtspr
  split
  · exact State.sparesIn_of_spared s.spared_privileged
  · rw [registerNumber_eq_numberOf]
    exact s.sparesIn_moveToSpr hc _

theorem State.sparesIn_mfspr (hc : c.upper = true) (s : State) (rt : Reg) (f : BitVec 10) :
    s.SparesIn c (execMfspr rt f s) := by
  unfold execMfspr
  split
  · exact State.sparesIn_of_spared s.spared_privileged
  · exact s.sparesIn_moveFromSpr hc _ _

theorem State.spared_writeDcr {n : Nat} {v : Word} (h : s.writeDcr n v = some t) : t.spared = s.spared := by
  unfold State.writeDcr at h
  split at h <;> cases h <;> rfl

theorem State.sparesIn_moveToDcr (s : State) (n : Nat) (v : Word) : s.SparesIn c (s.moveToDcr n v) := by
  unfold State.moveToDcr
  split
  · split
    · exact State.sparesIn_of_spared rfl
    · trivial
  · split
    · next t h => exact (State.Spares.of_spared (State.spared_writeDcr h)).sparesIn_advance 4
    · exact s.sparesIn_illegal

theorem State.sparesIn_moveFromDcr (s : State) (rt : Reg) (n : Nat) : s.SparesIn c (s.moveFromDcr rt n) := by
  unfold State.moveFromDcr
  split
  · exact s.sparesIn_setR _ _ 4
  · exact s.sparesIn_illegal

end Sys2Proof.Machine
end

section
/-! SUPPORT. Every instruction changes only what the rules let it change of the reservation, the upper register halves and
SPEFSCR. -/

namespace Sys2Proof.Machine

theorem State.sparesIn_exec (i : Instr) (s : State) : s.SparesIn (changesOf i) (exec i s) := by
  unfold exec
  cases i with
  | add | addRc | addc | addcRc | addco | addcoRc | adde | addeRc | addeo | addeoRc | addi | addic | addicRc | addis | addme
  | addmeRc | addmeo | addmeoRc | addo | addoRc | addze | addzeRc | addzeo | addzeoRc | neg | negRc | nego | negoRc | subf
  | subfRc | subfc | subfcRc | subfco | subfcoRc | subfe | subfeRc | subfeo | subfeoRc | subfic | subfme | subfmeRc | subfmeo
  | subfmeoRc | subfo | subfoRc | subfze | subfzeRc | subfzeo | subfzeoRc => exact s.sparesIn_addForm _ _ _ _ _
  | and | andRc | andc | andcRc | andiRc | andisRc | cntlzw | cntlzwRc | eqv | eqvRc | extsb | extsbRc | extsh | extshRc
  | mulhw | mulhwRc | mulhwu | mulhwuRc | nand | nandRc | nor | norRc | or | orRc | orc | orcRc | ori | oris | rlwimi
  | rlwimiRc | rlwinm | rlwinmRc | rlwnm | rlwnmRc | slw | slwRc | srw | srwRc | xor | xorRc | xori | xoris =>
    exact s.sparesIn_plainResult _ _ _
  | b | ba | bc | bca | bcctr | bcctrl | bcl | bcla | bclr | bclrl | bl | bla => exact s.sparesIn_branch _ _ _ _
  | cmp | cmpi | cmpl | cmpli => exact State.sparesIn_of_spared rfl
  | crand | crandc | creqv | crnand | crnor | cror | crorc | crxor => exact State.sparesIn_of_spared rfl
  | dcba | dcbf | dcblc | dcbst | dcbt | dcbtls | dcbtst | dcbtstls | isync | msync | seIsync =>
    exact s.sparesIn_advance _
  | dcbi | tlbsync => exact State.sparesIn_supervisor (s.sparesIn_advance _)
  | dcbz => exact s.sparesIn_alignment _ _ _
  | divw | divwRc | divwo | divwoRc => exact s.sparesIn_divideSigned _ _ _ _
  | divwu | divwuRc | divwuo | divwuoRc => exact s.sparesIn_divideUnsigned _ _ _ _
  | icbi => exact s.sparesIn_cacheInvalidate _
  | icblc => exact s.sparesIn_cacheUnlock _ _
  | icbt => exact s.sparesIn_cacheTouch _ _
  | icbtls => exact s.sparesIn_cacheLock _ _
  | isel | mfcr | brinc => exact s.sparesIn_setR _ _ _
  | lbz | lbzu | lbzux | lbzx | lha | lhau | lhaux | lhax | lhbrx | lhz | lhzu | lhzux | lhzx | lwbrx | lwz | lwzu | lwzux
  | lwzx => exact s.sparesIn_loadInto _ _ _ _ _
  | lmw | eLmw => exact s.sparesIn_loadMultiple _ _
  | lwarx | lbarx | lharx => exact State.sparesIn_loadReserve rfl s _ _ _
  | mbar => exact s.sparesIn_mbar _
  | mcrf => exact State.sparesIn_of_spared rfl
  | mcrxr => exact State.sparesIn_of_spared rfl
  | mfdcr => exact State.sparesIn_supervisor (s.sparesIn_moveFromDcr _ _)
  | mfmsr => exact State.sparesIn_supervisor (s.sparesIn_setR _ _ _)
  | mfspr => exact State.sparesIn_mfspr rfl s _ _
  | mtcrf => exact State.sparesIn_of_spared rfl
  | mtdcr => exact State.sparesIn_supervisor (s.sparesIn_moveToDcr _ _)
  | mtmsr | wrtee | wrteei => exact State.sparesIn_supervisor (State.sparesIn_of_spared rfl)
  | mtspr => exact State.sparesIn_mtspr (fun h => by simp [changesOf, Instr.writesSpefscr, h]) s _
  | mulli | mullw | mullwRc | mullwo | mullwoRc => exact s.sparesIn_multiplyLow _ _ _ _
  | rfci | seRfci => exact s.sparesIn_returnCritical
  | rfdi | seRfdi => exact s.sparesIn_returnDebug
  | rfi | seRfi => exact s.sparesIn_returnNonCritical
  | rfmci | seRfmci => exact s.sparesIn_returnPlain _ _ _
  | sc | seSc => exact State.sparesIn_of_spared (s.spared_systemCall _)
  | sraw | srawRc | srawi | srawiRc => exact s.sparesIn_shiftRightAlgebraic _ _ _ _
  | stb | stbu | stbux | stbx | sth | sthbrx | sthu | sthux | sthx | stw | stwbrx | stwu | stwux | stwx =>
    exact s.sparesIn_storeFrom _ _ _ _
  | stmw | eStmw => exact s.sparesIn_storeMultiple _ _
  | stwcxRc | stbcxRc | sthcxRc => exact State.sparesIn_storeConditional rfl s _ _ _
  | tlbivax | tlbre | tlbsx | tlbwe => exact State.sparesIn_supervisor (State.sparesIn_of_spared (by simp))
  | tw | twi => exact s.sparesIn_trap _
  | wait => exact State.sparesIn_of_spared rfl
  | dnh | seDnh | eDnh => exact s.sparesIn_notifyHalt _ _
  | eLmvgprw => exact State.sparesIn_loadGroup (State.spares_gprWriters _)
  | eStmvgprw | eStmvsprw => exact s.sparesIn_storeGroup _ _ _ _
  | eLmvsprw => exact State.sparesIn_loadGroup State.spares_volatileSprWriters
  | eLmvsrrw | eLmvcsrrw | eLmvdsrrw | eLmvmcsrrw => exact State.sparesIn_loadPair (fun _ _ => rfl) fun _ _ => rfl
  | eStmvsrrw | eStmvcsrrw | eStmvdsrrw | eStmvmcsrrw => exact State.sparesIn_supervisor (s.sparesIn_storeGroup _ _ _ _)
  | efsabs | efsnabs | efsneg | efsadd | efssub | efsmul | efsdiv | efsmadd | efsmsub | efsnmadd | efsnmsub | efssqrt
  | efsmax | efsmin | efscfui | efscfsi | efscfuf | efscfsf | efscfh | efsctui | efsctsi | efsctuiz | efsctsiz | efsctuf
  | efsctsf | efscth => exact State.sparesIn_scalarCommit rfl s _ _
  | efscmpgt | efscmplt | efscmpeq => exact State.sparesIn_scalarCompare rfl s _ _ _ _
  | efststgt | efststlt | efststeq => exact s.sparesIn_scalarTest _ _
  | evfsabs | evfsnabs | evfsneg | evfsadd | evfssub | evfsaddsub | evfssubadd | evfsaddx | evfssubx | evfsaddsubx
  | evfssubaddx | evfssum | evfsdiff | evfssumdiff | evfsdiffsum | evfsmul | evfsmule | evfsmulo | evfsmulx | evfsdiv
  | evfsmadd | evfsmsub | evfsnmadd | evfsnmsub | evfssqrt | evfsmax | evfsmin | evfscfui | evfscfsi | evfscfuf | evfscfsf
  | evfscfh | evfscth | evfsctui | evfsctsi | evfsctuiz | evfsctsiz | evfsctuf | evfsctsf =>
    exact State.sparesIn_vectorCommit rfl rfl s _ _ _
  | evfscmpgt | evfscmplt | evfscmpeq => exact State.sparesIn_vectorCompare rfl s _ _ _ _
  | evfststgt | evfststlt | evfststeq => exact s.sparesIn_vectorTest _ _ _ _
  | evabs | evaddiw | evaddw | evneg | evsubfw | evsubifw | evand | evandc | eveqv | evnand | evnor | evor | evorc | evxor
  | evcntlsw | evcntlzw | evextsb | evextsh | evmergehi | evmergehilo | evmergelo | evmergelohi | evrlw | evrlwi | evrndw
  | evsel | evslw | evslwi | evsrwis | evsrwiu | evsrws | evsrwu | evsplatfi | evsplati =>
    exact State.sparesIn_vectorResult rfl s _ _
  | evcmpeq | evcmpgts | evcmpgtu | evcmplts | evcmpltu => exact s.sparesIn_vectorCr _ _ _ _
  | evdivws | evdivwu => exact State.sparesIn_divideElements rfl rfl s _ _ _ _
  | evmwhsmf | evmwhsmfa | evmwhsmi | evmwhsmia | evmwhumi | evmwhumia | evmwlumi | evmwlumia | evmhesmf | evmhesmfa
  | evmhesmi | evmhesmia | evmheumi | evmheumia | evmhosmf | evmhosmfa | evmhosmi | evmhosmia | evmhoumi | evmhoumia =>
    exact State.sparesIn_macModulo rfl s _ _ _
  | evmwhssf | evmwhssfa | evmhessf | evmhessfa | evmhossf | evmhossfa => exact State.sparesIn_macSaturated rfl rfl s _ _ _ _
  | evmwlsmiaaw | evmwlsmianw | evmwlumiaaw | evmwlumianw | evaddsmiaaw | evaddumiaaw | evsubfsmiaaw | evsubfumiaaw
  | evmhesmfaaw | evmhesmfanw | evmhesmiaaw | evmhesmianw | evmheumiaaw | evmheumianw | evmhosmfaaw | evmhosmfanw
  | evmhosmiaaw | evmhosmianw | evmhoumiaaw | evmhoumianw => exact State.sparesIn_macModulo rfl s _ _ _
  | evmwlssiaaw | evmwlssianw | evmwlusiaaw | evmwlusianw | evaddssiaaw | evaddusiaaw | evsubfssiaaw | evsubfusiaaw
  | evmhessfaaw | evmhessfanw | evmhessiaaw | evmhessianw | evmheusiaaw | evmheusianw | evmhossfaaw | evmhossfanw
  | evmhossiaaw | evmhossianw | evmhousiaaw | evmhousianw => exact State.sparesIn_macSaturated rfl rfl s _ _ _ _
  | evmwsmf | evmwsmfa | evmwsmi | evmwsmia | evmwumi | evmwumia | evmra => exact State.sparesIn_macModulo rfl s _ _ _
  | evmwsmfaa | evmwsmfan | evmwsmiaa | evmwsmian | evmwumiaa | evmwumian | evmhegsmfaa | evmhegsmfan | evmhegsmiaa
  | evmhegsmian | evmhegumiaa | evmhegumian | evmhogsmfaa | evmhogsmfan | evmhogsmiaa | evmhogsmian | evmhogumiaa
  | evmhogumian => exact State.sparesIn_macModulo rfl s _ _ _
  | evmwssf | evmwssfa => exact State.sparesIn_macSaturated rfl rfl s _ _ _ _
  | evmwssfaa | evmwssfan => exact State.sparesIn_macSaturated rfl rfl s _ _ _ _
  | evldd | evlddx | evldw | evldwx | evldh | evldhx | evlwhe | evlwhex | evlwhou | evlwhoux | evlwhos | evlwhosx
  | evlwwsplat | evlwwsplatx | evlwhsplat | evlwhsplatx | evlhhesplat | evlhhesplatx | evlhhousplat | evlhhousplatx
  | evlhhossplat | evlhhossplatx => exact State.sparesIn_vectorLoad rfl s _ _ _ _ _
  | evstdd | evstddx | evstdw | evstdwx | evstdh | evstdhx | evstwhe | evstwhex | evstwho | evstwhox | evstwwe | evstwwex
  | evstwwo | evstwwox => exact s.sparesIn_vectorStore _ _ _ _

end Sys2Proof.Machine

namespace Sys2Proof.Proofs
open Sys2Proof.Machine

/-- Settles O18: what the instruction changes is among what the rules let it change. -/
theorem onlyTheirInstructionsChange : Obligations.OnlyTheirInstructionsChange := by
  unfold Obligations.OnlyTheirInstructionsChange
  intro i s t h
  have spares := s.sparesIn_exec i
  rw [h] at spares
  refine ⟨fun hr => spares.reserve hr, fun hs hm => spares.upper ?_, fun hf ho hw => spares.status ?_⟩
  · simp only [changesOf, hs, Instr.isMfspr_false hm, Bool.or_self]
  · simp only [changesOf, hf, ho, Instr.writesSpefscr_false hw, Bool.or_self]

end Sys2Proof.Proofs
end

section
/-! SUPPORT. Reading a bit or a field of a word that is put together from fields, as the MAS registers are. -/

namespace Sys2Proof.Machine

/-! ## A word of one field -/

/-- A bit of a field that lies k bits above the low end of a word. -/
theorem bit_zext_shiftLeft {n : Nat} (v : BitVec n) {k i : Nat} (h : n + k ≤ 32) (hi : i < 32) :
    bit (zext v <<< k) i = (decide (32 ≤ i + k + n ∧ i + k < 32) && v.getMsbD (i + k + n - 32)) := by
  simp only [bit, zext, BitVec.getMsbD, hi, decide_true, Bool.true_and, BitVec.getLsbD_shiftLeft, BitVec.getLsbD_setWidth]
  by_cases hlow : i + k < 32
  · by_cases hhigh : 32 ≤ i + k + n
    · have hpos : 32 - 1 - i - k = n - 1 - (i + k + n - 32) := by omega
      have h1 : 31 - i < 32 := by omega
      have h2 : ¬31 - i < k := by omega
      have h3 : n - 1 - (i + k + n - 32) < 32 := by omega
      have h4 : i + k + n - 32 < n := by omega
      simp [hlow, hhigh, hpos, h1, h2, h3, h4]
    · simp [hhigh, BitVec.getLsbD_of_ge _ _ (show n ≤ 32 - 1 - i - k by omega)]
  · simp [hlow]
    omega

/-- A bit of a word with its k low-order bits cleared. -/
theorem bit_clearLow (w : Word) {k i : Nat} (hi : i < 32) : bit (clearLow w k) i = (decide (i + k < 32) && bit w i) := by
  simp only [bit, clearLow, BitVec.getMsbD, hi, decide_true, Bool.true_and, BitVec.getLsbD_shiftLeft,
    BitVec.getLsbD_ushiftRight]
  by_cases h : i + k < 32
  · have hpos : k + (32 - 1 - i - k) = 32 - 1 - i := by omega
    simp [h, hpos]
    omega
  · simp [h]
    omega

/-- Fields with the same bits are equal. -/
theorem bits_ext {a n : Nat} {w : Word} {v : BitVec n} (h : a + n ≤ 32) (hb : ∀ i, i < n → bit w (a + i) = v.getMsbD i) :
    bits a n w = v :=
  BitVec.eq_of_getMsbD_eq fun i hi => (bits_getMsbD a n w h i hi).trans (hb i hi)

/-! ## A field of a word of several -/

theorem bits_or {a n : Nat} (x y : Word) : bits a n (x ||| y) = bits a n x ||| bits a n y := BitVec.extractLsb'_or ..

/-- The field itself. -/
theorem bits_field_same {n : Nat} (v : BitVec n) {a k : Nat} (h : a + n + k = 32) : bits a n (zext v <<< k) = v := by
  refine bits_ext (by omega) fun i hi => ?_
  rw [bit_zext_shiftLeft v (by omega) (by omega)]
  have hpos : a + i + k + n - 32 = i := by omega
  simp only [hpos, Bool.and_eq_right_iff_imp, decide_eq_true_eq]
  omega

theorem bits_zext_same {n : Nat} (v : BitVec n) {a : Nat} (h : a + n = 32) : bits a n (zext v) = v := by
  simpa using bits_field_same v (a := a) (k := 0) h

/-- Bits outside the field. -/
theorem bits_field_other {m : Nat} (v : BitVec m) {a n k : Nat} (h : a + n ≤ 32) (hv : m + k ≤ 32)
    (hd : a + n + k + m ≤ 32 ∨ 32 ≤ a + k) : bits a n (zext v <<< k) = 0 := by
  refine bits_ext h fun i hi => ?_
  rw [bit_zext_shiftLeft v hv (by omega)]
  have : ¬(32 ≤ a + i + k + m ∧ a + i + k < 32) := by omega
  simp [this]

theorem bits_zext_other {m : Nat} (v : BitVec m) {a n : Nat} (h : a + n + m ≤ 32) : bits a n (zext v) = 0 := by
  simpa using bits_field_other v (a := a) (n := n) (k := 0) (by omega) (by omega) (.inl h)

/-- Bits other than the one a condition sets. -/
theorem bits_when_other {a n i : Nat} (c : Bool) (h : a + n ≤ 32) (hd : i < a ∨ a + n ≤ i) :
    bits a n (when c (oneBit i)) = 0 := by
  refine bits_ext h fun j hj => ?_
  rw [bit_when, bit_oneBit _ _ (by omega)]
  have : i ≠ a + j := by omega
  simp [this]

theorem bits_oneBit_other {a n i : Nat} (h : a + n ≤ 32) (hd : i < a ∨ a + n ≤ i) : bits a n (oneBit i) = 0 :=
  bits_when_other true h hd

theorem bits_clearLow_above {a n k : Nat} (w : Word) (h : a + n + k ≤ 32) : bits a n (clearLow w k) = bits a n w := by
  refine bits_ext (by omega) fun i hi => ?_
  rw [bit_clearLow w (by omega), bits_getMsbD a n w (by omega) i hi]
  have : a + i + k < 32 := by omega
  simp [this]

theorem bits_clearLow_below {a n k : Nat} (w : Word) (h : a + n ≤ 32) (hd : 32 ≤ a + k) : bits a n (clearLow w k) = 0 := by
  refine bits_ext h fun i hi => ?_
  rw [bit_clearLow w (by omega)]
  have : ¬a + i + k < 32 := by omega
  simp [this]

end Sys2Proof.Machine
end

section
/-! SUPPORT. Taking a non-critical interrupt as the claims say it (State.Interrupted), and the MAS registers a TLB miss loads. -/

namespace Sys2Proof.Machine

/-! ## Interrupts -/

/-- A state that differs from another in what the current step remembers and in the free-value counter. -/
def State.aside (s : State) (c : Current) (k : Nat) : State := { s with cur := c, freeCtr := k }

theorem State.usedMapping_eq (s : State) (m : Mapping) : s.usedMapping m = s.aside s.cur (s.usedMapping m).freeCtr := by
  unfold State.usedMapping
  split <;> rfl

/-- A mapping of one entry spends no free value. -/
theorem State.usedMapping_single (s : State) {m : Mapping} (h : m.multi = false) : s.usedMapping m = s := by
  simp [State.usedMapping, h]

/-- A vector has its low four bits 0, so loading it into pc clears nothing. -/
theorem codeAddress_vector (a : BitVec 16) (b : BitVec 12) : codeAddress (a ++ b ++ 0#4) = a ++ b ++ 0#4 := by
  refine word_ext _ _ fun i hi => ?_
  rw [codeAddress, bit_and]
  by_cases h : i < 28
  · have kept : bit 0xFFFFFFFE i = true := by interval_cases i <;> decide
    rw [kept, Bool.and_true]
  · have low : BitVec.getMsbD (w := 16 + 12 + 4) (a ++ b ++ 0#4) i = false := by
      rw [BitVec.getMsbD_append]
      simp [h]
    exact (Bool.and_eq_false_imp.2 fun h => absurd (low.symm.trans h) (by decide)).trans low.symm

theorem codeAddress_vectorOf (s : State) (n : Nat) :
    codeAddress (vectorOf s n) = bits 0 16 s.int.ivpr ++ bits 16 12 (s.ivorAt n) ++ 0#4 :=
  codeAddress_vector _ _

/-- The MSR bits that a non-critical interrupt keeps: CE, ME, DE and RI (spec/60_exceptions.md R2009). -/
theorem newMsr_nonCritical (hid0 m : Word) : newMsr hid0 .nonCritical m = m &&& 0x00021202 := by
  have kept : keptMsr hid0 .nonCritical = 0x00021202 := rfl
  rw [newMsr, kept]

theorem State.record_dbg (s : State) (e : Word) (v : Bool) :
    (s.record e v).dbg = { s.dbg with dbsr := (s.record e v).dbg.dbsr } := by
  unfold State.record
  split <;> rfl

/-- An interrupt an instruction raises records at most its interrupt-taken event. -/
theorem State.raise_dbg (s : State) (n : Nat) : (s.raise n).dbg = { s.dbg with dbsr := (s.raise n).dbg.dbsr } :=
  State.record_dbg _ _ _

/-- Raising a non-critical interrupt after ESR and DEAR, and for a TLB error the MAS registers, were written. -/
theorem State.interrupted_raise {s : State} {n : Nat} {m : MmuRegs} (esr dear : Word) (c : Current) (k : Nat)
    (hm : m = if n = 13 ∨ n = 14
      then { s.mmu with mas0 := m.mas0, mas1 := m.mas1, mas2 := m.mas2, mas3 := m.mas3, mas6 := m.mas6 } else s.mmu) :
    s.Interrupted ({ s with int := { s.int with esr := esr, dear := dear }, mmu := m, cur := c, freeCtr := k }.raise n)
      n s.pc esr dear where
  saved := State.raise_int _ n
  mode := (State.raise_msr _ n).trans (newMsr_nonCritical _ _)
  vector := (State.raise_pc _ n).trans (codeAddress_vectorOf _ n)
  awake := State.raise_waiting _ n
  program := ⟨State.raise_gpr _ n, State.raise_cr _ n, State.raise_xer _ n, State.raise_lr _ n, State.raise_ctr _ n,
    State.raise_acc _ n, State.raise_spefscr _ n, State.raise_mem _ n, State.raise_reserve _ n⟩
  translation := by
    rw [State.raise_mmu]
    exact hm
  frame := by
    rw [State.raise_eq, State.raise_dbg]

/-- Raising an interrupt that is no TLB error. -/
theorem State.interrupted_raise_other {s : State} {n : Nat} (h13 : n ≠ 13) (h14 : n ≠ 14) (esr dear : Word) (c : Current)
    (k : Nat) : s.Interrupted ((((s.aside c k).setEsr esr).setDear dear).raise n) n s.pc esr dear :=
  State.interrupted_raise esr dear c k (if_neg (by omega)).symm

/-! ## A TLB miss -/

theorem State.missTid_pid {s : State} (h : bits 14 2 s.mmu.mas4 = 0) : s.missTid = bits 24 8 s.soft.pid0 := by
  rw [State.missTid, h]
  rfl

theorem State.missTid_zero {s : State} (h : bits 14 2 s.mmu.mas4 = 3) : s.missTid = 0 := by
  rw [State.missTid, h]
  rfl

/-- MAS6 after a miss as the claims write it: SPID and SAS, the rest 0. -/
theorem missMas6_eq (pid : BitVec 8) (as : Bool) :
    zext pid <<< 16 ||| when as (oneBit 31) = 0#8 ++ pid ++ 0#15 ++ BitVec.ofBool as := by
  refine word_ext _ _ fun i hi => ?_
  simp only [bit_or, bit_zext_shiftLeft pid (by omega : 8 + 16 ≤ 32) hi, bit_when, bit_oneBit _ _ hi]
  simp only [bit, BitVec.getMsbD_append]
  interval_cases i <;> simp

/-- The memory management unit after a TLB miss (spec/20_memory.md R440). -/
def State.missMmu (s : State) (as : Bool) (ea : Word) : MmuRegs :=
  { s.mmu with
    mas0 := putBits 12 4 (bits 28 4 s.mmu.mas0) (putBits 2 2 (bits 2 2 s.mmu.mas4) s.mmu.mas0)
    mas1 := oneBit 0 ||| zext s.missTid <<< 16 ||| when as (oneBit 19) ||| zext (bits 20 5 s.mmu.mas4) <<< 7
    mas2 := clearLow ea 10 ||| zext (bits 26 6 s.mmu.mas4)
    mas3 := 0
    mas6 := zext (bits 24 8 s.soft.pid0) <<< 16 ||| when as (oneBit 31) }

/-- A miss loads the MAS registers, and may spend a free value for the TID. -/
theorem State.loadMissMas_eq (s : State) (as : Bool) (ea : Word) :
    s.loadMissMas as ea = { s with mmu := s.missMmu as ea, freeCtr := (s.loadMissMas as ea).freeCtr } := by
  unfold State.loadMissMas
  simp only []
  split <;> rfl

/-- Bits of MAS0 outside TLBSEL and ESEL stay. -/
theorem bit_putBits_other {a n k : Nat} (v : BitVec n) (w : Word) (hn : a + n ≤ 32) (hk : k < 32) (hd : k < a ∨ a + n ≤ k) :
    bit (putBits a n v w) k = bit w k := by
  rw [bit_putBits _ _ _ _ hn _ hk, if_neg (by omega)]

/-- The MAS registers that a miss leaves are those of State.MissLoaded. -/
theorem State.missLoaded_of_mmu {s t : State} {as : Bool} {ea : Word} (h : t.mmu = s.missMmu as ea) :
    s.MissLoaded t as ea := by
  have tid : bits 8 8 (s.missMmu as ea).mas1 = s.missTid := by
    simp [State.missMmu, bits_or, bits_oneBit_other, bits_field_other, bits_when_other, bits_field_same]
  constructor
  case select =>
    simp only [h, State.missMmu]
    refine ⟨?_, bits_putBits_same _ _ _ _ (by omega), fun k hk hk' => ?_⟩
    · rw [bits_putBits_other _ _ _ _ (by omega) _ _ (by omega) (by omega), bits_putBits_same _ _ _ _ (by omega)]
    · simp only [List.mem_cons, List.not_mem_nil, or_false, not_or] at hk'
      rw [bit_putBits_other _ _ (by omega) hk (by omega), bit_putBits_other _ _ (by omega) hk (by omega)]
  case valid => simp [h, State.missMmu, bit_or, bit_zext_shiftLeft, bit_when, bit_oneBit]
  case space => simp [h, State.missMmu, bit_or, bit_zext_shiftLeft, bit_when, bit_oneBit]
  case size => simp [h, State.missMmu, bits_or, bits_oneBit_other, bits_field_other, bits_when_other, bits_field_same]
  case process =>
    rw [h, tid]
    exact ⟨State.missTid_pid, State.missTid_zero⟩
  case page =>
    simp [h, State.missMmu, bits_or, bits_clearLow_above, bits_clearLow_below, bits_zext_same, bits_zext_other]
  case real => rw [h, State.missMmu]
  case search => exact (congrArg MmuRegs.mas6 h).trans (missMas6_eq _ _)
  case reserved => simp [h, State.missMmu, bits_or, bits_oneBit_other, bits_field_other, bits_when_other]
  case rest => rw [h, State.missMmu]

/-- The claim does not depend on what the step has remembered. -/
theorem State.MissLoaded.of_aside {s t : State} {c : Current} {k : Nat} {as : Bool} {ea : Word}
    (h : (s.aside c k).MissLoaded t as ea) : s.MissLoaded t as ea :=
  ⟨h.select, h.valid, h.space, h.size, h.process, h.page, h.real, h.search, h.reserved, h.rest⟩

/-! ## Exceptions of data accesses -/

/-- ESR of a data access as the claims write it (spec/60_exceptions.md R2046). -/
theorem State.accessEsr_eq (s : State) (store spe : Bool) :
    s.accessEsr store spe =
      (if store then 0x00800000 else 0) ||| (if spe then 0x80 else 0) ||| if s.cur.vle then 0x20 else 0 := by
  unfold State.accessEsr State.vlemi
  cases store <;> cases spe <;> cases s.cur.vle <;> rfl

/-- A data TLB error, whatever the step has remembered before it (spec/60_exceptions.md R2033, spec/20_memory.md R440). -/
theorem State.dataTlbError_spec (s : State) (c : Current) (k : Nat) (store spe : Bool) (ea : Word) :
    s.Interrupted ((s.aside c k).dataTlbError store spe ea) 13 s.pc ((s.aside c k).accessEsr store spe) ea ∧
      s.MissLoaded ((s.aside c k).dataTlbError store spe ea) (bit s.msr 27) ea := by
  unfold State.dataTlbError
  rw [State.loadMissMas_eq]
  exact ⟨State.interrupted_raise _ _ _ _ rfl, .of_aside (c := c) (k := k) (State.missLoaded_of_mmu (State.raise_mmu _ 13))⟩

/-- A data storage interrupt, whatever the step has remembered before it (R2022). -/
theorem State.interrupted_dataStorage (s : State) (c : Current) (k : Nat) (store spe : Bool) (extra ea : Word) :
    s.Interrupted ((s.aside c k).dataStorage store spe extra ea) 2 s.pc ((s.aside c k).accessEsr store spe ||| extra) ea :=
  State.interrupted_raise_other (by decide) (by decide) _ _ _ _

/-- With internal debug mode off a data fault is taken at once (spec/61_debug.md R2211). -/
theorem State.dataFault_off {s : State} (h : s.idm = false) (q : Request) (fault : State → State) :
    s.dataFault q fault =
      fault (s.aside { s.cur with faulted := [{ ea := q.ea, store := q.store, bytes := [] }] } s.freeCtr) := by
  simp only [State.dataFault, h, Bool.false_and, Bool.false_eq_true, if_false]
  rfl

/-! ## The data access procedure -/

section
variable {s : State} {q : Request} {m m2 : Mapping}

theorem State.translateData_missed (h : s.lookup (bit s.msr 27) q.ea = none) :
    s.translateData q = .raised (s.dataFault q fun t => t.dataTlbError q.store (q.kind == .spe) q.ea) := by
  simp only [State.translateData, h]

theorem State.translateData_denied (h : s.lookup (bit s.msr 27) q.ea = some m) (hp : m.permits q.store s.userMode = false) :
    s.translateData q = .raised (s.dataFault q fun t => t.dataStorage q.store (q.kind == .spe) 0 q.ea) := by
  simp only [State.translateData, h, hp, Bool.not_false, if_true]

/-- An access that goes on into a second page, for which the procedure looks the first address of that page up
(spec/20_memory.md R418, R419). -/
structure Request.Crosses (q : Request) (s : State) (m : Mapping) : Prop where
  first : s.lookup (bit s.msr 27) q.ea = some m
  permitted : m.permits q.store s.userMode = true
  crosses : m.samePage q.ea (q.ea + BitVec.ofNat 32 (q.size - 1)) = false

theorem State.translateData_secondMissed (h : q.Crosses s m) (h2 : s.lookup (bit s.msr 27) (m.nextPage q.ea) = none) :
    s.translateData q = .raised (s.dataFault q fun t => t.dataTlbError q.store (q.kind == .spe) (m.nextPage q.ea)) := by
  simp only [State.translateData, h.first, h.permitted, h.crosses, h2, Bool.not_true, Bool.false_eq_true, if_false]

theorem State.translateData_secondDenied (h : q.Crosses s m) (h2 : s.lookup (bit s.msr 27) (m.nextPage q.ea) = some m2)
    (hp : m2.permits q.store s.userMode = false) :
    s.translateData q = .raised (s.dataFault q fun t => t.dataStorage q.store (q.kind == .spe) 0 (m.nextPage q.ea)) := by
  simp only [State.translateData, h.first, h.permitted, h.crosses, h2, hp, Bool.not_true, Bool.not_false,
    Bool.false_eq_true, if_false, if_true]

theorem State.translateData_split (h : q.Crosses s m) (h2 : s.lookup (bit s.msr 27) (m.nextPage q.ea) = some m2)
    (hp : m2.permits q.store s.userMode = true) (hm : m.multi = false) (hm2 : m2.multi = false)
    (he : m.entry.e ≠ m2.entry.e) :
    s.translateData q =
      .raised (s.dataFault q fun t => t.dataStorage q.store (q.kind == .spe) (oneBit 14) (m.nextPage q.ea)) := by
  simp only [State.translateData, h.first, h.permitted, h.crosses, h2, hp, hm, hm2, bne_iff_ne.2 he, Bool.not_true,
    Bool.not_false, Bool.and_self, Bool.false_eq_true, if_false, if_true]

/-- An access whose translation raises an exception ends in it. -/
theorem State.load_raised {t : State} {ea : Word} {n : Nat} {kind : AccessKind}
    (h : s.translateData { ea := ea, size := n, store := false, kind := kind } = .raised t) :
    s.load ea n kind = .raised t := by
  simp only [State.load, State.loadBytes, h, Access.bind_of_raised]

theorem State.store_raised {t : State} {ea : Word} {n : Nat} {v : Dword} {kind : AccessKind}
    (h : s.translateData { ea := ea, size := n, store := true, kind := kind } = .raised t) :
    s.store ea n v kind = .raised t := by
  simp only [State.store, State.storeImage, h, Access.bind_of_raised]

/-! ## The exceptions as the claims say them -/

/-- A miss of a data access: the data TLB error with the ESR of the access, and the MAS registers of R440. -/
theorem State.raised_missed (hidm : s.idm = false) {a esr : Word}
    (hesr : esr = s.accessEsr q.store (q.kind == .spe))
    (h : s.translateData q = .raised (s.dataFault q fun t => t.dataTlbError q.store (q.kind == .spe) a)) :
    ∃ t, s.translateData q = .raised t ∧ s.Interrupted t 13 s.pc esr a ∧ s.MissLoaded t (bit s.msr 27) a := by
  subst hesr
  rw [State.dataFault_off hidm] at h
  exact ⟨_, h, s.dataTlbError_spec _ _ _ _ _⟩

/-- A refused data access: the data storage interrupt with the ESR of the access, and the MMU as it was. -/
theorem State.raised_refused (hidm : s.idm = false) {extra a esr : Word}
    (hesr : esr = s.accessEsr q.store (q.kind == .spe) ||| extra)
    (h : s.translateData q = .raised (s.dataFault q fun t => t.dataStorage q.store (q.kind == .spe) extra a)) :
    ∃ t, s.translateData q = .raised t ∧ s.Interrupted t 2 s.pc esr a ∧ t.mmu = s.mmu := by
  subst hesr
  rw [State.dataFault_off hidm] at h
  exact ⟨_, h, s.interrupted_dataStorage _ _ _ _ _ _, (s.interrupted_dataStorage _ _ _ _ _ _).translation⟩

end

end Sys2Proof.Machine

namespace Sys2Proof.Proofs
open Sys2Proof.Machine

/-- Settles O22: each clause is the branch of the data access procedure that its hypotheses select. -/
theorem translationFaults : Obligations.TranslationFaults := by
  unfold Obligations.TranslationFaults
  intro s ea n value kind hidm esr missed refused
  have hesr (store : Bool) : esr store = s.accessEsr store (kind == .spe) := by
    simp only [esr, State.accessEsr_eq, beq_iff_eq]
  have loads {P : State → Prop} (h : ∃ t, s.translateData ⟨ea, n, false, kind⟩ = .raised t ∧ P t) :
      ∃ t, s.load ea n kind = .raised t ∧ P t :=
    h.imp fun t h => ⟨State.load_raised h.1, h.2⟩
  have stores {P : State → Prop} (h : ∃ t, s.translateData ⟨ea, n, true, kind⟩ = .raised t ∧ P t) :
      ∃ t, s.store ea n value kind = .raised t ∧ P t :=
    h.imp fun t h => ⟨State.store_raised h.1, h.2⟩
  have hesr0 (store : Bool) : esr store = s.accessEsr store (kind == .spe) ||| 0 :=
    (hesr store).trans BitVec.or_zero.symm
  have hsplit (store : Bool) : esr store ||| 0x00020000 = s.accessEsr store (kind == .spe) ||| oneBit 14 := by
    rw [hesr]
    rfl
  refine ⟨fun h => ⟨loads (State.raised_missed hidm (hesr _) (State.translateData_missed h)),
    stores (State.raised_missed hidm (hesr _) (State.translateData_missed h))⟩, fun m h => ⟨fun hp => ?_, fun hp => ?_,
    fun hc => ⟨fun h2 => ⟨fun hp => ?_, fun hp => ?_⟩, fun m2 h2 => ⟨fun hp hp2 => ?_, fun hp hp2 => ?_,
    fun hp hp2 hs => ?_, fun hp hp2 hs => ?_⟩⟩⟩⟩
  · exact loads (State.raised_refused hidm (hesr0 _) (State.translateData_denied h hp))
  · exact stores (State.raised_refused hidm (hesr0 _) (State.translateData_denied h hp))
  · exact loads (State.raised_missed hidm (hesr _) (State.translateData_secondMissed ⟨h, hp, hc⟩ h2))
  · exact stores (State.raised_missed hidm (hesr _) (State.translateData_secondMissed ⟨h, hp, hc⟩ h2))
  · exact loads (State.raised_refused hidm (hesr0 _) (State.translateData_secondDenied ⟨h, hp, hc⟩ h2 hp2))
  · exact stores (State.raised_refused hidm (hesr0 _) (State.translateData_secondDenied ⟨h, hp, hc⟩ h2 hp2))
  · obtain ⟨hm, hm2, he⟩ := hs
    exact loads (State.raised_refused hidm (hsplit _) (State.translateData_split ⟨h, hp, hc⟩ h2 hp2 hm hm2 he))
  · obtain ⟨hm, hm2, he⟩ := hs
    exact stores (State.raised_refused hidm (hsplit _) (State.translateData_split ⟨h, hp, hc⟩ h2 hp2 hm hm2 he))

end Sys2Proof.Proofs
end

section
/-! SUPPORT. Which TLB entry translates an address, and where (spec/20_memory.md R430, spec/11_state_mmu_cache.md R202 to R204). -/

namespace Sys2Proof.Machine

/-! ## An entry matches -/

/-- The number of a page of 2^(10 + SIZE) bytes, from the 22 bits of EPN or RPN. -/
theorem shiftedPage_toNat (n : BitVec 22) (size : BitVec 5) :
    (n ++ 0#10 : Word).toNat / 2 ^ pageBits size = n.toNat / 2 ^ size.toNat := by
  rw [BitVec.toNat_append, pageBits, Nat.shiftLeft_eq]
  simp only [BitVec.toNat_ofNat, Nat.zero_mod, Nat.or_zero]
  rw [Nat.pow_add, Nat.mul_comm, Nat.mul_div_mul_left _ _ (by decide)]

/-- The page-number compare of the machine is the one of the claims. -/
theorem TlbEntry.pageMatches_iff (e : TlbEntry) (ea : Word) : e.pageMatches ea = true ↔ e.Holds ea := by
  have page : ((e.epn ++ 0#10 : Word) >>> pageBits e.size).toNat = e.epn.toNat / 2 ^ e.size.toNat := by
    rw [BitVec.toNat_ushiftRight, Nat.shiftRight_eq_div_pow, shiftedPage_toNat]
  have held : (ea >>> pageBits e.size).toNat = ea.toNat / 2 ^ (10 + e.size.toNat) := by
    rw [BitVec.toNat_ushiftRight, Nat.shiftRight_eq_div_pow, pageBits]
  rw [TlbEntry.pageMatches, Bool.and_eq_true, decide_eq_true_eq, beq_iff_eq, ← BitVec.toNat_inj, page, held]
  exact and_congr_right' eq_comm

/-- The process compare of the machine is the one of the claims. -/
theorem TlbEntry.pidMatches_iff (e : TlbEntry) (pid : BitVec 8) (p : Pins) : e.pidMatches pid p = true ↔ e.Serves pid p := by
  have ht := e.tid.isLt
  have hp := pid.isLt
  have external : e.tid.extractLsb' 4 4 = 0xF#4 ↔ e.tid.toNat / 16 = 15 := by
    rw [← BitVec.toNat_inj, BitVec.extractLsb'_toNat, Nat.shiftRight_eq_div_pow]
    exact iff_of_eq (congrArg (· = 15) (Nat.mod_eq_of_lt (by omega)))
  have above : e.tid.extractLsb' 2 6 = pid.extractLsb' 2 6 ↔ e.tid.toNat / 4 = pid.toNat / 4 := by
    rw [← BitVec.toNat_inj, BitVec.extractLsb'_toNat, BitVec.extractLsb'_toNat, Nat.shiftRight_eq_div_pow,
      Nat.shiftRight_eq_div_pow, Nat.mod_eq_of_lt (by omega), Nat.mod_eq_of_lt (by omega)]
  have low (x : BitVec 2) : e.tid.extractLsb' 0 2 = x ↔ e.tid.toNat % 4 = x.toNat := by
    rw [← BitVec.toNat_inj, BitVec.extractLsb'_toNat, Nat.shiftRight_zero]
  unfold TlbEntry.pidMatches TlbEntry.Serves
  simp only [Bool.or_eq_true, beq_iff_eq, Bool.and_eq_true, external]
  refine or_congr_right ?_
  split
  · simp only [Bool.and_eq_true, Bool.or_eq_true, beq_iff_eq, above, low]
    rfl
  · simp only [beq_iff_eq]

/-- The machine's compare of an entry is the one of the claims. -/
theorem TlbEntry.hit_iff (e : TlbEntry) (as : Bool) (pid : BitVec 8) (p : Pins) (ea : Word) :
    e.hit as pid p ea = true ↔ e.Maps as pid p ea := by
  simp only [TlbEntry.hit, TlbEntry.Maps, Bool.and_eq_true, beq_iff_eq, and_assoc, e.pidMatches_iff, e.pageMatches_iff]

/-! ## The entries that match -/

/-- The numbers of the TLB entries. -/
def tlbIndices : List (BitVec 4) := (List.range 16).map (BitVec.ofNat 4)

theorem mem_tlbIndices (k : BitVec 4) : k ∈ tlbIndices :=
  List.mem_map.2 ⟨k.toNat, List.mem_range.2 k.isLt, BitVec.ofNat_toNat 4 k⟩

theorem tlbIndices_nodup : tlbIndices.Nodup := by decide

/-- The numbers of the entries that match an address. -/
def State.matching (s : State) (as : Bool) (pid : BitVec 8) (ea : Word) : List (BitVec 4) :=
  tlbIndices.filter fun k => (s.mmu.entry k).hit as pid s.pins ea

theorem State.mem_matching {s : State} {as : Bool} {pid : BitVec 8} {ea : Word} {k : BitVec 4} :
    k ∈ s.matching as pid ea ↔ (s.mmu.entry k).Maps as pid s.pins ea := by
  rw [State.matching, List.mem_filter, TlbEntry.hit_iff]
  exact and_iff_right (mem_tlbIndices k)

theorem State.matching_none {s : State} {as : Bool} {pid : BitVec 8} {ea : Word}
    (h : ∀ k, ¬(s.mmu.entry k).Maps as pid s.pins ea) : s.matching as pid ea = [] :=
  List.eq_nil_iff_forall_not_mem.2 fun k hk => h k (State.mem_matching.1 hk)

theorem State.matching_one {s : State} {as : Bool} {pid : BitVec 8} {ea : Word} {k : BitVec 4}
    (hk : (s.mmu.entry k).Maps as pid s.pins ea) (h : ∀ j, j ≠ k → ¬(s.mmu.entry j).Maps as pid s.pins ea) :
    s.matching as pid ea = [k] := by
  have only : ∀ j ∈ tlbIndices, (s.mmu.entry j).hit as pid s.pins ea = (j == k) := fun j _ => by
    by_cases hj : j = k
    · rw [hj, beq_self_eq_true]
      exact (TlbEntry.hit_iff _ _ _ _ _).2 hk
    · rw [beq_false_of_ne hj, ← Bool.not_eq_true, TlbEntry.hit_iff]
      exact h j hj
  rw [State.matching, List.filter_congr only, List.filter_beq, List.count_eq_one_of_mem tlbIndices_nodup (mem_tlbIndices k)]
  rfl

/-- The TLB as the list of its entries. -/
theorem MmuRegs.tlb_toList (m : MmuRegs) : m.tlb.toList = tlbIndices.map m.entry := by
  refine List.ext_getElem (by simp [tlbIndices]) fun i h _ => ?_
  have hi : i < 16 := by simpa using h
  simp [tlbIndices, MmuRegs.entry, Nat.mod_eq_of_lt hi]

/-- The lookup, by the numbers of the entries that match. -/
theorem State.lookupPid_eq (s : State) (as : Bool) (pid : BitVec 8) (ea : Word) :
    s.lookupPid as pid ea = match s.matching as pid ea with
      | [] => none
      | [k] => some { entry := s.mmu.entry k, flip := 0, multi := false }
      | _ => some (multiHitMapping s.freeCtr ea) := by
  have entries : s.mmu.tlb.toList.filter (fun e => e.hit as pid s.pins ea) = (s.matching as pid ea).map s.mmu.entry := by
    rw [MmuRegs.tlb_toList, List.filter_map]
    rfl
  rw [State.lookupPid, entries]
  cases s.matching as pid ea with
  | nil => rfl
  | cons k rest => cases rest <;> rfl

/-! ## The mapping of one entry -/

section
variable {e : TlbEntry}

/-- The mask of the offset in a page of 2^k bytes. -/
theorem and_not_shiftLeft_toNat (a : Word) (k : Nat) : (a &&& ~~~(0xFFFFFFFF#32 <<< k)).toNat = a.toNat % 2 ^ k := by
  refine Nat.eq_of_testBit_eq fun i => ?_
  rw [Nat.testBit_mod_two_pow, BitVec.testBit_toNat, BitVec.testBit_toNat]
  by_cases hi : i < 32
  · have ones : BitVec.getLsbD 0xFFFFFFFF#32 (i - k) = true := by
      rw [show 0xFFFFFFFF#32 = BitVec.allOnes 32 by rfl, BitVec.getLsbD_allOnes]
      simp
      omega
    simp only [BitVec.getLsbD_and, BitVec.getLsbD_not, BitVec.getLsbD_shiftLeft, hi, ones, decide_true, Bool.true_and,
      Bool.and_true, Bool.not_not]
    exact Bool.and_comm _ _
  · simp [BitVec.getLsbD_of_ge _ _ (Nat.le_of_not_lt hi)]

theorem Mapping.through_single (h : e.size.toNat ≤ 22) : Mapping.Through { entry := e, flip := 0, multi := false } e where
  entry := rfl
  single := rfl
  real a := by
    have base : (((e.rpn ++ 0#10 : Word) >>> pageBits e.size) <<< pageBits e.size).toNat =
        2 ^ pageBits e.size * (e.rpn.toNat / 2 ^ e.size.toNat) := by
      have hpage : (e.rpn ++ 0#10 : Word).toNat / 2 ^ pageBits e.size = e.rpn.toNat / 2 ^ e.size.toNat := shiftedPage_toNat _ _
      rw [BitVec.toNat_shiftLeft, BitVec.toNat_ushiftRight, Nat.shiftRight_eq_div_pow, Nat.shiftLeft_eq, Nat.mod_eq_of_lt,
        hpage, Nat.mul_comm]
      exact Nat.lt_of_le_of_lt (Nat.div_mul_le_self _ _) (e.rpn ++ 0#10 : Word).isLt
    have unflipped (x : Word) : x ^^^ 0 = x := BitVec.xor_zero
    simp only [Mapping.real, unflipped, BitVec.toNat_or, base, and_not_shiftLeft_toNat]
    rw [← Nat.two_pow_add_eq_or_of_lt (Nat.mod_lt _ (Nat.two_pow_pos _)), Nat.mul_comm]
    rfl
  page a b := Mapping.samePage_iff _ a b
  next a := by
    have hk : pageBits e.size ≤ 32 := by
      unfold pageBits
      omega
    have low : (clearLow a (pageBits e.size)).toNat = a.toNat / 2 ^ pageBits e.size * 2 ^ pageBits e.size := by
      rw [clearLow, BitVec.toNat_shiftLeft, BitVec.toNat_ushiftRight, Nat.shiftRight_eq_div_pow, Nat.shiftLeft_eq,
        Nat.mod_eq_of_lt (Nat.lt_of_le_of_lt (Nat.div_mul_le_self _ _) a.isLt)]
    simp only [Mapping.nextPage]
    rw [BitVec.toNat_add, low, BitVec.toNat_shiftLeft, Nat.shiftLeft_eq, Nat.add_mod_mod, Nat.add_mul]
    rfl
  read _ := rfl
  write _ := rfl
  execute _ := rfl

end

/-- The translation of the machine is the one of the claims (spec/20_memory.md R430). -/
theorem State.translates (s : State) (as : Bool) (ea : Word) : s.Translates as ea where
  none h := by rw [State.lookup, State.lookupPid_eq, State.matching_none h]
  one k hk h := by
    rw [State.lookup, State.lookupPid_eq, State.matching_one hk h]
    obtain ⟨-, -, -, hsize, -⟩ := hk
    exact ⟨_, rfl, Mapping.through_single hsize⟩
  many j k hne hj hk := by
    rw [← State.mem_matching] at hj hk
    rw [State.lookup, State.lookupPid_eq]
    match hm : s.matching as (bits 24 8 s.soft.pid0) ea with
    | [] => simp [hm] at hj
    | [i] =>
      rw [hm, List.mem_singleton] at hj hk
      exact absurd (hj.trans hk.symm) hne
    | _ :: _ :: _ => exact ⟨_, rfl, rfl⟩

end Sys2Proof.Machine
end

section
/-! SUPPORT. The TLB instructions: entries and MAS registers (spec/20_memory.md R442 to R445). -/

namespace Sys2Proof.Machine

theorem State.supervisor_of {s : State} (h : s.userMode = false) (f : State → Answer) : s.supervisor f = f s := by
  simp only [State.supervisor, h, Bool.false_eq_true, if_false]

/-! ## Entries and MAS registers -/

/-- Loading an entry into the MAS registers and writing it back gives the entry. -/
theorem TlbEntry.ofMas_toMas (e : TlbEntry) : TlbEntry.ofMas e.toMas.1 e.toMas.2.1 e.toMas.2.2 = e := by
  obtain ⟨v, ts, tid, epn, rpn, size, ux, sx, uw, sw, ur, sr, w, i, m, g, le, u, iprot, vle⟩ := e
  simp [TlbEntry.ofMas, TlbEntry.toMas, bits_or, bits_field_same, bits_field_other, bits_when_other, bit_or,
    bit_zext_shiftLeft, bit_when, bit_oneBit]

/-- The same for the MAS registers of a search that found the entry, which set MAS1[V]. -/
theorem TlbEntry.ofMas_toMas_valid {e : TlbEntry} (h : e.v = true) :
    TlbEntry.ofMas (e.toMas.1 ||| oneBit 0) e.toMas.2.1 e.toMas.2.2 = e := by
  have set : e.toMas.1 ||| oneBit 0 = e.toMas.1 := by
    refine word_ext _ _ fun i hi => ?_
    rw [bit_or, bit_oneBit _ _ hi]
    by_cases h0 : i = 0
    · subst h0
      simp [TlbEntry.toMas, h, bit_or, bit_when, bit_oneBit]
    · simp [Ne.symm h0]
  rw [set, TlbEntry.ofMas_toMas]

/-- A word whose bits outside a mask, at the positions listed, are 0. -/
theorem and_not_mask {w m : Word} (outside : List Nat) (hm : ∀ i, i < 32 → bit m i = true ∨ i ∈ outside)
    (hw : ∀ i ∈ outside, bit w i = false) : w &&& ~~~m = 0 := by
  refine word_ext _ _ fun i hi => ?_
  have zero : bit 0 i = false := bit_zero i
  rw [zero, bit_and, bit_not _ _ hi]
  rcases hm i hi with h | h
  · rw [h, Bool.not_true, Bool.and_false]
  · rw [hw i h, Bool.false_and]

/-- The reserved bits of MAS1 and MAS2 after an entry is loaded. -/
theorem TlbEntry.toMas_reserved (e : TlbEntry) : e.toMas.1 &&& ~~~0xC0FF1F80 = 0 ∧ e.toMas.2.1 &&& ~~~0xFFFFFC3F = 0 :=
  ⟨and_not_mask [2, 3, 4, 5, 6, 7, 16, 17, 18, 25, 26, 27, 28, 29, 30, 31] (by decide)
      (by simp [TlbEntry.toMas, bit_zext_shiftLeft, bit_when, bit_oneBit]),
    and_not_mask [22, 23, 24, 25] (by decide) (by simp [TlbEntry.toMas, bit_zext_shiftLeft, bit_when, bit_oneBit])⟩

/-! ## The TLB after tlbwe and tlbivax -/

theorem MmuRegs.entry_writeEntry_same (m : MmuRegs) :
    m.writeEntry.entry m.esel = TlbEntry.ofMas m.mas1 m.mas2 m.mas3 :=
  Vector.getElem_set_self _

theorem MmuRegs.entry_writeEntry_other (m : MmuRegs) {k : BitVec 4} (h : k ≠ m.esel) :
    m.writeEntry.entry k = m.entry k :=
  Vector.getElem_set_ne m.esel.isLt k.isLt fun e => h (BitVec.eq_of_toNat_eq e.symm)

theorem MmuRegs.entry_invalidate (m : MmuRegs) (ea : Word) (k : BitVec 4) :
    (m.invalidate ea).entry k =
      if (m.entry k).iprot = false ∧ (bit ea 29 = true ∨ (m.entry k).Holds ea) then { m.entry k with v := false }
      else m.entry k := by
  simp only [MmuRegs.entry, MmuRegs.invalidate, Vector.getElem_map]
  exact if_congr (by simp only [Bool.and_eq_true, Bool.not_eq_true', Bool.or_eq_true, TlbEntry.pageMatches_iff]) rfl rfl

/-! ## tlbsx -/

theorem State.tlbSearch_hit {s : State} {ea : Word} {k : BitVec 4} (h : s.searchTlb ea = [k]) :
    s.tlbSearch ea = { s with mmu := s.mmu.searchHit k } := by simp only [State.tlbSearch, h]

theorem State.tlbSearch_miss {s : State} {ea : Word} (h : s.searchTlb ea = []) :
    s.tlbSearch ea = { s with mmu := s.mmu.searchMiss ea } := by simp only [State.tlbSearch, h]

/-- TLBSEL and ESEL after both were written. -/
theorem bits_tlbsel_esel (v : BitVec 2) (k : BitVec 4) (w : Word) :
    bits 2 2 (putBits 12 4 k (putBits 2 2 v w)) = v ∧ bits 12 4 (putBits 12 4 k (putBits 2 2 v w)) = k :=
  ⟨(bits_putBits_other _ _ _ _ (by omega) _ _ (by omega) (by omega)).trans (bits_putBits_same _ _ _ _ (by omega)),
    bits_putBits_same _ _ _ _ (by omega)⟩

/-- The MAS registers of a search that found nothing: MAS1[V] and [IPROT] 0, and the defaults of MAS4 and MAS6. -/
theorem MmuRegs.searchMiss_fields (m : MmuRegs) (ea : Word) :
    bit (m.searchMiss ea).mas1 0 = false ∧ bit (m.searchMiss ea).mas1 1 = false ∧
      bits 8 8 (m.searchMiss ea).mas1 = bits 8 8 m.mas6 ∧ bit (m.searchMiss ea).mas1 19 = bit m.mas6 31 ∧
      bits 20 5 (m.searchMiss ea).mas1 = bits 20 5 m.mas4 ∧ bits 0 22 (m.searchMiss ea).mas2 = bits 0 22 ea ∧
      bits 26 6 (m.searchMiss ea).mas2 = bits 26 6 m.mas4 := by
  simp [MmuRegs.searchMiss, bits_or, bits_field_same, bits_field_other, bits_when_other, bits_clearLow_above,
    bits_clearLow_below, bits_zext_same, bits_zext_other, bit_zext_shiftLeft, bit_when, bit_oneBit]

/-! ## The real addresses of an access -/

theorem realAddresses_getD (m m2 : Mapping) (ea : Word) {n k : Nat} (h : k < n) :
    (realAddresses m m2 ea n).getD k 0 =
      let a := ea + BitVec.ofNat 32 k
      if m.samePage ea a then m.real a else m2.real a := by
  simp [realAddresses, h]

/-! ## The instructions -/

section
variable {s : State}

theorem State.runs_tlbwe (h : s.userMode = false) : Runs .tlbwe s fun t =>
    t = { s with mmu := s.mmu.writeEntry, cur.signals := t.cur.signals, pc := s.pc + 4 } :=
  ⟨_, (exec_tlbwe s).trans (State.supervisor_of h _), rfl⟩

theorem State.runs_tlbre (h : s.userMode = false) : Runs .tlbre s fun t =>
    t = { s with mmu := s.mmu.loadMas (s.mmu.entry s.mmu.esel), cur.signals := t.cur.signals, pc := s.pc + 4 } :=
  ⟨_, (exec_tlbre s).trans (State.supervisor_of h _), rfl⟩

theorem State.runs_tlbivax (h : s.userMode = false) (ra rb : Reg) : Runs (.tlbivax ra rb) s fun t =>
    t = { s with mmu := s.mmu.invalidate (s.eaX ra rb), cur.signals := t.cur.signals, pc := s.pc + 4 } :=
  ⟨_, (exec_tlbivax ra rb s).trans (State.supervisor_of h _), rfl⟩

theorem State.runs_tlbsx_hit (h : s.userMode = false) {ra rb : Reg} {k : BitVec 4} (hk : s.searchTlb (s.eaX ra rb) = [k]) :
    Runs (.tlbsx ra rb) s fun t =>
      t = { s with mmu := s.mmu.searchHit k, cur.signals := t.cur.signals, pc := s.pc + 4 } := by
  have found := State.tlbSearch_hit (s := s.command 9 (s.eaX ra rb)) hk
  refine ⟨_, (exec_tlbsx ra rb s).trans (State.supervisor_of h _), ?_⟩
  rw [found]
  rfl

theorem State.runs_tlbsx_miss (h : s.userMode = false) {ra rb : Reg} (hk : s.searchTlb (s.eaX ra rb) = []) :
    Runs (.tlbsx ra rb) s fun t =>
      t = { s with mmu := s.mmu.searchMiss (s.eaX ra rb), cur.signals := t.cur.signals, pc := s.pc + 4 } := by
  have missed := State.tlbSearch_miss (s := s.command 9 (s.eaX ra rb)) hk
  refine ⟨_, (exec_tlbsx ra rb s).trans (State.supervisor_of h _), ?_⟩
  rw [missed]
  rfl

end

/-- A run of which more is known. -/
theorem Runs.imp {i : Instr} {s : State} {P Q : State → Prop} (h : Runs i s P) (hpq : ∀ t, P t → Q t) : Runs i s Q :=
  Exists.imp (fun t ht => ⟨ht.1, hpq t ht.2⟩) h

end Sys2Proof.Machine

namespace Sys2Proof.Proofs
open Sys2Proof.Machine

/-- Settles O44: the compare of an entry is the claims' one, and each instruction leaves the MMU its lemma names. -/
theorem tlbInstructions : Obligations.TlbInstructions := by
  unfold Obligations.TlbInstructions
  refine ⟨fun s as ea => s.translates as ea, fun m m2 ea n k hk => realAddresses_getD m m2 ea hk, fun s ra rb hs => ?_⟩
  extract_lets m k ea matches'
  refine ⟨(State.runs_tlbwe hs).imp fun t ht => ?_, (State.runs_tlbre hs).imp fun t ht => ?_,
    fun j hj hother => (State.runs_tlbsx_hit hs (State.matching_one hj hother)).imp fun t ht => ?_,
    fun hnone => (State.runs_tlbsx_miss hs (State.matching_none hnone)).imp fun t ht => ?_,
    (State.runs_tlbivax hs ra rb).imp fun t ht => ?_⟩
  · have hmmu : t.mmu = m.writeEntry := congrArg State.mmu ht
    have written : t.mmu.entry k = TlbEntry.ofMas m.mas1 m.mas2 m.mas3 := by
      rw [hmmu]
      exact m.entry_writeEntry_same
    refine ⟨?_, fun j hj => ?_, ?_⟩
    · rw [written]
      exact ⟨rfl, rfl, rfl, rfl, rfl, rfl, rfl, rfl, rfl, rfl, rfl, rfl, rfl, rfl, rfl, rfl, rfl, rfl, rfl, rfl⟩
    · rw [hmmu]
      exact m.entry_writeEntry_other hj
    · rw [ht]
      rfl
  · have hmmu : t.mmu = m.loadMas (m.entry k) := congrArg State.mmu ht
    obtain ⟨h1, h2⟩ := (m.entry k).toMas_reserved
    rw [hmmu]
    refine ⟨TlbEntry.ofMas_toMas _, h1, h2, ?_⟩
    rw [ht]
    rfl
  · have hmmu : t.mmu = m.searchHit j := congrArg State.mmu ht
    obtain ⟨hsel, hesel⟩ := bits_tlbsel_esel 1#2 j m.mas0
    have valid : bit (m.searchHit j).mas1 0 = true := by simp [MmuRegs.searchHit, bit_or, bit_oneBit]
    rw [hmmu]
    refine ⟨hsel, hesel, valid, TlbEntry.ofMas_toMas_valid hj.1, ?_⟩
    rw [ht]
    rfl
  · have hmmu : t.mmu = m.searchMiss ea := congrArg State.mmu ht
    obtain ⟨hsel, hesel⟩ := bits_tlbsel_esel (bits 2 2 m.mas4) (bits 28 4 m.mas0) m.mas0
    obtain ⟨hv, hiprot, htid, hts, hsize, hepn, hattr⟩ := m.searchMiss_fields ea
    rw [hmmu]
    refine ⟨hsel, hesel, hv, hiprot, htid, hts, hsize, hepn, hattr, rfl, ?_⟩
    rw [ht]
    rfl
  · have hmmu : t.mmu = m.invalidate ea := congrArg State.mmu ht
    refine ⟨fun j => ?_, ?_⟩
    · rw [hmmu, MmuRegs.entry_invalidate]
    · rw [ht]
      rfl

end Sys2Proof.Proofs
end

section
/-! SUPPORT. The lines of the instruction cache: reading one after writing one, check bits that fit, and what a pass over a set
does (spec/20_memory.md R470 to R476). -/

namespace Sys2Proof.Machine

/-! ## Where a line is -/

variable (c : ICache)

theorem ICache.organisation : (c.ways = 2 ∧ c.sets = 64) ∨ (c.ways = 4 ∧ c.sets = 32) := by
  unfold ICache.ways ICache.sets
  split <;> simp

theorem ICache.ways_pos : 0 < c.ways := by
  have := c.organisation
  omega

theorem ICache.ways_le : c.ways ≤ 4 := by
  have := c.organisation
  omega

theorem ICache.sets_pos : 0 < c.sets := by
  have := c.organisation
  omega

theorem ICache.setOf_lt (ea : Word) : c.setOf ea < c.sets := Nat.mod_lt _ c.sets_pos

variable {c} {set w j k : Nat}

theorem ICache.index_lt (hs : set < c.sets) (hw : w < c.ways) : w * c.sets + set < 128 := by
  obtain ⟨h2, h64⟩ | ⟨h4, h32⟩ := c.organisation
  · rw [h64] at hs ⊢
    omega
  · rw [h32] at hs ⊢
    omega

theorem ICache.index_inj (hs : set < c.sets) (hj : j < c.sets) :
    w * c.sets + set = k * c.sets + j ↔ set = j ∧ w = k := by
  obtain ⟨-, h64⟩ | ⟨-, h32⟩ := c.organisation
  · rw [h64] at hs hj ⊢
    omega
  · rw [h32] at hs hj ⊢
    omega

theorem ICache.line_eq (hs : set < c.sets) (hw : w < c.ways) :
    c.line set w = c.lines[w * c.sets + set]'(ICache.index_lt hs hw) := by
  simp [ICache.line, List.getD_eq_getElem?_getD, ICache.index_lt hs hw]

/-- Writing a line writes that line alone. -/
theorem ICache.line_setLine (hs : set < c.sets) (hj : j < c.sets) (hk : k < c.ways) (l : CacheLine) :
    (c.setLine set w l).line j k = if j = set ∧ k = w then l else c.line j k := by
  have same : w * c.sets + set = k * c.sets + j ↔ j = set ∧ k = w :=
    (ICache.index_inj hs hj).trans (by omega)
  rw [ICache.line_eq (c := c) hj hk, ICache.line_eq (c := c.setLine set w l) hj hk]
  exact (Vector.getElem_setIfInBounds (ICache.index_lt hj hk)).trans (if_congr same rfl rfl)

theorem ICache.line_setLine_same (hs : set < c.sets) (hw : w < c.ways) (l : CacheLine) : (c.setLine set w l).line set w = l := by
  rw [ICache.line_setLine hs hs hw, if_pos ⟨rfl, rfl⟩]

/-- Two caches that differ in lines only are the same when every way of every set holds the same line. -/
theorem ICache.ext_lines {d : ICache} (h : d = { c with lines := d.lines })
    (hl : ∀ j k, j < c.sets → k < c.ways → d.line j k = c.line j k) : d = c := by
  suffices d.lines = c.lines by rw [h, this]
  have geometry : d.sets = c.sets ∧ d.ways = c.ways := by
    rw [h]
    exact ⟨rfl, rfl⟩
  ext1 i hi
  have split : i % c.sets < c.sets ∧ i / c.sets < c.ways ∧ i / c.sets * c.sets + i % c.sets = i := by
    refine ⟨Nat.mod_lt _ c.sets_pos, ?_, Nat.div_add_mod' i c.sets⟩
    obtain ⟨h2, h64⟩ | ⟨h4, h32⟩ := c.organisation <;> simp only [*] <;> omega
  obtain ⟨hj, hk, hi'⟩ := split
  have := hl _ _ hj hk
  rw [ICache.line_eq hj hk, ICache.line_eq (geometry.1.symm ▸ hj) (geometry.2.symm ▸ hk)] at this
  simpa only [geometry.1, hi'] using this

/-! ## Check bits that fit -/

/-- With a code of L1CSR1[ICEDT] that is not reserved the check bits do not depend on the free values. -/
theorem tagCheck_free {edt : Nat} (h : edt < 2) (f g : Nat) (tag : BitVec 22) (v : Bool) :
    tagCheck edt f tag v = tagCheck edt g tag v := by
  interval_cases edt <;> rfl

theorem dataCheck_free {edt : Nat} (h : edt < 2) (f g : Nat) (d : Dword) : dataCheck edt f d = dataCheck edt g d := by
  interval_cases edt <;> rfl

/-- The check bits the cache writes pass the check. -/
theorem checkTag_of_fits {edt f : Nat} {l : CacheLine} (h : edt < 2) (hl : l.tchk = tagCheck edt f l.tag l.v) :
    checkTag edt l = .good := by
  interval_cases edt
  · simp [checkTag, hl, tagCheck]
  · simp [checkTag, correctTag, hl, tagCheck]

theorem checkTag_invalidated {edt f : Nat} (h : edt < 2) (l : CacheLine) : checkTag edt (invalidated edt f l) = .good :=
  checkTag_of_fits h rfl

theorem tagError_eq_false {edt : Nat} {l : CacheLine} : tagError edt l = false ↔ checkTag edt l = .good := by
  simp [tagError]

/-- The tag and the valid bit of a line, put together and taken apart. -/
theorem tag_append_valid (t : BitVec 23) : t.extractLsb' 1 22 ++ BitVec.ofBool (t.getLsbD 0) = t := by
  ext i hi
  simp only [BitVec.getElem_append]
  split
  · obtain rfl : i = 0 := by omega
    simp
  · simp [show 1 + (i - 1) = i by omega, BitVec.getLsbD_eq_getElem hi]

/-- A corrected tag has no error. -/
theorem checkTag_corrected {edt : Nat} {l l' : CacheLine} (h : checkTag edt l = .corrected l') : checkTag edt l' = .good := by
  obtain rfl : edt = 1 := by
    by_contra hne
    rw [checkTag, if_neg hne] at h
    split at h <;> cases h
  simp only [checkTag, if_true] at h ⊢
  suffices l'.tchk = edcTag (l'.tag ++ BitVec.ofBool l'.v) by simp [correctTag, this]
  unfold correctTag at h
  simp only [] at h
  split at h
  · cases h
  · split at h
    · cases h
      rfl
    · split at h
      · cases h
        simp only [tag_append_valid]
      · cases h

/-- The correction cycle that spares nothing leaves no tag error. -/
theorem ICache.checkTag_corrected_false (h : c.edt < 2) (l : CacheLine) : checkTag c.edt (c.corrected false l) = .good := by
  unfold ICache.corrected
  split
  next hl => exact hl
  next l' hl => exact checkTag_corrected hl
  next hl => exact checkTag_invalidated h l

/-! ## Ways found in a set -/

theorem ICache.setHasError_iff {set : Nat} :
    c.setHasError set = true ↔ ∃ k, k < c.ways ∧ tagError c.edt (c.line set k) = true := by
  simp [ICache.setHasError]

theorem ICache.hitWay_some {ea real : Word} (h : c.hitWay ea real = some w) :
    w < c.ways ∧ c.tagMatches (c.line (c.setOf ea) w) real = true :=
  ⟨List.mem_range.1 (List.mem_of_find?_eq_some h), List.find?_some (p := fun w => c.tagMatches (c.line (c.setOf ea) w) real) h⟩

theorem ICache.hitWay_none {ea real : Word} (h : c.hitWay ea real = none) (hk : k < c.ways) :
    c.tagMatches (c.line (c.setOf ea) k) real = false := by
  simpa using List.find?_eq_none.1 h k (List.mem_range.2 hk)

theorem ICache.cleanWay_some {ea real : Word} (h : c.cleanWay ea real = some w) : w < c.ways :=
  List.mem_range.1 (List.mem_of_find?_eq_some h)

/-- Without a tag error in the set the way that hits is the clean way. -/
theorem ICache.cleanWay_of_noError {ea real : Word} (h : (c.checking && c.setHasError (c.setOf ea)) = false) :
    c.cleanWay ea real = c.hitWay ea real := by
  unfold ICache.cleanWay ICache.hitWay
  refine List.find?_congr fun k hk => ?_
  cases hc : c.checking with
  | false => simp
  | true =>
    have clean : tagError c.edt (c.line (c.setOf ea) k) = false := by
      rw [hc, Bool.true_and, ← Bool.not_eq_true, ICache.setHasError_iff] at h
      exact Bool.not_eq_true _ ▸ fun he => h ⟨k, List.mem_range.1 hk, he⟩
    simp [clean]

theorem ICache.nextWay_lt {b : Bool} (h : c.NextWay set b w) : w < c.ways := by
  obtain ⟨j, -, rfl, -⟩ := h
  exact Nat.mod_lt _ c.ways_pos

/-! ## A pass over the ways of a set -/

/-- The ways below n of a set have been changed by f, and no other line. -/
structure ICache.Swept (c d : ICache) (set n : Nat) (f : CacheLine → CacheLine) : Prop where
  only : d = { c with lines := d.lines }
  lines : ∀ j k, j < c.sets → k < c.ways → d.line j k = if j = set ∧ k < n then f (c.line j k) else c.line j k

theorem ICache.Swept.zero (c : ICache) (set : Nat) (f : CacheLine → CacheLine) : c.Swept c set 0 f :=
  ⟨rfl, fun j k _ _ => by simp⟩

variable {d : ICache} {n : Nat} {f : CacheLine → CacheLine}

theorem ICache.Swept.geometry (h : c.Swept d set n f) : d.sets = c.sets ∧ d.ways = c.ways := by
  rw [h.only]
  exact ⟨rfl, rfl⟩

theorem ICache.Swept.edt_eq (h : c.Swept d set n f) : d.edt = c.edt := by
  rw [h.only]
  rfl

/-- Two passes after one another change lines only. -/
theorem ICache.Swept.only_trans {e : ICache} {k : Nat} {g : CacheLine → CacheLine} (h : c.Swept d set n f)
    (h' : d.Swept e j k g) : e = { c with lines := e.lines } :=
  h'.only.trans (congrArg (fun x => { x with lines := e.lines }) h.only)

/-- The way next in turn still holds its old line. -/
theorem ICache.Swept.line_next (h : c.Swept d set n f) (hs : set < c.sets) (hn : n < c.ways) : d.line set n = c.line set n := by
  rw [h.lines set n hs hn, if_neg (by omega)]

theorem ICache.Swept.write (h : c.Swept d set n f) (hs : set < c.sets) (hn : n < c.ways) :
    c.Swept (d.setLine set n (f (c.line set n))) set (n + 1) f := by
  obtain ⟨sets, ways⟩ := h.geometry
  refine ⟨by rw [h.only]; rfl, fun j k hj hk => ?_⟩
  rw [ICache.line_setLine (sets.symm ▸ hs) (sets.symm ▸ hj) (ways.symm ▸ hk),
    h.lines j k hj hk]
  by_cases he : j = set ∧ k = n
  · obtain ⟨rfl, rfl⟩ := he
    simp
  · simp only [he, if_false]
    exact if_congr (by omega) rfl rfl

theorem ICache.Swept.leave (h : c.Swept d set n f) (hf : f (c.line set n) = c.line set n) : c.Swept d set (n + 1) f := by
  refine ⟨h.only, fun j k hj hk => ?_⟩
  rw [h.lines j k hj hk]
  by_cases he : j = set ∧ k = n
  · obtain ⟨rfl, rfl⟩ := he
    simp [hf]
  · exact if_congr (by omega) rfl rfl

/-- A pass over all the ways. -/
theorem ICache.Swept.line_set (h : c.Swept d set c.ways f) (hs : set < c.sets) (hk : k < c.ways) :
    d.line set k = f (c.line set k) := by
  rw [h.lines set k hs hk, if_pos ⟨rfl, hk⟩]

theorem ICache.Swept.line_other (h : c.Swept d set n f) (hj : j < c.sets) (hk : k < c.ways) (hne : j ≠ set) :
    d.line j k = c.line j k := by
  rw [h.lines j k hj hk, if_neg (by omega)]

/-- One way of the correction cycle (R476). -/
def ICache.correctWay (edt set : Nat) (spare : Bool) (r : ICache × Bool) (w : Nat) : ICache × Bool :=
  match checkTag edt (r.1.line set w) with
  | .good => r
  | .corrected l' => (r.1.setLine set w l', r.2)
  | .bad => if spare && (r.1.line set w).l then r
    else (r.1.setLine set w (invalidated edt 0 (r.1.line set w)), r.2 || (r.1.line set w).l)

theorem ICache.correctSet_eq (c : ICache) (set : Nat) (spare : Bool) :
    c.correctSet set spare = (List.range c.ways).foldl (ICache.correctWay c.edt set spare) (c, false) := rfl

/-- A locked line whose tag cannot be corrected. -/
def ICache.LostLine (c : ICache) (l : CacheLine) : Prop := checkTag c.edt l = .bad ∧ l.l = true

theorem ICache.correctWays_spec (hs : set < c.sets) (spare : Bool) (hn : n ≤ c.ways) :
    let r := (List.range n).foldl (ICache.correctWay c.edt set spare) (c, false)
    c.Swept r.1 set n (c.corrected spare) ∧
      (r.2 = true ↔ spare = false ∧ ∃ k, k < n ∧ c.LostLine (c.line set k)) := by
  induction n with
  | zero => exact ⟨.zero c set _, by simp⟩
  | succ n ih =>
    obtain ⟨swept, lost⟩ := ih (by omega)
    simp only [List.range_succ, List.foldl_append, List.foldl_cons, List.foldl_nil]
    generalize (List.range n).foldl (ICache.correctWay c.edt set spare) (c, false) = r at swept lost
    have hline : r.1.line set n = c.line set n := swept.line_next hs hn
    have more : (∃ k, k < n + 1 ∧ c.LostLine (c.line set k)) ↔
        (∃ k, k < n ∧ c.LostLine (c.line set k)) ∨ c.LostLine (c.line set n) := by
      simp only [Nat.lt_succ_iff_lt_or_eq, or_and_right, exists_or, exists_eq_left]
    rw [ICache.correctWay, hline]
    split
    next hl =>
      refine ⟨swept.leave (by simp [ICache.corrected, hl]), lost.trans ?_⟩
      rw [more]
      simp [ICache.LostLine, hl]
    next l' hl =>
      have written := swept.write hs hn
      simp only [ICache.corrected, hl] at written
      refine ⟨written, lost.trans ?_⟩
      rw [more]
      simp [ICache.LostLine, hl]
    next hl =>
      split
      next hsp =>
        refine ⟨swept.leave (by simp [ICache.corrected, hl, hsp]), lost.trans ?_⟩
        have : spare = true := (Bool.and_eq_true_iff.1 hsp).1
        simp [this]
      next hsp =>
        have written := swept.write hs hn
        simp only [ICache.corrected, hl, hsp] at written
        refine ⟨written, ?_⟩
        rw [more, Bool.or_eq_true, lost]
        cases spare <;> simp_all [ICache.LostLine]

/-- The correction cycle corrects every way of the set, and answers whether a locked line was lost (R476). -/
theorem ICache.correctSet_spec (hs : set < c.sets) (spare : Bool) :
    c.Swept (c.correctSet set spare).1 set c.ways (c.corrected spare) ∧
      ((c.correctSet set spare).2 = true ↔ spare = false ∧ ∃ k, k < c.ways ∧ c.LostLine (c.line set k)) := by
  rw [ICache.correctSet_eq]
  exact ICache.correctWays_spec hs spare le_rfl

end Sys2Proof.Machine
end

section
/-! SUPPORT. What fills, drops and refused fills leave in the cache, and the machine checks that follow (spec/20_memory.md R472,
R476, spec/60_exceptions.md R2050 to R2055). -/

namespace Sys2Proof.Machine

/-! ## Bytes of a double word -/

/-- The last byte put in is the low-order one. -/
theorem extract_low (a : Dword) (b : Byte) : ((a <<< 8) ||| b.setWidth 64).extractLsb' 0 8 = b := by
  ext i hi
  simp [hi]
  exact fun _ => by omega

/-- The bytes put in before are shifted up. -/
theorem extract_above (a : Dword) (b : Byte) {k : Nat} (h : k < 7) :
    ((a <<< 8) ||| b.setWidth 64).extractLsb' (8 * (k + 1)) 8 = a.extractLsb' (8 * k) 8 := by
  ext i hi
  have shifted : 8 * (k + 1) + i - 8 = 8 * k + i := by omega
  simp [shifted, BitVec.getLsbD_of_ge b (8 * (k + 1) + i) (by omega)]
  omega

/-- Byte k from the low-order end of the number that bytes stand for. -/
theorem extract_ofBytes (bs : List Byte) {k : Nat} (hk : k < bs.length) (h8 : k < 8) :
    (ofBytes bs).extractLsb' (8 * k) 8 = bs.reverse.getD k 0 := by
  induction bs using List.reverseRecOn generalizing k with
  | nil => simp at hk
  | append_singleton bs b ih =>
    have put : ofBytes (bs ++ [b]) = (ofBytes bs <<< 8) ||| b.setWidth 64 := by simp [ofBytes]
    rw [put]
    cases k with
    | zero => simpa using extract_low (ofBytes bs) b
    | succ k =>
      rw [extract_above _ _ (by omega), ih (by simpa using hk) (by omega)]
      simp

/-- Byte i of double word k of a list of bytes. -/
theorem byteOf_ofBytes (bs : List Byte) {k i : Nat} (h : 8 * k + 8 ≤ bs.length) (hi : i < 8) :
    byteOf (ofBytes ((bs.drop (8 * k)).take 8)) i = bs.getD (8 * k + i) 0 := by
  have length : ((bs.drop (8 * k)).take 8).length = 8 := by simp; omega
  have place : 56 - 8 * i = 8 * (7 - i) := by omega
  rw [byteOf, place, extract_ofBytes _ (by omega) (by omega), List.getD_eq_getElem?_getD, List.getElem?_reverse (by omega),
    length, List.getElem?_take_of_lt (by omega), List.getElem?_drop, List.getD_eq_getElem?_getD]
  congr 3
  omega

/-! ## The line of a real address -/

theorem clearLow_add (a : Word) : clearLow a 5 + BitVec.ofNat 32 (a.toNat % 32) = a := by
  refine BitVec.eq_of_toNat_eq ?_
  have ha := a.isLt
  simp only [clearLow, BitVec.toNat_add, BitVec.toNat_shiftLeft, BitVec.toNat_ushiftRight, BitVec.toNat_ofNat,
    Nat.shiftLeft_eq, Nat.shiftRight_eq_div_pow]
  omega

/-- Bytes that stay in one line are bytes of the line. -/
theorem line_address (a : Word) (k : Nat) :
    a + BitVec.ofNat 32 k = clearLow a 5 + BitVec.ofNat 32 (a.toNat % 32 + k) := by
  conv_lhs => rw [← clearLow_add a]
  rw [BitVec.add_assoc, BitVec.ofNat_add]

/-- A line without a bus error has none in its bytes. -/
theorem State.codeError_of_lineError {s : State} {real : Word} {n : Nat} (h : s.lineError real = false)
    (hn : real.toNat % 32 + n ≤ 32) : s.codeError real n = false := by
  unfold State.lineError State.busError at h
  unfold State.codeError State.busError
  rw [List.any_eq_false] at h ⊢
  intro a ha
  obtain ⟨k, hk, rfl⟩ := List.mem_map.1 ha
  have := List.mem_range.1 hk
  rw [line_address]
  exact h _ (List.mem_map_of_mem (List.mem_range.2 (by omega)))

/-! ## Filling a line -/

section
variable {s : State} {ea real : Word} {w : Nat} {lock : Bool}

/-- The line that a fill writes. -/
def State.filledLine (s : State) (real : Word) (lock : Bool) : CacheLine :=
  let dw (k : Nat) : Dword := ofBytes (((s.lineBytes real).drop (8 * k)).take 8)
  let data : Vector Dword 4 := #v[dw 0, dw 1, dw 2, dw 3]
  { tag := bits 0 22 real, v := true, l := lock, tchk := tagCheck s.ic.edt s.freeCtr (bits 0 22 real) true,
    data := data, dchk := data.map (s.ic.fillCheck s.freeCtr) }

theorem State.fillLine_eq (h : s.ic.edt < 2) :
    s.fillLine ea real w lock = { s with ic := s.ic.setLine (s.ic.setOf ea) w (s.filledLine real lock) } := by
  have spent : (if s.ic.edt ≥ 2 then s.spendFree else s) = s := if_neg (by omega)
  unfold State.fillLine
  simp only [spent]
  rfl

theorem State.filledLine_data {j : Nat} (hj : j < 32) :
    byteOf ((s.filledLine real lock).data.toList.getD (j / 8) 0) (j % 8) = s.byteAt (clearLow real 5 + BitVec.ofNat 32 j) := by
  have dw : (s.filledLine real lock).data.toList.getD (j / 8) 0 =
      ofBytes (((s.lineBytes real).drop (8 * (j / 8))).take 8) := by
    have : j / 8 < 4 := by omega
    interval_cases j / 8 <;> rfl
  have length : (s.lineBytes real).length = 32 := by simp [State.lineBytes]
  rw [dw, byteOf_ofBytes _ (by omega) (by omega), Nat.div_add_mod, State.lineBytes, List.getD_eq_getElem?_getD]
  simp [hj]

theorem State.filledLine_dchk (h : s.ic.edt < 2) (hi : bit s.ic.l1csr1 16 = false) {k : Nat} (hk : k < 4) :
    (s.filledLine real lock).dchk.toList.getD k 0 =
      dataCheck s.ic.edt 0 ((s.filledLine real lock).data.toList.getD k 0) := by
  have fits (d : Dword) : s.ic.fillCheck s.freeCtr d = dataCheck s.ic.edt 0 d := by
    simp [ICache.fillCheck, hi, dataCheck_free h s.freeCtr 0]
  have mapped : (s.filledLine real lock).dchk = (s.filledLine real lock).data.map (s.ic.fillCheck s.freeCtr) := rfl
  simp [mapped, List.getD_eq_getElem?_getD, hk, fits]

/-- A state whose cache is that of s with one line filled. -/
theorem State.LineFilled.of_setLine {t : State} {set : Nat} {c : ICache} (h : s.ic.edt < 2) (hs : set < s.ic.sets)
    (hw : w < s.ic.ways) (hc : c = s.ic.setLine set w (s.filledLine real lock))
    (ht : ∀ j k, t.ic.line j k = c.line j k) : s.LineFilled t set w real lock := by
  have line : t.ic.line set w = s.filledLine real lock := by rw [ht, hc, ICache.line_setLine_same hs hw]
  constructor
  case tag => rw [line]; rfl
  case valid => rw [line]; rfl
  case locked => rw [line]; rfl
  case data => exact fun j hj => line ▸ State.filledLine_data hj
  case tagCheck => exact line ▸ checkTag_of_fits h rfl
  case dataCheck => exact fun hi k hk => line ▸ State.filledLine_dchk h hi hk
  case others =>
    intro j k hj hk hne
    rw [ht, hc, ICache.line_setLine hs hj hk, if_neg (by omega)]

/-- After a fill the line of the address is where it was put. -/
theorem State.LineFilled.hitWay {t : State} (h : s.LineFilled t (s.ic.setOf ea) w real lock)
    (hw : w < s.ic.ways) (hmiss : s.ic.hitWay ea real = none)
    (ht : t.ic = { s.ic with lines := t.ic.lines, replace := t.ic.replace }) : t.ic.hitWay ea real = some w := by
  have geometry : t.ic.ways = s.ic.ways ∧ t.ic.setOf ea = s.ic.setOf ea ∧ t.ic.tagMatches = s.ic.tagMatches := by
    rw [ht]
    exact ⟨rfl, rfl, rfl⟩
  obtain ⟨ways, setOf, tagMatches⟩ := geometry
  unfold ICache.hitWay
  rw [ways, setOf, tagMatches, List.find?_range_eq_some]
  refine ⟨by simp [ICache.tagMatches, h.valid, h.tag], List.mem_range.2 hw, fun k hk => ?_⟩
  rw [h.others _ k (s.ic.setOf_lt ea) (by omega) (by omega), ICache.hitWay_none hmiss (by omega)]
  rfl

/-! ## Dropping a line -/

theorem State.Dropped.of_setLine {t : State} {set f : Nat} {c : ICache} (h : s.ic.edt < 2) (hs : set < s.ic.sets)
    (hw : w < s.ic.ways) (hc : c = s.ic.setLine set w (invalidated s.ic.edt f (s.ic.line set w)))
    (ht : t.ic.lines = c.lines) (hg : t.ic.sets = s.ic.sets) : s.Dropped t set w := by
  have lines (j k : Nat) : t.ic.line j k = c.line j k := by
    rw [ICache.line, ICache.line, ht, hg, hc]
    rfl
  have line : t.ic.line set w = invalidated s.ic.edt f (s.ic.line set w) := by
    rw [lines, hc, ICache.line_setLine_same hs hw]
  refine ⟨by rw [line]; rfl, line ▸ checkTag_invalidated h _, fun j k hj hk hne => ?_⟩
  rw [lines, hc, ICache.line_setLine hs hj hk, if_neg (by omega)]

end

/-! ## Machine checks -/

/-- MCSR after an asynchronous condition, as the claims write it (spec/60_exceptions.md R2053). -/
theorem State.asyncCheck_mcsr (s : State) {e : Word} (a : Word) (effective : Bool) (he : bit e 13 = false) :
    (s.asyncCheck e a effective).int.mcsr = (if bit s.int.mcsr 12 then s.int.mcsr
      else if effective then s.int.mcsr ||| 0x000C0000
      else (s.int.mcsr ||| 0x00080000) &&& ~~~0x00040000#32) ||| e := by
  refine (congrArg (·.int.mcsr) (s.asyncCheck_eq e a effective)).trans ?_
  change _ = (if bit s.int.mcsr 12 then s.int.mcsr else if effective then s.int.mcsr ||| (oneBit 12 ||| oneBit 13)
    else (s.int.mcsr ||| oneBit 12) &&& ~~~oneBit 13) ||| e
  by_cases mav : bit s.int.mcsr 12 = true
  · simp only [mav, if_true]
  · simp only [mav]
    refine word_ext _ _ fun i hi => ?_
    by_cases h13 : 13 = i
    · subst h13
      cases effective <;> simp [bit_setBit, bit_oneBit, bit_not, he]
    · cases effective <;> simp [bit_setBit, bit_oneBit, bit_not, hi, h13, Bool.or_right_comm]

theorem newMsr_machineCheck (hid0 m : Word) :
    newMsr hid0 .machineCheck m = if bit hid0 23 = true ∧ bit hid0 22 = false then m &&& 0x200 else 0 := by
  have kept : (oneBit 22 : Word) = 0x200 := rfl
  simp only [newMsr, keptMsr, when, clears, kept]
  cases bit hid0 23 <;> cases bit hid0 22 <;> simp

/-- An error report saves the context in the machine check pair and adds its bits to MCSR. -/
theorem State.errorReport_int (s : State) (report : Word) :
    (s.errorReport report).int = { s.int with mcsrr0 := s.pc, mcsrr1 := s.msr, mcsr := s.int.mcsr ||| report } := rfl

/-- A state that differs from another in the instruction cache and in what the current step remembers. -/
def State.withCache (s : State) (c : ICache) (u : Current) (k : Nat) : State := { s with ic := c, cur := u, freeCtr := k }

/-- The machine check of a cache instruction or of a fetch, whatever the cache has become before it. -/
theorem State.cacheChecked_withCache (s : State) (c : ICache) (u : Current) (k : Nat) {async : Word} (real : Word)
    (he : bit async 13 = false) :
    s.CacheChecked (((s.withCache c u k).asyncCheck async real false).errorReport (oneBit 15)) async real := by
  have mcsr := (s.withCache c u k).asyncCheck_mcsr real false he
  rw [State.asyncCheck_eq] at mcsr ⊢
  constructor
  case program => exact ⟨rfl, rfl, rfl, rfl, rfl, rfl, rfl, rfl, rfl⟩
  case awake => rfl
  case vector => exact codeAddress_vectorOf (s.withCache c u k) 1
  case mode => exact newMsr_machineCheck _ _
  case saved =>
    rw [State.errorReport_int]
    exact congrArg (fun x => { s.int with
      mcsrr0 := s.pc
      mcsrr1 := s.msr
      mcsr := x ||| oneBit 15
      mcar := if bit s.int.mcsr 12 then s.int.mcar else real }) mcsr

end Sys2Proof.Machine
end

section
/-! SUPPORT. Where the bytes of a fetch come from, case by case (spec/20_memory.md R470 to R476). -/

namespace Sys2Proof.Machine

variable {s : State} {ea real : Word} {n w : Nat} {e : TlbEntry}

/-- A state that differs from another in the signals of the current step. -/
def State.withSignals (s : State) (o : List OutputEvent) : State := { s with cur.signals := o }

theorem State.reportTags_eq (s : State) (ea real : Word) :
    s.reportTags ea real = s.withSignals (s.reportTags ea real).cur.signals := by
  unfold State.reportTags
  split <;> rfl

/-! ## Memory -/

theorem State.fetchRead_fromMemory {t : State} (hb : t.busErrors = s.busErrors) (hm : t.mem = s.mem) {P : State → Prop}
    (hp : P t) : (t.fetchRead real n).FromMemory s real n P := by
  have bus (a : List Word) : t.busError .fetch a = s.busError .fetch a := by rw [State.busError, hb, State.busError]
  have memory : t.byteAt = s.byteAt := funext fun a => by rw [State.byteAt, hm, State.byteAt]
  unfold State.fetchRead Fetch.FromMemory State.codeError State.codeAt
  simp only [bus, memory]
  refine ⟨fun h => ⟨t, ?_, hp⟩, fun h => ⟨t, ?_, hp⟩⟩
  · rw [if_neg (by rw [h]; decide), List.map_map]
    rfl
  · rw [if_pos h]
    rfl

theorem State.fetchMemory_fromMemory {t : State} (hb : t.busErrors = s.busErrors) (hm : t.mem = s.mem) {P : State → Prop}
    (hp : ∀ o, P (t.withSignals o)) : (t.fetchMemory real n e).FromMemory s real n P :=
  State.fetchRead_fromMemory (t := t.fetchRequest real n e none) hb hm (hp _)

theorem Fetch.FromMemory.bytes {x : Fetch} {P : State → Prop} (h : x.FromMemory s real n P)
    (he : s.codeError real n = false) : ∃ t, x = .bytes (s.codeAt real n) t ∧ P t := h.1 he

/-! ## Lines -/

theorem wordIndex_eq (ea : Word) : (bits 27 2 ea).toNat = ea.toNat / 8 % 4 := by
  simp [bits, BitVec.extractLsb'_toNat, Nat.shiftRight_eq_div_pow]

theorem lineData_eq (l : CacheLine) (ea : Word) (n : Nat) : lineData l ea n = l.bytesAt ea n := by
  rw [lineData, CacheLine.bytesAt, wordIndex_eq]

theorem State.dataError_iff (s : State) (l : CacheLine) (ea : Word) :
    (s.ic.checking && s.ic.dataError l ea) = true ↔ s.DataError l ea := by
  simp [State.DataError, ICache.dataError, wordIndex_eq]

theorem State.lineRefused_refuseLine (h : s.ic.edt < 2) (hw : w < s.ic.ways) (o : List OutputEvent) :
    s.LineRefused ((s.withSignals o).refuseLine ea real w) (s.ic.setOf ea) w real := by
  rw [State.refuseLine_eq]
  refine ⟨.of_setLine h (s.ic.setOf_lt ea) hw rfl rfl rfl, ?_⟩
  have mcsr := (s.withSignals o).asyncCheck_mcsr (e := oneBit 27) real false (by decide)
  rw [State.asyncCheck_eq] at mcsr ⊢
  exact congrArg (fun x => { s with
    ic := { s.ic with lines := ((s.withSignals o).dropLine ea w).ic.lines }
    cur := { s.cur with signals := o }
    int := { s.int with mcsr := x, mcar := if bit s.int.mcsr 12 then s.int.mcar else real } }) mcsr

theorem State.onlyDropped_dropLine (h : s.ic.edt < 2) (hw : w < s.ic.ways) (o : List OutputEvent) :
    s.OnlyDropped ((s.withSignals o).dropLine ea w) (s.ic.setOf ea) w :=
  ⟨.of_setLine h (s.ic.setOf_lt ea) hw rfl rfl rfl, rfl⟩

theorem State.lineFilled_fillLine (h : s.ic.edt < 2) (hw : w < s.ic.ways) (o : List OutputEvent) (lock : Bool) :
    s.LineFilled ((s.withSignals o).fillLine ea real w lock) (s.ic.setOf ea) w real lock := by
  have filled := State.fillLine_eq (s := s.withSignals o) (ea := ea) (real := real) (w := w) (lock := lock) h
  rw [filled]
  exact .of_setLine h (s.ic.setOf_lt ea) hw rfl fun _ _ => rfl

theorem State.onlyLines_fillLine (h : s.ic.edt < 2) (o : List OutputEvent) (lock : Bool) :
    s.OnlyLines ((s.withSignals o).fillLine ea real w lock) := by
  have filled := State.fillLine_eq (s := s.withSignals o) (ea := ea) (real := real) (w := w) (lock := lock) h
  rw [filled]
  rfl

/-- A fill steps the replacement counter past the way it took. -/
theorem State.filled_stepReplace {t : State} {set : Nat} {lock : Bool} (h : s.LineFilled t set w real lock)
    (hg : t.ic.ways = s.ic.ways) : s.Filled (t.stepReplace w) set w real lock where
  toLineFilled := ⟨h.tag, h.valid, h.locked, h.data, h.tagCheck, h.dataCheck, h.others⟩
  next := by
    have step : (t.stepReplace w).ic.replace = BitVec.ofNat 2 ((w + 1) % t.ic.ways) := rfl
    have := Nat.mod_lt (w + 1) s.ic.ways_pos
    have := s.ic.ways_le
    rw [step, hg, BitVec.toNat_ofNat, Nat.mod_eq_of_lt (by omega)]

/-- A fill with the step of the replacement counter. -/
theorem State.filled_fill (h : s.ic.edt < 2) (hw : w < s.ic.ways) (o : List OutputEvent) (lock : Bool) :
    let t := ((s.withSignals o).fillLine ea real w lock).stepReplace w
    s.Filled t (s.ic.setOf ea) w real lock ∧
      t = { s with ic.lines := t.ic.lines, ic.replace := t.ic.replace, cur.signals := t.cur.signals } := by
  have only := State.onlyLines_fillLine (ea := ea) (real := real) (w := w) h o lock
  exact ⟨State.filled_stepReplace (State.lineFilled_fillLine h hw o lock) (congrArg (fun t => t.ic.ways) only),
    congrArg (State.stepReplace · w) only⟩

/-! ## A set without tag errors -/

section
variable (s) (ea real) (n) (e)

theorem State.fetchesClean (hedt : s.ic.edt < 2) (hline : real.toNat % 32 + n ≤ 32) :
    s.FetchesClean ea real n e.i (s.fetchClean ea real n e) := by
  have clean {l : CacheLine} (h : ¬s.DataError l ea) : (s.ic.checking && s.ic.dataError l ea) = false := by
    rwa [← Bool.not_eq_true, State.dataError_iff]
  constructor
  case hit =>
    intro w hw hd
    simp only [State.fetchClean, hw, clean hd, Bool.not_false, if_true, lineData_eq]
  case dataInhibited =>
    intro w hw hd hi
    simp only [State.fetchClean, hw, (s.dataError_iff _ _).2 hd, hi, Bool.not_true, Bool.false_eq_true, if_false, if_true]
    exact State.fetchMemory_fromMemory (t := s.signal _) (P := s.OnlySignals) rfl rfl fun _ => rfl
  case dataChecked =>
    intro w hw hd hi ha
    simp only [State.fetchClean, hw, (s.dataError_iff _ _).2 hd, hi, ha, Bool.not_true, Bool.false_eq_true, if_false, if_true]
    exact ⟨_, rfl, rfl⟩
  case dataRefilled =>
    intro w hw hd hi ha hl
    simp only [State.fetchClean, hw, (s.dataError_iff _ _).2 hd, hi, ha, hl, Bool.not_true, Bool.false_eq_true, if_false,
      if_true, one_ne_zero]
    have only (o : List OutputEvent) := State.onlyLines_fillLine (ea := ea) (real := real) (w := w) hedt o
      (s.ic.line (s.ic.setOf ea) w).l
    exact (State.fetchRead_fromMemory (congrArg State.busErrors (only _)) (congrArg State.mem (only _))
      ⟨only _, State.lineFilled_fillLine hedt (ICache.hitWay_some hw).1 _ _⟩).bytes
      (State.codeError_of_lineError hl hline)
  case dataLost =>
    intro w hw hd hi ha hl
    have hway := (ICache.hitWay_some hw).1
    simp only [State.fetchClean, hw, (s.dataError_iff _ _).2 hd, hi, ha, hl, Bool.not_true, Bool.false_eq_true, if_false,
      if_true, one_ne_zero]
    refine ⟨fun hlock => ?_, fun hlock => ?_⟩
    · rw [if_pos hlock]
      exact ⟨_, rfl, State.onlyDropped_dropLine hedt hway _⟩
    · rw [if_neg (by rw [hlock]; decide)]
      have refused := State.lineRefused_refuseLine (ea := ea) (real := real) hedt hway
      exact State.fetchRead_fromMemory (congrArg State.busErrors (refused _).2) (congrArg State.mem (refused _).2) (refused _)
  case dataReserved =>
    intro w hw hd hi ha
    simp only [State.fetchClean, hw, (s.dataError_iff _ _).2 hd, hi, Bool.not_true, Bool.false_eq_true, if_false]
    rw [if_neg (by omega), if_neg (by omega)]
  case missInhibited =>
    intro hw hi
    simp only [State.fetchClean, hw, hi, if_true]
    exact State.fetchMemory_fromMemory (P := s.OnlySignals) rfl rfl fun _ => rfl
  case missNoWay =>
    intro hw hn
    simp only [State.fetchClean, hw, ICache.candidates_nil s.ic.ways_pos hn, ite_self]
    exact State.fetchMemory_fromMemory (P := s.OnlySignals) rfl rfl fun _ => rfl
  case missFilled =>
    intro w hw hi hn hl
    obtain ⟨rest, hc⟩ := ICache.candidates_of_nextWay hn
    simp only [State.fetchClean, State.fetchFill, hw, hi, hc, hl, Bool.false_eq_true, if_false]
    have hway := ICache.nextWay_lt hn
    obtain ⟨filled, frame⟩ := State.filled_fill (ea := ea) (real := real) hedt hway
      (s.fetchRequest real 32 e (some w)).cur.signals false
    have bus := congrArg State.busErrors frame
    have memory := congrArg State.mem frame
    have cache := congrArg State.ic frame
    exact (State.fetchRead_fromMemory bus memory ⟨filled, filled.hitWay hway hw cache, frame⟩).bytes
      (State.codeError_of_lineError hl hline)
  case missDropped =>
    intro w hw hi hn hl
    obtain ⟨rest, hc⟩ := ICache.candidates_of_nextWay hn
    simp only [State.fetchClean, State.fetchFill, hw, hi, hc, hl, Bool.false_eq_true, if_false, if_true]
    have refused := State.lineRefused_refuseLine (ea := ea) (real := real) hedt (ICache.nextWay_lt hn)
    exact State.fetchRead_fromMemory (congrArg State.busErrors (refused _).2) (congrArg State.mem (refused _).2) (refused _)

/-! ## A set with tag errors -/

omit n e real in
theorem State.tagError_iff : (s.ic.checking && s.ic.setHasError (s.ic.setOf ea)) = true ↔ s.TagError ea := by
  rw [State.TagError, Bool.and_eq_true, ICache.setHasError_iff]

omit n e real in
theorem State.lockedTagLost_iff : (s.ic.correctSet (s.ic.setOf ea) false).2 = true ↔ s.LockedTagLost ea :=
  (ICache.correctSet_spec (s.ic.setOf_lt ea) false).2.trans ⟨fun h => h.2, fun h => ⟨rfl, h⟩⟩

omit n e real in
/-- The correction cycle of ICEA = 01 over the set of an address. -/
theorem State.setCorrected_correctSet (o : List OutputEvent) :
    s.SetCorrected { s.withSignals o with ic := (s.ic.correctSet (s.ic.setOf ea) false).1 } ea := by
  have swept := (ICache.correctSet_spec (s.ic.setOf_lt ea) false).1
  refine ⟨fun k hk => swept.line_set (s.ic.setOf_lt ea) hk, fun j k hj hk hne => swept.line_other hj hk hne, ?_⟩
  exact congrArg (fun c => { s.withSignals o with ic := c }) swept.only

/-- What a fetch of bytes that stay in a double word makes of the cache. -/
theorem State.fetchesBytes (hpage : ea.toNat % 1024 = real.toNat % 1024) (hword : ea.toNat % 8 + n ≤ 8) :
    s.FetchesBytes ea real n e := by
  have hline : real.toNat % 32 + n ≤ 32 := by omega
  have checked (h : s.ic.edt < 2) : (s.ic.checking && decide (s.ic.edt ≥ 2)) = false := by simp [h]
  constructor
  case off =>
    intro he
    simp only [State.fetchBytes, he, Bool.not_false, if_true]
    exact State.fetchMemory_fromMemory (P := s.OnlySignals) rfl rfl fun _ => rfl
  case reservedCode =>
    intro he hc hedt
    simp [State.fetchBytes, he, hc, hedt]
  case clean =>
    intro he hedt hno
    rw [← State.tagError_iff, Bool.not_eq_true] at hno
    simp only [State.fetchBytes, he, checked hedt, hno, Bool.not_true, Bool.false_eq_true, if_false]
    exact s.fetchesClean ea real n e hedt hline
  case reservedAction =>
    intro he hedt herr ha
    simp only [State.fetchBytes, he, checked hedt, (s.tagError_iff ea).2 herr, Bool.not_true, Bool.false_eq_true, if_false,
      if_true, if_pos ha]
  case tagInhibited =>
    intro he hedt herr ha hi
    simp only [State.fetchBytes, he, checked hedt, (s.tagError_iff ea).2 herr, Bool.not_true, Bool.false_eq_true, if_false,
      if_true, if_neg (Nat.not_le.2 ha), hi]
    have free : (decide (s.ic.action = 1) &&
        !(List.range s.ic.ways).any fun w => (s.ic.line (s.ic.setOf ea) w).l) = true ↔
        s.ic.action = 1 ∧ ∀ k, k < s.ic.ways → (s.ic.line (s.ic.setOf ea) k).l = false := by
      simp
    rw [State.reportTags_eq]
    simp only [free]
    split
    · refine State.fetchMemory_fromMemory ?_ ?_ fun o => s.setCorrected_correctSet ea o
      · rfl
      · rfl
    · refine State.fetchMemory_fromMemory ?_ ?_ fun _ => rfl
      · rfl
      · rfl
  case tagChecked =>
    intro he hedt herr ha hi
    simp only [State.fetchBytes, he, checked hedt, (s.tagError_iff ea).2 herr, Bool.not_true, Bool.false_eq_true, if_false,
      if_true, ha, hi]
    exact ⟨_, rfl, s.reportTags_eq ea real⟩
  case tagLost =>
    intro he hedt herr ha hi hlost
    simp only [State.fetchBytes, he, checked hedt, (s.tagError_iff ea).2 herr, Bool.not_true, Bool.false_eq_true, if_false,
      if_true, ha, hi, (s.lockedTagLost_iff ea).2 hlost, one_ne_zero]
    rw [State.reportTags_eq]
    exact ⟨_, rfl, s.setCorrected_correctSet ea _⟩
  case tagCorrected =>
    intro he hedt herr ha hi hkept
    rw [← State.lockedTagLost_iff, Bool.not_eq_true] at hkept
    simp only [State.fetchBytes, he, checked hedt, (s.tagError_iff ea).2 herr, Bool.not_true, Bool.false_eq_true, if_false,
      if_true, ha, hi, hkept, one_ne_zero]
    rw [State.reportTags_eq]
    have edt := (ICache.correctSet_spec (s.ic.setOf_lt ea) false).1.edt_eq
    have clean := State.fetchesClean { s.withSignals (s.reportTags ea real).cur.signals with
      ic := (s.ic.correctSet (s.ic.setOf ea) false).1 } ea real n e (edt ▸ hedt) hline
    rw [hi] at clean
    exact ⟨_, s.setCorrected_correctSet ea _, clean⟩

end

end Sys2Proof.Machine
end

section
/-! SUPPORT. How the parts of an instruction are fetched, and the interrupts of a fetch (spec/20_memory.md R411,
spec/60_exceptions.md R2023, R2034, R2050, R2055). -/

namespace Sys2Proof.Machine

variable {s : State} {m m2 : Mapping}

/-! ## Interrupts of a fetch -/

/-- MCSR of the machine check of a handler's first fetch. -/
theorem State.handlerLost_handlerFault (s : State) (c : Current) (k : Nat) (a : Word) (effective : Bool) :
    s.HandlerLost ((s.aside c k).handlerFault 0 a effective) a effective := by
  have mcsr := (s.aside c k).asyncCheck_mcsr (e := oneBit 4 ||| 0) a effective (by decide)
  unfold State.handlerFault
  rw [State.asyncCheck_eq] at mcsr ⊢
  constructor
  case program => exact ⟨rfl, rfl, rfl, rfl, rfl, rfl, rfl, rfl, rfl⟩
  case vector => exact codeAddress_vectorOf s 1
  case saved =>
    rw [State.errorReport_int]
    refine congrArg (fun x => { s.int with
      mcsrr0 := s.pc
      mcsrr1 := s.msr
      mcsr := x
      mcar := if bit s.int.mcsr 12 then s.int.mcar else a }) ((congrArg (· ||| oneBit 15) mcsr).trans ?_)
    exact BitVec.or_assoc _ _ _

/-- The machine check that a bus error or a check-bit error of a fetch takes. -/
theorem State.fetchFailed_fetchError (s : State) {async : Word} (a : Word) (he : bit async 13 = false) :
    s.FetchFailed (s.fetchError async a) async a := by
  unfold State.fetchError State.FetchFailed State.handlerFault
  have cache (e : Word) : ((s.asyncCheck e a false).errorReport (oneBit 15)).ic = s.ic := by
    rw [State.asyncCheck_eq]
    rfl
  simp only [Bool.and_eq_true]
  split
  · have order : oneBit 4 ||| async = async ||| 0x08000000 := BitVec.or_comm _ _
    rw [order]
    exact ⟨s.cacheChecked_withCache s.ic s.cur s.freeCtr a (by simp [he]; decide), cache _⟩
  · rw [show async ||| (0 : Word) = async from BitVec.or_zero]
    exact ⟨s.cacheChecked_withCache s.ic s.cur s.freeCtr a he, cache _⟩

/-- The instruction TLB error, whatever the step has remembered before it (R2034, spec/20_memory.md R440). -/
theorem State.instrTlbError_spec (hf : s.firstFetch = false) (c : Current) (k : Nat) (ea : Word) (second : Bool) :
    s.Interrupted ((s.aside c k).instrTlbError ea second) 14 s.pc (if second then 0x2 else 0) s.int.dear ∧
      s.MissLoaded ((s.aside c k).instrTlbError ea second) (bit s.msr 26) ea := by
  have first : (s.aside c k).firstFetch = false := hf
  unfold State.instrTlbError
  rw [first, if_neg Bool.false_ne_true, State.loadMissMas_eq]
  exact ⟨State.interrupted_raise _ _ _ _ rfl, .of_aside (c := c) (k := k) (State.missLoaded_of_mmu (State.raise_mmu _ 14))⟩

/-- The instruction storage interrupt (R2023). -/
theorem State.instrStorage_spec (hf : s.firstFetch = false) (c : Current) (k : Nat) (cause real : Word) :
    s.Interrupted ((s.aside c k).instrStorage cause real) 3 s.pc (cause ||| if c.vle then 0x20 else 0) s.int.dear := by
  have first : (s.aside c k).firstFetch = false := hf
  unfold State.instrStorage
  rw [first, if_neg Bool.false_ne_true]
  change s.Interrupted ({ s with
    int := { s.int with esr := cause ||| (s.aside c k).vlemi, dear := s.int.dear }, mmu := s.mmu, cur := c, freeCtr := k }.raise 3)
    3 s.pc (cause ||| (s.aside c k).vlemi) s.int.dear
  exact State.interrupted_raise _ _ _ _ rfl

theorem State.instrTlbError_first (hf : s.firstFetch = true) (c : Current) (k : Nat) (ea : Word) (second : Bool) :
    s.HandlerLost ((s.aside c k).instrTlbError ea second) ea true := by
  have first : (s.aside c k).firstFetch = true := hf
  unfold State.instrTlbError
  rw [if_pos first]
  exact s.handlerLost_handlerFault c k ea true

theorem State.instrStorage_first (hf : s.firstFetch = true) (c : Current) (k : Nat) (cause real : Word) :
    s.HandlerLost ((s.aside c k).instrStorage cause real) real false := by
  have first : (s.aside c k).firstFetch = true := hf
  unfold State.instrStorage
  rw [if_pos first]
  exact s.handlerLost_handlerFault c k real false

/-! ## What a fetch of bytes leaves alone -/

/-- What the fetch of the second half of an instruction asks of the state that the first one leaves. -/
def State.fetchContext (s : State) : Word × Word × Bool × Word × Bool :=
  (s.pc, s.msr, s.firstFetch, s.int.dear, s.cur.vle)

/-- A fetch of n bytes that begins in s delivers n bytes and leaves the context as it was, or ends in a machine check whose
bits do not set MCSR[MEA]. -/
def Fetch.Within (s : State) (n : Nat) : Fetch → Prop
  | .bytes bs t => bs.length = n ∧ t.fetchContext = s.fetchContext
  | .check async _ _ => bit async 13 = false
  | .stop _ => True

section
variable {t : State} (h : t.fetchContext = s.fetchContext) (ea real : Word) (n : Nat) (e : TlbEntry)
include h

theorem State.within_fetchRead : (t.fetchRead real n).Within s n := by
  unfold State.fetchRead
  simp only []
  split
  · exact (by decide : bit (oneBit 27) 13 = false)
  · exact ⟨by simp, h⟩

theorem State.within_fetchMemory : (t.fetchMemory real n e).Within s n :=
  State.within_fetchRead (t := t.fetchRequest real n e none) h real n

theorem State.fetchContext_fillLine (w : Nat) (lock : Bool) : (t.fillLine ea real w lock).fetchContext = s.fetchContext := by
  unfold State.fillLine
  simp only []
  split <;> exact h

theorem State.fetchContext_refuseLine (w : Nat) : (t.refuseLine ea real w).fetchContext = s.fetchContext := by
  rw [State.refuseLine_eq, State.asyncCheck_eq]
  exact h

theorem State.within_fetchFill (w : Nat) : (t.fetchFill ea real n e w).Within s n := by
  unfold State.fetchFill
  simp only []
  split
  · exact State.within_fetchRead (State.fetchContext_refuseLine (t := t.fetchRequest real 32 e (some w)) h ea real w) real n
  · refine State.within_fetchRead ?_ real n
    exact State.fetchContext_fillLine (t := t.fetchRequest real 32 e (some w)) h ea real w false

theorem State.within_fetchClean : (t.fetchClean ea real n e).Within s n := by
  let refill (w : Nat) : State := (t.signal (.cacheError false real (1#4 <<< w))).fetchRequest real 32 e (some w)
  unfold State.fetchClean
  simp only []
  split
  case h_1 w _ =>
    split
    · exact ⟨by simp [lineData], h⟩
    · split
      · exact State.within_fetchMemory (t := t.signal _) h real n e
      · split
        · exact (by decide : bit (oneBit 1) 13 = false)
        · split
          · split
            · split
              · exact (by decide : bit (oneBit 27 ||| oneBit 7) 13 = false)
              · exact State.within_fetchRead
                  (State.fetchContext_refuseLine (t := refill w) h ea real w) real n
            · exact State.within_fetchRead (State.fetchContext_fillLine (t := refill w) h ea real w _) real n
          · trivial
  case h_2 =>
    split
    · exact State.within_fetchMemory h real n e
    · split
      · exact State.within_fetchMemory h real n e
      · exact State.within_fetchFill h ea real n e _

end

theorem State.within_fetchBytes (s : State) (ea real : Word) (n : Nat) (e : TlbEntry) :
    (s.fetchBytes ea real n e).Within s n := by
  unfold State.fetchBytes
  simp only []
  rw [State.reportTags_eq]
  split
  · exact State.within_fetchMemory rfl real n e
  · split
    · trivial
    · split
      · split
        · trivial
        · split
          · split
            · exact State.within_fetchMemory rfl real n e
            · exact State.within_fetchMemory rfl real n e
          · split
            · exact (by decide : bit (oneBit 5) 13 = false)
            · split
              · exact (by decide : bit (oneBit 5 ||| oneBit 7) 13 = false)
              · exact State.within_fetchClean rfl ea real n e
      · exact State.within_fetchClean rfl ea real n e

/-! ## The steps of a fetch -/

theorem State.fetch_missed (h : s.lookup (bit s.msr 26) s.pc = none) :
    s.fetch = .raised (s.instrTlbError s.pc false) := by
  simp only [State.fetch, h]

section
variable (h : s.lookup (bit s.msr 26) s.pc = some m) (hm : m.multi = false)
include h hm

theorem State.fetch_denied (hx : m.mayExecute s.userMode = false) :
    s.fetch = .raised ({ s with cur.vle := m.entry.vle }.instrStorage 0 (m.real s.pc)) := by
  simp only [State.fetch, h, State.usedMapping_single s hm, hx, Bool.not_false, if_true]

theorem State.fetch_misaligned (hx : m.mayExecute s.userMode = true) (hv : m.entry.vle = false) (h30 : bit s.pc 30 = true) :
    s.fetch = .raised ({ s with cur.vle := false }.instrStorage (oneBit 30) (m.real s.pc)) := by
  simp only [State.fetch, h, State.usedMapping_single s hm, hx, hv, h30, hm, Bool.not_false, Bool.not_true,
    Bool.false_eq_true, if_false, if_true, Bool.and_self]

theorem State.fetch_bookE (hx : m.mayExecute s.userMode = true) (hv : m.entry.vle = false) (h30 : bit s.pc 30 = false) :
    s.fetch = ({ s with cur.vle := false }.fetchBytes s.pc (m.real s.pc) 4 m.entry).andThen fun bs u =>
      .bytes (inOrder m.entry.e bs) .bookE u := by
  simp only [State.fetch, h, State.usedMapping_single s hm, hx, hv, h30, hm, Bool.not_false, Bool.not_true,
    Bool.false_eq_true, if_false, if_true, Bool.false_and]

theorem State.fetch_littleEndian (hx : m.mayExecute s.userMode = true) (hv : m.entry.vle = true) (he : m.entry.e = true) :
    s.fetch = .raised ({ s with cur.vle := true }.instrStorage (oneBit 14) (m.real s.pc)) := by
  simp only [State.fetch, h, State.usedMapping_single s hm, hx, hv, he, hm, Bool.not_false, Bool.not_true,
    Bool.false_eq_true, if_false, if_true, Bool.and_self]

theorem State.fetch_vle (hx : m.mayExecute s.userMode = true) (hv : m.entry.vle = true) (he : m.entry.e = false) :
    s.fetch = ({ s with cur.vle := true }.fetchBytes s.pc (m.real s.pc) 2 m.entry).andThen fun bs u =>
      if isLongVle ((ofBytes bs).setWidth 16) then u.fetchSecond m bs else .bytes bs .vle u := by
  simp only [State.fetch, h, State.usedMapping_single s hm, hx, hv, he, Bool.not_true,
    Bool.false_eq_true, if_false, Bool.false_and]

end

section
variable {bs : List Byte}

theorem State.fetchSecond_same (hp : m.samePage s.pc (s.pc + 2) = true) :
    s.fetchSecond m bs = (s.fetchBytes (s.pc + 2) (m.real (s.pc + 2)) 2 m.entry).andThen fun more t =>
      .bytes (bs ++ more) .vle t := by
  simp only [State.fetchSecond, hp, if_true]

variable (hp : m.samePage s.pc (s.pc + 2) = false)
include hp

theorem State.fetchSecond_missed (h : s.lookup (bit s.msr 26) (s.pc + 2) = none) :
    s.fetchSecond m bs = .raised (s.instrTlbError (s.pc + 2) true) := by
  simp only [State.fetchSecond, hp, h, Bool.false_eq_true, if_false]

variable (h : s.lookup (bit s.msr 26) (s.pc + 2) = some m2) (hm2 : m2.multi = false)
include h hm2

theorem State.fetchSecond_denied (hx : m2.mayExecute s.userMode = false) :
    s.fetchSecond m bs = .raised (s.instrStorage 0 (m2.real (s.pc + 2))) := by
  simp only [State.fetchSecond, hp, h, State.usedMapping_single s hm2, hx, Bool.not_false, Bool.false_eq_true, if_false,
    if_true]

theorem State.fetchSecond_otherOrder (hm : m.multi = false) (hx : m2.mayExecute s.userMode = true)
    (ho : m2.entry.vle = false ∨ m2.entry.e = true) :
    s.fetchSecond m bs = .raised (s.instrStorage (oneBit 14) (m2.real (s.pc + 2))) := by
  have order : (!m2.entry.vle || m2.entry.e) = true := by simpa using ho
  simp only [State.fetchSecond, hp, h, State.usedMapping_single s hm2, hx, hm, hm2, order, Bool.not_false, Bool.not_true,
    Bool.false_eq_true, if_false, if_true, Bool.and_self]

theorem State.fetchSecond_next (hx : m2.mayExecute s.userMode = true) (hv : m2.entry.vle = true)
    (he : m2.entry.e = false) :
    s.fetchSecond m bs = (s.fetchBytes (s.pc + 2) (m2.real (s.pc + 2)) 2 m2.entry).andThen fun more t =>
      .bytes (bs ++ more) .vle t := by
  simp only [State.fetchSecond, hp, h, State.usedMapping_single s hm2, hx, hv, he, Bool.not_true, Bool.or_self,
    Bool.false_eq_true, if_false, Bool.and_false]

end

/-- The half word that two bytes stand for. -/
theorem half_ofBytes (a b : Byte) : (ofBytes [a, b]).setWidth 16 = a ++ b := by
  refine BitVec.eq_of_getLsbD_eq fun i hi => ?_
  have joined : BitVec.getLsbD (w := 8 + 8) (a ++ b) i = if i < 8 then b.getLsbD i else a.getLsbD (i - 8) :=
    (BitVec.getLsbD_append ..).trans (by split <;> rfl)
  refine Eq.trans ?_ joined.symm
  by_cases h8 : i < 8
  · simp [ofBytes, h8, hi]
  · simp [ofBytes, h8, hi, BitVec.getLsbD_of_ge b i (by omega)]

end Sys2Proof.Machine
end

section
/-! SUPPORT. The fetch of an instruction as the claims put it together (State.FetchesThrough). -/

namespace Sys2Proof.Machine

variable {s : State} {m m2 : Mapping}

/-- A fetch that begins with the bytes of x goes on as its continuation does. -/
theorem State.goesOn_andThen {x : Fetch} {n : Nat} {f : List Byte → State → Fetched} {P : List Byte → State → Prop}
    {b : State} (hf : s.fetch = x.andThen f) (hx : x.Within b n)
    (hP : ∀ bs u, bs.length = n → u.fetchContext = b.fetchContext → s.fetch = f bs u → P bs u) : s.GoesOn x P := by
  cases x with
  | bytes bs u => exact hP bs u hx.1 hx.2 hf
  | check async a u => exact ⟨_, hf, u.fetchFailed_fetchError a hx⟩
  | stop e => exact hf

/-- The second half of a long instruction, as the claims put it, for a state that the first half has left. -/
theorem State.fetchesThrough (h : s.lookup (bit s.msr 26) s.pc = some m) (hm : m.multi = false)
    (hx : m.mayExecute s.userMode = true) : s.FetchesThrough m where
  bookE hv h30 := State.goesOn_andThen (State.fetch_bookE h hm hx hv h30) (State.within_fetchBytes _ _ _ _ _)
    fun _ _ _ _ hf => hf
  vle hv he := by
    refine State.goesOn_andThen (State.fetch_vle h hm hx hv he) (State.within_fetchBytes _ _ _ _ _) fun bs u length ctx hf => ?_
    simp only [State.fetchContext, Prod.mk.injEq] at ctx
    obtain ⟨pc, msr, first, dear, vle⟩ := ctx
    have half : (ofBytes bs).setWidth 16 = bs.getD 0 0 ++ bs.getD 1 0 := by
      obtain ⟨a, b, rfl⟩ := List.length_eq_two.1 length
      exact half_ofBytes a b
    have user : u.userMode = s.userMode := by rw [State.userMode, msr, State.userMode]
    rw [half] at hf
    intro long a
    refine ⟨fun hl => ?_, fun hl hp => ?_, fun hl hp => ⟨fun h2 => ?_, fun m2 h2 hm2 => ⟨fun hx2 => ?_, fun hx2 ho => ?_,
      fun hx2 hv2 he2 => ?_⟩⟩⟩
    all_goals simp only [long] at hl
    · rw [hl, if_neg Bool.false_ne_true] at hf
      exact hf
    all_goals
      rw [hl, if_pos rfl] at hf
      simp only [a, ← pc] at hp ⊢
    · rw [State.fetchSecond_same hp] at hf
      exact State.goesOn_andThen hf (State.within_fetchBytes _ _ _ _ _) fun _ _ _ _ hf => hf
    all_goals simp only [a, ← pc, ← msr, ← first, ← dear] at h2 ⊢
    · rw [State.fetchSecond_missed hp h2] at hf
      exact ⟨_, hf, fun hfirst => u.instrTlbError_spec hfirst u.cur u.freeCtr _ true,
        fun hfirst => u.instrTlbError_first hfirst u.cur u.freeCtr _ true⟩
    all_goals
      have storage (hfirst : u.firstFetch = false) (cause real : Word) :=
        u.instrStorage_spec hfirst u.cur u.freeCtr cause real
      rw [vle] at storage
      rw [← user] at hx2
    · rw [State.fetchSecond_denied hp h2 hm2 hx2] at hf
      exact ⟨_, hf, fun hfirst => storage hfirst 0 _, fun hfirst => u.instrStorage_first hfirst u.cur u.freeCtr 0 _⟩
    · rw [State.fetchSecond_otherOrder hp h2 hm2 hm hx2 ho] at hf
      exact ⟨_, hf, fun hfirst => storage hfirst (oneBit 14) _,
        fun hfirst => u.instrStorage_first hfirst u.cur u.freeCtr (oneBit 14) _⟩
    · rw [State.fetchSecond_next hp h2 hm2 hx2 hv2 he2] at hf
      exact State.goesOn_andThen hf (State.within_fetchBytes _ _ _ _ _) fun _ _ _ _ hf => hf

/-! ## With the cache off -/

/-- The bytes of memory, read with the cache off and no bus error. -/
theorem State.fetchBytes_off (ic : s.ic.enabled = false) {ea real : Word} {n : Nat} {e : TlbEntry}
    (hb : s.busError .fetch ((List.range n).map fun k => real + BitVec.ofNat 32 k) = false) :
    s.fetchBytes ea real n e = .bytes (((List.range n).map fun k => real + BitVec.ofNat 32 k).map s.byteAt)
      (s.fetchRequest real n e none) := by
  have hb' : (s.fetchRequest real n e none).busError .fetch ((List.range n).map fun k => real + BitVec.ofNat 32 k) = false := hb
  simp only [State.fetchBytes, ic, State.fetchMemory, State.fetchRead, hb', Bool.not_false, if_true, Bool.false_eq_true, if_false]
  rfl

/-- The state in which the first half word of a VLE instruction has been read with the cache off. -/
def State.halfFetched (s : State) (m : Mapping) : State :=
  { s with cur.vle := true }.fetchRequest (m.real s.pc) 2 m.entry none

section
variable (h : s.lookup (bit s.msr 26) s.pc = some m) (hm : m.multi = false)
include h hm

/-- The first fetch of a handler whose page forbids it. -/
theorem State.fetch_handlerLost (hfirst : s.firstFetch = true) (hc : m.mayExecute s.userMode = false ∨
    (m.entry.vle = false ∧ bit s.pc 30 = true) ∨ (m.entry.vle = true ∧ m.entry.e = true)) :
    ∃ t, s.fetch = .raised t ∧ s.HandlerLost t (m.real s.pc) false := by
  have lost (v : Bool) (cause : Word) := s.instrStorage_first hfirst { s.cur with vle := v } s.freeCtr cause (m.real s.pc)
  cases hx : m.mayExecute s.userMode with
  | false => exact ⟨_, State.fetch_denied h hm hx, lost m.entry.vle 0⟩
  | true =>
    obtain hd | ⟨hv, h30⟩ | ⟨hv, he⟩ := hc
    · cases hx.symm.trans hd
    · exact ⟨_, State.fetch_misaligned h hm hx hv h30, lost false (oneBit 30)⟩
    · exact ⟨_, State.fetch_littleEndian h hm hx hv he, lost true (oneBit 14)⟩

/-- With the cache off the first half word of a VLE instruction is read from memory. -/
theorem State.fetch_vle_off (ic : s.ic.enabled = false) (hx : m.mayExecute s.userMode = true) (hv : m.entry.vle = true)
    (he : m.entry.e = false)
    (hb : s.busError .fetch ((List.range 2).map fun k => m.real s.pc + BitVec.ofNat 32 k) = false) :
    s.fetch = if isLongVle (s.byteAt (m.real s.pc) ++ s.byteAt (m.real s.pc + 1))
      then (s.halfFetched m).fetchSecond m (((List.range 2).map fun k => m.real s.pc + BitVec.ofNat 32 k).map s.byteAt)
      else .bytes (((List.range 2).map fun k => m.real s.pc + BitVec.ofNat 32 k).map s.byteAt) .vle (s.halfFetched m) := by
  have first : m.real s.pc + BitVec.ofNat 32 0 = m.real s.pc := BitVec.add_zero _
  have half := half_ofBytes (s.byteAt (m.real s.pc)) (s.byteAt (m.real s.pc + 1))
  rw [State.fetch_vle h hm hx hv he, State.fetchBytes_off (s := { s with cur.vle := true }) ic hb, ← half]
  simp only [Fetch.andThen, List.range, List.range.loop, List.map_cons, List.map_nil, first]
  rfl

end

end Sys2Proof.Machine

namespace Sys2Proof.Proofs
open Sys2Proof.Machine

/-- Settles O6: the branches of the fetch with the cache off, the parts of an instruction, and the branches of the lookup. -/
theorem fetchReadsMemory : Obligations.FetchReadsMemory := by
  unfold Obligations.FetchReadsMemory
  refine ⟨fun s ic => ?_, fun s m h hm => ⟨State.fetchesThrough h hm, fun hfirst hc => ?_⟩,
    fun s ea real n e hpage hword _ => s.fetchesBytes ea real n e hpage hword⟩
  · intro at' reads takes misses
    have missed (v : Bool) (o : List OutputEvent) (hf : s.firstFetch = false) (a : Word) (second : Bool) :=
      s.instrTlbError_spec hf { s.cur with vle := v, signals := o } s.freeCtr a second
    have storage (v : Bool) (o : List OutputEvent) (hf : s.firstFetch = false) (cause a : Word) {esr : Word}
        (hesr : (cause ||| if v then 0x20 else 0) = esr) :=
      hesr ▸ s.instrStorage_spec hf { s.cur with vle := v, signals := o } s.freeCtr cause a
    refine ⟨fun h hf => ⟨_, State.fetch_missed h, missed s.cur.vle _ hf _ false⟩, fun m h hm => ⟨fun hx hf => ?_, fun hx =>
      ⟨fun hv h30 hf => ?_, fun hv h30 hb => ?_, fun hv he hf => ?_, fun hv he hb => ?_⟩⟩⟩
    · exact ⟨_, State.fetch_denied h hm hx, storage m.entry.vle _ hf 0 _ BitVec.zero_or⟩
    · exact ⟨_, State.fetch_misaligned h hm hx hv h30, storage false _ hf (oneBit 30) _ rfl⟩
    · have hf := State.fetch_bookE h hm hx hv h30
      rw [State.fetchBytes_off (s := { s with cur.vle := false }) ic hb] at hf
      exact ⟨_, hf, rfl⟩
    · exact ⟨_, State.fetch_littleEndian h hm hx hv he, storage true _ hf (oneBit 14) _ rfl⟩
    · have hf := State.fetch_vle_off h hm ic hx hv he hb
      intro first long a
      refine ⟨fun hl => ?_, fun hl hp hb2 => ?_, fun hl hp => ⟨fun h2 hfirst => ?_, fun m2 h2 hm2 => ⟨fun hx2 hfirst => ?_,
        fun hx2 ho hfirst => ?_, fun hx2 hv2 he2 hb2 => ?_⟩⟩⟩
      all_goals simp only [long] at hl
      · rw [hl, if_neg Bool.false_ne_true] at hf
        exact ⟨_, hf, rfl⟩
      all_goals rw [hl, if_pos rfl] at hf
      · have read := State.fetchBytes_off (s := s.halfFetched m) (ea := a) (e := m.entry) ic hb2
        exact ⟨_, hf.trans ((State.fetchSecond_same (s := s.halfFetched m) hp).trans
          (congrArg (Fetch.andThen · _) read)), rfl⟩
      · exact ⟨_, hf.trans (State.fetchSecond_missed (s := s.halfFetched m) hp h2), missed true _ hfirst _ true⟩
      · exact ⟨_, hf.trans (State.fetchSecond_denied (s := s.halfFetched m) hp h2 hm2 hx2), storage true _ hfirst 0 _ rfl⟩
      · exact ⟨_, hf.trans (State.fetchSecond_otherOrder (s := s.halfFetched m) hp h2 hm2 hm hx2 ho),
          storage true _ hfirst (oneBit 14) _ rfl⟩
      · have read := State.fetchBytes_off (s := s.halfFetched m) (ea := a) (e := m2.entry) ic hb2
        exact ⟨_, hf.trans ((State.fetchSecond_next (s := s.halfFetched m) hp h2 hm2 hx2 hv2 he2).trans
          (congrArg (Fetch.andThen · _) read)), rfl⟩
  · exact State.fetch_handlerLost h hm hfirst hc

end Sys2Proof.Proofs
end

section
/-! SUPPORT. The cache instructions branch by branch: the conditions that icbtls and icblc share, the fills, and the passes over a
set (spec/20_memory.md R478, spec/43_system.md R900 to R904). -/

namespace Sys2Proof.Machine

variable {s : State} {ea : Word} {m : Mapping} {w : Nat}

/-! ## The conditions that icbtls and icblc share -/

/-- icbtls and icblc after their command, with the cache on and CT = 0: `act` is what they do on a set whose tags have been
dealt with, `minds` says whether a tag error without a clean match matters to them (R478 conditions 3 to 6). -/
def State.lockConditions (s : State) (ea : Word) (act : State → Mapping → Answer) (minds : ICache → Bool) : Answer :=
  match s.lookup (bit s.msr 27) ea with
  | none => .next (s.dataTlbError false false ea)
  | some m =>
    let t := (s.usedMapping m).reportTags ea (m.real ea)
    if s.lockDenied then .next s.lockStorage
    else if !m.mayTouch s.userMode then .next (s.dataStorage false false 0 ea)
    else if t.ic.checking && t.ic.edt ≥ 2 then .fault .reservedCacheMode
    else if t.ic.checking && t.ic.setHasError (t.ic.setOf ea) then
      if t.ic.action ≥ 2 then .fault .reservedCacheMode
      else if t.ic.action = 0 then
        if (t.ic.cleanWay ea (m.real ea)).isSome || !minds t.ic then act t m
        else .next (t.cacheCheck (oneBit 5) (m.real ea))
      else
        let r := t.ic.correctSet (t.ic.setOf ea) (t.ic.cleanWay ea (m.real ea)).isSome
        if r.2 then .next ({ t with ic := r.1 }.cacheCheck (oneBit 5 ||| oneBit 7) (m.real ea)) else act { t with ic := r.1 } m
    else act t m

/-- Some locked way of the set of an address has a tag error. -/
def ICache.lockedError (c : ICache) (ea : Word) : Bool :=
  (List.range c.ways).any fun w => tagError c.edt (c.line (c.setOf ea) w) && (c.line (c.setOf ea) w).l

theorem ICache.lockedError_iff {c : ICache} : c.lockedError ea = true ↔
    ∃ k, k < c.ways ∧ tagError c.edt (c.line (c.setOf ea) k) = true ∧ (c.line (c.setOf ea) k).l = true := by
  simp [ICache.lockedError]

theorem State.cacheLock_off (ct : BitVec 5) (h : ct ≠ 0 ∨ s.ic.enabled = false) :
    s.cacheLock ct ea = (s.command 14 ea).setIcul.done 4 := by
  have off : (ct != 0 || !(s.command 14 ea).ic.enabled) = true := by
    simpa [State.command] using h
  simp only [State.cacheLock, off, if_true]

theorem State.cacheLock_on (on : s.ic.enabled = true) : s.cacheLock 0 ea =
    (s.command 14 ea).lockConditions ea (fun t m => t.lockLine ea m) fun _ => true := by
  have enabled : (s.command 14 ea).ic.enabled = true := on
  simp only [State.cacheLock, State.lockConditions, enabled, bne_self_eq_false, Bool.not_true, Bool.or_self, Bool.or_false,
    Bool.false_eq_true, if_false] <;> rfl

theorem State.cacheUnlock_off (ct : BitVec 5) (h : ct ≠ 0 ∨ s.ic.enabled = false) :
    s.cacheUnlock ct ea = (s.command 13 ea).done 4 := by
  have off : (ct != 0 || !(s.command 13 ea).ic.enabled) = true := by
    simpa [State.command] using h
  simp only [State.cacheUnlock, off, if_true]

theorem State.cacheUnlock_on (on : s.ic.enabled = true) : s.cacheUnlock 0 ea =
    (s.command 13 ea).lockConditions ea (fun t m => t.unlockLine ea m) fun c => c.lockedError ea := by
  have enabled : (s.command 13 ea).ic.enabled = true := on
  simp only [State.cacheUnlock, State.lockConditions, enabled, bne_self_eq_false, Bool.not_true, Bool.or_self,
    Bool.false_eq_true, if_false] <;> rfl

theorem State.reportTags_ic (s : State) (ea real : Word) : (s.reportTags ea real).ic = s.ic := by
  rw [State.reportTags_eq]
  rfl

theorem State.usedMapping_ic (s : State) (m : Mapping) : (s.usedMapping m).ic = s.ic := by
  rw [State.usedMapping_eq]
  rfl

section
variable {act : State → Mapping → Answer} {minds : ICache → Bool}

theorem State.lockConditions_missed (h : s.lookup (bit s.msr 27) ea = none) :
    s.lockConditions ea act minds = .next (s.dataTlbError false false ea) := by
  simp only [State.lockConditions, h]

variable (h : s.lookup (bit s.msr 27) ea = some m)
include h

theorem State.lockConditions_denied (hd : s.lockDenied = true) : s.lockConditions ea act minds = .next s.lockStorage := by
  simp only [State.lockConditions, h, hd, if_true]

variable (hd : s.lockDenied = false)
include hd

theorem State.lockConditions_forbidden (hp : m.mayTouch s.userMode = false) :
    s.lockConditions ea act minds = .next (s.dataStorage false false 0 ea) := by
  simp only [State.lockConditions, h, hd, hp, Bool.not_false, Bool.false_eq_true, if_false, if_true]

variable (hp : m.mayTouch s.userMode = true)
include hp

theorem State.lockConditions_reserved (hc : s.ic.checking = true) (he : 2 ≤ s.ic.edt) :
    s.lockConditions ea act minds = .fault .reservedCacheMode := by
  simp only [State.lockConditions, h, hd, hp, State.reportTags_ic, State.usedMapping_ic, hc, he, ge_iff_le, decide_true,
    Bool.and_self, Bool.not_true, Bool.false_eq_true, if_false, if_true]

variable (hm : m.multi = false) (he : s.ic.edt < 2)
include hm he

theorem State.lockConditions_clean (ht : ¬s.TagError ea) : s.lockConditions ea act minds = act s m := by
  rw [← State.tagError_iff, Bool.not_eq_true] at ht
  have unreported : (s.usedMapping m).reportTags ea (m.real ea) = s := by
    simp only [State.usedMapping_single s hm, State.reportTags, ht, Bool.false_eq_true, if_false]
  have code : (s.ic.checking && decide (s.ic.edt ≥ 2)) = false := by simp [he]
  simp only [State.lockConditions, h, hd, hp, unreported, code, ht, Bool.not_true, Bool.false_eq_true, if_false]

variable (ht : s.TagError ea)
include ht

theorem State.lockConditions_reservedAction (ha : 2 ≤ s.ic.action) :
    s.lockConditions ea act minds = .fault .reservedCacheMode := by
  have code : (s.ic.checking && decide (s.ic.edt ≥ 2)) = false := by simp [he]
  simp only [State.lockConditions, h, hd, hp, State.reportTags_ic, State.usedMapping_single s hm, code,
    (s.tagError_iff ea).2 ht, ha, ge_iff_le, Bool.not_true,
    Bool.false_eq_true, if_false, if_true]

theorem State.lockConditions_unminded (ha : s.ic.action = 0)
    (hc : (s.ic.cleanWay ea (m.real ea)).isSome = true ∨ minds s.ic = false) :
    s.lockConditions ea act minds = act (s.reportTags ea (m.real ea)) m := by
  have code : (s.ic.checking && decide (s.ic.edt ≥ 2)) = false := by simp [he]
  have goes : ((s.ic.cleanWay ea (m.real ea)).isSome || !minds s.ic) = true := by simpa using hc
  simp only [State.lockConditions, h, hd, hp, State.reportTags_ic, code, (s.tagError_iff ea).2 ht, ha, goes,
    State.usedMapping_single s hm, Bool.not_true, Bool.false_eq_true, if_false, if_true]
  exact if_neg (by decide)

theorem State.lockConditions_checked (ha : s.ic.action = 0) (hc : s.ic.cleanWay ea (m.real ea) = none)
    (hw : minds s.ic = true) :
    s.lockConditions ea act minds = .next ((s.reportTags ea (m.real ea)).cacheCheck (oneBit 5) (m.real ea)) := by
  have code : (s.ic.checking && decide (s.ic.edt ≥ 2)) = false := by simp [he]
  simp only [State.lockConditions, h, hd, hp, State.reportTags_ic, code, (s.tagError_iff ea).2 ht, ha, hc, hw,
    State.usedMapping_single s hm, Bool.not_true, Option.isSome_none, Bool.or_self, Bool.false_eq_true, if_false, if_true]
  exact if_neg (by decide)

/-- With ICEA = 01 the set is corrected; the machine check is taken if a locked line was lost. -/
theorem State.lockConditions_corrected (ha : s.ic.action = 1) :
    s.lockConditions ea act minds =
      let r := s.ic.correctSet (s.ic.setOf ea) (s.ic.cleanWay ea (m.real ea)).isSome
      let t := { s.withSignals (s.reportTags ea (m.real ea)).cur.signals with ic := r.1 }
      if r.2 then .next (t.cacheCheck (oneBit 5 ||| oneBit 7) (m.real ea)) else act t m := by
  have code : (s.ic.checking && decide (s.ic.edt ≥ 2)) = false := by simp [he]
  simp only [State.lockConditions, h, hd, hp, State.reportTags_ic, code, (s.tagError_iff ea).2 ht, ha,
    State.usedMapping_single s hm, Bool.not_true, Bool.false_eq_true, if_false, if_true, one_ne_zero]
  rw [State.reportTags_eq]
  rfl

end

/-! ## icbtls and icblc on a set whose tags have been dealt with -/

theorem State.lockLine_hit (h : s.ic.cleanWay ea (m.real ea) = some w) :
    s.lockLine ea m = (s.setLock (s.ic.setOf ea) w true).done 4 := by
  simp only [State.lockLine, h]

theorem State.unlockLine_hit (h : s.ic.cleanWay ea (m.real ea) = some w) :
    s.unlockLine ea m = (s.setLock (s.ic.setOf ea) w false).done 4 := by
  simp only [State.unlockLine, h]

section
variable (h : s.ic.cleanWay ea (m.real ea) = none)
include h

theorem State.unlockLine_miss : s.unlockLine ea m = s.done 4 := by
  simp only [State.unlockLine, h]

theorem State.lockLine_inhibited (hi : m.entry.i = true) : s.lockLine ea m = s.setIcul.done 4 := by
  simp only [State.lockLine, h, hi, if_true]

variable (hi : m.entry.i = false)
include hi

theorem State.lockLine_dropped (hn : s.ic.NextWay (s.ic.setOf ea) false w) (hl : s.lineError (m.real ea) = true) :
    s.lockLine ea m = .next
      (((s.fetchRequest (m.real ea) 32 m.entry (some w)).dropLine ea w).cacheCheck (oneBit 27) (m.real ea)) := by
  obtain ⟨rest, hc⟩ := ICache.candidates_of_nextWay hn
  have error : (s.fetchRequest (m.real ea) 32 m.entry (some w)).lineError (m.real ea) = true := hl
  simp only [State.lockLine, h, hi, hc, error, Bool.false_eq_true, if_false, if_true]

theorem State.lockLine_disabled (hn : ∀ k, k < s.ic.ways → bit s.ic.l1csr0 k = true) :
    s.lockLine ea m = s.setIcul.done 4 := by
  have none (b : Bool) : s.ic.candidates (s.ic.setOf ea) b = [] :=
    ICache.candidates_nil s.ic.ways_pos fun k hk ha => by simp [ICache.Available, hn k hk] at ha
  simp only [State.lockLine, h, hi, none, Bool.false_eq_true, if_false]

section
variable (hf : ∀ k, k < s.ic.ways → ¬s.ic.Available (s.ic.setOf ea) false k) (hn : s.ic.NextWay (s.ic.setOf ea) true w)
include hf hn

theorem State.lockLine_overflow (ho : bit s.ic.l1csr1 24 = false) : s.lockLine ea m = s.setIclo.done 4 := by
  obtain ⟨rest, hc⟩ := ICache.candidates_of_nextWay hn
  simp only [State.lockLine, h, hi, ICache.candidates_nil s.ic.ways_pos hf, hc, ho, Bool.false_eq_true, if_false]

theorem State.lockLine_overlocks (ho : bit s.ic.l1csr1 24 = true) (hl : s.lineError (m.real ea) = false) :
    s.lockLine ea m =
      (((s.setIclo.fetchRequest (m.real ea) 32 m.entry (some w)).fillLine ea (m.real ea) w true).stepReplace w).done 4 := by
  obtain ⟨rest, hc⟩ := ICache.candidates_of_nextWay hn
  have clean : (s.setIclo.fetchRequest (m.real ea) 32 m.entry (some w)).lineError (m.real ea) = false := hl
  simp only [State.lockLine, h, hi, ICache.candidates_nil s.ic.ways_pos hf, hc, ho, clean, Bool.false_eq_true, if_false, if_true]

end
end

/-! ## What they do does not depend on the signals of the step -/

/-- Two answers that go on in states that differ in the signals of the step only. -/
def AgreeButSignals (x y : Answer) : Prop := ∃ t o, x = .next t ∧ y = .next (State.withSignals t o)

theorem State.cacheCheck_withSignals (s : State) (o : List OutputEvent) (async real : Word) :
    (s.withSignals o).cacheCheck async real = (s.cacheCheck async real).withSignals o := by
  unfold State.cacheCheck
  rw [State.asyncCheck_eq, State.asyncCheck_eq]
  rfl

theorem State.withSignals_ic (s : State) (o : List OutputEvent) : (s.withSignals o).ic = s.ic := rfl

/-- The fill of icbtls into a way. -/
def State.lockFill (s : State) (ea : Word) (m : Mapping) (w : Nat) : Answer :=
  let t := s.fetchRequest (m.real ea) 32 m.entry (some w)
  if t.lineError (m.real ea) then .next ((t.dropLine ea w).cacheCheck (oneBit 27) (m.real ea))
  else ((t.fillLine ea (m.real ea) w true).stepReplace w).done 4

theorem State.lockFill_withSignals (he : s.ic.edt < 2) (o : List OutputEvent) (ea : Word) (m : Mapping) (w : Nat) :
    AgreeButSignals (s.lockFill ea m w) ((s.withSignals o).lockFill ea m w) := by
  have fill (o : List OutputEvent) : (s.withSignals o).lockFill ea m w =
      let u := if s.lineError (m.real ea) then (s.dropLine ea w).cacheCheck (oneBit 27) (m.real ea)
        else ((s.fillLine ea (m.real ea) w true).stepReplace w).advance 4
      .next (u.withSignals (((s.withSignals o).fetchRequest (m.real ea) 32 m.entry (some w)).cur.signals)) := by
    generalize ho : ((s.withSignals o).fetchRequest (m.real ea) 32 m.entry (some w)).cur.signals = o'
    have requested : (s.withSignals o).fetchRequest (m.real ea) 32 m.entry (some w) = s.withSignals o' := ho ▸ rfl
    have error : (s.withSignals o').lineError (m.real ea) = s.lineError (m.real ea) := rfl
    have dropped : (s.withSignals o').dropLine ea w = (s.dropLine ea w).withSignals o' := rfl
    have filled : (s.withSignals o').fillLine ea (m.real ea) w true = (s.fillLine ea (m.real ea) w true).withSignals o' := by
      rw [State.fillLine_eq he, State.fillLine_eq (s := s.withSignals o') he]
      rfl
    simp only [State.lockFill, requested, error, dropped, State.cacheCheck_withSignals, filled]
    split <;> rfl
  exact ⟨_, _, fill s.cur.signals, fill o⟩

/-- L1CSR1[ICLO] is no bit that says how the cache is organised or checked. -/
theorem State.setIclo_edt (s : State) : s.setIclo.ic.edt = s.ic.edt := by
  have field : bits 18 2 (s.ic.l1csr1 ||| oneBit 22) = bits 18 2 s.ic.l1csr1 := by
    rw [bits_or, bits_oneBit_other (by omega) (by omega)]
    exact BitVec.or_zero
  exact congrArg BitVec.toNat field

/-- Two runs of icbtls that differ in the signals made before. -/
theorem State.lockLine_withSignals (he : s.ic.edt < 2) (o : List OutputEvent) (ea : Word) (m : Mapping) :
    AgreeButSignals (s.lockLine ea m) ((s.withSignals o).lockLine ea m) := by
  have eq (u : State) : u.lockLine ea m = match u.ic.cleanWay ea (m.real ea) with
      | some w => (u.setLock (u.ic.setOf ea) w true).done 4
      | none => if m.entry.i then u.setIcul.done 4 else
        match u.ic.candidates (u.ic.setOf ea) false with
        | w :: _ => u.lockFill ea m w
        | [] => match u.ic.candidates (u.ic.setOf ea) true with
          | [] => u.setIcul.done 4
          | w :: _ => if bit u.ic.l1csr1 24 then u.setIclo.lockFill ea m w else u.setIclo.done 4 := rfl
  rw [eq, eq, State.withSignals_ic]
  cases s.ic.cleanWay ea (m.real ea) with
  | some w => exact ⟨_, _, rfl, rfl⟩
  | none =>
    simp only []
    split
    · exact ⟨_, _, rfl, rfl⟩
    · cases s.ic.candidates (s.ic.setOf ea) false with
      | cons w rest => exact State.lockFill_withSignals he o ea m w
      | nil =>
        cases s.ic.candidates (s.ic.setOf ea) true with
        | nil => exact ⟨_, _, rfl, rfl⟩
        | cons w rest =>
          simp only []
          split
          · exact State.lockFill_withSignals (s := s.setIclo) (s.setIclo_edt.symm ▸ he) o ea m w
          · exact ⟨_, _, rfl, rfl⟩

/-! ## A fill while ICLO is set -/

theorem State.setIclo_bit (s : State) {i : Nat} (hi : i < 32) (h : i ≠ 22) :
    bit s.setIclo.ic.l1csr1 i = bit s.ic.l1csr1 i := by
  have field : bit (s.ic.l1csr1 ||| oneBit 22) i = bit s.ic.l1csr1 i := by
    rw [bit_or, bit_oneBit 22 i hi, decide_eq_false (Ne.symm h), Bool.or_false]
  exact field

theorem State.setIclo_ways (s : State) : s.setIclo.ic.ways = s.ic.ways := by
  rw [ICache.ways, s.setIclo_bit (by omega) (by omega), ICache.ways]

theorem State.setIclo_sets (s : State) : s.setIclo.ic.sets = s.ic.sets := by
  rw [ICache.sets, s.setIclo_bit (by omega) (by omega), ICache.sets]

theorem State.setIclo_setOf (s : State) (ea : Word) : s.setIclo.ic.setOf ea = s.ic.setOf ea := by
  rw [ICache.setOf, s.setIclo_sets, ICache.setOf]

theorem State.setIclo_line (s : State) (j k : Nat) : s.setIclo.ic.line j k = s.ic.line j k := by
  rw [ICache.line, s.setIclo_sets]
  rfl

theorem State.filled_setIclo {s : State} {ea real : Word} {w : Nat} (he : s.ic.edt < 2) (hw : w < s.ic.ways)
    (o : List OutputEvent) (lock : Bool) :
    let t := ((s.setIclo.withSignals o).fillLine ea real w lock).stepReplace w
    s.Filled t (s.ic.setOf ea) w real lock ∧
      t = { s with
        ic := { s.ic with lines := t.ic.lines, replace := t.ic.replace, l1csr1 := s.ic.l1csr1 ||| 0x200 }
        cur.signals := t.cur.signals } := by
  obtain ⟨filled, frame⟩ := State.filled_fill (s := s.setIclo) (ea := ea) (real := real) (w := w)
    (s.setIclo_edt.symm ▸ he) (s.setIclo_ways.symm ▸ hw) o lock
  refine ⟨?_, frame⟩
  rw [s.setIclo_setOf] at filled
  constructor
  case next => exact s.setIclo_ways ▸ filled.next
  case toLineFilled =>
    refine ⟨filled.tag, filled.valid, filled.locked, filled.data, s.setIclo_edt ▸ filled.tagCheck, fun hi k hk => ?_,
      fun j k hj hk hne => ?_⟩
    · rw [← s.setIclo_edt]
      exact filled.dataCheck ((s.setIclo_bit (by omega) (by omega)).trans hi) k hk
    · rw [← s.setIclo_line]
      exact filled.others j k (s.setIclo_sets.symm ▸ hj) (s.setIclo_ways.symm ▸ hk) hne

/-! ## icbt -/

theorem State.cacheTouch_off (ct : BitVec 5) (h : ct ≠ 0 ∨ s.ic.enabled = false ∨ bit s.hid.hid0 31 = true) :
    s.cacheTouch ct ea = (s.command 12 ea).done 4 := by
  have off : (ct != 0 || !(s.command 12 ea).ic.enabled || bit (s.command 12 ea).hid.hid0 31) = true := by
    simpa [State.command, or_assoc] using h
  simp only [State.cacheTouch, off, if_true]

section
variable (on : s.ic.enabled = true) (hn : bit s.hid.hid0 31 = false)
include on hn

theorem State.cacheTouch_missed (h : s.lookup (bit s.msr 27) ea = none) :
    s.cacheTouch 0 ea = (s.command 12 ea).done 4 := by
  have on' : (s.command 12 ea).ic.enabled = true := on
  have hn' : bit (s.command 12 ea).hid.hid0 31 = false := hn
  have h' : (s.command 12 ea).lookup (bit (s.command 12 ea).msr 27) ea = none := h
  simp only [State.cacheTouch, on', hn', h', bne_self_eq_false, Bool.not_true, Bool.or_self, Bool.false_eq_true, if_false]

variable (h : s.lookup (bit s.msr 27) ea = some m)
include h

/-- icbt with the cache on and an address that is mapped (R478 conditions 5 to 9). -/
theorem State.cacheTouch_mapped :
    s.cacheTouch 0 ea =
      let t := (s.command 12 ea).usedMapping m
      if !m.mayTouch s.userMode then t.done 4
      else if s.ic.checking && s.ic.edt ≥ 2 then .fault .reservedCacheMode
      else if s.ic.checking && s.ic.setHasError (s.ic.setOf ea) then t.done 4
      else match s.ic.hitWay ea (m.real ea) with
        | some _ => t.done 4
        | none =>
          if m.entry.i then t.done 4
          else match s.ic.candidates (s.ic.setOf ea) false with
            | [] => t.done 4
            | w :: _ =>
              let u := t.fetchRequest (m.real ea) 32 m.entry (some w)
              if t.lineError (m.real ea) then (u.dropLine ea w).done 4
              else ((u.fillLine ea (m.real ea) w false).stepReplace w).done 4 := by
  have on' : (s.command 12 ea).ic.enabled = true := on
  have hn' : bit (s.command 12 ea).hid.hid0 31 = false := hn
  have h' : (s.command 12 ea).lookup (bit (s.command 12 ea).msr 27) ea = some m := h
  simp only [State.cacheTouch, on', hn', h', bne_self_eq_false, Bool.not_true, Bool.or_self, Bool.false_eq_true, if_false]
    <;> rfl

end

/-! ## icbi -/

/-- A line after icbi of a real address: invalid and unlocked if it holds the address and is no locked line in error (R478). -/
def ICache.cleared (c : ICache) (free : Nat) (real : Word) (l : CacheLine) : CacheLine :=
  if c.tagMatches l real && !(c.checking && tagError c.edt l && l.l) then { invalidated c.edt free l with l := false } else l

/-- icbi of one way of a set. -/
def ICache.clearWay (free : Nat) (real : Word) (set : Nat) (k : ICache) (w : Nat) : ICache :=
  if k.tagMatches (k.line set w) real && !(k.checking && tagError k.edt (k.line set w) && (k.line set w).l) then
    k.setLine set w { invalidated k.edt free (k.line set w) with l := false }
  else k

theorem ICache.clearWays_spec {c : ICache} {set n : Nat} (hs : set < c.sets) (free : Nat) (real : Word) (hn : n ≤ c.ways) :
    c.Swept ((List.range n).foldl (ICache.clearWay free real set) c) set n (c.cleared free real) := by
  induction n with
  | zero => exact .zero c set _
  | succ n ih =>
    have swept := ih (by omega)
    simp only [List.range_succ, List.foldl_append, List.foldl_cons, List.foldl_nil]
    generalize (List.range n).foldl (ICache.clearWay free real set) c = d at swept
    have line : d.line set n = c.line set n := swept.line_next hs (by omega)
    have same : d.tagMatches = c.tagMatches ∧ d.checking = c.checking := by
      rw [swept.only]
      exact ⟨rfl, rfl⟩
    obtain ⟨tagMatches, checking⟩ := same
    rw [ICache.clearWay, line, tagMatches, checking, swept.edt_eq]
    split
    next hc =>
      have written := swept.write hs (by omega : n < c.ways)
      rwa [ICache.cleared, if_pos hc] at written
    next hc => exact swept.leave (if_neg hc)

section
variable (on : s.ic.enabled = true)
include on

theorem State.cacheInvalidate_missed (h : s.lookup (bit s.msr 27) ea = none) :
    s.cacheInvalidate ea = .next ((s.command 6 ea).dataTlbError false false ea) := by
  have on' : (s.command 6 ea).ic.enabled = true := on
  have h' : (s.command 6 ea).lookup (bit (s.command 6 ea).msr 27) ea = none := h
  simp only [State.cacheInvalidate, on', h', Bool.not_true, Bool.false_eq_true, if_false]

variable (h : s.lookup (bit s.msr 27) ea = some m)
include h

theorem State.cacheInvalidate_denied (hp : m.mayRead s.userMode = false) :
    s.cacheInvalidate ea = .next ((s.command 6 ea).dataStorage false false 0 ea) := by
  have on' : (s.command 6 ea).ic.enabled = true := on
  have h' : (s.command 6 ea).lookup (bit (s.command 6 ea).msr 27) ea = some m := h
  have hp' : m.mayRead (s.command 6 ea).userMode = false := hp
  simp only [State.cacheInvalidate, on', h', hp', Bool.not_true, Bool.not_false, Bool.false_eq_true, if_false, if_true]

variable (hp : m.mayRead s.userMode = true)
include hp

theorem State.cacheInvalidate_reserved (hc : s.ic.checking = true) (he : 2 ≤ s.ic.edt) :
    s.cacheInvalidate ea = .fault .reservedCacheMode := by
  have on' : (s.command 6 ea).ic.enabled = true := on
  have h' : (s.command 6 ea).lookup (bit (s.command 6 ea).msr 27) ea = some m := h
  have hp' : m.mayRead (s.command 6 ea).userMode = true := hp
  have hc' : ((s.command 6 ea).ic.checking && decide ((s.command 6 ea).ic.edt ≥ 2)) = true :=
    Bool.and_eq_true_iff.2 ⟨hc, decide_eq_true he⟩
  simp only [State.cacheInvalidate, on', h', hp', hc', Bool.not_true, Bool.false_eq_true, if_false, if_true]

/-- icbi of an address that may be read: correction with ICEA = 01, then the matching lines of the set. -/
theorem State.cacheInvalidate_clears (hm : m.multi = false) (he : s.ic.edt < 2) (hc : s.ic.checking = true) :
    ∃ o, s.cacheInvalidate ea =
      let c := if s.ic.action = 1 then (s.ic.correctSet (s.ic.setOf ea) true).1 else s.ic
      ({ s.withSignals o with
        ic := (List.range c.ways).foldl (ICache.clearWay s.freeCtr (m.real ea) (s.ic.setOf ea)) c }.done 4) := by
  have on' : (s.command 6 ea).ic.enabled = true := on
  have h' : (s.command 6 ea).lookup (bit (s.command 6 ea).msr 27) ea = some m := h
  have hp' : m.mayRead (s.command 6 ea).userMode = true := hp
  have hc' : ((s.command 6 ea).ic.checking && decide ((s.command 6 ea).ic.edt ≥ 2)) = false := by
    have small : ¬(s.command 6 ea).ic.edt ≥ 2 := Nat.not_le.2 he
    rw [decide_eq_false small, Bool.and_false]
  refine ⟨((s.command 6 ea).reportTags ea (m.real ea)).cur.signals, ?_⟩
  simp only [State.cacheInvalidate, on', h', hp', hc', Bool.not_true, Bool.false_eq_true, if_false,
    State.usedMapping_single _ hm]
  rw [State.reportTags_eq]
  have hk : ((s.command 6 ea).withSignals ((s.command 6 ea).reportTags ea (m.real ea)).cur.signals).ic.checking = true := hc
  simp only [hk, Bool.true_and, decide_eq_true_eq]
  rfl

end

end Sys2Proof.Machine
end

section
/-! SUPPORT. The cache instructions and the cache commands as the claims say them, clause by clause. -/

namespace Sys2Proof.Machine

variable {s : State} {ea : Word} {m : Mapping} {w : Nat} {ra rb : Reg}

/-! ## Exceptions -/

theorem State.interrupted_missed (s : State) (o : List OutputEvent) (ea : Word) :
    s.Interrupted ((s.withSignals o).dataTlbError false false ea) 13 s.pc (if s.cur.vle then 0x20 else 0) ea := by
  have spec := (s.dataTlbError_spec { s.cur with signals := o } s.freeCtr false false ea).1
  rw [State.accessEsr_eq] at spec
  have esr : (0 : Word) ||| 0 ||| (if s.cur.vle then 0x20 else 0) = if s.cur.vle then 0x20 else 0 := BitVec.zero_or
  exact esr ▸ spec

theorem State.interrupted_storage (s : State) (o : List OutputEvent) (k : Nat) (extra ea : Word) :
    s.Interrupted ({ s.withSignals o with freeCtr := k }.dataStorage false false extra ea) 2 s.pc
      (extra ||| if s.cur.vle then 0x20 else 0) ea := by
  have spec := s.interrupted_dataStorage { s.cur with signals := o } k false false extra ea
  rw [State.accessEsr_eq] at spec
  have esr : (0 : Word) ||| 0 ||| (if s.cur.vle then 0x20 else 0) ||| extra = extra ||| if s.cur.vle then 0x20 else 0 := by
    rw [BitVec.or_comm _ extra]
    exact congrArg (extra ||| ·) BitVec.zero_or
  exact esr ▸ spec

theorem State.interrupted_refused (s : State) (o : List OutputEvent) (ea : Word) :
    s.Interrupted ((s.withSignals o).dataStorage false false 0 ea) 2 s.pc (if s.cur.vle then 0x20 else 0) ea := by
  have spec := s.interrupted_storage o s.freeCtr 0 ea
  rwa [show 0 ||| (if s.cur.vle then (0x20 : Word) else 0) = _ from BitVec.zero_or] at spec

theorem State.cacheChecked_cacheCheck (s : State) (o : List OutputEvent) (c : ICache) {async : Word} (real : Word)
    (he : bit async 13 = false) : s.CacheChecked ({ s.withSignals o with ic := c }.cacheCheck async real) async real :=
  s.cacheChecked_withCache c { s.cur with signals := o } s.freeCtr real he

theorem State.cacheChecked_withSignals (s : State) (o : List OutputEvent) {async : Word} (real : Word)
    (he : bit async 13 = false) : s.CacheChecked ((s.withSignals o).cacheCheck async real) async real :=
  s.cacheChecked_cacheCheck o s.ic real he

theorem State.cacheCheck_ic (s : State) (async real : Word) : (s.cacheCheck async real).ic = s.ic := by
  unfold State.cacheCheck
  rw [State.asyncCheck_eq]
  rfl

/-! ## Conditions that turn icbtls and icblc away alike -/

theorem runs_locks {P : State → Prop} (on : s.ic.enabled = true)
    (h : ∀ o act minds, ∃ t, (s.withSignals o).lockConditions (s.eaX ra rb) act minds = .next t ∧ P t) :
    Runs (.icbtls 0 ra rb) s P ∧ Runs (.icblc 0 ra rb) s P := by
  obtain ⟨t, ht, hp⟩ := h (s.command 14 (s.eaX ra rb)).cur.signals (fun t m => t.lockLine (s.eaX ra rb) m) fun _ => true
  obtain ⟨u, hu, hq⟩ := h (s.command 13 (s.eaX ra rb)).cur.signals (fun t m => t.unlockLine (s.eaX ra rb) m)
    fun c => c.lockedError (s.eaX ra rb)
  exact ⟨⟨t, (State.cacheLock_on on).trans ht, hp⟩, ⟨u, (State.cacheUnlock_on on).trans hu, hq⟩⟩

theorem exec_locks_fault {f : Fault} (on : s.ic.enabled = true)
    (h : ∀ o act minds, (s.withSignals o).lockConditions (s.eaX ra rb) act minds = .fault f) :
    exec (.icbtls 0 ra rb) s = .fault f ∧ exec (.icblc 0 ra rb) s = .fault f :=
  ⟨(State.cacheLock_on on).trans (h (s.command 14 (s.eaX ra rb)).cur.signals _ _),
    (State.cacheUnlock_on on).trans (h (s.command 13 (s.eaX ra rb)).cur.signals _ _)⟩

/-! ## The lock bit of one line -/

/-- The lock bit of a line has been written in a cache that differs from that of s in lines only. -/
theorem State.setLock_spec {d : ICache} (hd : d = { s.ic with lines := d.lines }) (hw : w < s.ic.ways) (o : List OutputEvent)
    (b : Bool) :
    let t := ({ s.withSignals o with ic := d }.setLock (s.ic.setOf ea) w b).advance 4
    t.ic.line (s.ic.setOf ea) w = { d.line (s.ic.setOf ea) w with l := b } ∧
      { s with ic := d }.KeepsOtherLines t (s.ic.setOf ea) w ∧
      t = { s with ic.lines := t.ic.lines, cur.signals := t.cur.signals, pc := s.pc + 4 } := by
  have geometry : d.sets = s.ic.sets ∧ d.ways = s.ic.ways := by
    rw [hd]
    exact ⟨rfl, rfl⟩
  obtain ⟨sets, ways⟩ := geometry
  have hs : s.ic.setOf ea < d.sets := sets.symm ▸ s.ic.setOf_lt ea
  refine ⟨ICache.line_setLine_same hs (ways.symm ▸ hw) _, fun j k hj hk hne => ?_, ?_⟩
  · exact (ICache.line_setLine hs hj hk _).trans (if_neg (by omega))
  · exact congrArg (fun c => ({ s.withSignals o with ic := c }.setLock (s.ic.setOf ea) w b).advance 4) hd ▸ rfl

/-! ## The set corrected with ICEA = 01 -/

/-- The claims describe the corrected cache line by line; it is the one the correction cycle leaves. -/
theorem State.eq_corrected {u : State} {spare : Bool} (hu : u = { s with ic.lines := u.ic.lines })
    (ho : s.KeepsOtherSets u (s.ic.setOf ea))
    (hl : ∀ k, k < s.ic.ways → u.ic.line (s.ic.setOf ea) k = s.ic.corrected spare (s.ic.line (s.ic.setOf ea) k)) :
    u = { s with ic := (s.ic.correctSet (s.ic.setOf ea) spare).1 } := by
  have swept := (ICache.correctSet_spec (s.ic.setOf_lt ea) spare).1
  obtain ⟨sets, ways⟩ := swept.geometry
  have cache := congrArg State.ic hu
  suffices hc : u.ic = (s.ic.correctSet (s.ic.setOf ea) spare).1 from
    hu.trans (congrArg (fun c => { s with ic := c }) (cache.symm.trans hc))
  refine ICache.ext_lines ?_ fun j k hj hk => ?_
  · rw [swept.only]
    exact cache
  · rw [sets] at hj
    rw [ways] at hk
    by_cases hset : j = s.ic.setOf ea
    · subst hset
      rw [hl k hk, swept.line_set hj hk]
    · rw [ho j k hj hk hset, swept.line_other hj hk hset]

/-- A set corrected without sparing anything has no tag error. -/
theorem State.not_tagError_corrected (he : s.ic.edt < 2) {o : List OutputEvent} :
    ¬{ s.withSignals o with ic := (s.ic.correctSet (s.ic.setOf ea) false).1 }.TagError ea := by
  have swept := (ICache.correctSet_spec (s.ic.setOf_lt ea) false).1
  generalize (s.ic.correctSet (s.ic.setOf ea) false).1 = d at swept
  rintro ⟨-, k, hk, herr⟩
  have hk' : k < s.ic.ways := swept.geometry.2 ▸ hk
  have setOf : d.setOf ea = s.ic.setOf ea := by
    rw [swept.only]
    rfl
  have line := swept.line_set (s.ic.setOf_lt ea) hk'
  have good := s.ic.checkTag_corrected_false he (s.ic.line (s.ic.setOf ea) k)
  rw [← line, ← swept.edt_eq, ← setOf, ← tagError_eq_false] at good
  exact Bool.false_ne_true (good.symm.trans herr)

/-- A clean match stays one through the correction. -/
theorem ICache.cleanWay_corrected {c : ICache} {real : Word} {spare : Bool} (hc : c.checking = true)
    (h : (c.correctSet (c.setOf ea) spare).1.cleanWay ea real = none) : c.cleanWay ea real = none := by
  have swept := (ICache.correctSet_spec (c.setOf_lt ea) spare).1
  generalize (c.correctSet (c.setOf ea) spare).1 = d at swept h
  have same : d.ways = c.ways ∧ d.setOf ea = c.setOf ea ∧ d.tagMatches = c.tagMatches ∧ d.checking = c.checking := by
    rw [swept.only]
    exact ⟨rfl, rfl, rfl, rfl⟩
  obtain ⟨ways, setOf, tagMatches, checking⟩ := same
  unfold ICache.cleanWay at h ⊢
  rw [List.find?_eq_none] at h ⊢
  intro k hk hm
  simp only [hc, Bool.true_and, Bool.and_eq_true, Bool.not_eq_true'] at hm
  obtain ⟨matches', clean⟩ := hm
  have kept : c.corrected spare (c.line (c.setOf ea) k) = c.line (c.setOf ea) k := by
    rw [ICache.corrected, tagError_eq_false.1 clean]
  refine h k (by rwa [ways]) ?_
  rw [setOf, tagMatches, checking, swept.edt_eq, swept.line_set (c.setOf_lt ea) (List.mem_range.1 hk), kept]
  simp [matches', clean]

/-! ## L1FINV1 and CDACNTL -/

section
variable {r : Reg} {f : BitVec 10}

theorem exec_mtspr_l1finv1 (hs : s.userMode = false) (hf : numberOf f = 959) :
    exec (.mtspr r f) s = match s.ic.writeL1finv1 s.freeCtr (s.r r) with
      | some c => .next ({ s.spendFree with ic := c }.advance 4)
      | none => .fault .undefinedCacheCommand := by
  rw [exec_mtspr, execMtspr_supervisor hs, hf]
  rfl

theorem ICache.writeL1finv1_invalidate {c : ICache} {v : Word} (free : Nat) (hw : (bits 6 2 v).toNat < c.ways)
    (hs : (bits 21 6 v).toNat < c.sets) (hc : bits 30 2 v = 0) :
    c.writeL1finv1 free v = some ({ c with l1finv1 := v &&& 0x030007E3 }.setLine (bits 21 6 v).toNat (bits 6 2 v).toNat
      (invalidated c.edt free (c.line (bits 21 6 v).toNat (bits 6 2 v).toNat))) := by
  have there : ¬((bits 6 2 v).toNat ≥ c.ways ∨ (bits 21 6 v).toNat ≥ c.sets) := by omega
  simp only [ICache.writeL1finv1, Bool.or_eq_true, decide_eq_true_eq, there, if_false, hc]
  rfl

theorem ICache.writeL1finv1_replace {c : ICache} {v : Word} (free : Nat) (hw : (bits 6 2 v).toNat < c.ways)
    (hs : (bits 21 6 v).toNat < c.sets) (hc : bits 30 2 v = 3) :
    c.writeL1finv1 free v = some { c with l1finv1 := v &&& 0x030007E3, replace := BitVec.ofNat 2 (bits 6 2 v).toNat } := by
  have there : ¬((bits 6 2 v).toNat ≥ c.ways ∨ (bits 21 6 v).toNat ≥ c.sets) := by omega
  simp only [ICache.writeL1finv1, Bool.or_eq_true, decide_eq_true_eq, there, if_false, hc]
  rfl

theorem ICache.writeL1finv1_undefined {c : ICache} {v : Word} (free : Nat)
    (h : c.ways ≤ (bits 6 2 v).toNat ∨ c.sets ≤ (bits 21 6 v).toNat ∨ bits 30 2 v = 1 ∨ bits 30 2 v = 2) :
    c.writeL1finv1 free v = none := by
  simp only [ICache.writeL1finv1, Bool.or_eq_true, decide_eq_true_eq]
  split
  · rfl
  next there =>
    obtain hw | hs | hc | hc := h
    · exact absurd (.inl hw) there
    · exact absurd (.inr hs) there
    · rw [hc]
      rfl
    · rw [hc]
      rfl

theorem runs_l1finv1_invalidate (hs : s.userMode = false) (hf : numberOf f = 959) (hw : (bits 6 2 (s.r r)).toNat < s.ic.ways)
    (hset : (bits 21 6 (s.r r)).toNat < s.ic.sets) (hc : bits 30 2 (s.r r) = 0) : Runs (.mtspr r f) s fun t =>
      t.ic.line (bits 21 6 (s.r r)).toNat (bits 6 2 (s.r r)).toNat =
        { s.ic.line (bits 21 6 (s.r r)).toNat (bits 6 2 (s.r r)).toNat with
          v := false, tchk := (t.ic.line (bits 21 6 (s.r r)).toNat (bits 6 2 (s.r r)).toNat).tchk } ∧
      (s.ic.edt < 2 → checkTag s.ic.edt (t.ic.line (bits 21 6 (s.r r)).toNat (bits 6 2 (s.r r)).toNat) = .good) ∧
      s.KeepsOtherLines t (bits 21 6 (s.r r)).toNat (bits 6 2 (s.r r)).toNat ∧
      t.readSpr 959 = some (s.r r &&& 0x030007E3) ∧
      t = { s with
        ic.lines := t.ic.lines, ic.l1finv1 := s.r r &&& 0x030007E3, freeCtr := t.freeCtr, pc := s.pc + 4 } := by
  have run := (exec_mtspr_l1finv1 hs hf).trans (by rw [ICache.writeL1finv1_invalidate s.freeCtr hw hset hc])
  refine ⟨_, run, ?_⟩
  have line := ICache.line_setLine_same (c := s.ic) hset hw
    (invalidated s.ic.edt s.freeCtr (s.ic.line (bits 21 6 (s.r r)).toNat (bits 6 2 (s.r r)).toNat))
  refine ⟨?_, fun he => ?_, fun j k hj hk hne => ?_, rfl, rfl⟩
  · exact line.trans (congrArg (fun l => { s.ic.line _ _ with v := false, tchk := CacheLine.tchk l }) line.symm)
  · exact (congrArg (checkTag s.ic.edt) line).trans (checkTag_invalidated he _)
  · exact (ICache.line_setLine (c := s.ic) hset hj hk _).trans (if_neg (by omega))

theorem exec_mtdcr_cdacntl (hs : s.userMode = false) (hf : numberOf f = 351) :
    exec (.mtdcr r f) s = match s.ic.writeCdacntl (s.r r) with
      | some c => .next ({ s with ic := c }.advance 4)
      | none => .fault .undefinedCacheCommand := by
  rw [exec_mtdcr, execMtdcr, State.supervisor_of hs, registerNumber_eq_numberOf, hf]
  rfl

theorem ICache.writeCdacntl_store {c : ICache} {v : Word} (h : bits 30 2 v = 0) :
    c.writeCdacntl v = some { c with cdacntl := v &&& 0xB1FFFF0C } := by
  have go : (bits 30 2 v).toNat = 0 := by rw [h]; rfl
  simp [ICache.writeCdacntl, go]

theorem ICache.writeCdacntl_undefined {c : ICache} {v : Word} (h : 2 ≤ (bits 30 2 v).toNat) : c.writeCdacntl v = none := by
  simp [ICache.writeCdacntl, h]

end

end Sys2Proof.Machine
end

section
/-! SUPPORT. The clauses of the claim about cache instructions that their conditions turn away. -/

namespace Sys2Proof.Machine

variable {s : State} {m : Mapping} {w : Nat} {ra rb : Reg}

/-! ## icbt -/

/-- icbt does nothing when its first conditions turn it away, or the address is not mapped (R478). -/
theorem runs_icbt_off {ct : BitVec 5} (h : ct ≠ 0 ∨ s.ic.enabled = false ∨ bit s.hid.hid0 31 = true) :
    Runs (.icbt ct ra rb) s fun t => s.Signalled t :=
  ⟨_, State.cacheTouch_off ct h, rfl⟩

theorem runs_icbt_missed (h : s.lookup (bit s.msr 27) (s.eaX ra rb) = none) :
    Runs (.icbt 0 ra rb) s fun t => s.Signalled t := by
  by_cases hoff : s.ic.enabled = false ∨ bit s.hid.hid0 31 = true
  · exact runs_icbt_off (.inr hoff)
  · simp only [not_or, Bool.not_eq_false, Bool.not_eq_true] at hoff
    exact ⟨_, State.cacheTouch_missed hoff.1 hoff.2 h, rfl⟩

theorem exec_icbt_reserved (on : s.ic.enabled = true) (hn : bit s.hid.hid0 31 = false)
    (h : s.lookup (bit s.msr 27) (s.eaX ra rb) = some m) (hp : m.mayTouch s.userMode = true) (hc : s.ic.checking = true)
    (he : 2 ≤ s.ic.edt) : exec (.icbt 0 ra rb) s = .fault .reservedCacheMode := by
  refine (State.cacheTouch_mapped on hn h).trans ?_
  simp only [hp, hc, he, decide_true, Bool.and_self, Bool.not_true, Bool.false_eq_true, if_false, if_true]

section
variable (h : s.lookup (bit s.msr 27) (s.eaX ra rb) = some m) (hm : m.multi = false)
include h hm

/-- The conditions with which icbt of a mapped address does nothing. -/
theorem runs_icbt_unfilled (he : m.mayTouch s.userMode = true → s.ic.edt < 2)
    (hc : m.mayTouch s.userMode = true → ¬s.TagError (s.eaX ra rb) →
      s.ic.hitWay (s.eaX ra rb) (m.real (s.eaX ra rb)) = none → m.entry.i = false → s.ic.candidates (s.ic.setOf (s.eaX ra rb)) false = []) :
    Runs (.icbt 0 ra rb) s fun t => s.Signalled t := by
  by_cases hoff : s.ic.enabled = false ∨ bit s.hid.hid0 31 = true
  · exact runs_icbt_off (.inr hoff)
  · simp only [not_or, Bool.not_eq_false, Bool.not_eq_true] at hoff
    have run := State.cacheTouch_mapped hoff.1 hoff.2 h
    suffices hd : s.cacheTouch 0 (s.eaX ra rb) = (s.command 12 (s.eaX ra rb)).done 4 from ⟨_, hd, rfl⟩
    rw [run]
    simp only [State.usedMapping_single _ hm]
    split
    · rfl
    next hp =>
      simp only [Bool.not_eq_true', Bool.not_eq_false] at hp
      have code : (s.ic.checking && decide (s.ic.edt ≥ 2)) = false := by simp [he hp]
      rw [code, if_neg Bool.false_ne_true]
      split
      · rfl
      next ht =>
        rw [State.tagError_iff] at ht
        split
        · rfl
        next hw =>
          split
          · rfl
          next hi => rw [hc hp ht hw (Bool.not_eq_true _ ▸ hi)]

/-- A bus error of the fill of icbt leaves the way invalid and raises nothing. -/
theorem runs_icbt_dropped (hp : m.mayTouch s.userMode = true) (he : s.ic.edt < 2) (ht : ¬s.TagError (s.eaX ra rb))
    (hw : s.ic.hitWay (s.eaX ra rb) (m.real (s.eaX ra rb)) = none) (hi : m.entry.i = false)
    (on : s.ic.enabled = true) (hn : bit s.hid.hid0 31 = false)
    (hway : s.ic.NextWay (s.ic.setOf (s.eaX ra rb)) false w) (hl : s.lineError (m.real (s.eaX ra rb)) = true) :
    Runs (.icbt 0 ra rb) s fun t => s.Dropped t (s.ic.setOf (s.eaX ra rb)) w ∧
      t = { s with ic.lines := t.ic.lines, cur.signals := t.cur.signals, pc := s.pc + 4 } := by
  obtain ⟨rest, hc⟩ := ICache.candidates_of_nextWay hway
  have run := State.cacheTouch_mapped on hn h
  have code : (s.ic.checking && decide (s.ic.edt ≥ 2)) = false := by simp [he]
  have error : (s.command 12 (s.eaX ra rb)).lineError (m.real (s.eaX ra rb)) = true := hl
  generalize ho : ((s.command 12 (s.eaX ra rb)).fetchRequest (m.real (s.eaX ra rb)) 32 m.entry (some w)).cur.signals = o
  have requested : (s.command 12 (s.eaX ra rb)).fetchRequest (m.real (s.eaX ra rb)) 32 m.entry (some w) = s.withSignals o :=
    ho ▸ rfl
  rw [← State.tagError_iff, Bool.not_eq_true] at ht
  simp only [State.usedMapping_single _ hm, hp, code, ht, hw, hi, hc, error, requested, Bool.not_true, Bool.false_eq_true,
    if_false, if_true] at run
  obtain ⟨dropped, -⟩ := State.onlyDropped_dropLine (ea := s.eaX ra rb) he (ICache.nextWay_lt hway) o
  exact ⟨_, run, dropped, rfl⟩

end

/-! ## icbi -/

/-- icbi of a set whose tags are checked (R478, R476). -/
theorem runs_icbi_checked (on : s.ic.enabled = true) (h : s.lookup (bit s.msr 27) (s.eaX ra rb) = some m)
    (hm : m.multi = false) (hp : m.mayRead s.userMode = true) (hc : s.ic.checking = true) (he : s.ic.edt < 2) :
    Runs (.icbi ra rb) s fun t =>
      (∀ k, k < s.ic.ways →
        let seen := if s.ic.action = 1 then s.ic.corrected true (s.ic.line (s.ic.setOf (s.eaX ra rb)) k)
          else s.ic.line (s.ic.setOf (s.eaX ra rb)) k
        t.ic.line (s.ic.setOf (s.eaX ra rb)) k =
          if s.ic.tagMatches seen (m.real (s.eaX ra rb)) = true ∧ ¬(tagError s.ic.edt seen = true ∧ seen.l = true) then
            { invalidated s.ic.edt 0 seen with l := false }
          else seen) ∧
      s.KeepsOtherSets t (s.ic.setOf (s.eaX ra rb)) ∧
      t = { s with ic.lines := t.ic.lines, cur.signals := t.cur.signals, pc := s.pc + 4 } := by
  obtain ⟨o, run⟩ := State.cacheInvalidate_clears on h hp hm he hc
  have hs := s.ic.setOf_lt (s.eaX ra rb)
  generalize s.ic.setOf (s.eaX ra rb) = set at *
  have seen : s.ic.Swept (if s.ic.action = 1 then (s.ic.correctSet set true).1 else s.ic) set s.ic.ways
      (fun l => if s.ic.action = 1 then s.ic.corrected true l else l) := by
    split
    · exact (ICache.correctSet_spec hs true).1
    · exact ⟨rfl, fun j k _ _ => (ite_self _).symm⟩
  simp only [] at run
  generalize (if s.ic.action = 1 then (s.ic.correctSet set true).1 else s.ic) = c at seen run
  obtain ⟨sets, ways⟩ := seen.geometry
  have cleared := ICache.clearWays_spec (c := c) (sets.symm ▸ hs) s.freeCtr (m.real (s.eaX ra rb)) le_rfl
  refine ⟨_, run, fun k hk => ?_, fun j k hj hk hne => ?_, ?_⟩
  · have line := cleared.line_set (sets.symm ▸ hs) (ways.symm ▸ hk)
    have same : c.tagMatches = s.ic.tagMatches ∧ c.checking = s.ic.checking := by
      rw [seen.only]
      exact ⟨rfl, rfl⟩
    rw [seen.line_set hs hk, ICache.cleared, same.1, same.2, hc, seen.edt_eq] at line
    refine line.trans ?_
    simp only [invalidated, tagCheck_free he s.freeCtr 0]
    refine if_congr ?_ rfl rfl
    simp only [Bool.true_and, Bool.and_eq_true, Bool.not_eq_true', ← Bool.not_eq_true]
  · exact (cleared.line_other (sets.symm ▸ hj) (ways.symm ▸ hk) hne).trans (seen.line_other hj hk hne)
  · exact congrArg (fun d => { s.withSignals o with ic := d }.advance 4) (seen.only_trans cleared)

/-! ## icbtls and icblc turned away -/

theorem ICache.cleanWay_of_noTagError {ea real : Word} (ht : ¬s.TagError ea) : s.ic.cleanWay ea real = s.ic.hitWay ea real := by
  rw [← State.tagError_iff, Bool.not_eq_true] at ht
  exact ICache.cleanWay_of_noError ht

theorem runs_locks_missed (on : s.ic.enabled = true) (h : s.lookup (bit s.msr 27) (s.eaX ra rb) = none) :
    (Runs (.icbtls 0 ra rb) s fun t => s.Interrupted t 13 s.pc (if s.cur.vle then 0x20 else 0) (s.eaX ra rb)) ∧
      Runs (.icblc 0 ra rb) s fun t => s.Interrupted t 13 s.pc (if s.cur.vle then 0x20 else 0) (s.eaX ra rb) :=
  runs_locks on fun o _ _ => ⟨_, State.lockConditions_missed (s := s.withSignals o) h, s.interrupted_missed o _⟩

section
variable (on : s.ic.enabled = true) (h : s.lookup (bit s.msr 27) (s.eaX ra rb) = some m)
include on h

theorem runs_locks_denied (hd : s.lockDenied = true) :
    (Runs (.icbtls 0 ra rb) s fun t => ∃ d, s.Interrupted t 2 s.pc (0x00100000 ||| if s.cur.vle then 0x20 else 0) d) ∧
      Runs (.icblc 0 ra rb) s fun t => ∃ d, s.Interrupted t 2 s.pc (0x00100000 ||| if s.cur.vle then 0x20 else 0) d :=
  runs_locks on fun o _ _ => ⟨_, State.lockConditions_denied (s := s.withSignals o) h hd, _,
    s.interrupted_storage o (s.freeCtr + 1) (oneBit 11) _⟩

variable (hd : s.lockDenied = false)
include hd

theorem runs_locks_forbidden (hp : m.mayTouch s.userMode = false) :
    (Runs (.icbtls 0 ra rb) s fun t => s.Interrupted t 2 s.pc (if s.cur.vle then 0x20 else 0) (s.eaX ra rb)) ∧
      Runs (.icblc 0 ra rb) s fun t => s.Interrupted t 2 s.pc (if s.cur.vle then 0x20 else 0) (s.eaX ra rb) :=
  runs_locks on fun o _ _ => ⟨_, State.lockConditions_forbidden (s := s.withSignals o) h hd hp, s.interrupted_refused o _⟩

variable (hp : m.mayTouch s.userMode = true)
include hp

theorem exec_locks_reserved (hc : s.ic.checking = true) (he : 2 ≤ s.ic.edt) :
    exec (.icbtls 0 ra rb) s = .fault .reservedCacheMode ∧ exec (.icblc 0 ra rb) s = .fault .reservedCacheMode :=
  exec_locks_fault on fun o _ _ => State.lockConditions_reserved (s := s.withSignals o) h hd hp hc he

variable (hm : m.multi = false) (he : s.ic.edt < 2)
include hm he

/-! ## A set with tag errors -/

section
variable (ht : s.TagError (s.eaX ra rb))
include ht

theorem exec_locks_reservedAction (ha : 2 ≤ s.ic.action) :
    exec (.icbtls 0 ra rb) s = .fault .reservedCacheMode ∧ exec (.icblc 0 ra rb) s = .fault .reservedCacheMode :=
  exec_locks_fault on fun o _ _ => State.lockConditions_reservedAction (s := s.withSignals o) h hd hp hm he ht ha

/-- With ICEA = 01 a locked line is lost: the set is corrected and the machine check taken. -/
theorem runs_locks_lost (ha : s.ic.action = 1) (hc : s.ic.cleanWay (s.eaX ra rb) (m.real (s.eaX ra rb)) = none)
    (hl : s.LockedTagLost (s.eaX ra rb)) {P : State → Prop}
    (hP : ∀ t, s.CacheChecked t 0x05000000 (m.real (s.eaX ra rb)) →
      t.ic = (s.ic.correctSet (s.ic.setOf (s.eaX ra rb)) false).1 → P t) :
    Runs (.icbtls 0 ra rb) s P ∧ Runs (.icblc 0 ra rb) s P := by
  refine runs_locks on fun o act minds => ?_
  have run := State.lockConditions_corrected (s := s.withSignals o) (act := act) (minds := minds) h hd hp hm he ht ha
  simp only [State.withSignals_ic, hc, Option.isSome_none, (s.lockedTagLost_iff _).2 hl, if_true] at run
  exact ⟨_, run, hP _ (s.cacheChecked_cacheCheck _ _ _ (by decide)) (State.cacheCheck_ic _ _ _)⟩

omit on in
/-- With ICEA = 01 and no locked line lost they act on the corrected set. -/
theorem State.lockConditions_kept {act : State → Mapping → Answer} {minds : ICache → Bool} (o : List OutputEvent)
    (ha : s.ic.action = 1)
    (hk : ¬(s.ic.cleanWay (s.eaX ra rb) (m.real (s.eaX ra rb)) = none ∧ s.LockedTagLost (s.eaX ra rb))) :
    ∃ o', (s.withSignals o).lockConditions (s.eaX ra rb) act minds =
      act { s.withSignals o' with ic := (s.ic.correctSet (s.ic.setOf (s.eaX ra rb))
        (s.ic.cleanWay (s.eaX ra rb) (m.real (s.eaX ra rb))).isSome).1 } m := by
  have run := State.lockConditions_corrected (s := s.withSignals o) (act := act) (minds := minds) h hd hp hm he ht ha
  have kept : (s.ic.correctSet (s.ic.setOf (s.eaX ra rb))
      (s.ic.cleanWay (s.eaX ra rb) (m.real (s.eaX ra rb))).isSome).2 = false := by
    rw [← Bool.not_eq_true, (ICache.correctSet_spec (s.ic.setOf_lt _) _).2]
    rintro ⟨hnone, hlost⟩
    exact hk ⟨by simpa using hnone, hlost⟩
  simp only [State.withSignals_ic, kept, Bool.false_eq_true, if_false] at run
  exact ⟨_, run⟩

/-- With ICEA = 00 a clean match is locked or unlocked. -/
theorem runs_locks_cleanHit (ha : s.ic.action = 0) (hc : s.ic.cleanWay (s.eaX ra rb) (m.real (s.eaX ra rb)) = some w) :
    (Runs (.icbtls 0 ra rb) s fun t =>
      t.ic.line (s.ic.setOf (s.eaX ra rb)) w = { s.ic.line (s.ic.setOf (s.eaX ra rb)) w with l := true } ∧
      s.KeepsOtherLines t (s.ic.setOf (s.eaX ra rb)) w ∧
      t = { s with ic.lines := t.ic.lines, cur.signals := t.cur.signals, pc := s.pc + 4 }) ∧
    Runs (.icblc 0 ra rb) s fun t =>
      t.ic.line (s.ic.setOf (s.eaX ra rb)) w = { s.ic.line (s.ic.setOf (s.eaX ra rb)) w with l := false } ∧
      s.KeepsOtherLines t (s.ic.setOf (s.eaX ra rb)) w ∧
      t = { s with ic.lines := t.ic.lines, cur.signals := t.cur.signals, pc := s.pc + 4 } := by
  have hw := ICache.cleanWay_some hc
  have acts (o : List OutputEvent) (act : State → Mapping → Answer) (minds : ICache → Bool) :
      ∃ o', (s.withSignals o).lockConditions (s.eaX ra rb) act minds = act (s.withSignals o') m := by
    have run := State.lockConditions_unminded (s := s.withSignals o) (act := act) (minds := minds) h hd hp hm he ht ha
      (.inl (by simp only [State.withSignals_ic, hc, Option.isSome_some]))
    rw [State.reportTags_eq] at run
    exact ⟨_, run⟩
  obtain ⟨o, run⟩ := acts (s.command 14 (s.eaX ra rb)).cur.signals (fun t m => t.lockLine (s.eaX ra rb) m) fun _ => true
  obtain ⟨o', run'⟩ := acts (s.command 13 (s.eaX ra rb)).cur.signals (fun t m => t.unlockLine (s.eaX ra rb) m)
    fun c => c.lockedError (s.eaX ra rb)
  exact ⟨⟨_, (State.cacheLock_on on).trans (run.trans (State.lockLine_hit hc)), State.setLock_spec rfl hw o true⟩,
    ⟨_, (State.cacheUnlock_on on).trans (run'.trans (State.unlockLine_hit hc)), State.setLock_spec rfl hw o' false⟩⟩

/-- With ICEA = 00 and no clean match icbtls takes the machine check; icblc does so if a locked line is in error. -/
theorem runs_icbtls_checked (ha : s.ic.action = 0) (hc : s.ic.cleanWay (s.eaX ra rb) (m.real (s.eaX ra rb)) = none) :
    Runs (.icbtls 0 ra rb) s fun t => s.CacheChecked t 0x04000000 (m.real (s.eaX ra rb)) ∧ t.ic = s.ic := by
  have run := State.lockConditions_checked (s := s.command 14 (s.eaX ra rb))
    (act := fun t m => t.lockLine (s.eaX ra rb) m) (minds := fun _ => true) h hd hp hm he ht ha hc rfl
  rw [State.reportTags_eq] at run
  exact ⟨_, (State.cacheLock_on on).trans run, s.cacheChecked_withSignals _ (async := oneBit 5) _ (by decide),
    State.cacheCheck_ic _ _ _⟩

theorem runs_icblc_checked (ha : s.ic.action = 0) (hc : s.ic.cleanWay (s.eaX ra rb) (m.real (s.eaX ra rb)) = none)
    (hl : s.ic.lockedError (s.eaX ra rb) = true) :
    Runs (.icblc 0 ra rb) s fun t => s.CacheChecked t 0x04000000 (m.real (s.eaX ra rb)) ∧ t.ic = s.ic := by
  have run := State.lockConditions_checked (s := s.command 13 (s.eaX ra rb))
    (act := fun t m => t.unlockLine (s.eaX ra rb) m) (minds := fun c => c.lockedError (s.eaX ra rb)) h hd hp hm he ht ha hc hl
  rw [State.reportTags_eq] at run
  exact ⟨_, (State.cacheUnlock_on on).trans run, s.cacheChecked_withSignals _ (async := oneBit 5) _ (by decide),
    State.cacheCheck_ic _ _ _⟩

theorem runs_icblc_unminded (ha : s.ic.action = 0) (hc : s.ic.cleanWay (s.eaX ra rb) (m.real (s.eaX ra rb)) = none)
    (hl : s.ic.lockedError (s.eaX ra rb) = false) : Runs (.icblc 0 ra rb) s fun t => s.Signalled t := by
  have run := State.lockConditions_unminded (s := s.command 13 (s.eaX ra rb))
    (act := fun t m => t.unlockLine (s.eaX ra rb) m) (minds := fun c => c.lockedError (s.eaX ra rb)) h hd hp hm he ht ha (.inr hl)
  rw [State.reportTags_eq] at run
  exact ⟨_, (State.cacheUnlock_on on).trans (run.trans (State.unlockLine_miss hc)), rfl⟩

section
variable {u : State} (ha : s.ic.action = 1)
  (hk : ¬(s.ic.cleanWay (s.eaX ra rb) (m.real (s.eaX ra rb)) = none ∧ s.LockedTagLost (s.eaX ra rb)))
  (hu : u = { s with ic := (s.ic.correctSet (s.ic.setOf (s.eaX ra rb))
    (s.ic.cleanWay (s.eaX ra rb) (m.real (s.eaX ra rb))).isSome).1 })
include ha hk hu

/-- With ICEA = 01 a match of the corrected set is locked or unlocked. -/
theorem runs_locks_correctedHit (hc : u.ic.cleanWay (s.eaX ra rb) (m.real (s.eaX ra rb)) = some w) :
    (Runs (.icbtls 0 ra rb) s fun t =>
      t.ic.line (s.ic.setOf (s.eaX ra rb)) w = { u.ic.line (s.ic.setOf (s.eaX ra rb)) w with l := true } ∧
      u.KeepsOtherLines t (s.ic.setOf (s.eaX ra rb)) w ∧
      t = { s with ic.lines := t.ic.lines, cur.signals := t.cur.signals, pc := s.pc + 4 }) ∧
    Runs (.icblc 0 ra rb) s fun t =>
      t.ic.line (s.ic.setOf (s.eaX ra rb)) w = { u.ic.line (s.ic.setOf (s.eaX ra rb)) w with l := false } ∧
      u.KeepsOtherLines t (s.ic.setOf (s.eaX ra rb)) w ∧
      t = { s with ic.lines := t.ic.lines, cur.signals := t.cur.signals, pc := s.pc + 4 } := by
  have acts (o : List OutputEvent) (act : State → Mapping → Answer) (minds : ICache → Bool) :=
    State.lockConditions_kept (act := act) (minds := minds) h hd hp hm he ht o ha hk
  have swept := (ICache.correctSet_spec (s.ic.setOf_lt (s.eaX ra rb))
    (s.ic.cleanWay (s.eaX ra rb) (m.real (s.eaX ra rb))).isSome).1
  subst hu
  generalize (s.ic.correctSet (s.ic.setOf (s.eaX ra rb))
    (s.ic.cleanWay (s.eaX ra rb) (m.real (s.eaX ra rb))).isSome).1 = d at acts swept hc
  have hw : w < s.ic.ways := swept.geometry.2 ▸ ICache.cleanWay_some hc
  have setOf : d.setOf (s.eaX ra rb) = s.ic.setOf (s.eaX ra rb) := by
    rw [swept.only]
    rfl
  obtain ⟨o, run⟩ := acts (s.command 14 (s.eaX ra rb)).cur.signals (fun t m => t.lockLine (s.eaX ra rb) m) fun _ => true
  obtain ⟨o', run'⟩ := acts (s.command 13 (s.eaX ra rb)).cur.signals (fun t m => t.unlockLine (s.eaX ra rb) m)
    fun c => c.lockedError (s.eaX ra rb)
  have locked := State.lockLine_hit (s := { s.withSignals o with ic := d }) hc
  have unlocked := State.unlockLine_hit (s := { s.withSignals o' with ic := d }) hc
  simp only [setOf] at locked unlocked
  exact ⟨⟨_, (State.cacheLock_on on).trans (run.trans locked), State.setLock_spec swept.only hw o true⟩,
    ⟨_, (State.cacheUnlock_on on).trans (run'.trans unlocked), State.setLock_spec swept.only hw o' false⟩⟩

/-- With ICEA = 01 and no match in the corrected set they go on as on the corrected set itself. -/
theorem runs_locks_correctedMiss (hc : u.ic.cleanWay (s.eaX ra rb) (m.real (s.eaX ra rb)) = none) :
    ¬u.TagError (s.eaX ra rb) ∧
      (Runs (.icbtls 0 ra rb) s fun t => Runs (.icbtls 0 ra rb) u fun v => t = { v with cur.signals := t.cur.signals }) ∧
      Runs (.icblc 0 ra rb) s fun t => Runs (.icblc 0 ra rb) u fun v => t = { v with cur.signals := t.cur.signals } := by
  have acts (o : List OutputEvent) (act : State → Mapping → Answer) (minds : ICache → Bool) :=
    State.lockConditions_kept (act := act) (minds := minds) h hd hp hm he ht o ha hk
  have unclean : s.ic.cleanWay (s.eaX ra rb) (m.real (s.eaX ra rb)) = none := by
    rw [hu] at hc
    exact ICache.cleanWay_corrected ht.1 hc
  have swept := (ICache.correctSet_spec (s.ic.setOf_lt (s.eaX ra rb)) false).1
  have good := State.not_tagError_corrected (s := s) (ea := s.eaX ra rb) he (o := s.cur.signals)
  subst hu
  simp only [unclean, Option.isSome_none] at acts hc ⊢
  generalize (s.ic.correctSet (s.ic.setOf (s.eaX ra rb)) false).1 = d at acts swept hc good
  have edt : d.edt < 2 := swept.edt_eq.symm ▸ he
  have enabled : d.enabled = true := by
    rw [swept.only]
    exact on
  have again (o : List OutputEvent) (act : State → Mapping → Answer) (minds : ICache → Bool) :
      (State.withSignals { s with ic := d } o).lockConditions (s.eaX ra rb) act minds =
        act (State.withSignals { s with ic := d } o) m := by
    have h' : (State.withSignals { s with ic := d } o).lookup (bit (State.withSignals { s with ic := d } o).msr 27)
      (s.eaX ra rb) = some m := h
    refine State.lockConditions_clean h' ?_ ?_ hm ?_ ?_
    · exact hd
    · exact hp
    · exact edt
    · exact good
  refine ⟨good, ?_, ?_⟩
  · obtain ⟨o, run⟩ := acts (s.command 14 (s.eaX ra rb)).cur.signals (fun t m => t.lockLine (s.eaX ra rb) m) fun _ => true
    obtain ⟨t, o₁, ht, hto⟩ := State.lockLine_withSignals (s := { s with ic := d }) edt o (s.eaX ra rb) m
    obtain ⟨v, o₂, hv, hvo⟩ := State.lockLine_withSignals (s := { s with ic := d }) edt
      (s.command 14 (s.eaX ra rb)).cur.signals (s.eaX ra rb) m
    obtain rfl : t = v := by simpa [ht] using hv
    exact ⟨_, (State.cacheLock_on on).trans (run.trans hto), _,
      (State.cacheLock_on (s := { s with ic := d }) enabled).trans ((again _ _ _).trans hvo), rfl⟩
  · obtain ⟨o, run⟩ := acts (s.command 13 (s.eaX ra rb)).cur.signals (fun t m => t.unlockLine (s.eaX ra rb) m)
      fun c => c.lockedError (s.eaX ra rb)
    have missed (o : List OutputEvent) := State.unlockLine_miss (s := { s with ic := d }.withSignals o) hc
    exact ⟨_, (State.cacheUnlock_on on).trans (run.trans (missed o)), _,
      (State.cacheUnlock_on (s := { s with ic := d }) enabled).trans ((again _ _ _).trans (missed _)), rfl⟩

end

end

/-! ## A set without tag errors that does not hold the line -/

section
variable (ht : ¬s.TagError (s.eaX ra rb)) (hw : s.ic.hitWay (s.eaX ra rb) (m.real (s.eaX ra rb)) = none)
include ht hw

theorem runs_icblc_missed : Runs (.icblc 0 ra rb) s fun t => s.Signalled t := by
  have clean := State.lockConditions_clean (s := s.command 13 (s.eaX ra rb)) (act := fun t m => t.unlockLine (s.eaX ra rb) m)
    (minds := fun c => c.lockedError (s.eaX ra rb)) h hd hp hm he ht
  have miss := (ICache.cleanWay_of_noTagError ht).trans hw
  exact ⟨_, (State.cacheUnlock_on on).trans (clean.trans (State.unlockLine_miss (s := s.command 13 _) miss)), rfl⟩

/-- icbtls of a line that is not there fills, or says in L1CSR1 why it does not. -/
theorem exec_icbtls_missed : exec (.icbtls 0 ra rb) s = (s.command 14 (s.eaX ra rb)).lockLine (s.eaX ra rb) m ∧
    s.ic.cleanWay (s.eaX ra rb) (m.real (s.eaX ra rb)) = none :=
  ⟨(State.cacheLock_on on).trans (State.lockConditions_clean (s := s.command 14 (s.eaX ra rb))
    (act := fun t m => t.lockLine (s.eaX ra rb) m) (minds := fun _ => true) h hd hp hm he ht),
    (ICache.cleanWay_of_noTagError ht).trans hw⟩

theorem runs_icbtls_inhibited (hi : m.entry.i = true) : Runs (.icbtls 0 ra rb) s fun t =>
    t = { s with ic.l1csr1 := s.ic.l1csr1 ||| 0x400, cur.signals := t.cur.signals, pc := s.pc + 4 } := by
  obtain ⟨run, miss⟩ := exec_icbtls_missed on h hd hp hm he ht hw
  exact ⟨_, run.trans (State.lockLine_inhibited (s := s.command 14 _) miss hi), rfl⟩

variable (hi : m.entry.i = false)
include hi

theorem runs_icbtls_disabled (hn : ∀ k, k < s.ic.ways → bit s.ic.l1csr0 k = true) : Runs (.icbtls 0 ra rb) s fun t =>
    t = { s with ic.l1csr1 := s.ic.l1csr1 ||| 0x400, cur.signals := t.cur.signals, pc := s.pc + 4 } := by
  obtain ⟨run, miss⟩ := exec_icbtls_missed on h hd hp hm he ht hw
  exact ⟨_, run.trans (State.lockLine_disabled (s := s.command 14 _) miss hi hn), rfl⟩

/-- A bus error of the fill of icbtls leaves the way invalid and takes the machine check. -/
theorem runs_icbtls_dropped (hway : s.ic.NextWay (s.ic.setOf (s.eaX ra rb)) false w)
    (hl : s.lineError (m.real (s.eaX ra rb)) = true) : Runs (.icbtls 0 ra rb) s fun t =>
      s.CacheChecked t 0x10 (m.real (s.eaX ra rb)) ∧ s.Dropped t (s.ic.setOf (s.eaX ra rb)) w ∧
      t.ic = { s.ic with lines := t.ic.lines } := by
  obtain ⟨run, miss⟩ := exec_icbtls_missed on h hd hp hm he ht hw
  have drop := State.lockLine_dropped (s := s.command 14 (s.eaX ra rb)) miss hi hway hl
  generalize ho : ((s.command 14 (s.eaX ra rb)).fetchRequest (m.real (s.eaX ra rb)) 32 m.entry (some w)).cur.signals = o at drop
  have requested : (s.command 14 (s.eaX ra rb)).fetchRequest (m.real (s.eaX ra rb)) 32 m.entry (some w) = s.withSignals o :=
    ho ▸ rfl
  rw [requested] at drop
  obtain ⟨dropped, only⟩ := State.onlyDropped_dropLine (ea := s.eaX ra rb) he (ICache.nextWay_lt hway) o
  have cache := State.cacheCheck_ic ((s.withSignals o).dropLine (s.eaX ra rb) w) (oneBit 27) (m.real (s.eaX ra rb))
  refine ⟨_, run.trans drop, ?_, ?_, ?_⟩
  · exact s.cacheChecked_cacheCheck o _ (async := oneBit 27) _ (by decide)
  · rw [State.Dropped, State.KeepsOtherLines, cache]
    exact dropped
  · rw [cache]
    exact congrArg State.ic only

section
variable (hf : ∀ k, k < s.ic.ways → ¬s.ic.Available (s.ic.setOf (s.eaX ra rb)) false k)
  (hway : s.ic.NextWay (s.ic.setOf (s.eaX ra rb)) true w)
include hf hway

theorem runs_icbtls_overflow (ho : bit s.ic.l1csr1 24 = false) : Runs (.icbtls 0 ra rb) s fun t =>
    t = { s with ic.l1csr1 := s.ic.l1csr1 ||| 0x200, cur.signals := t.cur.signals, pc := s.pc + 4 } := by
  obtain ⟨run, miss⟩ := exec_icbtls_missed on h hd hp hm he ht hw
  exact ⟨_, run.trans (State.lockLine_overflow (s := s.command 14 _) miss hi hf hway ho), rfl⟩

theorem runs_icbtls_overlocks (ho : bit s.ic.l1csr1 24 = true) (hl : s.lineError (m.real (s.eaX ra rb)) = false) :
    Runs (.icbtls 0 ra rb) s fun t =>
      s.Filled t (s.ic.setOf (s.eaX ra rb)) w (m.real (s.eaX ra rb)) true ∧
      t = { s with
        ic := { s.ic with lines := t.ic.lines, replace := t.ic.replace, l1csr1 := s.ic.l1csr1 ||| 0x200 }
        cur.signals := t.cur.signals
        pc := s.pc + 4 } := by
  obtain ⟨run, miss⟩ := exec_icbtls_missed on h hd hp hm he ht hw
  have fill := State.lockLine_overlocks (s := s.command 14 (s.eaX ra rb)) miss hi hf hway ho hl
  generalize hsig : ((s.command 14 (s.eaX ra rb)).setIclo.fetchRequest (m.real (s.eaX ra rb)) 32 m.entry
    (some w)).cur.signals = o at fill
  have requested : (s.command 14 (s.eaX ra rb)).setIclo.fetchRequest (m.real (s.eaX ra rb)) 32 m.entry (some w) =
    s.setIclo.withSignals o := hsig ▸ rfl
  rw [requested] at fill
  obtain ⟨filled, frame⟩ := State.filled_setIclo (ea := s.eaX ra rb) (real := m.real (s.eaX ra rb)) he
    (ICache.nextWay_lt hway) o true
  exact ⟨_, run.trans fill, ⟨⟨filled.tag, filled.valid, filled.locked, filled.data, filled.tagCheck, filled.dataCheck,
    filled.others⟩, filled.next⟩, congrArg (State.advance · 4) frame⟩

end

end

end

end Sys2Proof.Machine
end

section
/-! SUPPORT. The claim about cache conditions and commands, put together from its clauses. -/

namespace Sys2Proof.Machine

theorem Mapping.mayTouch_iff (m : Mapping) (user : Bool) :
    m.mayTouch user = true ↔ m.mayRead user = true ∨ m.mayExecute user = true := by
  simp [Mapping.mayTouch]

theorem Mapping.mayTouch_false {m : Mapping} {user : Bool} (hr : m.mayRead user = false) (hx : m.mayExecute user = false) :
    m.mayTouch user = false := by
  simp [Mapping.mayTouch, hr, hx]

end Sys2Proof.Machine

namespace Sys2Proof.Proofs
open Sys2Proof.Machine

/-- Settles O43: each clause is the branch of the cache instruction or command that its conditions select. -/
theorem cacheConditionsAndCommands : Obligations.CacheConditionsAndCommands := by
  unfold Obligations.CacheConditionsAndCommands
  intro s ct r ra rb f ea set v on line linesOnly statusOnly
  refine ⟨fun hoff => ⟨runs_icbt_off (hoff.imp_right .inl), ?_, ?_⟩, fun hn => runs_icbt_off (.inr (.inr hn)),
    fun hon h => ⟨runs_icbt_missed h, ?_, runs_locks_missed hon h⟩, fun m hon h => ?_, fun hs hf => ?_, fun hs hf => ?_⟩
  · exact ⟨_, State.cacheUnlock_off ct hoff, rfl⟩
  · exact ⟨_, State.cacheLock_off ct hoff, rfl⟩
  · exact ⟨_, State.cacheInvalidate_missed hon h, s.interrupted_missed _ _⟩
  · intro real
    refine ⟨fun hr => ?_, fun hr hx hm => ?_, fun hd => runs_locks_denied hon h hd,
      fun hd hr hx => runs_locks_forbidden hon h hd (Mapping.mayTouch_false hr hx), ?_⟩
    · exact ⟨_, State.cacheInvalidate_denied hon h hr, s.interrupted_refused _ _⟩
    · have untouched : ¬m.mayTouch s.userMode = true := by simp [Mapping.mayTouch_false hr hx]
      exact runs_icbt_unfilled h hm (fun hp => absurd hp untouched) fun hp => absurd hp untouched
    · intro touch
      have allowed : touch → m.mayTouch s.userMode = true := (m.mayTouch_iff s.userMode).2
      refine ⟨fun hc he => ⟨fun hr => State.cacheInvalidate_reserved hon h hr hc he,
        fun hp hn => exec_icbt_reserved hon hn h (allowed hp) hc he,
        fun hp hd => exec_locks_reserved hon h hd (allowed hp) hc he⟩, fun hm hc he herr => ?_, fun hp ht he hm hw => ?_⟩
      · have ht : s.TagError ea := ⟨hc, herr⟩
        refine ⟨runs_icbt_unfilled h hm (fun _ => he) fun _ hno => absurd ht hno,
          fun hr _ => runs_icbi_checked hon h hm hr hc he, fun hd hp => ?_⟩
        have hp := allowed hp
        refine ⟨exec_locks_reservedAction hon h hd hp hm he ht, fun ha hk u hu ho hl => ?_,
          fun k ha hk => runs_locks_cleanHit hon h hd hp hm he ht ha hk, fun hn => ⟨fun ha => ?_, fun ha hl => ?_,
          fun ha hl => ?_, fun ha hl => ?_⟩⟩
        · have hu := State.eq_corrected hu ho hl
          exact ⟨fun k hc => runs_locks_correctedHit hon h hd hp hm he ht ha hk hu hc,
            fun hc => runs_locks_correctedMiss hon h hd hp hm he ht ha hk hu hc⟩
        · exact runs_icbtls_checked hon h hd hp hm he ht ha hn
        · exact runs_icblc_checked hon h hd hp hm he ht ha hn (ICache.lockedError_iff.2 hl)
        · refine runs_icblc_unminded hon h hd hp hm he ht ha hn ?_
          rw [← Bool.not_eq_true, ICache.lockedError_iff]
          rintro ⟨k, hk, hke, hkl⟩
          exact Bool.false_ne_true ((hl k hk hke).symm.trans hkl)
        · have swept := (ICache.correctSet_spec (s.ic.setOf_lt ea) false).1
          refine runs_locks_lost hon h hd hp hm he ht ha hn hl fun t ht hic => ⟨ht, fun j k hj hk hne => ?_, fun k hk => ?_⟩
          · rw [hic]
            exact swept.line_other hj hk hne
          · rw [hic]
            exact swept.line_set (s.ic.setOf_lt ea) hk
      · have hp := allowed hp
        have unavailable (hf : ∀ k, k < s.ic.ways → ¬s.ic.Available set false k) :=
          ICache.candidates_nil s.ic.ways_pos hf
        refine ⟨fun hi => ⟨?_, fun hd => runs_icblc_missed hon h hd hp hm he ht hw,
          fun hd => runs_icbtls_inhibited hon h hd hp hm he ht hw hi⟩,
          fun hi hf => ⟨?_, fun hd hn => runs_icbtls_disabled hon h hd hp hm he ht hw hi hn, fun w hd hway =>
            ⟨fun ho => runs_icbtls_overflow hon h hd hp hm he ht hw hi hf hway ho,
              fun ho hl => runs_icbtls_overlocks hon h hd hp hm he ht hw hi hf hway ho hl⟩⟩,
          fun w hi hway hl => ⟨fun hn => runs_icbt_dropped h hm hp he ht hw hi hon hn hway hl,
            fun hd => runs_icbtls_dropped hon h hd hp hm he ht hw hi hway hl⟩⟩
        · exact runs_icbt_unfilled h hm (fun _ => he) fun _ _ _ hi' => absurd (hi.symm.trans hi') (by decide)
        · exact runs_icbt_unfilled h hm (fun _ => he) fun _ _ _ _ => unavailable hf
  · intro way set command kept
    refine ⟨fun hw hset hc => runs_l1finv1_invalidate hs hf hw hset hc, fun hw hset hc => ?_, fun hu => ?_⟩
    · have run := (exec_mtspr_l1finv1 (r := r) hs hf).trans (by rw [ICache.writeL1finv1_replace s.freeCtr hw hset hc])
      refine ⟨_, run, ?_, rfl, rfl⟩
      have := s.ic.ways_le
      exact (BitVec.toNat_ofNat way 2).trans (Nat.mod_eq_of_lt (by omega))
    · rw [exec_mtspr_l1finv1 hs hf, ICache.writeL1finv1_undefined s.freeCtr hu]
  · refine ⟨fun hg => ?_, fun hg => ?_⟩
    · have run := (exec_mtdcr_cdacntl (r := r) hs hf).trans (by rw [ICache.writeCdacntl_store hg])
      exact ⟨_, run, rfl⟩
    · rw [exec_mtdcr_cdacntl hs hf, ICache.writeCdacntl_undefined hg]

end Sys2Proof.Proofs
end

section
/-! SUPPORT. Rows of the opcode table that exclude one another: a decision tree over the bits of the word. -/

namespace Sys2Proof

/-! ## Two rows -/

theorem Row.excludes_comm (r q : Row) : r.excludes q = q.excludes r := by
  unfold Row.excludes
  rw [BitVec.and_comm r.mask, BitVec.xor_comm r.bits]

/-- Rows that hold different values of one bit exclude one another. -/
theorem Row.excludes_of_bit {r q : Row} {k : Nat} (hr : r.mask.getLsbD k = true) (hq : q.mask.getLsbD k = true)
    (hne : r.bits.getLsbD k ≠ q.bits.getLsbD k) : r.excludes q = true := by
  unfold Row.excludes
  rw [bne_iff_ne]
  intro h
  have bit := congrArg (fun w : Word => w.getLsbD k) h
  simp only [BitVec.getLsbD_and, BitVec.getLsbD_xor, hr, hq, Bool.true_and, BitVec.ofNat_eq_ofNat, BitVec.getLsbD_zero,
    bne_eq_false_iff_eq] at bit
  exact hne bit

/-! ## The decision tree -/

/-- At most one row is left at each leaf of the tree that splits rows by the bits ks in turn, where a bit is passed over if
some row at hand does not hold it. -/
def Row.separated : List Nat → List Row → Bool
  | _, [] => true
  | _, [_] => true
  | [], _ :: _ :: _ => false
  | k :: ks, rows@(_ :: _ :: _) =>
    if rows.all fun r => r.mask.getLsbD k then
      separated ks (rows.filter fun r => r.bits.getLsbD k) && separated ks (rows.filter fun r => !r.bits.getLsbD k)
    else separated ks rows

/-- The leaves of the tree exclude one another. -/
theorem Row.pairwise_of_separated {ks : List Nat} {rows : List Row} (h : Row.separated ks rows = true) :
    rows.Pairwise fun r q => r.excludes q = true := by
  induction ks, rows using Row.separated.induct with
  | case1 => exact .nil
  | case2 => exact List.pairwise_singleton _ _
  | case3 => simp [Row.separated] at h
  | case4 k ks r q rows hk set clear =>
    rw [Row.separated, if_pos hk, Bool.and_eq_true] at h
    have apart := List.filter_append_perm (fun r : Row => r.bits.getLsbD k) (r :: q :: rows)
    rw [← apart.pairwise_iff fun hxy => (Row.excludes_comm _ _).trans hxy, List.pairwise_append]
    refine ⟨set h.1, clear h.2, fun x hx y hy => ?_⟩
    rw [List.all_eq_true] at hk
    rw [List.mem_filter] at hx hy
    exact Row.excludes_of_bit (hk x hx.1) (hk y hy.1) (by simp_all)
  | case5 k ks r q rows hk rest =>
    rw [Row.separated, if_neg hk] at h
    exact rest h

/-- The bits of a word from the most significant down, twice: most rows hold the low bits only once those with long operands
are told apart. -/
def wordBits : List Nat := (List.range 32).reverse ++ (List.range 32).reverse

theorem separated_rowsOf (p : Page) : Row.separated wordBits (rowsOf p) = true := by
  cases p <;> decide +kernel

end Sys2Proof

namespace Sys2Proof.Proofs
open Sys2Proof.Machine

/-- Settles O8: the rows of each page are the leaves of a decision tree over the bits of the word. -/
theorem rowsExcludeOneAnother : Obligations.RowsExcludeOneAnother := by
  unfold Obligations.RowsExcludeOneAnother
  exact fun p => Row.pairwise_of_separated (separated_rowsOf p)

end Sys2Proof.Proofs
end

section
/-! SUPPORT. The rows of the opcode table and the encoder: every instruction has a row that reads it back from its encoding. -/

namespace Sys2Proof

/-! ## Places in the table -/

/-- The rows of Book E pages other than primary opcode 4, in the parts in which they are written down. -/
noncomputable def baseParts : List (List Row) := [baseRows1, baseRows2, baseRows3, baseRows4, baseRows5, baseRows6]

/-- The rows of primary opcode 4, in the parts in which they are written down. -/
noncomputable def op4Parts : List (List Row) :=
  [op4Rows1, op4Rows2, op4Rows3, op4Rows4, op4Rows5, op4Rows6, op4Rows7]

theorem baseParts_flatten : baseParts.flatten = baseRows := by simp [baseParts, baseRows]

theorem op4Parts_flatten : op4Parts.flatten = op4Rows := by simp [op4Parts, op4Rows]

theorem baseRows_all (f : Row → Bool) : baseRows.all f = baseParts.all fun part => part.all f := by
  rw [← baseParts_flatten, List.all_flatten]

theorem op4Rows_all (f : Row → Bool) : op4Rows.all f = op4Parts.all fun part => part.all f := by
  rw [← op4Parts_flatten, List.all_flatten]

/-- Row n of rows in parts of 40. -/
def rowAt (parts : List (List Row)) (n : Nat) : Option Row := parts[n / 40]?.bind (·[n % 40]?)

theorem mem_of_rowAt {parts : List (List Row)} {n : Nat} {r : Row} (h : rowAt parts n = some r) : r ∈ parts.flatten := by
  obtain ⟨part, hpart, hr⟩ := Option.bind_eq_some_iff.1 h
  exact List.mem_flatten.2 ⟨part, List.mem_of_getElem? hpart, List.mem_of_getElem? hr⟩

/-- The row of constructor n of Instr. The constructors are in the order of the table: 216 rows of Book E pages, 7 of 16 bits,
15 of VLE pages, and the rows of primary opcode 4. -/
noncomputable def tableRow (n : Nat) : Option Row :=
  if n < 216 then rowAt baseParts n
  else if n < 238 then vle32Rows[n - 223]?
  else rowAt op4Parts (n - 238)

theorem mem_of_tableRow {n : Nat} {r : Row} (h : tableRow n = some r) : r ∈ baseRows ∨ r ∈ vle32Rows ∨ r ∈ op4Rows := by
  rw [← baseParts_flatten, ← op4Parts_flatten]
  unfold tableRow at h
  split at h
  · exact .inl (mem_of_rowAt h)
  · split at h
    · exact .inr (.inl (List.mem_of_getElem? h))
    · exact .inr (.inr (mem_of_rowAt h))

/-- Such a row is one of the pages of its instruction. -/
theorem mem_rowsOf_of_tableRow {n : Nat} {r : Row} (h : tableRow n = some r) (w : Word) : r ∈ rowsOf (r.build w).page := by
  have base : baseRows.all (fun r => (r.build w).page = .bookE) = true := by
    rw [baseRows_all]
    rfl
  have vle : vle32Rows.all (fun r => (r.build w).page = .vle) = true := rfl
  have op4 : op4Rows.all (fun r => (r.build w).page = .bookE) = true := by
    rw [op4Rows_all]
    rfl
  rcases mem_of_tableRow h with hr | hr | hr
  · rw [of_decide_eq_true (List.all_eq_true.1 base r hr)]
    exact List.mem_append_left _ hr
  · rw [of_decide_eq_true (List.all_eq_true.1 vle r hr)]
    exact List.mem_append_right _ hr
  · rw [of_decide_eq_true (List.all_eq_true.1 op4 r hr)]
    exact List.mem_append_right _ hr

/-! ## Reading back what the encoder wrote -/

/-- A reader of fields, beside the word in which the encoder placed their values: the word holds x, y, … beside its opcode bits,
and the reader makes f x y … of the same fields. Each field is listed by its first bit and its width, the last one first. -/
inductive Reads (bits : Word) : {α : Type} → List (Nat × Nat) → (Word → α) → Word → α → Prop
  | opcode {α : Type} {c : α} : Reads bits [] (fun _ => c) bits c
  | operand {α : Type} {fs : List (Nat × Nat)} {a n : Nat} {read : Word → BitVec n → α} {w : Word} {f : BitVec n → α}
      {x : BitVec n} (h : Reads bits fs read w f) :
      Reads bits ((a, n) :: fs) (fun v => read v (field a n v)) (w ||| place a n x) (f x)

/-- The fields of a row lie in the word, outside its mask and its opcode bits, and beside one another. -/
def Row.fits (r : Row) : List (Nat × Nat) → Bool
  | [] => r.bits &&& r.mask == r.bits
  | (a, n) :: fs =>
    decide (a + n ≤ 32) && place a n (BitVec.allOnes n) &&& r.mask == 0 && field a n r.bits == 0 &&
      fs.all (fun g => decide (g.1 + g.2 ≤ 32 ∧ (a + n ≤ g.1 ∨ g.1 + g.2 ≤ a))) && r.fits fs

theorem Row.fits_cons {r : Row} {a n : Nat} {fs : List (Nat × Nat)} (h : r.fits ((a, n) :: fs) = true) :
    a + n ≤ 32 ∧ place a n (BitVec.allOnes n) &&& r.mask = 0 ∧ field a n r.bits = 0 ∧
      (∀ b m, (b, m) ∈ fs → b + m ≤ 32 ∧ (a + n ≤ b ∨ b + m ≤ a)) ∧ r.fits fs = true := by
  simp only [Row.fits, Bool.and_eq_true, decide_eq_true_eq, beq_iff_eq, List.all_eq_true] at h
  obtain ⟨⟨⟨⟨hin, hmask⟩, hbits⟩, hapart⟩, hfits⟩ := h
  exact ⟨hin, hmask, hbits, fun b m hg => hapart (b, m) hg, hfits⟩

section
variable {α : Type} {fs : List (Nat × Nat)} {read : Word → α} {w : Word} {x : α}

/-- A field beside those of the operands holds opcode bits. -/
theorem Reads.field_other {bits : Word} (h : Reads bits fs read w x) {a n : Nat} (hin : a + n ≤ 32)
    (hapart : ∀ b m, (b, m) ∈ fs → b + m ≤ 32 ∧ (a + n ≤ b ∨ b + m ≤ a)) : field a n w = field a n bits := by
  induction h with
  | opcode => rfl
  | @operand _ fs b m _ w _ y _ ih =>
    obtain ⟨hb, hd⟩ := hapart b m List.mem_cons_self
    rw [field_or, ih fun b m hg => hapart b m (List.mem_cons_of_mem _ hg), field_place_other a n b m y hin hb hd]
    exact BitVec.or_zero

/-- The operands leave the bits of the mask as the opcode has them. -/
theorem Reads.and_mask {r : Row} (h : Reads r.bits fs read w x) (hfits : r.fits fs = true) : w &&& r.mask = r.bits := by
  induction h with
  | opcode => exact beq_iff_eq.1 hfits
  | @operand _ fs b m _ w _ y _ ih =>
    obtain ⟨hin, hmask, -, -, hrest⟩ := Row.fits_cons hfits
    rw [BitVec.and_or_distrib_right, ih hrest, place_and_of_disjoint _ _ _ _ hin hmask]
    exact BitVec.or_zero

/-- A word with the same fields is read as the same value. -/
theorem Reads.read_eq {r : Row} (h : Reads r.bits fs read w x) (hfits : r.fits fs = true) (v : Word)
    (hv : ∀ b m, (b, m) ∈ fs → field b m v = field b m w) : read v = x := by
  induction h with
  | opcode => rfl
  | @operand _ fs a n _ w _ y h ih =>
    obtain ⟨hin, -, hbits, hapart, hrest⟩ := Row.fits_cons hfits
    have last : field a n v = y := by
      rw [hv a n List.mem_cons_self, field_or, field_place_same a n y hin, h.field_other hin hapart, hbits]
      exact BitVec.zero_or
    have others (b m : Nat) (hg : (b, m) ∈ fs) : field b m v = field b m w := by
      obtain ⟨hb, hd⟩ := hapart b m hg
      rw [hv b m (List.mem_cons_of_mem _ hg), field_or, field_place_other b m a n y hb hin hd.symm]
      exact BitVec.or_zero
    exact congr (ih hrest others) last

end

/-- The row holds the encoding of the instruction and reads the instruction from it. -/
def Row.ReadsBack (r : Row) (i : Instr) : Prop := r.hit (encodeWord i) = true ∧ r.build (encodeWord i) = i

theorem Row.readsBack_of_reads {r : Row} {i : Instr} {fs : List (Nat × Nat)} (h : Reads r.bits fs r.build (encodeWord i) i)
    (hfits : r.fits fs = true) : r.ReadsBack i :=
  ⟨beq_iff_eq.2 (h.and_mask hfits), h.read_eq hfits _ fun _ _ _ => rfl⟩

/-! ## Every instruction has a row -/

/-- The row of a 16-bit instruction, in vle16Rows. -/
def Instr.HasHalfRow (i : Instr) : Prop :=
  i.isShort = true ∧ i.page = .vle ∧ ((encodeWord i).setWidth 16, i) ∈ vle16Rows

/-- The row of a 32-bit instruction: the fields in which the encoder places the operands are those that the row reads. -/
def Instr.HasRow (i : Instr) : Prop :=
  ∃ r fs, tableRow i.ctorIdx = some r ∧ Reads r.bits fs r.build (encodeWord i) i ∧ r.fits fs = true

/-- The instructions outside primary opcode 4, by the number of their operands. -/
theorem Instr.hasRow_of_lt {i : Instr} (h : i.ctorIdx < 238) : i.HasHalfRow ∨ i.HasRow := by
  cases i with
    dsimp only [Instr.HasRow, Instr.ctorIdx, encodeWord] at h ⊢
  | seIsync | seSc | seRfi | seRfci | seRfdi | seRfmci | seDnh => exact .inl ⟨rfl, rfl, by decide⟩
  | isync | msync | rfci | rfdi | rfi | rfmci | sc | tlbre | tlbsync | tlbwe | wait =>
    exact .inr ⟨_, _, rfl, .opcode, by decide +kernel⟩
  | b | ba | bl | bla | mbar | mcrxr | mfcr | mfmsr | mtmsr | wrtee | wrteei =>
    exact .inr ⟨_, _, rfl, .operand .opcode, by decide +kernel⟩
  | addme | addmeRc | addmeo | addmeoRc | addze | addzeRc | addzeo | addzeoRc | bcctr | bcctrl | bclr | bclrl | cntlzw
  | cntlzwRc | dcba | dcbf | dcbi | dcbst | dcbz | extsb | extsbRc | extsh | extshRc | icbi | mcrf | mfdcr | mfspr
  | mtcrf | mtdcr | mtspr | neg | negRc | nego | negoRc | subfme | subfmeRc | subfmeo | subfmeoRc | subfze | subfzeRc
  | subfzeo | subfzeoRc | tlbivax | tlbsx | dnh | eDnh | eLmvgprw | eStmvgprw | eLmvsprw | eStmvsprw | eLmvsrrw
  | eStmvsrrw | eLmvcsrrw | eStmvcsrrw | eLmvdsrrw | eStmvdsrrw | eLmvmcsrrw | eStmvmcsrrw =>
    exact .inr ⟨_, _, rfl, .operand (.operand .opcode), by decide +kernel⟩
  | add | addRc | addc | addcRc | addco | addcoRc | adde | addeRc | addeo | addeoRc | addi | addic | addicRc | addis
  | addo | addoRc | and | andRc | andc | andcRc | andiRc | andisRc | bc | bca | bcl | bcla | cmp | cmpi | cmpl | cmpli
  | crand | crandc | creqv | crnand | crnor | cror | crorc | crxor | dcblc | dcbt | dcbtls | dcbtst | dcbtstls | divw
  | divwRc | divwo | divwoRc | divwu | divwuRc | divwuo | divwuoRc | eqv | eqvRc | icblc | icbt | icbtls | lbz | lbzu
  | lbzux | lbzx | lha | lhau | lhaux | lhax | lhbrx | lhz | lhzu | lhzux | lhzx | lmw | lwarx | lwbrx | lwz | lwzu
  | lwzux | lwzx | mulhw | mulhwRc | mulhwu | mulhwuRc | mulli | mullw | mullwRc | mullwo | mullwoRc | nand | nandRc
  | nor | norRc | or | orRc | orc | orcRc | ori | oris | slw | slwRc | sraw | srawRc | srawi | srawiRc | srw | srwRc
  | stb | stbu | stbux | stbx | sth | sthbrx | sthu | sthux | sthx | stmw | stw | stwbrx | stwcxRc | stwu | stwux | stwx
  | subf | subfRc | subfc | subfcRc | subfco | subfcoRc | subfe | subfeRc | subfeo | subfeoRc | subfic | subfo | subfoRc
  | tw | twi | xor | xorRc | xori | xoris | lbarx | lharx | stbcxRc | sthcxRc | eLmw | eStmw =>
    exact .inr ⟨_, _, rfl, .operand (.operand (.operand .opcode)), by decide +kernel⟩
  | isel => exact .inr ⟨_, _, rfl, .operand (.operand (.operand (.operand .opcode))), by decide +kernel⟩
  | rlwimi | rlwimiRc | rlwinm | rlwinmRc | rlwnm | rlwnmRc =>
    exact .inr ⟨_, _, rfl, .operand (.operand (.operand (.operand (.operand .opcode)))), by decide +kernel⟩
  | _ => exact absurd h (by decide)

/-- The instructions of primary opcode 4, by the number of their operands. -/
theorem Instr.hasRow_of_opcode4 {i : Instr} (h : 238 ≤ i.ctorIdx) : i.HasRow := by
  cases i with
    dsimp only [Instr.HasRow, Instr.ctorIdx, encodeWord] at h ⊢
  | efsabs | efsnabs | efsneg | efssqrt | efscfui | efscfsi | efscfuf | efscfsf | efscfh | efsctui | efsctsi | efsctuiz
  | efsctsiz | efsctuf | efsctsf | efscth | evfsabs | evfsnabs | evfsneg | evfssqrt | evfscfui | evfscfsi | evfscfuf
  | evfscfsf | evfscfh | evfscth | evfsctui | evfsctsi | evfsctuiz | evfsctsiz | evfsctuf | evfsctsf | evabs | evneg
  | evcntlsw | evcntlzw | evextsb | evextsh | evrndw | evsplatfi | evsplati | evaddsmiaaw | evaddssiaaw | evaddumiaaw
  | evaddusiaaw | evsubfsmiaaw | evsubfssiaaw | evsubfumiaaw | evsubfusiaaw | evmra =>
    exact ⟨_, _, rfl, .operand (.operand .opcode), by decide +kernel⟩
  | efsadd | efssub | efsmul | efsdiv | efsmadd | efsmsub | efsnmadd | efsnmsub | efsmax | efsmin | efscmpgt | efscmplt
  | efscmpeq | efststgt | efststlt | efststeq | evfsadd | evfssub | evfsaddsub | evfssubadd | evfsaddx | evfssubx
  | evfsaddsubx | evfssubaddx | evfssum | evfsdiff | evfssumdiff | evfsdiffsum | evfsmul | evfsmule | evfsmulo | evfsmulx
  | evfsdiv | evfsmadd | evfsmsub | evfsnmadd | evfsnmsub | evfsmax | evfsmin | evfscmpgt | evfscmplt | evfscmpeq
  | evfststgt | evfststlt | evfststeq | brinc | evaddiw | evaddw | evsubfw | evsubifw | evand | evandc | eveqv | evnand
  | evnor | evor | evorc | evxor | evcmpeq | evcmpgts | evcmpgtu | evcmplts | evcmpltu | evmergehi | evmergehilo
  | evmergelo | evmergelohi | evrlw | evrlwi | evslw | evslwi | evsrwis | evsrwiu | evsrws | evsrwu | evdivws | evdivwu
  | evmwhsmf | evmwhsmfa | evmwhsmi | evmwhsmia | evmwhssf | evmwhssfa | evmwhumi | evmwhumia | evmwlsmiaaw | evmwlsmianw
  | evmwlssiaaw | evmwlssianw | evmwlumi | evmwlumia | evmwlumiaaw | evmwlumianw | evmwlusiaaw | evmwlusianw | evmwsmf
  | evmwsmfa | evmwsmfaa | evmwsmfan | evmwsmi | evmwsmia | evmwsmiaa | evmwsmian | evmwssf | evmwssfa | evmwssfaa
  | evmwssfan | evmwumi | evmwumia | evmwumiaa | evmwumian | evmhegsmfaa | evmhegsmfan | evmhegsmiaa | evmhegsmian
  | evmhegumiaa | evmhegumian | evmhesmf | evmhesmfa | evmhesmfaaw | evmhesmfanw | evmhesmi | evmhesmia | evmhesmiaaw
  | evmhesmianw | evmhessf | evmhessfa | evmhessfaaw | evmhessfanw | evmhessiaaw | evmhessianw | evmheumi | evmheumia
  | evmheumiaaw | evmheumianw | evmheusiaaw | evmheusianw | evmhogsmfaa | evmhogsmfan | evmhogsmiaa | evmhogsmian
  | evmhogumiaa | evmhogumian | evmhosmf | evmhosmfa | evmhosmfaaw | evmhosmfanw | evmhosmi | evmhosmia | evmhosmiaaw
  | evmhosmianw | evmhossf | evmhossfa | evmhossfaaw | evmhossfanw | evmhossiaaw | evmhossianw | evmhoumi | evmhoumia
  | evmhoumiaaw | evmhoumianw | evmhousiaaw | evmhousianw | evldd | evlddx | evldw | evldwx | evldh | evldhx | evlwhe
  | evlwhex | evlwhou | evlwhoux | evlwhos | evlwhosx | evlwwsplat | evlwwsplatx | evlwhsplat | evlwhsplatx | evlhhesplat
  | evlhhesplatx | evlhhousplat | evlhhousplatx | evlhhossplat | evlhhossplatx | evstdd | evstddx | evstdw | evstdwx
  | evstdh | evstdhx | evstwhe | evstwhex | evstwho | evstwhox | evstwwe | evstwwex | evstwwo | evstwwox =>
    exact ⟨_, _, rfl, .operand (.operand (.operand .opcode)), by decide +kernel⟩
  | evsel => exact ⟨_, _, rfl, .operand (.operand (.operand (.operand .opcode))), by decide +kernel⟩
  | _ => exact absurd h (by decide)

/-- Every instruction has its row. -/
theorem Instr.hasRow (i : Instr) : i.HasHalfRow ∨ i.HasRow :=
  (Nat.lt_or_ge i.ctorIdx 238).elim Instr.hasRow_of_lt fun h => .inr (Instr.hasRow_of_opcode4 h)

/-! ## What every row has -/

/-- Every row gives an instruction of 32 bits. -/
theorem Row.isShort_build {p : Page} {r : Row} (hr : r ∈ rowsOf p) (w : Word) : (r.build w).isShort = false := by
  have table : (rowsOf p).all (fun r => !(r.build w).isShort) = true := by
    cases p <;> rw [rowsOf, List.all_append, op4Rows_all]
    case bookE =>
      rw [baseRows_all]
      exact Bool.and_eq_true_iff.2 ⟨rfl, rfl⟩
    case vle => exact Bool.and_eq_true_iff.2 ⟨rfl, rfl⟩
  simpa using List.all_eq_true.1 table r hr

/-- Only mbar can be ill-formed, and it is an instruction of Book E pages. -/
theorem Row.wellFormed_build {r : Row} (hr : r ∈ rowsOf .vle) (w : Word) : (r.build w).wellFormed = true := by
  have table : (rowsOf .vle).all (fun r => (r.build w).wellFormed) = true := by
    rw [rowsOf, List.all_append, op4Rows_all]
    exact Bool.and_eq_true_iff.2 ⟨rfl, rfl⟩
  exact List.all_eq_true.1 table r hr

/-- A word that a row holds has the row's value in each bit of its mask. -/
theorem Row.getLsbD_of_hit {r : Row} {w : Word} (h : r.hit w = true) {k : Nat} (hk : r.mask.getLsbD k = true) :
    w.getLsbD k = r.bits.getLsbD k := by
  have masked := congrArg (fun v : Word => v.getLsbD k) (beq_iff_eq.1 h)
  simpa [hk] using masked

/-! ## Decoding -/

theorem isLongVle_word (w : Word) : isLongVle (field 0 8 w ++ field 8 8 w) = (!w.getLsbD 31 && w.getLsbD 28) := by
  have top : (field 0 8 w ++ field 8 8 w).getMsbD 0 = w.getLsbD 31 := by
    rw [BitVec.getMsbD_eq_getLsbD, BitVec.getLsbD_append]
    simp [field]
  have third : (field 0 8 w ++ field 8 8 w).getMsbD 3 = w.getLsbD 28 := by
    rw [BitVec.getMsbD_eq_getLsbD, BitVec.getLsbD_append]
    simp [field]
  rw [isLongVle, top, third]

/-- The rows of a VLE page are of 32-bit instructions by the rule of VLE lengths too. -/
theorem Row.isLongVle_of_hit {r : Row} (hr : r ∈ rowsOf .vle) {w : Word} (h : r.hit w = true) :
    isLongVle (field 0 8 w ++ field 8 8 w) = true := by
  have table : ((rowsOf .vle).all fun r =>
      r.mask.getLsbD 31 && !r.bits.getLsbD 31 && (r.mask.getLsbD 28 && r.bits.getLsbD 28)) = true := by decide +kernel
  have row := List.all_eq_true.1 table r hr
  simp only [Bool.and_eq_true, Bool.not_eq_true'] at row
  obtain ⟨⟨hmask, hbits⟩, hmask', hbits'⟩ := row
  rw [isLongVle_word, Row.getLsbD_of_hit h hmask, Row.getLsbD_of_hit h hmask', hbits, hbits']
  rfl

/-- Four bytes that are no 16-bit instruction are decoded as a word. -/
theorem decodeBytes_word {p : Page} {b0 b1 b2 b3 : Byte} {rest : List Byte} (h : p = .vle → isLongVle (b0 ++ b1) = true) :
    decodeBytes p (b0 :: b1 :: b2 :: b3 :: rest) = (decodeWord p (b0 ++ b1 ++ b2 ++ b3)).map (·, rest) := by
  rw [decodeBytes, if_neg]
  rintro ⟨hp, hshort⟩
  rw [h hp] at hshort
  cases hshort

theorem decodeBytes_wordBytes {p : Page} {w : Word} (h : p = .vle → isLongVle (field 0 8 w ++ field 8 8 w) = true) :
    decodeBytes p (wordBytes w) = (decodeWord p w).map (·, []) := by
  rw [wordBytes, decodeBytes_word h, wordBytes_append]

/-- A word is the instruction of the row that holds it. -/
theorem decodeWord_of_hit {p : Page} {r : Row} {w : Word} (hr : r ∈ rowsOf p) (h : r.hit w = true) :
    decodeWord p w = if (r.build w).wellFormed then .ok (r.build w) else .error .illegal := by
  rw [decodeWord, find_of_hit (rowsOf p) (Row.pairwise_of_separated (separated_rowsOf p)) r hr w h]

theorem decodeBytes_halfRow : ∀ row ∈ vle16Rows, decodeBytes .vle (halfBytes row.1) = .ok (row.2, []) := by
  simp only [vle16Rows, List.forall_mem_cons]
  exact ⟨rfl, rfl, rfl, rfl, rfl, rfl, rfl, nofun⟩

theorem decodeBytes_encode_of_halfRow {i : Instr} (h : i.HasHalfRow) : decodeBytes i.page (encode i) = .ok (i, []) := by
  obtain ⟨hshort, hpage, hrow⟩ := h
  have decoded := decodeBytes_halfRow _ hrow
  rwa [hpage, encode, if_pos hshort]

/-- The decoder reads a well-formed instruction back from the row that holds its encoding. -/
theorem decodeBytes_encode_of_row {i : Instr} {r : Row} (hr : r ∈ rowsOf i.page) (hback : r.ReadsBack i)
    (hwf : i.wellFormed = true) : decodeBytes i.page (encode i) = .ok (i, []) := by
  obtain ⟨hit, build⟩ := hback
  have hlong : i.isShort = false := by
    have := Row.isShort_build hr (encodeWord i)
    rwa [build] at this
  rw [encode, hlong, if_neg Bool.false_ne_true, decodeBytes_wordBytes, decodeWord_of_hit hr hit, build, if_pos hwf]
  · rfl
  · exact fun hp => Row.isLongVle_of_hit (hp ▸ hr) hit

end Sys2Proof

namespace Sys2Proof.Proofs
open Sys2Proof.Machine

/-- Settles O9: every instruction has a row that reads it back, and no other row holds its encoding. -/
theorem decodeInvertsEncode : Obligations.DecodeInvertsEncode := by
  unfold Obligations.DecodeInvertsEncode
  intro i hwf
  rcases i.hasRow with hhalf | ⟨r, fs, hrow, hreads, hfits⟩
  · exact decodeBytes_encode_of_halfRow hhalf
  · have hback := Row.readsBack_of_reads hreads hfits
    have hmem := mem_rowsOf_of_tableRow hrow (encodeWord i)
    rw [hback.2] at hmem
    exact decodeBytes_encode_of_row hmem hback hwf

end Sys2Proof.Proofs
end

section
/-! SUPPORT. The classes of words that are no instruction, and the exceptions they take. -/

namespace Sys2Proof.Machine

/-! ## Fields as numbers -/

theorem field_eq_iff {a n : Nat} {w : Word} {x : BitVec n} : field a n w = x ↔ w.toNat / 2 ^ (32 - a - n) % 2 ^ n = x.toNat := by
  rw [← BitVec.toNat_inj, field, BitVec.extractLsb'_toNat, Nat.shiftRight_eq_div_pow]

theorem field_mem_iff {a n : Nat} {w : Word} {xs : List (BitVec n)} :
    field a n w ∈ xs ↔ w.toNat / 2 ^ (32 - a - n) % 2 ^ n ∈ xs.map BitVec.toNat := by
  rw [← List.mem_map_of_injective BitVec.toNat_injective, field, BitVec.extractLsb'_toNat, Nat.shiftRight_eq_div_pow]

theorem opcode_mod (w : Word) : w.toNat / 2 ^ (32 - 0 - 6) % 2 ^ 6 = w.toNat / 2 ^ 26 :=
  Nat.mod_eq_of_lt (by have := w.isLt; omega)

theorem opcode_eq_iff {w : Word} {x : BitVec 6} : field 0 6 w = x ↔ w.toNat / 2 ^ 26 = x.toNat := by
  rw [field_eq_iff, opcode_mod]

theorem opcode_mem_iff {w : Word} {xs : List (BitVec 6)} : field 0 6 w ∈ xs ↔ w.toNat / 2 ^ 26 ∈ xs.map BitVec.toNat := by
  rw [field_mem_iff, opcode_mod]

/-- The primary opcode is in the first byte. -/
theorem opcode_append (b0 b1 b2 b3 : Byte) : field 0 6 (b0 ++ b1 ++ b2 ++ b3) = b0.extractLsb' 2 6 := by
  apply BitVec.eq_of_getLsbD_eq
  intro i hi
  have place : 32 - 0 - 6 + i - 8 - 8 - 8 = 2 + i := by omega
  simp only [field, BitVec.getLsbD_extractLsb', BitVec.getLsbD_append]
  rw [if_neg (by omega), if_neg (by omega), if_neg (by omega), place]

theorem opcode_append_eq_iff {b0 b1 b2 b3 : Byte} {x : BitVec 6} :
    field 0 6 (b0 ++ b1 ++ b2 ++ b3) = x ↔ b0.toNat / 4 = x.toNat := by
  rw [opcode_append, ← BitVec.toNat_inj, BitVec.extractLsb'_toNat, Nat.shiftRight_eq_div_pow,
    Nat.mod_eq_of_lt (by have := b0.isLt; omega)]

/-- A word of primary opcode 4 is long on a VLE page. -/
theorem isLongVle_of_opcode4 {w : Word} (h : field 0 6 w = 4) : isLongVle (field 0 8 w ++ field 8 8 w) = true := by
  have bit (k : Nat) (hk : k < 6) : w.getLsbD (26 + k) = (4 : BitVec 6).getLsbD k := by
    rw [← h, field, BitVec.getLsbD_extractLsb', decide_eq_true hk, Bool.true_and]
  rw [isLongVle_word, bit 5 (by decide), bit 2 (by decide)]
  rfl

/-! ## The classes by their fields -/

theorem unimplementedWord_iff {w : Word} :
    UnimplementedWord w ↔ field 0 6 w = 31 ∧ field 21 10 w ∈ unimplementedXos := by
  rw [opcode_eq_iff, field_mem_iff]
  rfl

theorem floatingPointWord_iff {w : Word} :
    FloatingPointWord w ↔
      field 0 6 w ∈ floatingPointOpcodes ∨ (field 0 6 w = 31 ∧ field 21 10 w ∈ floatingPointXos) := by
  rw [opcode_mem_iff, opcode_eq_iff, field_mem_iff]
  rfl

theorem doublePrecisionWord_iff {w : Word} :
    DoublePrecisionWord w ↔
      field 0 6 w = 4 ∧ (field 21 8 w = 0x57 ∨ field 21 6 w = 0x17 ∨ field 21 11 w = 0x2CF) := by
  rw [opcode_eq_iff, field_eq_iff, field_eq_iff, field_eq_iff]
  simp [DoublePrecisionWord]

theorem isDoublePrecision_iff {w : Word} : isDoublePrecision w = true ↔ DoublePrecisionWord w := by
  simp [doublePrecisionWord_iff, isDoublePrecision, or_assoc]

/-- The primary opcodes tell the classes apart. -/
theorem UnimplementedWord.not_doublePrecision {w : Word} (h : UnimplementedWord w) : ¬DoublePrecisionWord w := fun hd =>
  absurd (h.1.symm.trans hd.1) (by decide)

theorem FloatingPointWord.not_doublePrecision {w : Word} (h : FloatingPointWord w) : ¬DoublePrecisionWord w := by
  rintro ⟨hop, -⟩
  rcases h with h | ⟨h, -⟩ <;> rw [hop] at h
  · exact absurd h (by decide)
  · exact absurd h (by decide)

theorem FloatingPointWord.not_unimplemented {w : Word} (h : FloatingPointWord w) : ¬UnimplementedWord w := by
  have apart : ∀ x ∈ unimplementedXos, x ∉ floatingPointXos := by decide
  rw [unimplementedWord_iff]
  rintro ⟨hop, hxo⟩
  rcases floatingPointWord_iff.1 h with h | ⟨-, h⟩
  · rw [hop] at h
    exact absurd h (by decide)
  · exact apart _ hxo h

/-! ## What classifyOther says of them -/

theorem classifyOther_doublePrecision {w : Word} (h : DoublePrecisionWord w) (p : Page) :
    classifyOther p w = .doublePrecision := by
  unfold classifyOther
  rw [if_pos (isDoublePrecision_iff.2 h)]

theorem classifyOther_bookE {w : Word} (h : ¬DoublePrecisionWord w) :
    (UnimplementedWord w → classifyOther .bookE w = .unimplemented) ∧
      (FloatingPointWord w → classifyOther .bookE w = .floatingPoint) ∧
      (¬UnimplementedWord w → ¬FloatingPointWord w → classifyOther .bookE w = .illegal) := by
  have hd : ¬isDoublePrecision w = true := mt isDoublePrecision_iff.1 h
  simp only [classifyOther, if_neg hd, Bool.and_eq_true, beq_iff_eq, List.contains_iff_mem]
  refine ⟨fun hu => if_pos (unimplementedWord_iff.1 hu), fun hf => ?_, fun hu hf => ?_⟩
  · rw [if_neg (mt unimplementedWord_iff.2 hf.not_unimplemented)]
    rcases floatingPointWord_iff.1 hf with hop | hxo
    · exact if_pos hop
    · rw [if_pos hxo, ite_self]
  · rw [floatingPointWord_iff, not_or] at hf
    obtain ⟨hop, hxo⟩ := hf
    rw [if_neg (mt unimplementedWord_iff.2 hu), if_neg hop, if_neg hxo]

theorem classifyOther_vle {w : Word} (h : ¬DoublePrecisionWord w) :
    classifyOther .vle w = if field 0 6 w = 4 then .illegal else .vleOutside := by
  unfold classifyOther
  rw [if_neg (mt isDoublePrecision_iff.1 h)]
  simp only [beq_iff_eq]

/-! ## No row holds them -/

/-- Two fields of a word as a row of the table would hold them, so that Row.excludes speaks of them. It gives no instruction
of its own. -/
def fieldsRow (op : BitVec 6) (a n : Nat) (x : BitVec n) : Row where
  mask := place 0 6 (BitVec.allOnes 6) ||| place a n (BitVec.allOnes n)
  bits := place 0 6 op ||| place a n x
  build := fun _ => .isync

/-- The mask of a field keeps the field. -/
theorem and_place_allOnes (a n : Nat) (w : Word) (h : a + n ≤ 32) :
    w &&& place a n (BitVec.allOnes n) = place a n (field a n w) := by
  apply BitVec.eq_of_getLsbD_eq
  intro i hi
  rw [BitVec.getLsbD_and, place_getLsbD _ _ _ _ h, place_getLsbD _ _ _ _ h]
  by_cases hf : 32 - a - n ≤ i ∧ i < 32 - a
  · have inside : i - (32 - a - n) < n := by omega
    have back : 32 - a - n + (i - (32 - a - n)) = i := by omega
    simp [hf, inside, field, back]
  · rw [decide_eq_false hf, Bool.false_and, Bool.and_false, Bool.false_and]

theorem fieldsRow_hit {op : BitVec 6} {a n : Nat} {x : BitVec n} {w : Word} (ha : a + n ≤ 32) (hop : field 0 6 w = op)
    (hx : field a n w = x) : (fieldsRow op a n x).hit w = true := by
  refine beq_iff_eq.2 ?_
  rw [fieldsRow, BitVec.and_or_distrib_left, and_place_allOnes 0 6 w (by decide), and_place_allOnes a n w ha, hop, hx]

theorem decodeWord_of_excluded {p : Page} {q : Row} {w : Word} (h : (rowsOf p).all q.excludes = true) (hq : q.hit w = true) :
    decodeWord p w = .error (classifyOther p w) := by
  have none : (rowsOf p).find? (fun r => r.hit w) = none := by
    rw [List.find?_eq_none]
    intro r hr
    rw [Row.excludes_not_hit q r w (List.all_eq_true.1 h r hr) hq]
    exact Bool.false_ne_true
  rw [decodeWord, none]

theorem decodeWord_unimplemented {w : Word} (h : UnimplementedWord w) : decodeWord .bookE w = .error .unimplemented := by
  have table : (unimplementedXos.all fun x => (rowsOf .bookE).all (fieldsRow 31 21 10 x).excludes) = true := by decide +kernel
  obtain ⟨hop, hxo⟩ := unimplementedWord_iff.1 h
  rw [decodeWord_of_excluded (List.all_eq_true.1 table _ hxo) (fieldsRow_hit (by decide) hop rfl),
    (classifyOther_bookE h.not_doublePrecision).1 h]

theorem decodeWord_floatingPoint {w : Word} (h : FloatingPointWord w) : decodeWord .bookE w = .error .floatingPoint := by
  have opcodes : (floatingPointOpcodes.all fun op => (rowsOf .bookE).all (fieldsRow op 0 0 0).excludes) = true := by
    decide +kernel
  have xos : (floatingPointXos.all fun x => (rowsOf .bookE).all (fieldsRow 31 21 10 x).excludes) = true := by decide +kernel
  rw [← (classifyOther_bookE h.not_doublePrecision).2.1 h]
  rcases floatingPointWord_iff.1 h with hop | ⟨hop, hxo⟩
  · exact decodeWord_of_excluded (List.all_eq_true.1 opcodes _ hop) (fieldsRow_hit (by decide) rfl (Subsingleton.elim _ _))
  · exact decodeWord_of_excluded (List.all_eq_true.1 xos _ hxo) (fieldsRow_hit (by decide) hop rfl)

theorem decodeWord_doublePrecision {w : Word} (h : DoublePrecisionWord w) (p : Page) :
    decodeWord p w = .error .doublePrecision := by
  have table : ((rowsOf p).all (fieldsRow 4 21 8 0x57).excludes && ((rowsOf p).all (fieldsRow 4 21 6 0x17).excludes &&
      (rowsOf p).all (fieldsRow 4 21 11 0x2CF).excludes)) = true := by
    cases p <;> decide +kernel
  simp only [Bool.and_eq_true] at table
  obtain ⟨first, second, efscfd⟩ := table
  rw [← classifyOther_doublePrecision h p]
  obtain ⟨hop, h1 | h2 | h3⟩ := doublePrecisionWord_iff.1 h
  · exact decodeWord_of_excluded first (fieldsRow_hit (by decide) hop h1)
  · exact decodeWord_of_excluded second (fieldsRow_hit (by decide) hop h2)
  · exact decodeWord_of_excluded efscfd (fieldsRow_hit (by decide) hop h3)

/-! ## What the decoder's answers say -/

/-- A word that is an instruction is a well-formed one of 32 bits. -/
theorem decodeWord_ok {p : Page} {w : Word} {i : Instr} (h : decodeWord p w = .ok i) :
    i.wellFormed = true ∧ i.isShort = false := by
  unfold decodeWord at h
  split at h
  next r hr =>
    have hshort := Row.isShort_build (List.mem_of_find?_eq_some hr) w
    split at h
    next hwf =>
      cases h
      exact ⟨hwf, hshort⟩
    next => cases h
  next => cases h

/-- A word that is no instruction is one of no row, or one whose row reads an ill-formed instruction from it. -/
theorem decodeWord_error {p : Page} {w : Word} {e : Reject} (h : decodeWord p w = .error e) :
    e = classifyOther p w ∨ (e = .illegal ∧ ∃ r ∈ rowsOf p, (r.build w).wellFormed = false) := by
  unfold decodeWord at h
  split at h
  next r hr =>
    split at h
    next => cases h
    next hwf =>
      cases h
      exact .inr ⟨rfl, r, List.mem_of_find?_eq_some hr, Bool.eq_false_of_not_eq_true hwf⟩
  next =>
    cases h
    exact .inl rfl

theorem decodeWord_illegal {p : Page} {w : Word} (hclass : classifyOther p w = .illegal)
    (hno : ∀ i, decodeWord p w ≠ .ok i) : decodeWord p w = .error .illegal := by
  cases h : decodeWord p w with
  | ok i => exact absurd h (hno i)
  | error e =>
    rcases decodeWord_error h with he | ⟨he, -⟩
    · rw [he, hclass]
    · rw [he]

/-- On a VLE page no row reads an ill-formed instruction. -/
theorem decodeWord_vle_error {w : Word} {e : Reject} (h : decodeWord .vle w = .error e) : e = classifyOther .vle w := by
  rcases decodeWord_error h with he | ⟨-, r, hr, hwf⟩
  · exact he
  · rw [Row.wellFormed_build hr w] at hwf
    cases hwf

theorem decodeHalf_ok {h : Half} {i : Instr} (hi : decodeHalf h = .ok i) : i.wellFormed = true ∧ i.isShort = true := by
  have table : ∀ row ∈ vle16Rows, row.2.wellFormed = true ∧ row.2.isShort = true := by
    simp only [vle16Rows, List.forall_mem_cons]
    exact ⟨⟨rfl, rfl⟩, ⟨rfl, rfl⟩, ⟨rfl, rfl⟩, ⟨rfl, rfl⟩, ⟨rfl, rfl⟩, ⟨rfl, rfl⟩, ⟨rfl, rfl⟩, nofun⟩
  unfold decodeHalf at hi
  split at hi
  next row hrow =>
    cases hi
    exact table row (List.mem_of_find?_eq_some hrow)
  next => cases hi

theorem decodeHalf_error {h : Half} {e : Reject} (he : decodeHalf h = .error e) (hz : h ≠ 0) : e = .vleOutside := by
  unfold decodeHalf at he
  split at he
  · cases he
  · rw [if_neg hz] at he
    cases he
    rfl

/-- What bytes decode as: a half word of a VLE page, a word, or too few bytes. -/
theorem decodeBytes_cases (p : Page) (bs : List Byte) :
    (∃ b0 b1 rest, bs = b0 :: b1 :: rest ∧ p = .vle ∧ decodeBytes p bs = (decodeHalf (b0 ++ b1)).map (·, rest)) ∨
    (∃ b0 b1 b2 b3 rest, bs = b0 :: b1 :: b2 :: b3 :: rest ∧
      decodeBytes p bs = (decodeWord p (b0 ++ b1 ++ b2 ++ b3)).map (·, rest)) ∨
    decodeBytes p bs = .error .truncated := by
  match bs with
  | [] | [_] => exact .inr (.inr rfl)
  | b0 :: b1 :: rest =>
    by_cases hshort : p = .vle ∧ isLongVle (b0 ++ b1) = false
    · exact .inl ⟨b0, b1, rest, rfl, hshort.1, if_pos hshort⟩
    · refine .inr ?_
      match rest with
      | [] | [_] => exact .inr (if_neg hshort)
      | b2 :: b3 :: rest => exact .inl ⟨b0, b1, b2, b3, rest, rfl, if_neg hshort⟩

theorem exceptMap_eq_ok {α β : Type} {f : α → β} {x : Except Reject α} {b : β} (h : x.map f = .ok b) :
    ∃ a, x = .ok a ∧ f a = b := by
  cases x with
  | ok a => exact ⟨a, rfl, Except.ok.inj h⟩
  | error e => cases h

theorem exceptMap_eq_error {α β : Type} {f : α → β} {x : Except Reject α} {e : Reject} (h : x.map f = .error e) :
    x = .error e := by
  cases x with
  | ok a => cases h
  | error e' => exact congrArg _ (Except.error.inj h)

/-- Bytes that are an instruction begin with all of its bytes. -/
theorem decodeBytes_ok {p : Page} {bs rest : List Byte} {i : Instr} (h : decodeBytes p bs = .ok (i, rest)) :
    i.wellFormed = true ∧ rest = bs.drop i.size ∧ i.size ≤ bs.length := by
  rcases decodeBytes_cases p bs with ⟨b0, b1, tail, rfl, -, run⟩ | ⟨b0, b1, b2, b3, tail, rfl, run⟩ | run <;> rw [run] at h
  · obtain ⟨j, hj, hpair⟩ := exceptMap_eq_ok h
    cases hpair
    obtain ⟨hwf, hshort⟩ := decodeHalf_ok hj
    have hsize : i.size = 2 := by rw [Instr.size, if_pos hshort]
    rw [hsize]
    exact ⟨hwf, rfl, by simp⟩
  · obtain ⟨j, hj, hpair⟩ := exceptMap_eq_ok h
    cases hpair
    obtain ⟨hwf, hlong⟩ := decodeWord_ok hj
    have hsize : i.size = 4 := by rw [Instr.size, hlong, if_neg Bool.false_ne_true]
    rw [hsize]
    exact ⟨hwf, rfl, by simp⟩
  · cases h

/-- A word that may be read as one on the page is rejected as decodeWord rejects it. -/
theorem decodeBytes_wordBytes_error {p : Page} {w : Word} {e : Reject} (hp : p = .vle → field 0 6 w = 4)
    (h : decodeWord p w = .error e) : decodeBytes p (wordBytes w) = .error e := by
  rw [decodeBytes_wordBytes fun hv => isLongVle_of_opcode4 (hp hv), h]
  rfl

theorem decodeBytes_wordBytes_illegal {p : Page} {w : Word} (hp : p = .vle → field 0 6 w = 4)
    (hclass : classifyOther p w = .illegal) (hno : ∀ i rest, decodeBytes p (wordBytes w) ≠ .ok (i, rest)) :
    decodeBytes p (wordBytes w) = .error .illegal := by
  refine decodeBytes_wordBytes_error hp (decodeWord_illegal hclass fun i hi => hno i [] ?_)
  rw [decodeBytes_wordBytes fun hv => isLongVle_of_opcode4 (hp hv), hi]
  rfl

/-- What the specification does not give of a VLE page, but for se_illegal and primary opcode 4, is outside it (R951). -/
theorem decodeBytes_vle_error {bs : List Byte} {e : Reject} (h : decodeBytes .vle bs = .error e)
    (hzero : bs.take 2 ≠ [0, 0]) (hop : (bs.getD 0 0).toNat / 4 ≠ 4) : e = .vleOutside ∨ e = .truncated := by
  rcases decodeBytes_cases .vle bs with ⟨b0, b1, rest, rfl, -, run⟩ | ⟨b0, b1, b2, b3, rest, rfl, run⟩ | run <;> rw [run] at h
  · refine .inl (decodeHalf_error (exceptMap_eq_error h) fun hz => hzero ?_)
    have first : b0 = 0 := BitVec.extractLsb'_append_eq_left.symm.trans (congrArg (BitVec.extractLsb' 8 8) hz)
    have second : b1 = 0 := BitVec.extractLsb'_append_eq_right.symm.trans (congrArg (BitVec.extractLsb' 0 8) hz)
    rw [first, second]
    rfl
  · have other : ¬field 0 6 (b0 ++ b1 ++ b2 ++ b3) = 4 := fun hf => hop (opcode_append_eq_iff.1 hf)
    have single : ¬DoublePrecisionWord (b0 ++ b1 ++ b2 ++ b3) := fun hd => other (doublePrecisionWord_iff.1 hd).1
    rw [decodeWord_vle_error (exceptMap_eq_error h), classifyOther_vle single, if_neg other]
    exact .inl rfl
  · cases h
    exact .inr rfl

/-! ## The exceptions -/

/-- A program interrupt (spec/60_exceptions.md R2026). -/
theorem State.interrupted_program (s : State) (cause : Word) :
    s.Interrupted (s.program cause) 6 s.pc (cause ||| if s.cur.vle then 0x20 else 0) s.int.dear :=
  State.interrupted_raise_other (by decide) (by decide) (cause ||| s.vlemi) s.int.dear s.cur s.freeCtr

/-- The SPE unavailable interrupt (R2043). -/
theorem State.interrupted_speUnavailable (s : State) :
    s.Interrupted s.speUnavailable 16 s.pc (0x80 ||| if s.cur.vle then 0x20 else 0) s.int.dear :=
  State.interrupted_raise_other (by decide) (by decide) (oneBit 24 ||| s.vlemi) s.int.dear s.cur s.freeCtr

/-- The floating-point unavailable interrupt (R2027). -/
theorem State.interrupted_fpUnavailable (s : State) :
    s.Interrupted s.fpUnavailable 7 s.pc s.int.esr s.int.dear :=
  State.interrupted_raise_other (by decide) (by decide) s.int.esr s.int.dear s.cur s.freeCtr

end Sys2Proof.Machine

namespace Sys2Proof.Proofs
open Sys2Proof.Machine

/-- Settles O10: what the decoder answers, and for each class of words the answer and the exception State.reject takes for
it. -/
theorem decodedIsWellFormed : Obligations.DecodedIsWellFormed := by
  unfold Obligations.DecodedIsWellFormed
  refine ⟨fun p bs rest i h => decodeBytes_ok h, fun s w => ?_⟩
  intro vlemi program rejected
  have opcode4 (h : w.toNat / 2 ^ 26 = 4) : field 0 6 w = 4 := opcode_eq_iff.2 h
  have illegal {p : Page} {bs : List Byte} (he : decodeBytes p bs = .error .illegal) : rejected p bs (program 0x08000000) :=
    ⟨_, _, he, rfl, s.interrupted_program 0x08000000⟩
  refine ⟨fun hu => ?_, fun hf => ?_, fun hd p => ?_, fun hu hf hd hno => ?_, fun hop hd hno => ?_, fun rest => illegal rfl,
    fun bs e he hzero hop => ?_⟩
  · exact ⟨_, _, decodeBytes_wordBytes_error nofun (decodeWord_unimplemented hu), rfl, s.interrupted_program 0x00040000⟩
  · refine ⟨_, _, decodeBytes_wordBytes_error nofun (decodeWord_floatingPoint hf), rfl, ?_⟩
    dsimp only
    split
    · exact s.interrupted_program 0x01040000
    · exact s.interrupted_fpUnavailable
  · refine ⟨_, _, decodeBytes_wordBytes_error (fun _ => opcode4 hd.1) (decodeWord_doublePrecision hd p), rfl, ?_⟩
    dsimp only
    split
    · exact s.interrupted_program 0x00040000
    · exact s.interrupted_speUnavailable
  · exact illegal (decodeBytes_wordBytes_illegal nofun ((classifyOther_bookE hd).2.2 hu hf) hno)
  · have class4 : classifyOther .vle w = .illegal := by rw [classifyOther_vle hd, if_pos (opcode4 hop)]
    exact illegal (decodeBytes_wordBytes_illegal (fun _ => opcode4 hop) class4 hno)
  · rcases decodeBytes_vle_error he hzero hop with rfl | rfl
    · rfl
    · rfl

end Sys2Proof.Proofs
end

section
/-! SUPPORT. A step at a boundary that leaves nothing else to do runs the instruction at pc. -/

namespace Sys2Proof.Machine

/-- At such a boundary a step attempts the instruction at pc. -/
theorem State.step_of_ready {s b : State} (h : s.Ready b) : step s = b.withIacHits.attempt b := by
  obtain ⟨hb, hrun, hint, hawake, hcodes⟩ := h
  have hclk : b.clocked = true := State.clocked_of_active hawake hrun
  rw [step, hb, State.proceed, hint]
  simp [hrun, hclk, hawake, hcodes]

/-- An attempt that no instruction address compare ends and whose fetch gives bytes executes them. -/
theorem State.attempt_bytes {w before u : State} {page : Page} {bs : List Byte}
    (hiac : ¬(iacEvents w.dbg w.cur.iacHits ≠ 0 ∧ w.idm = true ∧ w.de = true))
    (hfetch : (w.record (iacEvents w.dbg w.cur.iacHits) true).fetch = .bytes bs page u) :
    w.attempt before = finishOutcome before ({ u with firstFetch := false, cur.executed := true }.execute page bs) := by
  rw [State.attempt, if_neg (by simpa [and_assoc] using hiac), hfetch]

end Sys2Proof.Machine

namespace Sys2Proof.Proofs
open Sys2Proof.Machine

/-- Settles O5: the step comes down to execute, which is exec or reject as the decoder answers. -/
theorem stepRunsDecoded : Obligations.StepRunsDecoded := by
  unfold Obligations.StepRunsDecoded
  intro s b u page bs hready w events hiac hfetch v
  have run : step s = finishOutcome b (v.execute page bs) :=
    (State.step_of_ready hready).trans (State.attempt_bytes hiac hfetch)
  refine ⟨fun i rest hi => ?_, fun e he => ?_⟩
  · rw [run, State.execute, hi]
  · rw [run, State.execute, he]

end Sys2Proof.Proofs
end

section
/-! SUPPORT. What the shared shapes of the integer instructions leave, as the claims say it (State.IntegerResult). -/

namespace Sys2Proof.Machine

/-! ## Instructions that run -/

/-- An instruction that runs gives no other state than the one it runs to. -/
theorem Runs.of_exec {i : Instr} {s t : State} {P : State → Prop} (h : Runs i s P) (he : exec i s = .next t) : P t := by
  obtain ⟨u, hu, hp⟩ := h
  obtain rfl : u = t := by simpa [hu] using he
  exact hp

/-! ## Compares -/

/-- A signed compare, over the integers (spec/40_integer.md R670). -/
theorem compareSigned_eq (a b : Word) (so : Bool) :
    compareSigned a b so =
      crBits (decide (a.toInt < b.toInt)) (decide (b.toInt < a.toInt)) (decide (a.toInt = b.toInt)) so := by
  have heq : (a == b) = decide (a.toInt = b.toInt) := decide_eq_decide.2 BitVec.toInt_inj.symm
  rw [compareSigned, heq, BitVec.slt_eq_decide, BitVec.slt_eq_decide]

/-- An unsigned compare, over the natural numbers (R672). -/
theorem compareUnsigned_eq (a b : Word) (so : Bool) :
    compareUnsigned a b so =
      crBits (decide (a.toNat < b.toNat)) (decide (b.toNat < a.toNat)) (decide (a.toNat = b.toNat)) so := by
  have heq : (a == b) = decide (a.toNat = b.toNat) := decide_eq_decide.2 BitVec.toNat_inj.symm
  rw [compareUnsigned, heq, BitVec.ult_eq_decide, BitVec.ult_eq_decide]

/-- What a record form puts into CR0 (R601). -/
theorem compareSigned_zero (v : Word) (so : Bool) : compareSigned v 0 so = fieldOfSign v.toInt so :=
  compareSigned_eq v 0 so

/-! ## Results -/

/-- The fields of CR after a result of a form (R601). -/
theorem State.result_crField (s : State) (f : Form) (rt : Reg) (v : Word) (ca ov : Bool) (k : CrField) :
    (s.result f rt v ca ov).crField k =
      if f.rc ∧ k = 0 then fieldOfSign v.toInt (bit (f.xerAfter s.xer ca ov) 0) else s.crField k := by
  rw [State.result_eq, Form.crAfter, compareSigned_zero]
  by_cases hrc : f.rc = true
  · rw [if_pos hrc]
    by_cases hk : k = 0
    · subst hk
      rw [if_pos ⟨hrc, rfl⟩]
      exact s.crField_setCrField_same 0 _
    · rw [if_neg fun h => hk h.2]
      exact s.crField_setCrField_other 0 k _ hk
  · rw [if_neg hrc, if_neg fun h => hrc h.1]
    rfl

/-- A result of a form with pc moved past the instruction is the result of the claims (R600 to R603). -/
theorem State.integerResult (s : State) (f : Form) (rt : Reg) (v : Word) (ca ov : Bool) :
    s.IntegerResult ((s.result f rt v ca ov).advance 4) f rt v ca ov := by
  have hr64 (r : Reg) : ((s.result f rt v ca ov).advance 4).r64 r = if rt = r then hi (s.r64 rt) ++ v else s.r64 r :=
    s.result_r64 f rt r v ca ov
  have hxer : ((s.result f rt v ca ov).advance 4).xer = f.xerAfter s.xer ca ov := by rw [State.result_eq]; rfl
  have hfield (k : CrField) : ((s.result f rt v ca ov).advance 4).crField k =
      if f.rc ∧ k = 0 then fieldOfSign v.toInt (bit (f.xerAfter s.xer ca ov) 0) else s.crField k :=
    s.result_crField f rt v ca ov k
  constructor
  case result => rw [State.r, hr64, if_pos rfl, lo_append]
  case upper =>
    intro r
    rw [hr64]
    split
    case isTrue h => rw [h, hi_append]
    case isFalse => rfl
  case others =>
    intro r hr
    rw [hr64, if_neg fun h => hr (List.mem_singleton.2 h.symm)]
  case carry => rw [hxer, f.xerAfter_ca]
  case overflow => rw [hxer, f.xerAfter_ov]
  case summary => rw [hxer, f.xerAfter_so]
  case count => exact fun k h3 h32 => by rw [hxer, f.xerAfter_rest _ _ _ k h3 h32]
  case record => simp only [hfield, hxer, and_true]
  case fields => exact fun k hk => by rw [hfield, if_neg fun h => hk h.2]
  case next => rw [State.result_eq]; rfl
  case frame => rw [State.OnlyCore, State.result_eq]; rfl

/-- Only the flags that the form writes matter. -/
theorem State.IntegerResult.of_flags {s t : State} {f : Form} {rt : Reg} {v : Word} {ca ov ca' ov' : Bool}
    (h : s.IntegerResult t f rt v ca ov) (hca : f.ca = true → ca = ca') (hov : f.ov = true → ov = ov') :
    s.IntegerResult t f rt v ca' ov' where
  __ := h
  carry := by
    rw [h.carry]
    split
    case isTrue hf => exact hca hf
    case isFalse => rfl
  overflow := by
    rw [h.overflow]
    split
    case isTrue hf => exact hov hf
    case isFalse => rfl
  summary := by
    rw [h.summary]
    cases hf : f.ov with
    | true => rw [hov hf]
    | false => rfl

/-- An instruction of the plain shape runs to its result. -/
theorem State.runs_plainResult {s : State} {i : Instr} {f : Form} {rt : Reg} {v : Word}
    (h : exec i s = s.plainResult f rt v) : Runs i s fun t => s.IntegerResult t f rt v false false :=
  ⟨_, h, s.integerResult f rt v false false⟩

/-! ## Sums -/

/-- The signed overflow of a sum: addends of one sign and a sum of the other (R602). -/
theorem addWord_overflow (a b : Word) (c : Bool) :
    (addWord a b c).2.2 = (a.msb == b.msb && (addWord a b c).1.msb != a.msb) := by
  have ha := a.isLt
  have hb := b.isLt
  have hc : c.toNat ≤ 1 := Bool.toNat_le c
  rw [Bool.eq_iff_iff]
  simp only [addWord, BitVec.msb_eq_decide, BitVec.toInt_eq_toNat_cond, BitVec.toNat_ofNat, Bool.or_eq_true,
    decide_eq_true_eq, Bool.and_eq_true, beq_iff_eq, bne_iff_ne, decide_eq_decide, ne_eq]
  omega

/-- An addition runs to its sum (R604). -/
theorem State.runs_addForm {s : State} {i : Instr} {f : Form} {rt : Reg} {a b : Word} {c : Bool}
    (h : exec i s = s.addForm f rt a b c) : Runs i s fun t => s.SumResult t f rt a b c :=
  ⟨_, h, (s.integerResult f rt _ _ _).of_flags (fun _ => addWord_carry a b c) fun _ => addWord_overflow a b c⟩

/-- An addition that writes no flag runs to a plain result. -/
theorem State.runs_addForm_plain {s : State} {i : Instr} {rt : Reg} {a b : Word}
    (h : exec i s = s.addForm .plain rt a b false) : Runs i s fun t => s.PlainResult t false rt (a + b) := by
  have hsum : BitVec.ofNat 32 (a.toNat + b.toNat + false.toNat) = a + b :=
    (addWord_sum a b false).trans (BitVec.add_zero _)
  obtain ⟨t, he, ht⟩ := State.runs_addForm h
  exact ⟨t, he, hsum ▸ ht.of_flags nofun nofun⟩

/-! ## Immediate operands -/

/-- A sign-extended immediate, as an integer (spec/40_integer.md R615). -/
theorem sext_eq_wordOf {n : Nat} (v : BitVec n) : sext v = wordOf v.toInt := rfl

/-- An immediate in the upper half word is 65536 times its value (R618). -/
theorem upperImmediate_eq_ofNat (si : BitVec 16) : upperImmediate si = BitVec.ofNat 32 (65536 * si.toNat) := by
  have hlt := si.isLt
  apply BitVec.eq_of_toNat_eq
  have happ : (upperImmediate si).toNat = si.toNat <<< 16 ||| (0#16).toNat := BitVec.toNat_append si 0#16
  rw [happ, BitVec.toNat_ofNat, BitVec.toNat_ofNat, Nat.shiftLeft_eq, Nat.zero_mod, Nat.or_zero]
  omega

/-! ## Differences -/

/-- A difference performed as a sum of the complement (R620). -/
theorem complement_sum_eq_wordOf (a b : Word) :
    BitVec.ofNat 32 ((~~~a).toNat + b.toNat + true.toNat) = wordOf (b.toInt - a.toInt) := by
  have ha := a.isLt
  apply BitVec.eq_of_toNat_eq
  rw [BitVec.toNat_ofNat, BitVec.toNat_not, Bool.toNat_true, wordOf, BitVec.toNat_ofInt, BitVec.toInt_eq_toNat_cond,
    BitVec.toInt_eq_toNat_cond]
  omega

/-- A difference carries out exactly when nothing is borrowed (R621). -/
theorem complement_sum_carry_iff (a b : Word) :
    2 ^ 32 ≤ (~~~a).toNat + b.toNat + true.toNat ↔ a.toNat ≤ b.toNat := by
  have ha := a.isLt
  rw [BitVec.toNat_not, Bool.toNat_true]
  omega

/-- The negation of a word overflows for the smallest integer alone (R626). -/
theorem negate_overflow (a : Word) :
    ((~~~a).msb == (0 : Word).msb && (BitVec.ofNat 32 ((~~~a).toNat + (0 : Word).toNat + true.toNat)).msb != (~~~a).msb) =
      decide (a = 0x80000000) := by
  have ha := a.isLt
  have hzero : (0 : Word).toNat = 0 := rfl
  have hmin : (0x80000000 : Word).toNat = 0x80000000 := rfl
  rw [Bool.eq_iff_iff]
  simp only [BitVec.msb_eq_decide, BitVec.toNat_ofNat, BitVec.toNat_not, hzero, hmin, Bool.toNat_true, Bool.and_eq_true,
    beq_iff_eq, bne_iff_ne, decide_eq_decide, decide_eq_true_eq, ne_eq, ← BitVec.toNat_inj]
  omega

end Sys2Proof.Machine

namespace Sys2Proof.Proofs
open Sys2Proof.Machine

/-- Settles O24: every add instruction is one addition of its operands in its form. -/
theorem addInstructions : Obligations.AddInstructions := by
  unfold Obligations.AddInstructions
  intro s rt ra rb si
  have upper : upperImmediate si = wordOf (65536 * si.toNat) := upperImmediate_eq_ofNat si
  rw [← sext_eq_wordOf si, ← upper]
  refine ⟨?_, ?_, ?_, ?_, ?_, ?_, ?_, ?_, ?_, ?_, ?_, ?_, ?_, ?_, ?_, ?_, ?_, ?_, ?_, ?_,
    State.runs_addForm_plain rfl, State.runs_addForm_plain rfl, ?_, ?_⟩
  all_goals exact State.runs_addForm rfl

/-- Settles O25: every subtraction is one addition of the complement in its form, and what that addition means for subf, subfc
and nego. -/
theorem subtractInstructions : Obligations.SubtractInstructions := by
  unfold Obligations.SubtractInstructions
  intro s rt ra rb si
  have subf : Runs (.subf rt ra rb) s fun t => s.SumResult t .plain rt (~~~(s.r ra)) (s.r rb) true := State.runs_addForm rfl
  have subfc : Runs (.subfc rt ra rb) s fun t => s.SumResult t .carry rt (~~~(s.r ra)) (s.r rb) true :=
    State.runs_addForm rfl
  have nego : Runs (.nego rt ra) s fun t => s.SumResult t .overflow rt (~~~(s.r ra)) 0 true := State.runs_addForm rfl
  have difference (t : State) (he : exec (.subf rt ra rb) s = .next t) : t.r rt = wordOf ((s.r rb).toInt - (s.r ra).toInt) :=
    (subf.of_exec he).result.trans (complement_sum_eq_wordOf _ _)
  have noBorrow (t : State) (he : exec (.subfc rt ra rb) s = .next t) :
      bit t.xer 2 = decide ((s.r ra).toNat ≤ (s.r rb).toNat) :=
    (subfc.of_exec he).carry.trans (decide_eq_decide.2 (complement_sum_carry_iff _ _))
  have smallest (t : State) (he : exec (.nego rt ra) s = .next t) : bit t.xer 1 = decide (s.r ra = 0x80000000) :=
    (nego.of_exec he).overflow.trans (negate_overflow _)
  refine ⟨subf, ?_, ?_, ?_, subfc, ?_, ?_, ?_, ?_, ?_, ?_, ?_, ?_, ?_, ?_, ?_, ?_, ?_, ?_, ?_, ?_, ?_, nego, ?_, ?_,
    difference, noBorrow, smallest⟩
  all_goals exact State.runs_addForm rfl

end Sys2Proof.Proofs
end

section
/-! SUPPORT. Products and quotients of words over the integers, and the divide whose quotient is undefined (spec/40_integer.md
R630 to R635). -/

namespace Sys2Proof.Machine

/-! ## The halves of a double word -/

/-- The low word of an integer of 64 bits. -/
theorem lo_ofInt (z : Int) : lo (BitVec.ofInt 64 z) = wordOf z := by
  apply BitVec.eq_of_toNat_eq
  simp only [lo, wordOf, BitVec.extractLsb'_toNat, BitVec.toNat_ofInt, Nat.shiftRight_zero]
  omega

/-- The high word of an integer of 64 bits. -/
theorem hi_ofInt (z : Int) : hi (BitVec.ofInt 64 z) = wordOf (z / 4294967296) := by
  apply BitVec.eq_of_toNat_eq
  simp only [hi, wordOf, BitVec.extractLsb'_toNat, BitVec.toNat_ofInt, Nat.shiftRight_eq_div_pow]
  omega

/-! ## Products -/

/-- The signed product, over the integers (R630). -/
theorem productSigned_eq_ofInt (a b : Word) : productSigned a b = BitVec.ofInt 64 (a.toInt * b.toInt) :=
  (BitVec.ofInt_mul ..).symm

/-- The low word of a signed product (R630). -/
theorem lo_productSigned (a b : Word) : lo (productSigned a b) = wordOf (a.toInt * b.toInt) := by
  rw [productSigned_eq_ofInt, lo_ofInt]

/-- The high word of a signed product (R632). -/
theorem hi_productSigned (a b : Word) : hi (productSigned a b) = wordOf (a.toInt * b.toInt / 4294967296) := by
  rw [productSigned_eq_ofInt, hi_ofInt]

/-- The high word of an unsigned product (R633). -/
theorem hi_productUnsigned (a b : Word) :
    hi (productUnsigned a b) = BitVec.ofNat 32 (a.toNat * b.toNat / 4294967296) := by
  have hprod : productUnsigned a b = BitVec.ofInt 64 (a.toNat * b.toNat : Nat) := by
    apply BitVec.eq_of_toNat_eq
    simp only [productUnsigned, BitVec.toNat_mul, BitVec.toNat_setWidth, BitVec.toNat_ofInt]
    rw [Nat.mod_eq_of_lt (by omega : a.toNat < 2 ^ 64), Nat.mod_eq_of_lt (by omega : b.toNat < 2 ^ 64)]
    omega
  rw [hprod, hi_ofInt]
  rfl

/-- An integer does not come back from its low word exactly if it does not fit in a signed word. -/
theorem toInt_wordOf_ne_iff (z : Int) : (wordOf z).toInt ≠ z ↔ z < -2147483648 ∨ 2147483647 < z := by
  rw [wordOf, BitVec.toInt_ofInt, Int.bmod_def]
  omega

/-- The signed product of two words fits in a double word. -/
theorem toInt_productSigned (a b : Word) : (productSigned a b).toInt = a.toInt * b.toInt := by
  have bound (w : Word) : |w.toInt| ≤ 2 ^ 31 := abs_le.2 ⟨BitVec.le_toInt w, (BitVec.toInt_lt (x := w)).le⟩
  have hprod : |a.toInt * b.toInt| ≤ 2 ^ 31 * 2 ^ 31 := by
    rw [abs_mul]
    exact mul_le_mul (bound a) (bound b) (abs_nonneg _) (by decide)
  obtain ⟨hlow, hhigh⟩ := abs_le.1 hprod
  rw [productSigned_eq_ofInt, BitVec.toInt_ofInt, Int.bmod_eq_of_le (by omega) (by omega)]

/-- The overflow of a product (R602). -/
theorem productOverflows_eq (a b : Word) :
    productOverflows a b = decide (a.toInt * b.toInt < -2147483648 ∨ 2147483647 < a.toInt * b.toInt) := by
  have hext : ((wordOf (a.toInt * b.toInt)).signExtend 64).toInt = (wordOf (a.toInt * b.toInt)).toInt :=
    BitVec.toInt_signExtend_of_le (by decide)
  rw [productOverflows, Bool.eq_iff_iff, bne_iff_ne, decide_eq_true_iff, ← toInt_wordOf_ne_iff, lo_productSigned, ne_eq,
    ← BitVec.toInt_inj, hext, toInt_productSigned]

/-- A multiply of the low word runs to its product. -/
theorem State.runs_multiplyLow {s : State} {i : Instr} {f : Form} {rt : Reg} {a b : Word}
    (h : exec i s = s.multiplyLow f rt a b) : Runs i s fun t => s.ProductResult t f rt a b := by
  have hres := s.integerResult f rt (lo (productSigned a b)) false (productOverflows a b)
  rw [State.multiplyLow] at h
  rw [lo_productSigned, productOverflows_eq] at hres h
  exact ⟨_, h, hres⟩

/-! ## Quotients -/

/-- The signed quotient rounds toward zero (R634). -/
theorem sdiv_eq_wordOf (a b : Word) : a.sdiv b = wordOf (a.toInt.tdiv b.toInt) := by
  apply BitVec.eq_of_toInt_eq
  rw [BitVec.toInt_sdiv, wordOf, BitVec.toInt_ofInt]

/-- The unsigned quotient (R635). -/
theorem udiv_eq_ofNat (a b : Word) : a.udiv b = BitVec.ofNat 32 (a.toNat / b.toNat) := by
  apply BitVec.eq_of_toNat_eq
  have hlt := a.isLt
  have hle := Nat.div_le_self a.toNat b.toNat
  rw [BitVec.udiv_eq, BitVec.toNat_udiv, BitVec.toNat_ofNat, Nat.mod_eq_of_lt (by omega)]

/-- divw with a defined quotient runs to it. -/
theorem State.runs_divideSigned {s : State} {i : Instr} {f : Form} {rt : Reg} {a b : Word}
    (hdef : ¬(b = 0 ∨ (a = 0x80000000 ∧ b = 0xFFFFFFFF))) (h : exec i s = s.divideSigned f rt a b) :
    Runs i s fun t => s.IntegerResult t f rt (wordOf (a.toInt.tdiv b.toInt)) false false := by
  rw [State.divideSigned, if_neg hdef, sdiv_eq_wordOf] at h
  exact State.runs_plainResult h

/-- divwu with a defined quotient runs to it. -/
theorem State.runs_divideUnsigned {s : State} {i : Instr} {f : Form} {rt : Reg} {a b : Word} (hdef : b ≠ 0)
    (h : exec i s = s.divideUnsigned f rt a b) :
    Runs i s fun t => s.IntegerResult t f rt (BitVec.ofNat 32 (a.toNat / b.toNat)) false false := by
  rw [State.divideUnsigned, if_neg hdef, udiv_eq_ofNat] at h
  exact State.runs_plainResult h

/-- A divide with an undefined quotient: a result without record, and then CR0 with free LT, GT and EQ and the new SO
(spec/93_implementation_defined.md U50). -/
theorem State.divideUndefined_eq (s : State) (f : Form) (rt : Reg) :
    s.divideUndefined f rt =
      { s with
        gpr := (s.setR rt (Config.freeQuotient s.freeCtr)).gpr
        xer := f.xerAfter s.xer false true
        cr := if f.rc then putBits 0 4 (Config.freeDivCr s.freeCtr ++ BitVec.ofBool (bit (f.xerAfter s.xer false true) 0)) s.cr
          else s.cr
        freeCtr := s.freeCtr + 1 } := by
  unfold State.divideUndefined
  rw [State.result_eq]
  cases f.rc <;> rfl

/-- The SO position of a CR0 whose other three bits are free. -/
theorem bit_cr0_so (x : BitVec 3) (so : Bool) (cr : Word) : bit (putBits 0 4 (x ++ BitVec.ofBool so) cr) 3 = so := by
  rw [bit_putBits 0 4 _ cr (by decide) 3 (by decide), if_pos (by decide), BitVec.getMsbD_append]
  cases so <;> rfl

/-- An undefined quotient leaves everything but RT and CR0[LT, GT, EQ] as the form says. -/
theorem State.undefinedQuotient (s : State) (f : Form) (rt : Reg) (hca : f.ca = false) :
    s.UndefinedQuotient ((s.divideUndefined f rt).advance 4) f rt := by
  have hres := s.integerResult { f with rc := false } rt (Config.freeQuotient s.freeCtr) false true
  rw [State.result_eq] at hres
  have hxer : ((s.divideUndefined f rt).advance 4).xer = f.xerAfter s.xer false true := by rw [State.divideUndefined_eq]; rfl
  constructor
  case upper =>
    rw [State.divideUndefined_eq]
    exact hres.upper
  case others =>
    rw [State.divideUndefined_eq]
    exact hres.others
  case overflow => rw [hxer, f.xerAfter_ov]
  case summary => rw [hxer, f.xerAfter_so, Bool.and_true]
  case carryAndCount =>
    intro k h2 h32
    rw [hxer]
    rcases Nat.lt_or_eq_of_le h2 with h3 | rfl
    · exact f.xerAfter_rest _ _ _ k h3 h32
    · rw [f.xerAfter_ca, hca]
      rfl
  case record =>
    intro hrc
    rw [hxer, State.divideUndefined_eq, hrc]
    exact bit_cr0_so _ _ s.cr
  case noRecord =>
    intro hrc
    rw [State.divideUndefined_eq, hrc]
    rfl
  case fields =>
    intro k hk
    rw [State.divideUndefined_eq]
    cases f.rc with
    | true => exact s.crField_setCrField_other 0 k _ hk
    | false => rfl
  case next => rw [State.divideUndefined_eq]; rfl
  case frame => rw [State.divideUndefined_eq]; rfl

/-- divw by 0, or of the smallest integer by -1. -/
theorem State.runs_divideSigned_undefined {s : State} {i : Instr} {f : Form} {rt : Reg} {a b : Word} (hca : f.ca = false)
    (hundef : b = 0 ∨ (a = 0x80000000 ∧ b = 0xFFFFFFFF)) (h : exec i s = s.divideSigned f rt a b) :
    Runs i s fun t => s.UndefinedQuotient t f rt := by
  rw [State.divideSigned, if_pos hundef] at h
  exact ⟨_, h, s.undefinedQuotient f rt hca⟩

/-- divwu by 0. -/
theorem State.runs_divideUnsigned_undefined {s : State} {i : Instr} {f : Form} {rt : Reg} {a b : Word} (hca : f.ca = false)
    (hundef : b = 0) (h : exec i s = s.divideUnsigned f rt a b) : Runs i s fun t => s.UndefinedQuotient t f rt := by
  rw [State.divideUnsigned, if_pos hundef] at h
  exact ⟨_, h, s.undefinedQuotient f rt hca⟩

end Sys2Proof.Machine

namespace Sys2Proof.Proofs
open Sys2Proof.Machine

/-- Settles O26: the words written are those of the product and the quotient over the integers, and an undefined quotient leaves
the rest as the form says. -/
theorem multiplyDivideInstructions : Obligations.MultiplyDivideInstructions := by
  unfold Obligations.MultiplyDivideInstructions
  intro s rt ra rb si a b
  rw [← hi_productSigned, ← hi_productUnsigned]
  refine ⟨State.runs_multiplyLow rfl, State.runs_multiplyLow rfl, State.runs_multiplyLow rfl, State.runs_multiplyLow rfl,
    State.runs_multiplyLow rfl, State.runs_plainResult rfl, State.runs_plainResult rfl, State.runs_plainResult rfl,
    State.runs_plainResult rfl, fun hdef => ⟨?_, ?_, ?_, ?_⟩, fun hundef => ⟨?_, ?_, ?_, ?_⟩,
    fun hdef => ⟨?_, ?_, ?_, ?_⟩, fun hundef => ⟨?_, ?_, ?_, ?_⟩⟩
  iterate 4 exact State.runs_divideSigned hdef rfl
  iterate 4 exact State.runs_divideSigned_undefined rfl hundef rfl
  iterate 4 exact State.runs_divideUnsigned hdef rfl
  iterate 4 exact State.runs_divideUnsigned_undefined rfl hundef rfl

end Sys2Proof.Proofs
end

section
/-! SUPPORT. The logical instructions bit by bit (spec/40_integer.md R640 to R656). -/

namespace Sys2Proof.Machine

/-- An instruction whose result has the bits given runs to them. -/
theorem State.runs_bitsResult {s : State} {i : Instr} {rc : Bool} {ra : Reg} {v : Word} {f : Nat → Bool}
    (h : exec i s = s.plainResult ⟨false, false, rc⟩ ra v) (hv : ∀ k, k < 32 → bit v k = f k) :
    Runs i s fun t => s.BitsResult t rc ra f := by
  obtain ⟨t, he, ht⟩ := State.runs_plainResult h
  refine ⟨t, he, ?_, fun k hk => ?_⟩
  · rw [ht.result]
    exact ht
  · rw [ht.result]
    exact hv k hk

/-! ## Bits of the logical functions -/

theorem bit_xor_ne (a b : Word) (i : Nat) : bit (a ^^^ b) i = (bit a i != bit b i) := bit_xor a b i

section
variable (a b : Word) {i : Nat} (h : i < 32)
include h

theorem bit_andc : bit (a &&& ~~~b) i = (bit a i && !bit b i) := by rw [bit_and, bit_not b i h]

theorem bit_orc : bit (a ||| ~~~b) i = (bit a i || !bit b i) := by rw [bit_or, bit_not b i h]

theorem bit_nand : bit (~~~(a &&& b)) i = !(bit a i && bit b i) := by rw [bit_not _ i h, bit_and]

theorem bit_nor : bit (~~~(a ||| b)) i = !(bit a i || bit b i) := by rw [bit_not _ i h, bit_or]

theorem bit_eqv : bit (~~~(a ^^^ b)) i = (bit a i == bit b i) := by
  rw [bit_not _ i h, bit_xor_ne, bne, Bool.not_not]

end

/-! ## Immediates and extensions -/

/-- An immediate in the low half word (R648). -/
theorem zext_eq_ofNat {n : Nat} (v : BitVec n) : zext v = BitVec.ofNat 32 v.toNat := (BitVec.ofNat_toNat ..).symm

/-- The low n bits of a word, as a number of that width. -/
theorem bits_low (n : Nat) (w : Word) (h : n ≤ 32) : bits (32 - n) n w = w.setWidth n := by
  rw [bits, Nat.sub_sub_self h, Nat.sub_self, BitVec.setWidth_eq_extractLsb' h]

/-! ## Leading zeros -/

/-- cntlzw counts the zeros before the first one (R656). -/
theorem leadingRun_leadingZeros (w : Word) : LeadingRun w false (leadingZeros w) := by
  unfold leadingZeros
  cases hfind : (List.range 32).find? fun i => bit w i with
  | none =>
    rw [List.find?_range_eq_none] at hfind
    exact ⟨le_rfl, fun i hi => by simpa using hfind i hi, fun h => absurd h (lt_irrefl _)⟩
  | some n =>
    obtain ⟨hone, hmem, hzero⟩ := List.find?_range_eq_some.1 hfind
    exact ⟨(List.mem_range.1 hmem).le, fun i hi => by simpa using hzero i hi, fun _ => hone⟩

end Sys2Proof.Machine

namespace Sys2Proof.Proofs
open Sys2Proof.Machine

/-- Settles O27: the bits of each logical function, the extensions over the integers, and the count of leading zeros. -/
theorem logicalInstructions : Obligations.LogicalInstructions := by
  unfold Obligations.LogicalInstructions
  intro s rs ra rb ui
  have low : zext ui = BitVec.ofNat 32 ui.toNat := zext_eq_ofNat ui
  have high : upperImmediate ui = BitVec.ofNat 32 (65536 * ui.toNat) := upperImmediate_eq_ofNat ui
  have byte : bits 24 8 (s.r rs) = (s.r rs).setWidth 8 := bits_low 8 _ (by decide)
  have half : bits 16 16 (s.r rs) = (s.r rs).setWidth 16 := bits_low 16 _ (by decide)
  have cntlzw {i : Instr} {rc : Bool}
      (h : exec i s = s.plainResult ⟨false, false, rc⟩ ra (BitVec.ofNat 32 (leadingZeros (s.r rs)))) :
      Runs i s fun t => ∃ n, s.PlainResult t rc ra (BitVec.ofNat 32 n) ∧ LeadingRun (s.r rs) false n := by
    obtain ⟨t, he, ht⟩ := State.runs_plainResult h
    exact ⟨t, he, _, ht, leadingRun_leadingZeros _⟩
  rw [← low, ← high, ← byte, ← half, ← sext_eq_wordOf, ← sext_eq_wordOf]
  exact ⟨State.runs_bitsResult rfl fun k _ => bit_and .., State.runs_bitsResult rfl fun k _ => bit_and ..,
    State.runs_bitsResult rfl fun k => bit_andc _ _, State.runs_bitsResult rfl fun k => bit_andc _ _,
    State.runs_bitsResult rfl fun k _ => bit_or .., State.runs_bitsResult rfl fun k _ => bit_or ..,
    State.runs_bitsResult rfl fun k => bit_orc _ _, State.runs_bitsResult rfl fun k => bit_orc _ _,
    State.runs_bitsResult rfl fun k _ => bit_xor_ne .., State.runs_bitsResult rfl fun k _ => bit_xor_ne ..,
    State.runs_bitsResult rfl fun k => bit_nand _ _, State.runs_bitsResult rfl fun k => bit_nand _ _,
    State.runs_bitsResult rfl fun k => bit_nor _ _, State.runs_bitsResult rfl fun k => bit_nor _ _,
    State.runs_bitsResult rfl fun k => bit_eqv _ _, State.runs_bitsResult rfl fun k => bit_eqv _ _,
    State.runs_bitsResult rfl fun k _ => bit_and .., State.runs_bitsResult rfl fun k _ => bit_and ..,
    State.runs_bitsResult rfl fun k _ => bit_or .., State.runs_bitsResult rfl fun k _ => bit_or ..,
    State.runs_bitsResult rfl fun k _ => bit_xor_ne .., State.runs_bitsResult rfl fun k _ => bit_xor_ne ..,
    State.runs_plainResult rfl, State.runs_plainResult rfl, cntlzw rfl,
    State.runs_plainResult rfl, State.runs_plainResult rfl, cntlzw rfl⟩

end Sys2Proof.Proofs
end

section
/-! SUPPORT. Rotates under a mask, and shifts as products and quotients by a power of two (spec/40_integer.md R659 to R666). -/

namespace Sys2Proof.Machine

/-! ## Masks and rotates -/

/-- A bit of MASK(mb, me) (R659). -/
theorem bit_mask (mb me : BitVec 5) {i : Nat} (hi : i < 32) : bit (mask mb me) i = inMask mb me i := by
  have hme := me.isLt
  have hones : 0xFFFFFFFF#32 = BitVec.allOnes 32 := rfl
  have from' : bit (0xFFFFFFFF#32 >>> mb.toNat) i = decide (mb.toNat ≤ i) := by
    rw [bit, hones, BitVec.getMsbD_ushiftRight, BitVec.getMsbD_allOnes, Bool.eq_iff_iff]
    simp only [Bool.and_eq_true, Bool.not_eq_true', decide_eq_true_eq, decide_eq_false_iff_not]
    omega
  have upTo : bit (0xFFFFFFFF#32 <<< (31 - me.toNat)) i = decide (i ≤ me.toNat) := by
    rw [bit, hones, BitVec.getMsbD_shiftLeft, BitVec.getMsbD_allOnes, Bool.eq_iff_iff]
    simp only [decide_eq_true_eq]
    omega
  unfold mask inMask
  simp only [BitVec.ule, decide_eq_true_eq]
  split
  · rw [bit_and, from', upTo]
  · rw [bit_or, from', upTo]

/-- A bit of a rotated word. -/
theorem bit_rotateLeft (w : Word) (n : Nat) {i : Nat} (hi : i < 32) : bit (w.rotateLeft n) i = rotatedBit w n i := by
  rw [bit, BitVec.getMsbD_rotateLeft, rotatedBit, bit, Nat.add_comm, decide_eq_true hi, Bool.true_and]

/-- A bit of a rotated word under a mask (R661). -/
theorem bit_rotate_mask (w : Word) (n : Nat) (mb me : BitVec 5) {i : Nat} (hi : i < 32) :
    bit (w.rotateLeft n &&& mask mb me) i = (inMask mb me i && rotatedBit w n i) := by
  rw [bit_and, bit_rotateLeft w n hi, bit_mask mb me hi, Bool.and_comm]

/-- A bit of a rotated word inserted under a mask (R660). -/
theorem bit_rotate_insert (w v : Word) (n : Nat) (mb me : BitVec 5) {i : Nat} (hi : i < 32) :
    bit ((w.rotateLeft n &&& mask mb me) ||| (v &&& ~~~(mask mb me))) i =
      if inMask mb me i then rotatedBit w n i else bit v i := by
  rw [bit_or, bit_rotate_mask w n mb me hi, bit_andc v _ hi, bit_mask mb me hi]
  cases inMask mb me i <;> simp

/-! ## Shift counts -/

/-- The low n bits of a word, as a number. -/
theorem toNat_bits_low (n : Nat) (w : Word) (h : n ≤ 32) : (bits (32 - n) n w).toNat = w.toNat % 2 ^ n := by
  rw [bits_low n w h, BitVec.toNat_setWidth]

/-- The count of slw, srw and sraw (R663). -/
theorem shiftCount_eq (w : Word) : shiftCount w = w.toNat % 64 := toNat_bits_low 6 w (by decide)

/-! ## Logical shifts -/

/-- A shift left multiplies by a power of two, and gives 0 from 32 on (R663). -/
theorem shiftLeft_eq_ofNat (w : Word) (n : Nat) : w <<< n = if n < 32 then BitVec.ofNat 32 (w.toNat * 2 ^ n) else 0 := by
  split
  case isTrue =>
    apply BitVec.eq_of_toNat_eq
    rw [BitVec.toNat_shiftLeft, BitVec.toNat_ofNat, Nat.shiftLeft_eq]
  case isFalse h => exact BitVec.shiftLeft_eq_zero (by omega)

/-- A shift right divides by a power of two, and gives 0 from 32 on (R664). -/
theorem ushiftRight_eq_ofNat (w : Word) (n : Nat) : w >>> n = if n < 32 then BitVec.ofNat 32 (w.toNat / 2 ^ n) else 0 := by
  split
  case isTrue =>
    apply BitVec.eq_of_toNat_eq
    have hlt := w.isLt
    have hle := Nat.div_le_self w.toNat (2 ^ n)
    rw [BitVec.toNat_ushiftRight, BitVec.toNat_ofNat, Nat.shiftRight_eq_div_pow, Nat.mod_eq_of_lt (by omega)]
  case isFalse h => exact BitVec.ushiftRight_eq_zero (by omega)

/-! ## Algebraic shifts -/

/-- A shift right algebraic rounds the quotient down (R665). -/
theorem sshiftRight_eq_wordOf (w : Word) (n : Nat) : w.sshiftRight n = wordOf (w.toInt / 2 ^ n) := by
  have hdiv : (w.sshiftRight n).toInt = w.toInt / 2 ^ n := by
    rw [BitVec.toInt_sshiftRight, Int.shiftRight_eq_div_pow, Nat.cast_pow, Nat.cast_ofNat]
  rw [wordOf, ← hdiv, BitVec.ofInt_toInt]

/-- A word is negative exactly if its bit 0 is 1. -/
theorem bit_zero_eq_neg (w : Word) : bit w 0 = decide (w.toInt < 0) := BitVec.msb_eq_toInt

/-- Shifting an integer left within a word. -/
theorem wordOf_shiftLeft (z : Int) (n : Nat) : wordOf z <<< n = wordOf (z * 2 ^ n) := by
  have hpow : BitVec.twoPow 32 n = BitVec.ofInt 32 (2 ^ n : Nat) := by
    apply BitVec.eq_of_toNat_eq
    rw [BitVec.toNat_twoPow, BitVec.ofInt_natCast, BitVec.toNat_ofNat]
  rw [BitVec.shiftLeft_eq_mul_twoPow, hpow, wordOf, wordOf, ← BitVec.ofInt_mul, Nat.cast_pow, Nat.cast_ofNat]

/-- Shifting right and back gives the word again exactly if no one was lost. -/
theorem sshiftRight_shiftLeft_eq_iff (w : Word) {n : Nat} (h : n < 32) :
    w.sshiftRight n <<< n = w ↔ w.toInt % 2 ^ n = 0 := by
  have hlow : 0 ≤ w.toInt % 2 ^ n := Int.emod_nonneg _ (by positivity)
  have hhigh : w.toInt % 2 ^ n < 2 ^ n := Int.emod_lt_of_pos _ (by positivity)
  have hpow : (2 : Int) ^ n ≤ 2 ^ 31 := pow_le_pow_right₀ (by decide) (by omega)
  have hback : w.toInt / 2 ^ n * 2 ^ n = w.toInt - w.toInt % 2 ^ n := by
    rw [eq_sub_iff_add_eq, Int.ediv_mul_add_emod]
  have hmin : -2 ^ 31 ≤ w.toInt := BitVec.le_toInt w
  have hmax : w.toInt < 2 ^ 31 := BitVec.toInt_lt
  rw [sshiftRight_eq_wordOf, wordOf_shiftLeft, hback, ← BitVec.toInt_inj, wordOf, BitVec.toInt_ofInt, Int.bmod_def]
  omega

/-- From 32 on every negative word loses a one. -/
theorem emod_two_pow_ne_zero {w : Word} (hneg : w.toInt < 0) {n : Nat} (h : 32 ≤ n) : w.toInt % 2 ^ n ≠ 0 := by
  have hmin : -2 ^ 31 ≤ w.toInt := BitVec.le_toInt w
  have hpow : (2 : Int) ^ 32 ≤ 2 ^ n := pow_le_pow_right₀ (by decide) h
  rw [Int.emod_eq_add_self_emod, Int.emod_eq_of_lt (by omega) (by omega)]
  omega

/-- CA of sraw and srawi: a negative number loses a one (R665, R666). -/
theorem shiftAlgebraic_carry (w : Word) (n : Nat) :
    (shiftAlgebraic w n).2 = decide (w.toInt < 0 ∧ w.toInt % 2 ^ n ≠ 0) := by
  rw [Bool.eq_iff_iff, decide_eq_true_iff, shiftAlgebraic, Bool.and_eq_true, bit_zero_eq_neg, decide_eq_true_iff,
    Bool.or_eq_true, decide_eq_true_iff, bne_iff_ne]
  refine and_congr_right fun hneg => ?_
  rcases lt_or_ge n 32 with hn | hn
  · rw [or_iff_left (by omega), ne_eq, sshiftRight_shiftLeft_eq_iff w hn]
  · exact iff_of_true (.inr hn) (emod_two_pow_ne_zero hneg hn)

/-! ## The instructions -/

section
variable {s : State} {i : Instr} {rc : Bool} {ra : Reg}

/-- A rotate that inserts under its mask (R660). -/
theorem State.runs_rotateInsert {w : Word} {n : Nat} {mb me : BitVec 5}
    (h : exec i s =
      s.plainResult ⟨false, false, rc⟩ ra ((w.rotateLeft n &&& mask mb me) ||| (s.r ra &&& ~~~(mask mb me)))) :
    Runs i s fun t => s.BitsResult t rc ra fun k => if inMask mb me k then rotatedBit w n k else bit (s.r ra) k :=
  State.runs_bitsResult h fun _ => bit_rotate_insert w (s.r ra) n mb me

/-- A rotate that clears outside its mask (R661, R662). -/
theorem State.runs_rotateMask {w : Word} {n : Nat} {mb me : BitVec 5}
    (h : exec i s = s.plainResult ⟨false, false, rc⟩ ra (w.rotateLeft n &&& mask mb me)) :
    Runs i s fun t => s.BitsResult t rc ra fun k => inMask mb me k && rotatedBit w n k :=
  State.runs_bitsResult h fun _ => bit_rotate_mask w n mb me

/-- A shift left (R663). -/
theorem State.runs_shiftLeft {w : Word} {n : Nat} (h : exec i s = s.plainResult ⟨false, false, rc⟩ ra (w <<< n)) :
    Runs i s fun t => s.PlainResult t rc ra (if n < 32 then BitVec.ofNat 32 (w.toNat * 2 ^ n) else 0) := by
  rw [shiftLeft_eq_ofNat] at h
  exact State.runs_plainResult h

/-- A shift right (R664). -/
theorem State.runs_shiftRight {w : Word} {n : Nat} (h : exec i s = s.plainResult ⟨false, false, rc⟩ ra (w >>> n)) :
    Runs i s fun t => s.PlainResult t rc ra (if n < 32 then BitVec.ofNat 32 (w.toNat / 2 ^ n) else 0) := by
  rw [ushiftRight_eq_ofNat] at h
  exact State.runs_plainResult h

/-- A shift right algebraic runs to its quotient and carry (R665, R666). -/
theorem State.runs_shiftRightAlgebraic {w : Word} {n : Nat} (h : exec i s = s.shiftRightAlgebraic ⟨true, false, rc⟩ ra w n) :
    Runs i s fun t => s.AlgebraicResult t rc ra w n := by
  have hres := s.integerResult ⟨true, false, rc⟩ ra (w.sshiftRight n) (shiftAlgebraic w n).2 false
  rw [shiftAlgebraic_carry, sshiftRight_eq_wordOf] at hres
  rw [State.shiftRightAlgebraic, shiftAlgebraic_carry, shiftAlgebraic, sshiftRight_eq_wordOf] at h
  exact ⟨_, h, hres⟩

end

end Sys2Proof.Machine

namespace Sys2Proof.Proofs
open Sys2Proof.Machine

/-- Settles O28: the bits of a rotate under its mask, and the shifts over the natural numbers and the integers. -/
theorem rotateAndShiftInstructions : Obligations.RotateAndShiftInstructions := by
  unfold Obligations.RotateAndShiftInstructions
  intro s rs ra rb sh mb me
  have rotateCount : (bits 27 5 (s.r rb)).toNat = (s.r rb).toNat % 32 := toNat_bits_low 5 _ (by decide)
  rw [← rotateCount, ← shiftCount_eq]
  exact ⟨State.runs_rotateInsert rfl, State.runs_rotateMask rfl, State.runs_rotateMask rfl,
    State.runs_rotateInsert rfl, State.runs_rotateMask rfl, State.runs_rotateMask rfl,
    State.runs_shiftLeft rfl, State.runs_shiftRight rfl,
    State.runs_shiftRightAlgebraic rfl, State.runs_shiftRightAlgebraic rfl,
    State.runs_shiftLeft rfl, State.runs_shiftRight rfl,
    State.runs_shiftRightAlgebraic rfl, State.runs_shiftRightAlgebraic rfl⟩

end Sys2Proof.Proofs
end

section
/-! SUPPORT. Compares, which write one CR field, and the traps tw and twi (spec/40_integer.md R670 to R681). -/

namespace Sys2Proof.Machine

/-! ## Compares -/

/-- A compare runs to its field. -/
theorem State.runs_compareResult {s : State} {i : Instr} {bf : CrField} {v : BitVec 4}
    (h : exec i s = s.compareResult bf v) : Runs i s fun t => s.FieldResult t bf v :=
  ⟨_, h, s.crField_setCrField_same bf v, fun k hk => s.crField_setCrField_other bf k v hk, rfl⟩

/-- A sign-extended half word is the same integer. -/
theorem toInt_sext (si : BitVec 16) : (sext si).toInt = si.toInt := BitVec.toInt_signExtend_of_le (by decide)

/-- A zero-extended half word is the same number. -/
theorem toNat_zext (ui : BitVec 16) : (zext ui).toNat = ui.toNat := BitVec.toNat_setWidth_of_le (by decide)

/-! ## Traps -/

/-- The trap condition, over the integers (R680). -/
theorem trapCondition_iff (tcond : BitVec 5) (a b : Word) : trapCondition tcond a b = true ↔ Traps tcond a b := by
  simp only [trapCondition, Traps, BitVec.slt_eq_decide, BitVec.ult_eq_decide, Bool.or_eq_true, Bool.and_eq_true,
    decide_eq_true_eq, beq_iff_eq, or_assoc]

/-- Recording an event before an interrupt is no more than DBSR may change in it. -/
theorem State.Interrupted.of_record {s t : State} {e : Word} {v : Bool} {n : Nat} {address esr dear : Word}
    (h : (s.record e v).Interrupted t n address esr dear) : s.Interrupted t n address esr dear := by
  rw [State.record_eq, State.record_dbg] at h
  exact ⟨h.saved, h.mode, h.vector, h.awake, h.program, h.translation, h.frame⟩

/-- A trap whose condition does not hold only moves pc. -/
theorem State.runs_trap_not_met {s : State} {i : Instr} {met : Bool} (hmet : met = false) (h : exec i s = s.trap met) :
    Runs i s fun t => t = { s with pc := s.pc + 4 } := by
  subst hmet
  exact ⟨_, h, rfl⟩

/-- A trap whose condition holds, without a trap debug event in its place, takes the program interrupt
(spec/60_exceptions.md R2026). -/
theorem State.runs_trap_met {s : State} {i : Instr} {met : Bool} (hmet : met = true) (hdebug : s.debugNow 7 = false)
    (h : exec i s = s.trap met) :
    Runs i s fun t => s.Interrupted t 6 s.pc (0x02000000 ||| if s.cur.vle then 0x20 else 0) s.int.dear := by
  subst hmet
  rw [State.trap, hdebug] at h
  have hprogram := (s.record (when (bit s.dbg.dbcr0 7) (oneBit 7)) true).interrupted_program (oneBit 6)
  simp only [State.record_pc, State.record_cur, State.record_int] at hprogram
  exact ⟨_, h, hprogram.of_record⟩

end Sys2Proof.Machine

namespace Sys2Proof.Proofs
open Sys2Proof.Machine

/-- Settles O29: the compares over the integers and the natural numbers, and the trap with its condition met and not met. -/
theorem compareAndTrapInstructions : Obligations.CompareAndTrapInstructions := by
  unfold Obligations.CompareAndTrapInstructions
  intro s bf tcond ra rb si trapped
  have notMet {a b : Word} (h : ¬Traps tcond a b) : trapCondition tcond a b = false :=
    Bool.eq_false_iff.2 fun hc => h ((trapCondition_iff tcond a b).1 hc)
  have met {a b : Word} (h : Traps tcond a b) : trapCondition tcond a b = true := (trapCondition_iff tcond a b).2 h
  refine ⟨?_, ?_, ?_, ?_, fun h => State.runs_trap_not_met (notMet h) rfl, fun h => State.runs_trap_not_met (notMet h) rfl,
    fun hdebug => ⟨fun h => State.runs_trap_met (met h) hdebug rfl, fun h => State.runs_trap_met (met h) hdebug rfl⟩⟩
  · rw [← compareSigned_eq]
    exact State.runs_compareResult rfl
  · rw [← toInt_sext si, ← compareSigned_eq]
    exact State.runs_compareResult rfl
  · rw [← compareUnsigned_eq]
    exact State.runs_compareResult rfl
  · rw [← toNat_zext si, ← compareUnsigned_eq]
    exact State.runs_compareResult rfl

end Sys2Proof.Proofs
end

section
/-! SUPPORT. Words that the spec writes out. -/

namespace Sys2Proof.Proofs
open Sys2Proof.Machine

/-- Settles O7: thirteen closed words, each read by the decoder in the kernel. -/
theorem specWordsDecode : Obligations.SpecWordsDecode := by
  unfold Obligations.SpecWordsDecode
  refine ⟨?_, ?_, ?_, ?_, ?_, ?_, ?_, ?_, ?_, ?_, ?_, ?_, ?_⟩
  all_goals decide +kernel

end Sys2Proof.Proofs
end

section
/-! SUPPORT. Branches: their targets, the branch condition, and the state a branch leaves when no debug event takes its place
(spec/41_branch_cr.md R700 to R705). -/

namespace Sys2Proof.Machine

/-! ## Targets -/

/-- Loading an address into pc clears bit 31 alone (spec/10_state.md R53). -/
theorem bit_codeAddress (w : Word) {i : Nat} (hi : i < 32) : bit (codeAddress w) i = (bit w i && decide (i ≠ 31)) := by
  have hmask : (0xFFFFFFFE : Word) = ~~~(oneBit 31) := by decide
  rw [codeAddress, bit_and, hmask, bit_not _ i hi, bit_oneBit 31 i hi, ← decide_not]
  simp only [ne_eq, eq_comm]

/-- An even address is loaded into pc as it is. -/
theorem codeAddress_of_even {w : Word} (h : bit w 31 = false) : codeAddress w = w := by
  refine word_ext _ _ fun i hi => ?_
  rw [bit_codeAddress w hi]
  by_cases h31 : i = 31
  · rw [h31, h, Bool.false_and]
  · rw [decide_eq_true h31, Bool.and_true]

/-- A register is loaded into pc without its bit 31 (R701). -/
theorem codeAddress_eq_registerTarget (w : Word) : codeAddress w = registerTarget w := by
  refine word_ext _ _ fun i hi => ?_
  have htarget : bit (registerTarget w) i = if 31 ≤ i then (0#1).getMsbD (i - 31) else (bits 0 31 w).getMsbD i :=
    BitVec.getMsbD_append
  rw [bit_codeAddress w hi, htarget]
  split
  case isTrue h => rw [decide_eq_false (by omega), Bool.and_false, BitVec.getMsbD_zero]
  case isFalse h =>
    rw [bits_getMsbD 0 31 w (by decide) i (by omega), Nat.zero_add, decide_eq_true (by omega), Bool.and_true]

/-- The displacement of a branch is four times its field (R701). -/
theorem displacement_eq_wordOf {n : Nat} (d : BitVec n) : displacement d = wordOf (4 * d.toInt) := by
  have happ : (d ++ 0#2).toInt = 4 * d.toInt := by rw [BitVec.toInt_append_zero]; ring
  rw [displacement, BitVec.signExtend, happ, wordOf]

/-- A multiple of four is even, modulo 2^32 too. -/
theorem bit_wordOf_four_mul (z : Int) : bit (wordOf (4 * z)) 31 = false := by
  rw [bit_low, wordOf, BitVec.getLsbD, BitVec.toNat_ofInt, Nat.testBit_zero, decide_eq_false_iff_not]
  omega

/-- An absolute target is loaded into pc as it is. -/
theorem codeAddress_displacement {n : Nat} (d : BitVec n) : codeAddress (displacement d) = wordOf (4 * d.toInt) := by
  rw [displacement_eq_wordOf, codeAddress_of_even (bit_wordOf_four_mul _)]

/-- A target relative to an even address is loaded into pc as it is. -/
theorem codeAddress_add_displacement {n : Nat} {a : Word} (h : bit a 31 = false) (d : BitVec n) :
    codeAddress (a + displacement d) = a + wordOf (4 * d.toInt) := by
  have heven : bit (a + wordOf (4 * d.toInt)) 31 = false := by
    rw [bit_add_low, h, bit_wordOf_four_mul, Bool.xor_false]
  rw [displacement_eq_wordOf, codeAddress_of_even heven]

/-! ## The count and the condition -/

/-- CTR after a conditional branch, over the integers (R700). -/
theorem branchCtr_eq_countAfter (bo : BitVec 5) (ctr : Word) : branchCtr bo ctr = countAfter bo ctr := by
  have hsub : ctr - 1 = wordOf ((ctr.toNat : Int) - 1) := by
    rw [wordOf, Int.sub_eq_add_neg, BitVec.ofInt_add, BitVec.ofInt_natCast, BitVec.ofNat_toNat, BitVec.setWidth_eq,
      BitVec.sub_eq_add_neg]
    rfl
  rw [branchCtr, countAfter, hsub]

/-- The branch condition, read as the table of R700 does. -/
theorem State.branchTaken_iff (s : State) (bo : BitVec 5) (bi : CrBit) : s.branchTaken bo bi = true ↔ Taken s bo bi := by
  have hcount : (bo.getMsbD 2 || ((branchCtr bo s.ctr != 0) ^^ bo.getMsbD 3)) = true ↔
      bo.getMsbD 2 = true ∨ (s.ctr - 1 = 0 ↔ bo.getMsbD 3 = true) := by
    cases h2 : bo.getMsbD 2 with
    | true => simp
    | false =>
      rw [branchCtr, h2]
      cases bo.getMsbD 3 <;> simp
  rw [State.branchTaken, Taken, Bool.and_eq_true, hcount, Bool.or_eq_true, beq_iff_eq]

/-! ## The instructions -/

/-- Everything a branch does when no branch taken debug event takes its place. -/
theorem State.branch_eq {s : State} (hdebug : s.debugNow 5 = false) (taken link : Bool) (ctr target : Word) :
    s.branch taken link ctr target = .next { s with
      pc := if taken then codeAddress target else s.pc + 4
      lr := if link then s.pc + 4 else s.lr
      ctr := ctr } := by
  unfold State.branch
  rw [hdebug, Bool.and_false]
  cases taken <;> rfl

section
variable {s : State} (hdebug : s.debugNow 5 = false) {i : Instr} {link : Bool}
include hdebug

/-- An instruction of the branch shape runs to its branch. -/
theorem State.runs_branch {taken : Bool} {P : Prop} {ctr target target' : Word} (htaken : taken = true ↔ P)
    (htarget : codeAddress target = target') (h : exec i s = s.branch taken link ctr target) :
    Runs i s fun t => s.BranchResult t P link ctr target' := by
  rw [State.branch_eq hdebug] at h
  exact ⟨_, h, {
    goes := fun hp => (if_pos (htaken.2 hp)).trans htarget
    falls := fun hp => if_neg (mt htaken.1 hp)
    link := rfl
    count := rfl
    frame := rfl }⟩

/-- An unconditional branch goes to its target (R702). -/
theorem State.runs_branchAlways {target target' : Word} (htarget : codeAddress target = target')
    (h : exec i s = s.branch true link s.ctr target) : Runs i s fun t => s.BranchResult t True link s.ctr target' :=
  State.runs_branch hdebug (iff_of_true rfl trivial) htarget h

/-- A conditional branch counts, and goes to its target if the condition holds (R703 to R705). -/
theorem State.runs_branchIf {bo : BitVec 5} {bi : CrBit} {target target' : Word} (htarget : codeAddress target = target')
    (h : exec i s = s.branch (s.branchTaken bo bi) link (branchCtr bo s.ctr) target) :
    Runs i s fun t => s.BranchResult t (Taken s bo bi) link (countAfter bo s.ctr) target' := by
  rw [branchCtr_eq_countAfter] at h
  exact State.runs_branch hdebug (s.branchTaken_iff bo bi) htarget h

end

end Sys2Proof.Machine

namespace Sys2Proof.Proofs
open Sys2Proof.Machine

/-- Settles O30: each branch is a target of one of four kinds, with the unconditional or the conditional shape. -/
theorem branchInstructions : Obligations.BranchInstructions := by
  unfold Obligations.BranchInstructions
  intro s li bo bi bd heven hdebug
  have relative {n : Nat} (d : BitVec n) : codeAddress (s.pc + displacement d) = s.pc + wordOf (4 * d.toInt) :=
    codeAddress_add_displacement heven d
  have absolute {n : Nat} (d : BitVec n) : codeAddress (displacement d) = wordOf (4 * d.toInt) := codeAddress_displacement d
  have toLr : codeAddress s.lr = registerTarget s.lr := codeAddress_eq_registerTarget s.lr
  have toCtr : codeAddress s.ctr = registerTarget s.ctr := codeAddress_eq_registerTarget s.ctr
  exact ⟨State.runs_branchAlways hdebug (relative li) rfl, State.runs_branchAlways hdebug (absolute li) rfl,
    State.runs_branchAlways hdebug (relative li) rfl, State.runs_branchAlways hdebug (absolute li) rfl,
    State.runs_branchIf hdebug (relative bd) rfl, State.runs_branchIf hdebug (absolute bd) rfl,
    State.runs_branchIf hdebug (relative bd) rfl, State.runs_branchIf hdebug (absolute bd) rfl,
    State.runs_branchIf hdebug toLr rfl, State.runs_branchIf hdebug toLr rfl,
    State.runs_branchIf hdebug toCtr rfl, State.runs_branchIf hdebug toCtr rfl⟩

end Sys2Proof.Proofs
end

section
/-! SUPPORT. The condition register instructions, bit by bit and field by field (spec/41_branch_cr.md R709 to R725). -/

namespace Sys2Proof.Machine

/-! ## Bits of CR -/

/-- A CR bit after a CR bit is written (R709). -/
theorem State.crBit_setCrBit (s : State) (b k : CrBit) (v : Bool) :
    (s.setCrBit b v).crBit k = if b = k then v else s.crBit k := by
  rw [State.crBit, State.setCrBit_cr, bit_setBit _ _ _ _ k.isLt, State.crBit]
  simp only [BitVec.toNat_inj]

/-- A CR logical instruction runs to its bit (R709). -/
theorem State.runs_crLogical {s : State} {i : Instr} {b : CrBit} {v : Bool} (h : exec i s = s.crLogical b v) :
    Runs i s fun t => s.BitResult t b v :=
  ⟨_, h, (s.crBit_setCrBit b b v).trans (if_pos rfl), fun k hk => (s.crBit_setCrBit b k v).trans (if_neg hk.symm), rfl⟩

/-! ## Fields of CR -/

/-- One field of mtcrf: field i of the CR value c, taken from v if the mask selects it (R722). -/
def selectField (fxm : BitVec 8) (v c : Word) (i : Nat) : Word :=
  if fxm.getMsbD i then putBits (4 * i) 4 (bits (4 * i) 4 v) c else c

theorem selectFields_eq_foldl (fxm : BitVec 8) (cr v : Word) :
    selectFields fxm cr v = (List.range 8).foldl (selectField fxm v) cr := rfl

/-- A field after one field of mtcrf. -/
theorem bits_selectField (fxm : BitVec 8) (v c : Word) {i k : Nat} (hi : i < 8) (hk : k < 8) :
    bits (4 * k) 4 (selectField fxm v c i) =
      if k = i ∧ fxm.getMsbD i then bits (4 * k) 4 v else bits (4 * k) 4 c := by
  unfold selectField
  by_cases hsel : fxm.getMsbD i = true
  · rw [if_pos hsel]
    by_cases hki : k = i
    · rw [if_pos ⟨hki, hsel⟩, hki, bits_putBits_same _ _ _ _ (by omega)]
    · rw [if_neg fun h => hki h.1, bits_putBits_other _ _ _ _ (by omega) _ _ (by omega) (by omega)]
  · rw [if_neg hsel, if_neg fun h => hsel h.2]

/-- A field after the first n fields of mtcrf. -/
theorem bits_foldl_selectField (fxm : BitVec 8) (cr v : Word) {k : Nat} (hk : k < 8) :
    ∀ n ≤ 8, bits (4 * k) 4 ((List.range n).foldl (selectField fxm v) cr) =
      if k < n ∧ fxm.getMsbD k then bits (4 * k) 4 v else bits (4 * k) 4 cr := by
  intro n
  induction n with
  | zero => simp
  | succ n ih =>
    intro hn
    rw [List.range_succ, List.foldl_append, List.foldl_cons, List.foldl_nil, bits_selectField _ _ _ (by omega) hk,
      ih (by omega)]
    rcases eq_or_ne k n with rfl | hne
    · simp
    · have hlt : k < n + 1 ↔ k < n := by omega
      simp only [hne, false_and, if_false, hlt]

/-- A field after mtcrf (R722). -/
theorem bits_selectFields (fxm : BitVec 8) (cr v : Word) (k : CrField) :
    bits (4 * k.toNat) 4 (selectFields fxm cr v) =
      if fxm.getMsbD k.toNat then bits (4 * k.toNat) 4 v else bits (4 * k.toNat) 4 cr := by
  have hk : k.toNat < 8 := k.isLt
  rw [selectFields_eq_foldl, bits_foldl_selectField fxm cr v hk 8 le_rfl]
  simp only [hk, true_and]

/-! ## XER[0:3] -/

/-- mcrxr clears the first four bits of XER and keeps the others (R721). -/
theorem bit_clear_xerField (xer : Word) {k : Nat} (hk : k < 32) :
    bit (xer &&& 0x0FFFFFFF) k = (bit xer k && decide (4 ≤ k)) := by
  have hmask : (0x0FFFFFFF : Word) = BitVec.allOnes 32 >>> 4 := by decide
  have hbit : bit (0x0FFFFFFF : Word) k = decide (4 ≤ k) := by
    rw [bit, hmask, BitVec.getMsbD_ushiftRight, BitVec.getMsbD_allOnes, Bool.eq_iff_iff]
    simp only [Bool.and_eq_true, Bool.not_eq_true', decide_eq_true_eq, decide_eq_false_iff_not]
    omega
  rw [bit_and, hbit]

end Sys2Proof.Machine

namespace Sys2Proof.Proofs
open Sys2Proof.Machine

/-- Settles O31: one bit, one field, the fields under a mask, or one general register. -/
theorem conditionRegisterInstructions : Obligations.ConditionRegisterInstructions := by
  unfold Obligations.ConditionRegisterInstructions
  intro s bt ba bb bf bfa rs rt ra rb fxm
  have mcrf : Runs (.mcrf bf bfa) s fun t => s.FieldResult t bf (s.crField bfa) := State.runs_compareResult rfl
  have mfcr : Runs (.mfcr rt) s fun t => s.PlainResult t false rt s.cr := State.runs_plainResult rfl
  have isel : Runs (.isel rt ra rb bt) s fun t =>
      s.PlainResult t false rt (if bit s.cr bt.toNat then s.base ra else s.r rb) := State.runs_plainResult rfl
  refine ⟨State.runs_crLogical rfl, State.runs_crLogical rfl, State.runs_crLogical rfl, State.runs_crLogical rfl,
    State.runs_crLogical rfl, State.runs_crLogical rfl, State.runs_crLogical rfl, State.runs_crLogical rfl, mcrf, ?mcrxr,
    ?mtcrf, mfcr, isel⟩
  case mcrxr =>
    refine ⟨_, rfl, s.crField_setCrField_same bf _, fun k hk => s.crField_setCrField_other bf k _ hk, fun k hk => ?_,
      fun k hk hk32 => ?_, rfl⟩
    · exact (bit_clear_xerField s.xer (by omega)).trans (by rw [decide_eq_false (by omega), Bool.and_false])
    · exact (bit_clear_xerField s.xer hk32).trans (by rw [decide_eq_true hk, Bool.and_true])
  case mtcrf => exact ⟨_, rfl, fun k => bits_selectFields fxm s.cr (s.r rs) k, rfl⟩

end Sys2Proof.Proofs
end

section
/-! SUPPORT. Barriers and the cache instructions without effect (spec/42_load_store.md R840, R841, spec/43_system.md R880 to
R914). -/

namespace Sys2Proof.Machine

theorem execMbar_legal {mo : BitVec 5} (h : mo.toNat ≤ 2) (s : State) : execMbar mo s = .next (s.advance 4) :=
  if_pos (BitVec.ule_iff_toNat_le.2 h)

theorem execMbar_illegal {mo : BitVec 5} (h : 2 < mo.toNat) (s : State) : execMbar mo s = .next s.illegal :=
  if_neg fun hle => Nat.not_le.2 h (BitVec.ule_iff_toNat_le.1 hle)

/-- An instruction that does nothing but move pc. -/
theorem State.runs_advance {s : State} {i : Instr} {n : Word} (h : exec i s = .next (s.advance n)) :
    Runs i s fun t => t = { s with pc := s.pc + n } := ⟨_, h, rfl⟩

end Sys2Proof.Machine

namespace Sys2Proof.Proofs
open Sys2Proof.Machine

/-- Settles O36: each instruction is an advance of pc, behind the privilege check for dcbi and tlbsync; mbar depends on MO. -/
theorem instructionsWithoutEffect : Obligations.InstructionsWithoutEffect := by
  unfold Obligations.InstructionsWithoutEffect
  intro s mo ct ra rb
  have barrier (h : mo.toNat ≤ 2) : Runs (.mbar mo) s fun t => t = { s with pc := s.pc + 4 } :=
    State.runs_advance ((exec_mbar mo s).trans (execMbar_legal h s))
  have illegal (h : 2 < mo.toNat) : Runs (.mbar mo) s fun t =>
      s.Interrupted t 6 s.pc (0x08000000 ||| if s.cur.vle then 0x20 else 0) s.int.dear :=
    ⟨_, (exec_mbar mo s).trans (execMbar_illegal h s), s.interrupted_program (oneBit 4)⟩
  have wait : Runs .wait s fun t => t = { s with pc := s.pc + 4, waiting := true } := ⟨_, rfl, rfl⟩
  have privileged (h : s.userMode = false) : s.supervisor State.noOperation = .next (s.advance 4) :=
    State.supervisor_of h State.noOperation
  exact ⟨State.runs_advance rfl, State.runs_advance rfl, State.runs_advance rfl, State.runs_advance rfl,
    State.runs_advance rfl, State.runs_advance rfl, State.runs_advance rfl, State.runs_advance rfl, State.runs_advance rfl,
    State.runs_advance rfl, State.runs_advance rfl, barrier, illegal, wait, fun h =>
      ⟨State.runs_advance ((exec_dcbi ra rb s).trans (privileged h)),
        State.runs_advance ((exec_tlbsync s).trans (privileged h))⟩⟩

end Sys2Proof.Proofs
end

section
/-! SUPPORT. Scalars and their bytes, in either byte order (spec/20_memory.md R405). -/

namespace Sys2Proof.Machine

/-! ## Bytes of a double word -/

/-- One more byte at the low end of a number. -/
theorem ofBytes_snoc (bs : List Byte) (b : Byte) : ofBytes (bs ++ [b]) = (ofBytes bs <<< 8) ||| b.setWidth 64 := by
  simp [ofBytes]

/-- The bytes of a value end with its low byte. -/
theorem toBytes_snoc (n : Nat) (v : Dword) : toBytes (n + 1) v = toBytes n (v >>> 8) ++ [v.setWidth 8] := by
  induction n with
  | zero => simp [toBytes]
  | succ n ih =>
    have shifted : v >>> (8 * (n + 1)) = v >>> 8 >>> (8 * n) := by
      rw [← BitVec.shiftRight_add, Nat.mul_succ, Nat.add_comm]
    rw [toBytes, ih, shifted]
    rfl

/-- A number of n bytes has no bit above them. -/
theorem getLsbD_ofBytes_of_le (bs : List Byte) {i : Nat} (h : 8 * bs.length ≤ i) : (ofBytes bs).getLsbD i = false := by
  induction bs using List.reverseRecOn generalizing i with
  | nil => simp [ofBytes]
  | append_singleton bs b ih =>
    have hlen : 8 * (bs.length + 1) ≤ i := by simpa using h
    have low : b.getLsbD i = false := BitVec.getLsbD_of_ge b i (by omega)
    simp [ofBytes_snoc, low, ih (show 8 * bs.length ≤ i - 8 by omega)]

/-- The bytes of the number that up to 8 bytes stand for are these bytes. -/
theorem toBytes_ofBytes (bs : List Byte) (h : bs.length ≤ 8) : toBytes bs.length (ofBytes bs) = bs := by
  induction bs using List.reverseRecOn with
  | nil => rfl
  | append_singleton bs b ih =>
    have hlen : bs.length + 1 ≤ 8 := by simpa using h
    have high : (ofBytes bs <<< 8 ||| b.setWidth 64) >>> 8 = ofBytes bs := by
      refine BitVec.eq_of_getLsbD_eq fun i hi => ?_
      have above (h64 : ¬8 + i < 64) : (ofBytes bs).getLsbD i = false := getLsbD_ofBytes_of_le bs (by omega)
      by_cases h64 : 8 + i < 64 <;> simp [h64, above, BitVec.getLsbD_eq_getElem hi]
    have low : (ofBytes bs <<< 8 ||| b.setWidth 64).setWidth 8 = b := by
      refine BitVec.eq_of_getLsbD_eq fun i hi => ?_
      simp [hi]
    rw [List.length_append, List.length_singleton, toBytes_snoc, ofBytes_snoc, high, low, ih (by omega)]

/-- The bytes of a word do not depend on the upper half of the double word that holds it. -/
theorem toBytes_lo {n : Nat} (hn : n ≤ 4) (v : Dword) : toBytes n ((lo v).setWidth 64) = toBytes n v := by
  induction n with
  | zero => rfl
  | succ n ih =>
    have byte : ((lo v).setWidth 64 >>> (8 * n)).setWidth 8 = (v >>> (8 * n)).setWidth 8 := by
      refine BitVec.eq_of_getLsbD_eq fun i hi => ?_
      have h32 : 8 * n + i < 32 := by omega
      have h64 : 8 * n + i < 64 := by omega
      simp [lo, hi, h32, h64]
    rw [toBytes, toBytes, byte, ih (by omega)]

/-- The bytes of a word as the claims number them. -/
theorem toBytes_word {n : Nat} (hn : n ≤ 4) (w : Word) :
    toBytes n (w.setWidth 64) = (List.range n).map fun k => wordByte w (4 - n + k) := by
  induction n with
  | zero => rfl
  | succ n ih =>
    have first : (w.setWidth 64 >>> (8 * n)).setWidth 8 = wordByte w (4 - (n + 1) + 0) := by
      refine BitVec.eq_of_getLsbD_eq fun i hi => ?_
      have h64 : 8 * n + i < 64 := by omega
      have place : 32 - 8 * (3 - n) - 8 = 8 * n := by omega
      simp [wordByte, bits, hi, h64, place]
    have rest (k : Nat) : 4 - n + k = 4 - (n + 1) + (k + 1) := by omega
    rw [toBytes, first, ih (by omega), List.range_succ_eq_map, List.map_cons, List.map_map]
    simp only [rest, Function.comp_def, Nat.succ_eq_add_one]

/-! ## Byte order -/

/-- Bytes put in an order after they were reversed, or reversed after it, are in the other order. -/
theorem inOrder_reverse (e : Bool) (bs : List Byte) : inOrder e bs.reverse = inOrder (!e) bs := by
  cases e <;> simp [inOrder]

theorem reverse_inOrder (e : Bool) (bs : List Byte) : (inOrder e bs).reverse = inOrder (!e) bs := by
  cases e <;> simp [inOrder]

/-- What a store writes of a word (spec/42_load_store.md R780). -/
theorem inOrder_toBytes_word {n : Nat} (hn : n ≤ 4) (w : Word) (e : Bool) :
    inOrder e (toBytes n (w.setWidth 64)) = lowBytes n w e := by
  rw [toBytes_word hn, lowBytes]

theorem lowBytes_length (n : Nat) (w : Word) (e : Bool) : (lowBytes n w e).length = n := by
  simp [lowBytes, inOrder_length]

/-- What a byte-reversing store writes (R802, R803). -/
theorem inOrder_toBytes_reversed {n : Nat} (hn : n ≤ 4) (w : Word) (e : Bool) :
    inOrder e (toBytes n ((lo (reverseBytes n (w.setWidth 64))).setWidth 64)) = lowBytes n w (!e) := by
  have back := toBytes_ofBytes (toBytes n (w.setWidth 64)).reverse (by simp [toBytes_length]; omega)
  rw [List.length_reverse, toBytes_length] at back
  rw [toBytes_lo hn, reverseBytes, back, inOrder_reverse, inOrder_toBytes_word hn]

/-- What a byte-reversing load gives (R800, R801). -/
theorem lo_reverseBytes {n : Nat} (hn : n ≤ 8) (e : Bool) {bs : List Byte} (hl : bs.length = n) :
    lo (reverseBytes n (ofBytes (inOrder e bs))) = reversed e bs := by
  have back := toBytes_ofBytes (inOrder e bs) (by rw [inOrder_length]; omega)
  rw [inOrder_length, hl] at back
  rw [reverseBytes, back, reverse_inOrder, reversed, zeroExtended]

/-- What an algebraic load gives (R768). -/
theorem signed16_ofBytes (e : Bool) (bs : List Byte) : signed16 (ofBytes (inOrder e bs)) = signExtended e bs := by
  rw [signed16, signExtended, sext_eq_wordOf, BitVec.setWidth_eq_extractLsb' (by decide)]

end Sys2Proof.Machine
end

section
/-! SUPPORT. The integer loads and stores: the registers and the memory that a completed access leaves (spec/42_load_store.md
R750 to R803). -/

namespace Sys2Proof.Machine

/-! ## Accesses that complete -/

theorem State.bytesAt_length (s : State) (m m2 : Mapping) (ea : Word) (n : Nat) : (s.bytesAt m m2 ea n).length = n := by
  rw [State.bytesAt, List.length_map, realAddresses_length]

theorem State.r64_of_gpr {s t : State} (h : t.gpr = s.gpr) (r : Reg) : t.r64 r = s.r64 r := by
  rw [State.r64, State.r64, h]

/-- A completed access drives the signature unit only while it is on for accesses of its kind. -/
theorem State.transferred_keepsSignature (s : State) (q : Request) (m m2 : Mapping) (bs : List Byte) :
    s.KeepsSignature (s.transferred q m m2 bs) (if q.store then 30 else 29) := fun h =>
  s.psu.accumulateAccess_off q.store false false q.ea bs h

/-- What a load leaves before a register is written: only the signature unit and the record of the step may have changed. -/
structure State.LoadDone (s t : State) : Prop where
  only : s.OnlyLoad t
  gpr : t.gpr = s.gpr
  here : t.pc = s.pc

/-- What a store leaves: the bytes are written one after another, and the rest is as after a load. -/
structure State.StoreDone (s t : State) (addresses : List Word) (bytes : List Byte) : Prop where
  memory : t.mem = s.writeCells (addresses.zip bytes)
  only : s.OnlyStore t
  gpr : t.gpr = s.gpr
  here : t.pc = s.pc

/-- A load that can complete. -/
theorem State.load_done {s : State} {ea : Word} {n : Nat} {m m2 : Mapping} (h : s.CanLoad ea n m m2) (kind : AccessKind) :
    ∃ t, s.load ea n kind = .done (s.scalarAt m m2 ea n) t ∧ s.LoadDone t :=
  ⟨_, State.load_ok h kind, ⟨⟨rfl, s.transferred_keepsSignature _ m m2 _⟩, rfl, rfl⟩⟩

/-- A store of the low bytes of a word that can complete. -/
theorem State.store_done {s : State} {ea : Word} {n : Nat} {m m2 : Mapping} (h : s.CanStore ea n m m2) (v : Word)
    (kind : AccessKind) (hx : kind = .atomic → s.pins.xfail = false) :
    ∃ t, s.store ea n (v.setWidth 64) kind = .done true t ∧
      s.StoreDone t (realAddresses m m2 ea n) (inOrder m.entry.e (toBytes n (v.setWidth 64))) := by
  have length : (inOrder m.entry.e (toBytes n (v.setWidth 64))).length = n := by rw [inOrder_length, toBytes_length]
  have signature := s.transferred_keepsSignature { ea := ea, size := n, store := true, kind := kind } m m2
    (inOrder m.entry.e (toBytes n (v.setWidth 64)))
  refine ⟨_, State.store_ok h _ kind hx, ?_⟩
  rw [State.stored, length]
  exact ⟨rfl, ⟨rfl, signature⟩, rfl, rfl⟩

/-- Memory after bytes have been written one after another. -/
theorem State.stores_of_memory {s t : State} {as : List Word} {bs : List Byte} (hl : as.length = bs.length)
    (h : t.mem = s.writeCells (as.zip bs)) : s.Stores t as bs := by
  have read (a : Word) : t.byteAt a = (s.writeCells (as.zip bs)).read a.toNat := by rw [State.byteAt, h]
  exact ⟨fun a ha => (read a).trans (s.writeCells_read_other as bs a ha),
    fun k hk hh hlast => (read _).trans (s.writeCells_read_zip as bs hl k hk hh hlast)⟩

/-! ## Update forms -/

/-- The base register of an update form written with the address (R751). -/
def State.updateBase (s : State) (update : Option Reg) (ea : Word) : State :=
  match update with
  | some ra => s.setR ra ea
  | none => s

section
variable (s : State) (update : Option Reg) (ea : Word)

theorem State.updateBase_eq : s.updateBase update ea = { s with gpr := (s.updateBase update ea).gpr } := by
  cases update <;> rfl

theorem State.keepsUpper_updateBase : s.KeepsUpper (s.updateBase update ea) := by
  cases update with
  | none => exact fun _ => rfl
  | some ra => exact s.keepsUpper_setR ra ea

theorem State.keepsRegisters_updateBase : s.KeepsRegisters (s.updateBase update ea) update.toList := by
  intro r hr
  cases update with
  | none => rfl
  | some ra => exact s.r64_setR_other ra r ea (by simpa using hr)

theorem State.updateBase_r {ra : Reg} (h : update = some ra) : (s.updateBase update ea).r ra = ea := by
  subst h
  exact s.r_setR_same ra ea

end

/-! ## Frames of loads and stores -/

section
variable {s t : State}

theorem State.OnlyLoad.setR (h : s.OnlyLoad t) (r : Reg) (v : Word) : s.OnlyLoad (t.setR r v) :=
  ⟨congrArg (State.setR · r v) h.1, h.2⟩

theorem State.OnlyLoad.advance (h : s.OnlyLoad t) (n : Word) : s.OnlyLoad (t.advance n) :=
  ⟨congrArg (State.advance · n) h.1, h.2⟩

theorem State.OnlyLoad.updateBase (h : s.OnlyLoad t) (update : Option Reg) (ea : Word) :
    s.OnlyLoad (t.updateBase update ea) := by
  cases update with
  | none => exact h
  | some ra => exact h.setR ra ea

theorem State.OnlyStore.setR (h : s.OnlyStore t) (r : Reg) (v : Word) : s.OnlyStore (t.setR r v) :=
  ⟨congrArg (State.setR · r v) h.1, h.2⟩

theorem State.OnlyStore.advance (h : s.OnlyStore t) (n : Word) : s.OnlyStore (t.advance n) :=
  ⟨congrArg (State.advance · n) h.1, h.2⟩

theorem State.OnlyStore.updateBase (h : s.OnlyStore t) (update : Option Reg) (ea : Word) :
    s.OnlyStore (t.updateBase update ea) := by
  cases update with
  | none => exact h
  | some ra => exact h.setR ra ea

end

/-! ## Loads -/

/-- An instruction of the load shape loads. -/
theorem State.loadsInto {s : State} {i : Instr} {n : Nat} {g : Dword → Word} {f : Bool → List Byte → Word}
    {update : Option Reg} {rt : Reg} {ea : Word} (hi : exec i s = s.loadInto n g update rt ea)
    (hg : ∀ e bs, bs.length = n → g (ofBytes (inOrder e bs)) = f e bs) : LoadsInto i s n rt update ea f := by
  intro m m2 h
  obtain ⟨t, loaded, done⟩ := State.load_done h .base
  have run : exec i s =
      .next (((t.updateBase update ea).setR rt (f m.entry.e (s.bytesAt m m2 ea n))).advance 4) := by
    rw [← hg _ _ (s.bytesAt_length m m2 ea n), hi, State.loadInto, loaded]
    rfl
  have kept (r : Reg) : t.r64 r = s.r64 r := State.r64_of_gpr done.gpr r
  refine ⟨_, run, ?_⟩
  constructor
  case result => exact State.r_setR_same _ rt _
  case updated =>
    intro ra hra hne
    exact (congrArg lo (State.r64_setR_other _ rt ra _ hne)).trans (t.updateBase_r update ea hra)
  case upper =>
    intro r
    rw [← kept]
    exact (State.keepsUpper_setR _ rt _ r).trans (t.keepsUpper_updateBase update ea r)
  case others =>
    intro r hr
    rw [List.mem_cons, not_or] at hr
    rw [← kept]
    exact (State.r64_setR_other _ rt r _ hr.1).trans (t.keepsRegisters_updateBase update ea r hr.2)
  case next =>
    rw [← done.here, State.updateBase_eq]
    rfl
  case frame => exact ((done.only.updateBase update ea).setR rt _).advance 4

/-! ## Stores -/

/-- An instruction of the store shape stores. -/
theorem State.storesFrom {s : State} {i : Instr} {n : Nat} {v : Word} {image : Bool → List Byte} {update : Option Reg}
    {ea : Word} (hi : exec i s = s.storeFrom n v update ea)
    (himage : ∀ e, inOrder e (toBytes n (v.setWidth 64)) = image e) : StoresFrom i s n update ea image := by
  intro m m2 h
  obtain ⟨t, stored, done⟩ := State.store_done h v .base nofun
  have length : (image m.entry.e).length = n := by rw [← himage, inOrder_length, toBytes_length]
  have run : exec i s = .next ((t.updateBase update ea).advance 4) := by
    rw [hi, State.storeFrom, stored]
    rfl
  have kept (r : Reg) : t.r64 r = s.r64 r := State.r64_of_gpr done.gpr r
  rw [himage] at done
  refine ⟨_, run, ?_⟩
  constructor
  case stores =>
    refine State.stores_of_memory ((realAddresses_length m m2 ea n).trans length.symm) ?_
    rw [← done.memory, State.updateBase_eq]
    rfl
  case updated => exact fun ra hra => t.updateBase_r update ea hra
  case upper =>
    intro r
    rw [← kept]
    exact t.keepsUpper_updateBase update ea r
  case others =>
    intro r hr
    rw [← kept]
    exact t.keepsRegisters_updateBase update ea r hr
  case next =>
    rw [← done.here, State.updateBase_eq]
    rfl
  case frame => exact (done.only.updateBase update ea).advance 4

end Sys2Proof.Machine

namespace Sys2Proof.Proofs
open Sys2Proof.Machine

/-- Settles O32: the sixteen loads and the two byte-reversed ones are one shape, with three ways to make a word of the bytes. -/
theorem loadInstructions : Obligations.LoadInstructions := by
  unfold Obligations.LoadInstructions
  intro s rt ra rb d
  have zero {i : Instr} {n : Nat} {update : Option Reg} {ea : Word} (h : exec i s = s.loadInto n lo update rt ea) :
      LoadsInto i s n rt update ea zeroExtended := State.loadsInto h fun _ _ _ => rfl
  have sign {i : Instr} {update : Option Reg} {ea : Word} (h : exec i s = s.loadInto 2 signed16 update rt ea) :
      LoadsInto i s 2 rt update ea signExtended := State.loadsInto h fun e bs _ => signed16_ofBytes e bs
  have back {i : Instr} {n : Nat} {ea : Word} (hn : n ≤ 8)
      (h : exec i s = s.loadInto n (fun v => lo (reverseBytes n v)) none rt ea) :
      LoadsInto i s n rt none ea reversed := State.loadsInto h fun e _ hl => lo_reverseBytes hn e hl
  exact ⟨rfl, rfl, zero rfl, zero rfl, zero rfl, zero rfl, zero rfl, zero rfl, zero rfl, zero rfl,
    sign rfl, sign rfl, sign rfl, sign rfl, zero rfl, zero rfl, zero rfl, zero rfl, back (by decide) rfl, back (by decide) rfl⟩

/-- Settles O33: the twelve stores and the two byte-reversed ones are one shape, with two images of the bytes. -/
theorem storeInstructions : Obligations.StoreInstructions := by
  unfold Obligations.StoreInstructions
  intro s rs ra rb d
  have plain {i : Instr} {n : Nat} {update : Option Reg} {ea : Word} (hn : n ≤ 4)
      (h : exec i s = s.storeFrom n (s.r rs) update ea) : StoresFrom i s n update ea (lowBytes n (s.r rs)) :=
    State.storesFrom h fun e => inOrder_toBytes_word hn _ e
  have back {i : Instr} {n : Nat} {ea : Word} (hn : n ≤ 4)
      (h : exec i s = s.storeFrom n (lo (reverseBytes n ((s.r rs).setWidth 64))) none ea) :
      StoresFrom i s n none ea (fun e => lowBytes n (s.r rs) (!e)) :=
    State.storesFrom h fun e => inOrder_toBytes_reversed hn _ e
  have one : 1 ≤ 4 := by decide
  have two : 2 ≤ 4 := by decide
  exact ⟨plain one rfl, plain one rfl, plain one rfl, plain one rfl, plain two rfl, plain two rfl, plain two rfl,
    plain two rfl, plain le_rfl rfl, plain le_rfl rfl, plain le_rfl rfl, plain le_rfl rfl, back two rfl, back le_rfl rfl⟩

end Sys2Proof.Proofs
end

section
/-! SUPPORT. Load and reserve, and store conditional: with a reservation and without one, refused by the platform, and ended by
a bus error (spec/42_load_store.md R819 to R833, spec/20_memory.md R450 to R452). -/

namespace Sys2Proof.Machine

theorem misaligned_of_multiple {ea : Word} {n : Nat} (h : ea.toNat % n = 0) : misaligned ea n = false := by
  rw [misaligned, h]
  rfl

/-! ## Load and reserve -/

/-- A load and reserve that can complete (R820 to R822). -/
theorem State.runs_loadReserve {s : State} {i : Instr} {n : Nat} {r : Reg} {ea : Word} {m m2 : Mapping}
    (hi : exec i s = s.loadReserve n r ea) (haligned : ea.toNat % n = 0) (h : s.CanLoad ea n m m2) :
    Runs i s fun t => t.r r = zeroExtended m.entry.e (s.bytesAt m m2 ea n) ∧ s.KeepsUpper t ∧ s.KeepsRegisters t [r] ∧
      t = { s with gpr := t.gpr, pc := s.pc + 4, psu := t.psu, cur := t.cur, reserve := true } := by
  obtain ⟨t, loaded, done⟩ := State.load_done h .atomic
  rw [State.loadReserve, misaligned_of_multiple haligned, loaded] at hi
  have kept (q : Reg) : t.r64 q = s.r64 q := State.r64_of_gpr done.gpr q
  refine ⟨_, hi, State.r_setR_same _ r _, fun q => ?_, fun q hq => ?_, ?_⟩
  · rw [← kept]
    exact t.keepsUpper_setR r _ q
  · rw [← kept]
    exact t.r64_setR_other r q _ (by simpa using hq)
  · rw [← done.here]
    exact congrArg (fun u => (u.setReserve true).advance 4) (done.only.setR r (lo (s.scalarAt m m2 ea n))).1

/-! ## Store conditional -/

/-- A store conditional without a reservation touches CR0 alone, at any address (R830). -/
theorem State.runs_storeConditional_unreserved {s : State} {i : Instr} {n : Nat} {r : Reg} {ea : Word}
    (hi : exec i s = s.storeConditional n r ea) (hreserve : s.reserve = false) :
    Runs i s fun t => s.FieldResult t 0 (crBits false false false (bit s.xer 0)) := by
  rw [State.storeConditional, hreserve] at hi
  exact State.runs_compareResult hi

/-- The end of a store conditional that had the reservation. -/
def State.concludeConditional (s : State) (performed : Bool) : State :=
  ((s.conditionalCr0 performed).setReserve false).advance 4

/-- A store conditional with the reservation, at a multiple of its size, is a store and its conclusion. -/
theorem State.storeConditional_reserved {s : State} {n : Nat} {ea : Word} (hreserve : s.reserve = true)
    (haligned : ea.toNat % n = 0) (r : Reg) :
    s.storeConditional n r ea =
      (s.store ea n ((s.r r).setWidth 64) .atomic).next fun ok t => t.concludeConditional ok := by
  rw [State.storeConditional, hreserve, misaligned_of_multiple haligned]
  rfl

/-- What the conclusion writes, after a store that left a state u. -/
theorem State.concludeConditional_spec {s u : State} {mem : Memory} {int : IntRegs}
    (hu : u = { s with mem := mem, psu := u.psu, cur := u.cur, int := int }) (performed : Bool) :
    (u.concludeConditional performed).crField 0 = crBits false false performed (bit s.xer 0) ∧
      (∀ k : CrField, k ≠ 0 → (u.concludeConditional performed).crField k = s.crField k) ∧
      u.concludeConditional performed = { s with
        cr := (u.concludeConditional performed).cr, pc := s.pc + 4, mem := mem, psu := u.psu, cur := u.cur, int := int
        reserve := false } := by
  rw [hu]
  exact ⟨State.crField_setCrField_same _ 0 _, fun k hk => State.crField_setCrField_other _ 0 k _ hk, rfl⟩

theorem State.StoreDone.frame {s t : State} {as : List Word} {bs : List Byte} (h : s.StoreDone t as bs) :
    t = { s with mem := t.mem, psu := t.psu, cur := t.cur } := by
  have only := h.only.1
  rwa [h.gpr, h.here] at only

/-- A store conditional that the platform refuses has made its transfer, and memory is as it was (R451). -/
theorem State.store_refused {s : State} {ea : Word} {n : Nat} {m m2 : Mapping} (h : s.CanStore ea n m m2) (v : Dword)
    (hx : s.pins.xfail = true) :
    s.store ea n v .atomic = .done false (s.transferred { ea := ea, size := n, store := true, kind := .atomic } m m2
      (inOrder m.entry.e (toBytes n v))) := by
  unfold State.store State.storeImage
  simp only []
  rw [State.translateData_ok (q := { ea := ea, size := n, store := true, kind := .atomic }) h.maps
    (by simpa [Mapping.permits] using h.permitted.1) (by simpa [Mapping.permits] using h.permitted.2)]
  simp only [Access.bind_of_done, State.busError_take _ _ _ _ h.noError, State.busError_drop _ _ _ _ h.noError, hx,
    beq_self_eq_true, Bool.not_false, Bool.not_true, Bool.and_false, Bool.or_self, Bool.false_eq_true, if_false, Bool.and_true,
    Bool.false_and, Bool.or_true, Bool.or_false, if_true]
  rfl

/-- A store conditional with the reservation whose bytes can be stored (R830 to R833). -/
theorem State.runs_storeConditional {s : State} {i : Instr} {n : Nat} {r : Reg} {ea : Word} {m m2 : Mapping} (hn : n ≤ 4)
    (hi : exec i s = s.storeConditional n r ea) (hreserve : s.reserve = true) (haligned : ea.toNat % n = 0)
    (h : s.CanStore ea n m m2) :
    Runs i s fun t =>
      (if s.pins.xfail then t.mem = s.mem
        else s.Stores t (realAddresses m m2 ea n) (lowBytes n (s.r r) m.entry.e)) ∧
      t.crField 0 = crBits false false (!s.pins.xfail) (bit s.xer 0) ∧
      (∀ k : CrField, k ≠ 0 → t.crField k = s.crField k) ∧
      t = { s with cr := t.cr, pc := s.pc + 4, mem := t.mem, psu := t.psu, cur := t.cur, reserve := false } := by
  rw [State.storeConditional_reserved hreserve haligned] at hi
  cases hx : s.pins.xfail with
  | true =>
    have kept := s.transferred_eq { ea := ea, size := n, store := true, kind := .atomic } m m2
      (inOrder m.entry.e (toBytes n ((s.r r).setWidth 64)))
    rw [State.store_refused h _ hx] at hi
    generalize s.transferred _ m m2 _ = t at hi kept
    have same : t.mem = s.mem := by rw [kept]
    rw [← same] at kept
    obtain ⟨field, others, frame⟩ := State.concludeConditional_spec kept false
    exact ⟨_, hi, same, field, others, frame⟩
  | false =>
    obtain ⟨t, stored, done⟩ := State.store_done h (s.r r) .atomic fun _ => hx
    rw [stored] at hi
    rw [inOrder_toBytes_word hn] at done
    obtain ⟨field, others, frame⟩ := State.concludeConditional_spec done.frame true
    refine ⟨_, hi, ?_, field, others, frame⟩
    rw [if_neg Bool.false_ne_true]
    exact State.stores_of_memory ((realAddresses_length m m2 ea n).trans (lowBytes_length n _ _).symm) done.memory

/-! ## Store conditional: bus errors -/

/-- An access at a multiple of its size, up to a word, is one transfer (spec/62_timers_power_platform.md R2181). -/
theorem firstTransfer_of_multiple {ea : Word} {n : Nat} (hn : n = 1 ∨ n = 2 ∨ n = 4) (h : ea.toNat % n = 0) :
    firstTransfer ea n = n := by
  unfold firstTransfer
  rcases hn with rfl | rfl | rfl <;> omega

/-- The state after the only transfer of a store conditional ended in an error: the condition is in MCSR, and nothing was
written. -/
def State.conditionalFailed (s : State) (q : Request) (m m2 : Mapping) (bs : List Byte) : State :=
  (s.transfer q m m2 (realAddresses m m2 q.ea q.size) bs true false).asyncCheck (oneBit 29)
    ((realAddresses m m2 q.ea q.size).getD 0 0) false

theorem State.conditionalFailed_eq (s : State) (q : Request) (m m2 : Mapping) (bs : List Byte) :
    s.conditionalFailed q m m2 bs = { s with
      psu := (s.conditionalFailed q m m2 bs).psu
      cur := (s.conditionalFailed q m m2 bs).cur
      int := { s.int with
        mcsr := (s.conditionalFailed q m m2 bs).int.mcsr, mcar := (s.conditionalFailed q m m2 bs).int.mcar } } := by
  unfold State.conditionalFailed
  rw [State.asyncCheck_eq]
  rfl

/-- A store that ends in an error reports it in MCSR[BUS_WRERR] (spec/60_exceptions.md R2052). -/
theorem State.conditionalFailed_reported (s : State) (q : Request) (m m2 : Mapping) (bs : List Byte) :
    bit (s.conditionalFailed q m m2 bs).int.mcsr 29 = true := by
  rw [State.conditionalFailed, State.asyncCheck_mcsr _ _ _ (by decide), bit_or, bit_oneBit 29 29 (by decide)]
  simp

/-- A store conditional whose only transfer ends in an error: an error report on a guarded page, and complete on another
(spec/60_exceptions.md R2050, assumption log entry 20). -/
theorem State.store_failed {s : State} {ea : Word} {n : Nat} {m m2 : Mapping} (hmaps : s.MapsData ea n m m2)
    (hw : m.mayWrite s.userMode = true) (hw2 : m2.mayWrite s.userMode = true) (hone : firstTransfer ea n = n)
    (herror : s.busError .store (realAddresses m m2 ea n) = true) (v : Dword) :
    let q : Request := { ea := ea, size := n, store := true, kind := .atomic }
    let bs := inOrder m.entry.e (toBytes n v)
    s.store ea n v .atomic =
      if m.entry.g then
        .raised ((s.conditionalFailed q m m2 bs).dataFault q fun w => w.errorReport (oneBit 17 ||| when m.entry.g (oneBit 18)))
      else .done true ((s.conditionalFailed q m m2 bs).noteAccess { ea := ea, store := true, bytes := bs }) := by
  have whole : (realAddresses m m2 ea n).take n = realAddresses m m2 ea n :=
    List.take_of_length_le (realAddresses_length m m2 ea n).le
  unfold State.store State.storeImage
  simp only []
  rw [State.translateData_ok (q := { ea := ea, size := n, store := true, kind := .atomic }) hmaps
    (by simpa [Mapping.permits] using hw) (by simpa [Mapping.permits] using hw2)]
  simp only [Access.bind_of_done, hone, whole, herror, beq_self_eq_true, Bool.not_true, Bool.false_and, Bool.or_false,
    Bool.true_or, Bool.true_and, Bool.and_true, if_true]
  rfl

section
variable {s : State} {i : Instr} {n : Nat} {r : Reg} {ea : Word} {m m2 : Mapping}
  (hn : n = 1 ∨ n = 2 ∨ n = 4) (hi : exec i s = s.storeConditional n r ea) (hreserve : s.reserve = true)
  (haligned : ea.toNat % n = 0) (hmaps : s.MapsData ea n m m2) (hw : m.mayWrite s.userMode = true)
  (hw2 : m2.mayWrite s.userMode = true) (herror : s.busError .store (realAddresses m m2 ea n) = true)
include hn hi hreserve haligned hmaps hw hw2 herror

/-- A bus error on a store conditional in a guarded page: the error report machine check (R2050). -/
theorem State.runs_storeConditional_reported (hg : m.entry.g = true) (hidm : s.idm = false) : Runs i s fun t =>
    s.KeepsProgram t ∧ t.int.mcsrr0 = s.pc ∧ bit t.int.mcsr 17 = true ∧ bit t.int.mcsr 18 = true := by
  rw [State.storeConditional_reserved hreserve haligned,
    State.store_failed hmaps hw hw2 (firstTransfer_of_multiple hn haligned) herror, if_pos hg, State.conditionalFailed_eq,
    State.dataFault_off (by exact hidm), hg] at hi
  refine ⟨_, hi, ⟨rfl, rfl, rfl, rfl, rfl, rfl, rfl, rfl, rfl⟩, ?_⟩
  rw [State.errorReport_int]
  simp [State.aside, when, bit_oneBit]

/-- A bus error on a store conditional in another page: the instruction completes with nothing written (assumption log
entry 20). -/
theorem State.runs_storeConditional_unreported (hg : m.entry.g = false) : Runs i s fun t =>
    t.crField 0 = crBits false false true (bit s.xer 0) ∧ (∀ k : CrField, k ≠ 0 → t.crField k = s.crField k) ∧
      bit t.int.mcsr 29 = true ∧
      t = { s with
        cr := t.cr, pc := s.pc + 4, psu := t.psu, cur := t.cur, reserve := false
        int := { s.int with mcsr := t.int.mcsr, mcar := t.int.mcar } } := by
  rw [State.storeConditional_reserved hreserve haligned,
    State.store_failed hmaps hw hw2 (firstTransfer_of_multiple hn haligned) herror, if_neg (by simp [hg])] at hi
  have reported := s.conditionalFailed_reported { ea := ea, size := n, store := true, kind := .atomic } m m2
    (inOrder m.entry.e (toBytes n ((s.r r).setWidth 64)))
  have frame := s.conditionalFailed_eq { ea := ea, size := n, store := true, kind := .atomic } m m2
    (inOrder m.entry.e (toBytes n ((s.r r).setWidth 64)))
  generalize s.conditionalFailed _ m m2 _ = u at hi reported frame
  have noted (x : DataAccess) : u.noteAccess x = { s with
      psu := (u.noteAccess x).psu
      cur := (u.noteAccess x).cur
      int := { s.int with mcsr := u.int.mcsr, mcar := u.int.mcar } } := congrArg (State.noteAccess · x) frame
  obtain ⟨field, others, conclusion⟩ := State.concludeConditional_spec (noted _) true
  exact ⟨_, hi, field, others, reported, conclusion⟩

end

end Sys2Proof.Machine

namespace Sys2Proof.Proofs
open Sys2Proof.Machine

/-- Settles O35: each clause is one path of the load and reserve or of the store conditional, for words, half words and
bytes. -/
theorem reservationInstructions : Obligations.ReservationInstructions := by
  unfold Obligations.ReservationInstructions
  intro s r ra rb m m2 reported unreported
  have byte : 1 = 1 ∨ 1 = 2 ∨ 1 = 4 := by decide
  have half : 2 = 1 ∨ 2 = 2 ∨ 2 = 4 := by decide
  have word : 4 = 1 ∨ 4 = 2 ∨ 4 = 4 := by decide
  have failed {i : Instr} {n : Nat} (hn : n = 1 ∨ n = 2 ∨ n = 4) (hi : exec i s = s.storeConditional n r (s.eaX ra rb)) :
      s.reserve = true → (s.eaX ra rb).toNat % n = 0 → s.MapsData (s.eaX ra rb) n m m2 →
      m.mayWrite s.userMode = true → m2.mayWrite s.userMode = true →
      s.busError .store (realAddresses m m2 (s.eaX ra rb) n) = true →
      (m.entry.g = true → s.idm = false → Runs i s fun t => reported t) ∧
      (m.entry.g = false → Runs i s fun t => unreported t) := fun hr ha hm hw hw2 he =>
    ⟨fun hg hidm => State.runs_storeConditional_reported hn hi hr ha hm hw hw2 he hg hidm,
      fun hg => State.runs_storeConditional_unreported hn hi hr ha hm hw hw2 he hg⟩
  exact ⟨State.runs_loadReserve rfl, State.runs_loadReserve rfl, State.runs_loadReserve rfl,
    State.runs_storeConditional_unreserved rfl, State.runs_storeConditional (by decide) rfl, failed word rfl,
    State.runs_storeConditional_unreserved rfl, State.runs_storeConditional (by decide) rfl, failed half rfl,
    State.runs_storeConditional_unreserved rfl, State.runs_storeConditional (by decide) rfl, failed byte rfl⟩

end Sys2Proof.Proofs
end

section
/-! SUPPORT. The external input that arrives inside a load or store multiple, and the interrupt it is abandoned for
(spec/60_exceptions.md R2011, R2024). -/

namespace Sys2Proof.Machine

/-! ## The external input alone -/

/-- No event: neither counter counts, reaches zero or is triggered. -/
theorem counterStep_noCountEvents (dbcr3 dbcnt : Word) (triggered : Bool) :
    (counterStep dbcr3 dbcnt triggered noCountEvents).2 = (false, false, false) := by
  have counts1 : counts1 dbcr3 noCountEvents = false := by simp [Machine.counts1, noCountEvents]
  have counts2 : counts2 dbcr3 noCountEvents = false := by simp [Machine.counts2, noCountEvents]
  have triggers1 : triggers1 dbcr3 noCountEvents false = false := by simp [Machine.triggers1, noCountEvents]
  simp only [counterStep, counts1, counts2, triggers1, Bool.false_and, Bool.and_false]
  split <;> rfl

/-- No event leaves no debug event. -/
theorem State.countEvents_noCountEvents (s : State) (old : DebugRegs) (de : Bool) :
    s.countEvents old de noCountEvents = { s with
      dbg := { s.dbg with dbcnt := (s.countEvents old de noCountEvents).dbg.dbcnt } } := by
  unfold State.countEvents
  split
  · simp [counterStep_noCountEvents, when]
  · rfl

/-- The pins with the external input asserted, and no other input changed. -/
def Pins.withExtint (p : Pins) : Pins := { p with extint := true }

/-- With the two edge-sensitive inputs as sampled, the external input brings no edge (assumption log entry 43). -/
theorem State.samplePins_extint {s : State} (h : s.SamplesPins) :
    s.samplePins s.pins.withExtint = { s with pins := s.pins.withExtint } := by
  by_cases hclk : s.clocked = true
  · have sampled := h hclk
    simp [State.samplePins, Pins.withExtint, sampled, when]
  · exact State.samplePins_unclocked (Bool.eq_false_iff.2 hclk)

/-- New pin levels without an edge of p_ude, p_devt1 or p_devt2. -/
theorem State.setPins_noEdge {s : State} {p : Pins} (hude : (!s.pins.ude && p.ude) = false)
    (hdevt1 : (!s.pins.devt1 && p.devt1) = false) (hdevt2 : (!s.pins.devt2 && p.devt2) = false) :
    s.setPins p =
      if s.debugHalt then s.samplePins p else (s.samplePins p).countEvents s.dbg s.de noCountEvents := by
  have noEvent : when false (oneBit 1) ||| when false (oneBit 21) ||| when false (oneBit 22) = 0 := rfl
  have unrecorded : (s.samplePins p).record 0 false = s.samplePins p := by simp [State.record]
  unfold State.setPins
  simp only [hude, hdevt1, hdevt2, Bool.false_and, noEvent, unrecorded, Bool.false_eq_true, if_false, List.append_nil]
  rfl

/-- The state when the external input has arrived inside a multiple. -/
def State.withExtint (s : State) (dbcnt : Word) (reserve : Bool) : State :=
  { s with pins := s.pins.withExtint, dbg := { s.dbg with dbcnt := dbcnt }, reserve := reserve, midway := [] }

/-- The external input asserted alone: the level, and no debug event. -/
theorem State.setPins_extint {s : State} (h : s.SamplesPins) :
    ∃ dbcnt, s.setPins s.pins.withExtint =
      { s with pins := s.pins.withExtint, dbg := { s.dbg with dbcnt := dbcnt } } := by
  have level : s.setPins s.pins.withExtint = _ := State.setPins_noEdge (Bool.not_and_self s.pins.ude)
    (Bool.not_and_self s.pins.devt1) (Bool.not_and_self s.pins.devt2)
  rw [level, State.samplePins_extint h]
  split
  · exact ⟨s.dbg.dbcnt, rfl⟩
  · exact ⟨_, State.countEvents_noCountEvents _ _ _⟩

theorem State.arrive_extint {s : State} (h : s.SamplesPins) (j : Nat) :
    ∃ dbcnt reserve, ({ s with midway := [] }.arrive { after := j, ticks := 0, pins := s.pins.withExtint }).pinLevels =
      s.withExtint dbcnt reserve := by
  obtain ⟨dbcnt, arrived⟩ := State.setPins_extint (s := { s with midway := [] }) h
  have levels (t : State) : ∃ reserve, t.pinLevels = { t with reserve := reserve } := ⟨_, t.pinLevels_eq⟩
  obtain ⟨reserve, leveled⟩ := levels ({ s with midway := [] }.setPins s.pins.withExtint)
  exact ⟨dbcnt, reserve, leveled.trans (congrArg (fun t : State => { t with reserve := reserve }) arrived)⟩

/-- With nothing else pending the external input is taken (spec/60_exceptions.md R2061). -/
theorem State.pending_withExtint {s : State} (h : s.pending = none) (hee : bit s.msr 16 = true) (dbcnt : Word)
    (reserve : Bool) : (s.withExtint dbcnt reserve).pending = some .externalInput := by
  have asserted : ((s.withExtint dbcnt reserve).pins.extint && bit (s.withExtint dbcnt reserve).msr 16) = true := hee
  unfold State.pending at h
  split_ifs at h with machineCheck debug critical watchdog
  exact (if_neg machineCheck).trans ((if_neg debug).trans ((if_neg critical).trans ((if_neg watchdog).trans
    (if_pos asserted))))

/-! ## The interrupt -/

/-- The vector of an input, as the claims write it (R2006). -/
theorem codeAddress_inputVector (s : State) (n : Nat) :
    codeAddress (s.inputVector n) = if s.pins.avec then bits 0 16 s.int.ivpr ++ bits 16 12 (s.ivorAt n) ++ 0#4
      else bits 0 16 s.int.ivpr ++ (s.pins.voffset &&& 0xFFF0) := by
  have offset (v : BitVec 16) (i : Nat) (hi : i < 16) :
      (v &&& 0xFFF0).getMsbD i = if i < 12 then (v.extractLsb' 4 12).getMsbD i else false := by
    rw [BitVec.getMsbD_and]
    interval_cases i <;> simp [BitVec.getMsbD]
  unfold State.inputVector
  split
  · exact codeAddress_vectorOf s n
  · rw [vectorAt, codeAddress_vector]
    refine word_ext _ _ fun i hi => ?_
    simp only [bit, BitVec.getMsbD_append]
    by_cases h28 : 16 + 12 ≤ i
    · have h16 : 16 ≤ i := by omega
      rw [if_pos h28, if_pos h16, offset _ _ (by omega), if_neg (by omega), BitVec.getMsbD_zero]
    · rw [if_neg h28]
      split
      · rw [offset _ _ (by omega), if_pos (by omega)]
      · rfl

/-- Everything the external input interrupt does (R2024). -/
theorem State.takePending_externalInput (s : State) :
    s.takePending .externalInput = { s with
      int := { s.int with srr0 := s.pc, srr1 := s.msr }
      msr := s.msr &&& 0x00021202
      pc := if s.pins.avec then bits 0 16 s.int.ivpr ++ bits 16 12 (s.ivorAt 4) ++ 0#4
        else bits 0 16 s.int.ivpr ++ (s.pins.voffset &&& 0xFFF0)
      waiting := false
      firstFetch := true
      dbg := (s.takePending .externalInput).dbg
      cur := (s.takePending .externalInput).cur
      outputs := (s.takePending .externalInput).outputs } := by
  simp only [State.takePending]
  rw [State.takeInterrupt_eq, ← codeAddress_inputVector, ← newMsr_nonCritical s.hid.hid0]
  rfl

/-- An instruction abandoned for the external input, as the claims say it. -/
def State.Abandons (s t : State) : Prop :=
  s.AbandonedFor t ∧ t.cr = s.cr ∧ t.xer = s.xer ∧ t.lr = s.lr ∧ t.ctr = s.ctr

/-- At the transfer after which the input arrives the multiple is abandoned; what it has loaded or stored stays. -/
theorem State.between_inputInside {s : State} {j n : Nat} (h : s.InputInside j n) :
    ∃ t, s.between j = .raised t ∧ s.Abandons t ∧ t.gpr = s.gpr ∧ t.mem = s.mem := by
  obtain ⟨hmidway, -, hee, hpending, hsamples⟩ := h
  have hinput : s.midway = [{ after := j, ticks := 0, pins := s.pins.withExtint }] := hmidway
  obtain ⟨dbcnt, reserve, arrived⟩ := State.arrive_extint hsamples j
  have request : (s.withExtint dbcnt reserve).asyncRequest = true := by 
    simp [State.asyncRequest, State.withExtint, Pins.withExtint, hee]
  have abandoned : s.between j = .raised ({ s.withExtint dbcnt reserve with
      cur := { s.cur with accesses := [], abandoned := true } }.takePending .externalInput).suppress := by
    have due : s.midway.filter (fun m => m.after ≤ j) = [{ after := j, ticks := 0, pins := s.pins.withExtint }] := by
      simp [hinput]
    have later : s.midway.filter (fun m => !(m.after ≤ j)) = [] := by simp [hinput]
    unfold State.between
    simp only [due, later, List.foldl_cons, List.foldl_nil, arrived, State.pending_withExtint hpending hee, request, if_true]
    rfl
  rw [State.takePending_externalInput] at abandoned
  exact ⟨_, abandoned, ⟨⟨rfl, rfl, rfl, rfl⟩, rfl, rfl, rfl, rfl⟩, rfl, rfl⟩

end Sys2Proof.Machine
end

section
/-! SUPPORT. Words transferred one after another by lmw, stmw, e_lmw and e_stmw (spec/42_load_store.md R810, R811). -/

namespace Sys2Proof.Machine

/-! ## Chaining -/

theorem Access.bind_assoc {α β γ : Type} (x : Access α) (f : α → State → Access β) (g : β → State → Access γ) :
    (x.bind f).bind g = x.bind fun v t => (f v t).bind g := by
  cases x <;> rfl

/-- The address after n more words. -/
theorem wordAddress_succ (ea : Word) (n : Nat) : ea + 4 + BitVec.ofNat 32 (4 * n) = ea + BitVec.ofNat 32 (4 * (n + 1)) := by
  rw [Nat.mul_succ, Nat.add_comm (4 * n), BitVec.ofNat_add, ← BitVec.add_assoc]
  rfl

theorem State.loadWords_append (s : State) (b : Bool) (ea : Word) (k : Nat) (fs gs : List (Word → State → State)) :
    s.loadWords b ea k (fs ++ gs) = (s.loadWords b ea k fs).bind fun _ t =>
      t.loadWords b (ea + BitVec.ofNat 32 (4 * fs.length)) (k + fs.length) gs := by
  induction fs generalizing s ea k with
  | nil => simp [State.loadWords]
  | cons f fs ih =>
    simp only [List.cons_append, State.loadWords, Access.bind_assoc, ih, wordAddress_succ, List.length_cons, Nat.add_assoc,
      Nat.add_comm 1]

theorem State.storeWords_append (s : State) (b : Bool) (ea : Word) (k : Nat) (vs ws : List Word) :
    s.storeWords b ea k (vs ++ ws) = (s.storeWords b ea k vs).bind fun _ t =>
      t.storeWords b (ea + BitVec.ofNat 32 (4 * vs.length)) (k + vs.length) ws := by
  induction vs generalizing s ea k with
  | nil => simp [State.storeWords]
  | cons v vs ih =>
    simp only [List.cons_append, State.storeWords, Access.bind_assoc, ih, wordAddress_succ, List.length_cons, Nat.add_assoc,
      Nat.add_comm 1]

/-- No input arrives before transfer n. -/
def State.Undisturbed (s : State) (n : Nat) : Prop := ∀ k < n, s.midway.filter (fun m => m.after ≤ k) = []

theorem State.undisturbed_of_idle {s : State} (h : s.midway = []) (n : Nat) : s.Undisturbed n := fun k _ => by simp [h]

theorem State.InputInside.undisturbed {s : State} {j n : Nat} (h : s.InputInside j n) : s.Undisturbed j := by
  obtain ⟨hmidway, -⟩ := h
  intro k hk
  have later : ¬j ≤ k := by omega
  simp [hmidway, later]

theorem State.InputInside.lt {s : State} {j n : Nat} (h : s.InputInside j n) : j < n := by
  obtain ⟨-, hj, -⟩ := h
  exact hj

theorem State.between_undisturbed {s : State} {n k : Nat} (h : s.Undisturbed n) (hk : k < n) : s.between k = .done () s := by
  simp only [State.between, h k hk]

/-! ## States that differ in registers, memory and what the step has noted -/

/-- A state that data accesses of one instruction have reached from another. -/
def State.Moved (s t : State) : Prop := t = { s with gpr := t.gpr, mem := t.mem, psu := t.psu, cur := t.cur }

section
variable {s t : State} (h : s.Moved t)
include h

theorem State.Moved.midway : t.midway = s.midway := by rw [h]

theorem State.Moved.mapsData {ea : Word} {n : Nat} {m m2 : Mapping} (hm : s.MapsData ea n m m2) : t.MapsData ea n m m2 := by
  rw [h]
  exact ⟨hm.first, hm.single, hm.within, hm.second, hm.single2, hm.sameOrder⟩

theorem State.Moved.canLoad {ea : Word} {n : Nat} {m m2 : Mapping} (hl : s.CanLoad ea n m m2) : t.CanLoad ea n m m2 := by
  have maps := h.mapsData hl.maps
  rw [h] at maps ⊢
  exact ⟨maps, hl.permitted, hl.noError⟩

theorem State.Moved.canStore {ea : Word} {n : Nat} {m m2 : Mapping} (hl : s.CanStore ea n m m2) : t.CanStore ea n m m2 := by
  have maps := h.mapsData hl.maps
  rw [h] at maps ⊢
  exact ⟨maps, hl.permitted, hl.noError⟩

theorem State.Moved.undisturbed {n : Nat} (hq : s.Undisturbed n) : t.Undisturbed n := by
  rw [State.Undisturbed, h.midway]
  exact hq

theorem State.Moved.inputInside {j n : Nat} (hi : s.InputInside j n) : t.InputInside j n := by
  rw [h]
  exact hi

theorem State.Moved.abandons {u : State} (hu : t.Abandons u) : s.Abandons u := by
  rw [h] at hu
  exact hu

end

/-! ## Frames one after another -/

section
variable {s t u : State}

theorem State.KeepsSignature.trans {k : Nat} (h : s.KeepsSignature t k) (h' : t.KeepsSignature u k) :
    s.KeepsSignature u k := fun off => by
  have same : t.psu = s.psu := h off
  rw [← same] at off ⊢
  exact h' off

theorem State.OnlyLoad.trans (h : s.OnlyLoad t) (h' : t.OnlyLoad u) : s.OnlyLoad u := by
  obtain ⟨frame', signature'⟩ := h'
  rw [h.1] at frame'
  exact ⟨frame', State.KeepsSignature.trans h.2 signature'⟩

theorem State.OnlyStore.trans (h : s.OnlyStore t) (h' : t.OnlyStore u) : s.OnlyStore u := by
  obtain ⟨frame', signature'⟩ := h'
  rw [h.1] at frame'
  exact ⟨frame', State.KeepsSignature.trans h.2 signature'⟩

end

/-! ## Words loaded -/

/-- The first n words at ea are in the registers from r on; nothing else has changed but what loads may touch. -/
structure State.LoadedWords (s t : State) (r : Reg) (ea : Word) (m : Nat → Mapping) (n : Nat) : Prop where
  loaded : ∀ k, k < n → t.r (r + BitVec.ofNat 5 k) = s.wordAt m ea k
  others : ∀ q : Reg, q.toNat < r.toNat ∨ r.toNat + n ≤ q.toNat → t.r64 q = s.r64 q
  upper : s.KeepsUpper t
  here : t.pc = s.pc
  frame : s.OnlyLoad t

theorem State.LoadedWords.zero (s : State) (r : Reg) (ea : Word) (m : Nat → Mapping) : s.LoadedWords s r ea m 0 where
  loaded := fun _ hk => absurd hk (Nat.not_lt_zero _)
  others := fun _ _ => rfl
  upper := fun _ => rfl
  here := rfl
  frame := ⟨rfl, fun _ => rfl⟩

/-- The number of register k after r, as long as there is one. -/
theorem toNat_register (r : Reg) {k : Nat} (h : r.toNat + k < 32) : (r + BitVec.ofNat 5 k).toNat = r.toNat + k := by
  rw [BitVec.toNat_add, BitVec.toNat_ofNat]
  omega

section
variable {s t : State} {r : Reg} {ea : Word} {m : Nat → Mapping} {n : Nat}

theorem State.LoadedWords.mem (h : s.LoadedWords t r ea m n) : t.mem = s.mem := by
  rw [h.frame.1]

theorem State.LoadedWords.moved (h : s.LoadedWords t r ea m n) : s.Moved t := by
  rw [State.Moved, h.mem, ← h.here]
  exact h.frame.1

/-- One more word. -/
theorem State.LoadedWords.next (h : s.LoadedWords t r ea m n) (hn : r.toNat + n < 32)
    (hl : s.CanLoad (ea + BitVec.ofNat 32 (4 * n)) 4 (m n) (m n)) :
    ∃ v u, t.load (ea + BitVec.ofNat 32 (4 * n)) 4 .multiple = .done v u ∧
      s.LoadedWords (u.setR (r + BitVec.ofNat 5 n) (lo v)) r ea m (n + 1) := by
  have value : lo (t.scalarAt (m n) (m n) (ea + BitVec.ofNat 32 (4 * n)) 4) = s.wordAt m ea n := by
    have byteAt : t.byteAt = s.byteAt := by
      funext a
      rw [State.byteAt, State.byteAt, h.mem]
    rw [State.scalarAt, State.bytesAt, byteAt]
    rfl
  have other (q : Reg) (hq : q.toNat ≠ r.toNat + n) : q ≠ r + BitVec.ofNat 5 n := fun e => by
    rw [e, toNat_register r hn] at hq
    exact hq rfl
  obtain ⟨u, hload, done⟩ := State.load_done (h.moved.canLoad hl) .multiple
  have kept (q : Reg) : u.r64 q = t.r64 q := State.r64_of_gpr done.gpr q
  refine ⟨_, u, hload, ?_⟩
  rw [value]
  constructor
  case loaded =>
    intro k hk
    rcases Nat.lt_succ_iff_lt_or_eq.1 hk with hlt | rfl
    · have hne := other (r + BitVec.ofNat 5 k) (by rw [toNat_register r (by omega)]; omega)
      exact (congrArg lo ((u.r64_setR_other _ _ _ hne).trans (kept _))).trans (h.loaded k hlt)
    · exact u.r_setR_same _ _
  case others =>
    intro q hq
    exact (u.r64_setR_other _ _ _ (other q (by omega))).trans ((kept q).trans (h.others q (by omega)))
  case upper =>
    intro q
    rw [← h.upper q, ← kept q]
    exact u.keepsUpper_setR _ _ q
  case here => exact done.here.trans h.here
  case frame => exact State.OnlyLoad.setR (State.OnlyLoad.trans h.frame done.only) _ _

end

/-- What lmw writes with word k. -/
def registerWriter (r : Reg) (k : Nat) (v : Word) (t : State) : State := t.setR (r + BitVec.ofNat 5 k) v

theorem registersFrom_writers (r : Reg) :
    ((registersFrom r).map fun r v (t : State) => t.setR r v) = (List.range (32 - r.toNat)).map (registerWriter r) := by
  rw [registersFrom, List.map_map]
  rfl

section
variable {s : State} {r : Reg} {ea : Word} {m : Nat → Mapping} {n : Nat}

/-- With no input before transfer n, the first n words are loaded. -/
theorem State.loadWords_done (hquiet : s.Undisturbed n) (hn : r.toNat + n ≤ 32) (hl : s.CanLoadWords ea n m) :
    ∃ t, s.loadWords true ea 0 ((List.range n).map (registerWriter r)) = .done () t ∧ s.LoadedWords t r ea m n := by
  induction n with
  | zero => exact ⟨s, rfl, .zero s r ea m⟩
  | succ n ih =>
    obtain ⟨t, first, reached⟩ := ih (fun k hk => hquiet k (by omega)) (by omega) fun k hk => hl k (by omega)
    obtain ⟨v, u, load, next⟩ := reached.next (by omega) (hl n (by omega))
    refine ⟨_, ?_, next⟩
    have going : t.between n = .done () t := State.between_undisturbed (reached.moved.undisturbed hquiet) (by omega)
    rw [List.range_succ, List.map_append, State.loadWords_append, first, Access.bind_of_done, List.length_map,
      List.length_range, Nat.zero_add]
    simp only [List.map_cons, List.map_nil, State.loadWords, State.mayAbandon, if_true, going, Access.bind_of_done, load]
    rfl

/-- When the external input arrives after transfer j, the first j words are loaded and the instruction is abandoned. -/
theorem State.loadWords_abandoned {j : Nat} (hinput : s.InputInside j n) (hn : r.toNat + n ≤ 32)
    (hl : s.CanLoadWords ea j m) :
    ∃ t u, s.loadWords true ea 0 ((List.range n).map (registerWriter r)) = .raised u ∧ s.LoadedWords t r ea m j ∧
      s.Abandons u ∧ u.gpr = t.gpr ∧ u.mem = t.mem := by
  have hj : j < n := hinput.lt
  obtain ⟨t, first, reached⟩ := State.loadWords_done (r := r) hinput.undisturbed (by omega) hl
  obtain ⟨u, raised, abandons, gpr, mem⟩ := State.between_inputInside (reached.moved.inputInside hinput)
  refine ⟨t, u, ?_, reached, reached.moved.abandons abandons, gpr, mem⟩
  obtain ⟨l, rfl⟩ : ∃ l, n = j + (l + 1) := ⟨n - j - 1, by omega⟩
  rw [List.range_add, List.map_append, State.loadWords_append, first, Access.bind_of_done, List.length_map,
    List.length_range, Nat.zero_add, List.range_succ_eq_map]
  simp only [List.map_cons, State.loadWords, State.mayAbandon, if_true, raised, Access.bind_of_raised]

end

/-! ## Words stored -/

/-- What stmw stores: the low words of n registers from r on. -/
def State.valuesFrom (s : State) (r : Reg) (n : Nat) : List Word := (List.range n).map fun k => s.r (r + BitVec.ofNat 5 k)

theorem State.valuesFrom_length (s : State) (r : Reg) (n : Nat) : (s.valuesFrom r n).length = n := by
  rw [State.valuesFrom, List.length_map, List.length_range]

theorem registersFrom_values (s : State) (r : Reg) : (registersFrom r).map s.r = s.valuesFrom r (32 - r.toNat) := by
  rw [registersFrom, List.map_map]
  rfl

/-- After the first j words there is one more to store. -/
theorem State.valuesFrom_split (s : State) (r : Reg) {j n : Nat} (h : j < n) :
    ∃ v ws, s.valuesFrom r n = s.valuesFrom r j ++ v :: ws := by
  obtain ⟨l, rfl⟩ : ∃ l, n = j + (l + 1) := ⟨n - j - 1, by omega⟩
  rw [State.valuesFrom, List.range_add, List.map_append, List.range_succ_eq_map]
  exact ⟨_, _, rfl⟩

theorem wordAddresses_length (m : Nat → Mapping) (ea : Word) (n : Nat) : (wordAddresses m ea n).length = 4 * n := by
  simp [wordAddresses, realAddresses_length, Nat.mul_comm]

theorem wordAddresses_succ (m : Nat → Mapping) (ea : Word) (n : Nat) :
    wordAddresses m ea (n + 1) =
      wordAddresses m ea n ++ realAddresses (m n) (m n) (ea + BitVec.ofNat 32 (4 * n)) 4 := by
  simp [wordAddresses, List.range_succ]

theorem wordImages_snoc (m : Nat → Mapping) (vs : List Word) (v : Word) :
    wordImages m (vs ++ [v]) = wordImages m vs ++ lowBytes 4 v (m vs.length).entry.e := by
  simp [wordImages, List.zipIdx_append]

theorem wordImages_length (m : Nat → Mapping) (vs : List Word) : (wordImages m vs).length = 4 * vs.length := by
  induction vs using List.reverseRecOn with
  | nil => rfl
  | append_singleton vs v ih => simp [wordImages_snoc, ih, lowBytes_length, Nat.mul_succ]

theorem Memory.writeAll_append (m : Memory) (xs ys : List (Word × Byte)) :
    m.writeAll (xs ++ ys) = (m.writeAll xs).writeAll ys := by
  induction xs generalizing m with
  | nil => rfl
  | cons x xs ih => exact ih _

/-- The first words are stored at ea; nothing else has changed but what stores may touch. -/
structure State.StoredWords (s t : State) (ea : Word) (m : Nat → Mapping) (vs : List Word) : Prop where
  memory : t.mem = s.writeCells ((wordAddresses m ea vs.length).zip (wordImages m vs))
  gpr : t.gpr = s.gpr
  here : t.pc = s.pc
  frame : s.OnlyStore t

section
variable {s t : State} {ea : Word} {m : Nat → Mapping} {vs : List Word}

theorem State.StoredWords.nil (s : State) (ea : Word) (m : Nat → Mapping) : s.StoredWords s ea m [] :=
  ⟨rfl, rfl, rfl, rfl, fun _ => rfl⟩

theorem State.StoredWords.stores (h : s.StoredWords t ea m vs) :
    s.Stores t (wordAddresses m ea vs.length) (wordImages m vs) :=
  State.stores_of_memory (by rw [wordAddresses_length, wordImages_length]) h.memory

theorem State.StoredWords.moved (h : s.StoredWords t ea m vs) : s.Moved t := by
  rw [State.Moved, h.gpr]
  have frame := h.frame.1
  rwa [h.gpr, h.here] at frame

/-- One more word. -/
theorem State.StoredWords.next (h : s.StoredWords t ea m vs) (v : Word)
    (hc : s.CanStore (ea + BitVec.ofNat 32 (4 * vs.length)) 4 (m vs.length) (m vs.length)) :
    ∃ u, t.store (ea + BitVec.ofNat 32 (4 * vs.length)) 4 (v.setWidth 64) .multiple = .done true u ∧
      s.StoredWords u ea m (vs ++ [v]) := by
  obtain ⟨u, hstore, done⟩ := State.store_done (h.moved.canStore hc) v .multiple nofun
  rw [inOrder_toBytes_word le_rfl] at done
  refine ⟨u, hstore, ?_, done.gpr.trans h.gpr, done.here.trans h.here,
    State.OnlyStore.trans h.frame done.only⟩
  have holds : t.holds = s.holds := by
    rw [h.moved]
    rfl
  rw [List.length_append, List.length_singleton, wordAddresses_succ, wordImages_snoc,
    List.zip_append (by rw [wordAddresses_length, wordImages_length]), done.memory, State.writeCells, State.writeCells,
    List.filter_append, Memory.writeAll_append, holds, h.memory, State.writeCells]

/-- With no input before the end of them, the words are stored. -/
theorem State.storeWords_done (hquiet : s.Undisturbed vs.length) (hc : s.CanStoreWords ea vs.length m) :
    ∃ t, s.storeWords true ea 0 vs = .done () t ∧ s.StoredWords t ea m vs := by
  induction vs using List.reverseRecOn with
  | nil => exact ⟨s, rfl, .nil s ea m⟩
  | append_singleton vs v ih =>
    rw [List.length_append, List.length_singleton] at hquiet hc
    obtain ⟨t, first, reached⟩ := ih (fun k hk => hquiet k (by omega)) fun k hk => hc k (by omega)
    obtain ⟨u, store, next⟩ := reached.next v (hc vs.length (by omega))
    refine ⟨u, ?_, next⟩
    have going : t.between vs.length = .done () t :=
      State.between_undisturbed (reached.moved.undisturbed hquiet) (by omega)
    rw [State.storeWords_append, first, Access.bind_of_done, Nat.zero_add]
    simp only [State.storeWords, State.mayAbandon, if_true, going, Access.bind_of_done, store]

/-- When the external input arrives before the next word, the instruction is abandoned. -/
theorem State.storeWords_abandoned {n : Nat} (hinput : s.InputInside vs.length n) (v : Word) (ws : List Word)
    (hc : s.CanStoreWords ea vs.length m) :
    ∃ t u, s.storeWords true ea 0 (vs ++ v :: ws) = .raised u ∧ s.StoredWords t ea m vs ∧
      s.Abandons u ∧ u.gpr = t.gpr ∧ u.mem = t.mem := by
  obtain ⟨t, first, reached⟩ := State.storeWords_done hinput.undisturbed hc
  obtain ⟨u, raised, abandons, gpr, mem⟩ := State.between_inputInside (reached.moved.inputInside hinput)
  refine ⟨t, u, ?_, reached, reached.moved.abandons abandons, gpr, mem⟩
  rw [State.storeWords_append, first, Access.bind_of_done, Nat.zero_add]
  simp only [State.storeWords, State.mayAbandon, if_true, raised, Access.bind_of_raised]

end

/-! ## The instructions -/

section
variable {s : State} {i : Instr} {r : Reg} {ea : Word} {m : Nat → Mapping} {j : Nat}

theorem State.loadMultiple_aligned (haligned : ea.toNat % 4 = 0) :
    s.loadMultiple r ea = (s.loadWords true ea 0 ((List.range (32 - r.toNat)).map (registerWriter r))).next
      fun _ t => t.advance 4 := by
  rw [State.loadMultiple, misaligned_of_multiple haligned, registersFrom_writers]
  rfl

theorem State.storeMultiple_aligned (haligned : ea.toNat % 4 = 0) :
    s.storeMultiple r ea = (s.storeWords true ea 0 ((registersFrom r).map s.r)).next fun _ t => t.advance 4 := by
  rw [State.storeMultiple, misaligned_of_multiple haligned]
  rfl

theorem registers_fit (r : Reg) : r.toNat + (32 - r.toNat) ≤ 32 := by omega

/-- A load multiple that nothing interrupts (R810). -/
theorem State.runs_loadMultiple (hi : exec i s = s.loadMultiple r ea) (haligned : ea.toNat % 4 = 0) (hidle : s.midway = [])
    (hl : s.CanLoadWords ea (32 - r.toNat) m) : Runs i s fun t =>
      (∀ k, k < 32 - r.toNat → t.r (r + BitVec.ofNat 5 k) = s.wordAt m ea k) ∧
      (∀ q : Reg, q.toNat < r.toNat → t.r64 q = s.r64 q) ∧ s.KeepsUpper t ∧ t.pc = s.pc + 4 ∧ s.OnlyLoad t := by
  obtain ⟨t, loads, reached⟩ := State.loadWords_done (State.undisturbed_of_idle hidle _) (registers_fit r) hl
  rw [State.loadMultiple_aligned haligned, loads] at hi
  exact ⟨_, hi, reached.loaded, fun q hq => reached.others q (.inl hq), reached.upper, congrArg (· + 4) reached.here,
    State.OnlyLoad.advance reached.frame 4⟩

/-- A load multiple that the external input interrupts after transfer j (R810, spec/60_exceptions.md R2011). -/
theorem State.runs_loadMultiple_abandoned (hi : exec i s = s.loadMultiple r ea) (haligned : ea.toNat % 4 = 0)
    (hinput : s.InputInside j (32 - r.toNat)) (hl : s.CanLoadWords ea j m) : Runs i s fun t => s.Abandons t ∧
      (∀ k, k < j → t.r (r + BitVec.ofNat 5 k) = s.wordAt m ea k) ∧
      (∀ q : Reg, q.toNat < r.toNat ∨ r.toNat + j ≤ q.toNat → t.r64 q = s.r64 q) ∧ s.KeepsUpper t ∧ t.mem = s.mem := by
  obtain ⟨t, u, loads, reached, abandons, gpr, mem⟩ := State.loadWords_abandoned hinput (registers_fit r) hl
  rw [State.loadMultiple_aligned haligned, loads] at hi
  have same (q : Reg) : u.r64 q = t.r64 q := State.r64_of_gpr gpr q
  refine ⟨u, hi, abandons, fun k hk => ?_, fun q hq => (same q).trans (reached.others q hq), fun q => ?_,
    mem.trans reached.mem⟩
  · rw [State.r, same]
    exact reached.loaded k hk
  · rw [same]
    exact reached.upper q

/-- A store multiple that nothing interrupts (R811). -/
theorem State.runs_storeMultiple (hi : exec i s = s.storeMultiple r ea) (haligned : ea.toNat % 4 = 0) (hidle : s.midway = [])
    (hc : s.CanStoreWords ea (32 - r.toNat) m) : Runs i s fun t =>
      s.Stored t none ea (wordAddresses m ea (32 - r.toNat)) (wordImages m (s.valuesFrom r (32 - r.toNat))) := by
  rw [← s.valuesFrom_length r (32 - r.toNat)] at hc
  obtain ⟨t, run, reached⟩ := State.storeWords_done (State.undisturbed_of_idle hidle _) hc
  rw [State.storeMultiple_aligned haligned, registersFrom_values, run] at hi
  have stores := reached.stores
  rw [State.valuesFrom_length] at stores
  exact ⟨_, hi, {
    stores := stores
    updated := nofun
    upper := fun q => congrArg Machine.hi (State.r64_of_gpr reached.gpr q)
    others := fun q _ => State.r64_of_gpr reached.gpr q
    next := congrArg (· + 4) reached.here
    frame := State.OnlyStore.advance reached.frame 4 }⟩

/-- A store multiple that the external input interrupts after transfer j (R811, spec/60_exceptions.md R2011). -/
theorem State.runs_storeMultiple_abandoned (hi : exec i s = s.storeMultiple r ea) (haligned : ea.toNat % 4 = 0)
    (hinput : s.InputInside j (32 - r.toNat)) (hc : s.CanStoreWords ea j m) : Runs i s fun t => s.Abandons t ∧
      t.gpr = s.gpr ∧ s.Stores t (wordAddresses m ea j) (wordImages m (s.valuesFrom r j)) := by
  have hj : j < 32 - r.toNat := hinput.lt
  obtain ⟨v, ws, values⟩ := s.valuesFrom_split r hj
  rw [← s.valuesFrom_length r j] at hinput hc
  obtain ⟨t, u, run, reached, abandons, gpr, mem⟩ := State.storeWords_abandoned hinput v ws hc
  rw [State.storeMultiple_aligned haligned, registersFrom_values, values, run] at hi
  refine ⟨u, hi, abandons, gpr.trans reached.gpr, ?_⟩
  have memory := mem.trans reached.memory
  rw [State.valuesFrom_length] at memory
  exact State.stores_of_memory (by rw [wordAddresses_length, wordImages_length, State.valuesFrom_length]) memory

end

end Sys2Proof.Machine

namespace Sys2Proof.Proofs
open Sys2Proof.Machine

/-- Settles O34: two shapes, each complete, or abandoned after the transfers that the input let it make. -/
theorem multipleInstructions : Obligations.MultipleInstructions := by
  unfold Obligations.MultipleInstructions
  intro s r ra d d8 m j interrupted taken
  exact ⟨
    fun ha => ⟨State.runs_loadMultiple (exec_lmw r ra d s) ha, State.runs_loadMultiple_abandoned (exec_lmw r ra d s) ha⟩,
    fun ha => ⟨State.runs_loadMultiple (exec_eLmw r ra d8 s) ha,
      State.runs_loadMultiple_abandoned (exec_eLmw r ra d8 s) ha⟩,
    fun ha => ⟨State.runs_storeMultiple (exec_stmw r ra d s) ha,
      State.runs_storeMultiple_abandoned (exec_stmw r ra d s) ha⟩,
    fun ha => ⟨State.runs_storeMultiple (exec_eStmw r ra d8 s) ha,
      State.runs_storeMultiple_abandoned (exec_eStmw r ra d8 s) ha⟩⟩

end Sys2Proof.Proofs
end

section
/-! SUPPORT. Returns from interrupt, and the moves to MSR (spec/43_system.md R854 to R863). -/

namespace Sys2Proof.Machine

/-! ## Returns from interrupt -/

/-- A return after the attempt was noted and its event recorded in DBSR, which needs internal debug mode (R854). -/
theorem State.returned_returnFrom {s u : State}
    (h : ∃ c d, u = { s with cur := c, dbg := d } ∧ (s.idm = false → d = s.dbg))
    (x0 x1 : Word) (o : OutputEvent) : s.Returned ((u.returnFrom x0 x1).pulse o) x0 x1 := by
  obtain ⟨c, d, rfl, hd⟩ := h
  constructor
  case mode => rfl
  case target => exact codeAddress_eq_registerTarget x0
  case program => exact ⟨rfl, rfl, rfl, rfl, rfl, rfl, rfl, rfl, rfl⟩
  case pairs => rfl
  case control => exact ⟨rfl, rfl, rfl, rfl, rfl⟩
  case events => exact hd

/-- A return that records its debug event without taking it (R855, R856, spec/61_debug.md R2220, R2221). -/
theorem State.returned_record (s : State) (c : Current) (e : Word) (v : Bool) (x0 x1 : Word) (o : OutputEvent) :
    s.Returned (((State.record { s with cur := c } e v).returnFrom x0 x1).pulse o) x0 x1 := by
  refine State.returned_returnFrom (s := s)
    ⟨c, (State.record { s with cur := c } e v).dbg, State.record_eq _ e v, fun hidm => ?_⟩ x0 x1 o
  rw [State.record_off { s with cur := c } e v hidm]

section
variable {s : State} {i : Instr}

theorem State.runs_returnPlain {x0 x1 : Word} {o : OutputEvent} (hs : s.userMode = false)
    (h : exec i s = s.returnPlain x0 x1 o) : Runs i s fun t => s.Returned t x0 x1 :=
  ⟨_, h.trans (State.supervisor_of hs _), State.returned_returnFrom ⟨s.cur, s.dbg, rfl, fun _ => rfl⟩ x0 x1 o⟩

theorem State.runs_returnNonCritical (hs : s.userMode = false) (hd : s.debugNow 16 = false)
    (h : exec i s = s.returnNonCritical) : Runs i s fun t => s.Returned t s.int.srr0 s.int.srr1 := by
  have run := h.trans ((State.supervisor_of hs _).trans (if_neg (Bool.not_eq_true _ ▸ hd)))
  exact ⟨_, run, State.returned_record s { s.cur with ret := true } _ true _ _ .rfi⟩

theorem State.runs_returnCritical (hs : s.userMode = false) (hd : s.debugNow 26 = false)
    (h : exec i s = s.returnCritical) : Runs i s fun t => s.Returned t s.int.csrr0 s.int.csrr1 := by
  have run := h.trans ((State.supervisor_of hs _).trans (if_neg (Bool.not_eq_true _ ▸ hd)))
  exact ⟨_, run, State.returned_record s { s.cur with cret := true } _ true _ _ .rfci⟩

theorem State.returnDebug_on (hd : bit s.hid.hid0 23 = true) :
    s.returnDebug = s.returnPlain s.int.dsrr0 s.int.dsrr1 .rfdi := by
  have on : s.dapuen = true := hd
  rw [State.returnDebug, on]
  exact if_neg (by decide)

theorem State.returnDebug_off (hd : bit s.hid.hid0 23 = false) : s.returnDebug = .next s.illegal := by
  have off : s.dapuen = false := hd
  rw [State.returnDebug, off]
  exact if_pos (by decide)

/-- An instruction that is illegal. -/
theorem State.runs_illegal (h : exec i s = .next s.illegal) :
    Runs i s fun t => s.Interrupted t 6 s.pc (0x08000000 ||| if s.cur.vle then 0x20 else 0) s.int.dear :=
  ⟨_, h, s.interrupted_program (oneBit 4)⟩

end

/-! ## MSR -/

/-- A legal MSR is its implemented bits (spec/10_state.md R70). -/
theorem State.Legal.msr_and_mask {s : State} (h : s.Legal) : s.msr &&& msrMask = s.msr := by
  refine word_ext _ _ fun k hk => ?_
  have clear := congrArg (bit · k) h.msrBits
  simp only [bit_and, bit_not _ k hk] at clear
  rw [bit_and]
  cases hb : bit s.msr k with
  | false => rfl
  | true => simpa [hb] using clear

/-- MSR[EE] is bit 16, which has storage; no other bit changes (spec/43_system.md R862). -/
theorem State.bit_setEe {s : State} (h : s.Legal) (v : Bool) {k : Nat} (hk : k < 32) :
    bit (s.setEe v).msr k = if k = 16 then v else bit s.msr k := by
  have ee : bit msrMask 16 = true := by decide
  rw [State.setEe, State.setMsr_msr, bit_and, bit_setBit _ _ _ _ hk]
  by_cases h16 : 16 = k
  · rw [if_pos h16, if_pos h16.symm, ← h16, ee, Bool.and_true]
  · rw [if_neg h16, if_neg fun e => h16 e.symm, ← bit_and, h.msr_and_mask]

/-- The writes of MSR[EE] (R862, R863). -/
theorem State.runs_setEe {s : State} {i : Instr} {v : Bool} (hs : s.userMode = false) (hlegal : s.Legal)
    (h : exec i s = s.supervisor fun t => .next ((t.setEe v).advance 4)) :
    Runs i s fun t => t = { s with msr := t.msr, pc := s.pc + 4 } ∧
      ∀ k, k < 32 → bit t.msr k = if k = 16 then v else bit s.msr k :=
  ⟨_, h.trans (State.supervisor_of hs _), rfl, fun _ hk => State.bit_setEe hlegal v hk⟩

end Sys2Proof.Machine

namespace Sys2Proof.Proofs
open Sys2Proof.Machine

/-- Settles O13: two plain returns, and two that record their debug event first; rfdi stands behind HID0[DAPUEN]. -/
theorem returnsFromInterrupt : Obligations.ReturnsFromInterrupt := by
  unfold Obligations.ReturnsFromInterrupt
  intro s
  refine ⟨fun hs => ⟨fun hd => State.runs_returnNonCritical hs hd rfl, fun hd => State.runs_returnNonCritical hs hd rfl,
    fun hd => State.runs_returnCritical hs hd rfl, fun hd => State.runs_returnCritical hs hd rfl,
    State.runs_returnPlain hs rfl, State.runs_returnPlain hs rfl, fun hd => ?_, fun hd => ?_⟩,
    fun hd => ⟨State.runs_illegal ?_, State.runs_illegal ?_⟩⟩
  · exact State.runs_returnPlain hs ((exec_rfdi s).trans (State.returnDebug_on hd))
  · exact State.runs_returnPlain hs ((exec_seRfdi s).trans (State.returnDebug_on hd))
  · exact (exec_rfdi s).trans (State.returnDebug_off hd)
  · exact (exec_seRfdi s).trans (State.returnDebug_off hd)

/-- Settles O37: mtmsr stores under the mask of implemented bits, which a legal MSR already is under when EE is written. -/
theorem msrInstructions : Obligations.MsrInstructions := by
  unfold Obligations.MsrInstructions
  intro s r e hs hlegal
  have mtmsr : Runs (.mtmsr r) s fun t => t = { s with msr := s.r r &&& 0x0606FB32, pc := s.pc + 4 } :=
    ⟨_, (exec_mtmsr r s).trans (State.supervisor_of hs _), rfl⟩
  have mfmsr : Runs (.mfmsr r) s fun t => s.PlainResult t false r s.msr :=
    ⟨_, (exec_mfmsr r s).trans (State.supervisor_of hs _), s.integerResult ⟨false, false, false⟩ r s.msr false false⟩
  exact ⟨mtmsr, mfmsr, State.runs_setEe hs hlegal (exec_wrtee r s), State.runs_setEe hs hlegal (exec_wrteei e s)⟩

end Sys2Proof.Proofs
end

section
/-! SUPPORT. The debugger notify halts (spec/43_system.md R890, spec/44_vle.md R978, R979, spec/12_state_debug.md R325,
R326). -/

namespace Sys2Proof.Machine

/-! ## The events of the fetch -/

/-- The event of one compare register as the claims say it (spec/61_debug.md R2210, R2217). -/
theorem iacEvent_iff (d : DebugRegs) (hits : BitVec 8) (n : Nat) : iacEvent d hits n = true ↔ d.OwnIacEvent hits n := by
  have enable : bit d.dbcr0 (if n < 4 then 8 + n else 13 + n) = true ↔
      (n < 4 ∧ bit d.dbcr0 (8 + n) = true) ∨ (4 ≤ n ∧ bit d.dbcr0 (13 + n) = true) := by
    by_cases h : n < 4
    · simp [h]
    · simp [h, Nat.le_of_not_lt h]
  have linked : iacUnrecorded d n = false ↔ ¬(n = 0 ∧ bit d.dbcr2 10 = true) ∧ ¬(n = 2 ∧ bit d.dbcr2 11 = true) := by
    rw [← Bool.not_eq_true, iacUnrecorded, ← not_or]
    simp only [Bool.or_eq_true, Bool.and_eq_true, beq_iff_eq]
  rw [iacEvent, Bool.and_eq_true, Bool.and_eq_true, Bool.not_eq_true', enable, linked, and_assoc, DebugRegs.OwnIacEvent]

/-- A bit of a word to which a list of pairs of words is added. -/
theorem bit_foldl_or (f g : Nat → Word) (l : List Nat) (w : Word) (k : Nat) :
    bit (l.foldl (fun w n => w ||| f n ||| g n) w) k = true ↔
      bit w k = true ∨ ∃ n ∈ l, bit (f n) k = true ∨ bit (g n) k = true := by
  induction l generalizing w with
  | nil => simp
  | cons a l ih => simp [ih, or_assoc]

/-- CPUSCR[CTL] holds the events of the fetch of the instruction, and whether it is a VLE instruction (R326). -/
theorem State.bit_haltControl (s : State) {k : Nat} (hk : k < 32) :
    bit s.haltControl k = true ↔
      (s.idm = true ∧ ∃ n, n < 8 ∧ s.dbg.OwnIacEvent s.cur.iacHits n ∧ k = if n < 4 then 24 + n else 7 + n) ∨
        (k = 30 ∧ s.cur.vle = true) := by
  simp only [State.haltControl, bit_foldl_or, bit_when, bit_oneBit _ _ hk, Bool.and_eq_true, decide_eq_true_eq, iacEvent_iff,
    List.mem_range]
  constructor
  · rintro (⟨hv, rfl⟩ | ⟨n, hn, ⟨⟨hidm, he⟩, rfl⟩ | ⟨⟨hidm, he⟩, rfl⟩⟩)
    · exact .inr ⟨rfl, hv⟩
    · exact .inl ⟨hidm, n, by omega, he, (if_pos hn).symm⟩
    · exact .inl ⟨hidm, 4 + n, by omega, he, by rw [if_neg (by omega)]; omega⟩
  · rintro (⟨hidm, n, hn, he, rfl⟩ | ⟨rfl, hv⟩)
    · by_cases h4 : n < 4
      · exact .inr ⟨n, h4, .inl ⟨⟨hidm, he⟩, (if_pos h4).symm⟩⟩
      · have place : 4 + (n - 4) = n := by omega
        refine .inr ⟨n - 4, by omega, .inr ⟨⟨hidm, place.symm ▸ he⟩, ?_⟩⟩
        rw [if_neg h4]
        omega
    · exact .inl ⟨hv, rfl⟩

/-! ## The halt -/

/-- The word of a halt: its two operand fields between the two opcodes (R890, R978). -/
theorem putBits_notifyWord (a : BitVec 6) (dui : BitVec 5) (duis : BitVec 10) (b : BitVec 11) :
    putBits 6 5 dui (putBits 11 10 duis (a ++ 0#15 ++ b)) = a ++ dui ++ duis ++ b := by
  refine word_ext _ _ fun k hk => ?_
  have whole : bit (a ++ 0#15 ++ b) k = if 21 ≤ k then b.getMsbD (k - 21) else if 6 ≤ k then false else a.getMsbD k := by
    exact (BitVec.getMsbD_append (n := 21)).trans (by rw [BitVec.getMsbD_append, BitVec.getMsbD_zero])
  have filled : bit (a ++ dui ++ duis ++ b) k = if 21 ≤ k then b.getMsbD (k - 21) else
      if 11 ≤ k then duis.getMsbD (k - 11) else if 6 ≤ k then dui.getMsbD (k - 6) else a.getMsbD k := by
    exact (BitVec.getMsbD_append (n := 21)).trans (by rw [BitVec.getMsbD_append, BitVec.getMsbD_append])
  rw [bit_putBits 6 5 _ _ (by decide) k hk, bit_putBits 11 10 _ _ (by decide) k hk, whole, filled]
  grind

section
variable {s : State} {i : Instr} {ir : Word} {dui : BitVec 5}

theorem State.runs_notifyHalt (hd : bit s.once.edbcr0 1 = true) (h : exec i s = s.notifyHalt ir dui) : Runs i s fun t =>
    (∀ k, k < 32 → (bit t.once.cpuCtl k = true ↔
      (s.idm = true ∧ ∃ n, n < 8 ∧ s.dbg.OwnIacEvent s.cur.iacHits n ∧ k = if n < 4 then 24 + n else 7 + n) ∨
        (k = 30 ∧ s.cur.vle = true))) ∧
    t = { s with
      debugHalt := true
      once := { s.once with
        edbsr0 := s.once.edbsr0 ||| 0x20000000, cpuPc := s.pc, cpuMsr := s.msr, cpuIr := ir, cpuCtl := t.once.cpuCtl }
      outputs := s.outputs ++ [.dnh dui]
      cur.suppressed := true } := by
  rw [State.notifyHalt, hd] at h
  exact ⟨_, h, fun _ hk => s.bit_haltControl hk, rfl⟩

theorem State.notifyHalt_off (hd : bit s.once.edbcr0 1 = false) : s.notifyHalt ir dui = .next s.illegal := by
  rw [State.notifyHalt, hd]
  exact if_pos (by decide)

end

end Sys2Proof.Machine

namespace Sys2Proof.Proofs
open Sys2Proof.Machine

/-- Settles O45: the three instructions share one shape, and differ in the word they leave in CPUSCR[IR]. -/
theorem debuggerNotifyHalt : Obligations.DebuggerNotifyHalt := by
  unfold Obligations.DebuggerNotifyHalt
  intro s dui duis seen halted illegal
  refine ⟨fun hd => ⟨State.runs_notifyHalt hd ?_, State.runs_notifyHalt hd ?_, State.runs_notifyHalt hd (exec_seDnh s)⟩,
    fun hd => ⟨State.runs_illegal ?_, State.runs_illegal ?_, State.runs_illegal ?_⟩⟩
  · rw [← putBits_notifyWord]
    exact exec_dnh dui duis s
  · rw [← putBits_notifyWord]
    exact exec_eDnh dui duis s
  · exact (exec_dnh dui duis s).trans (State.notifyHalt_off hd)
  · exact (exec_eDnh dui duis s).trans (State.notifyHalt_off hd)
  · exact (exec_seDnh s).trans (State.notifyHalt_off hd)

end Sys2Proof.Proofs
end

section
/-! SUPPORT. mfspr and mtspr: which numbers they reach, what a read gives, and what a write leaves alone (spec/43_system.md R868
to R870, spec/10_state.md R100 to R102). -/

namespace Sys2Proof.Machine

variable {s : State} {r : Reg} {f : BitVec 10} {n : Nat}

/-! ## The privilege check -/

/-- mfspr behind the privilege check (R870 step 1). -/
theorem execMfspr_allowed (h : (numberOf f).testBit 4 = true → s.userMode = false) (r : Reg) :
    execMfspr r f s = s.moveFromSpr r (numberOf f) := by
  rw [execMfspr, registerNumber_eq_numberOf]
  refine if_neg fun hc => ?_
  obtain ⟨hn, hu⟩ := Bool.and_eq_true_iff.1 hc
  exact Bool.false_ne_true ((h hn).symm.trans hu)

/-- mtspr behind the privilege check. -/
theorem execMtspr_allowed (h : (numberOf f).testBit 4 = true → s.userMode = false) (r : Reg) :
    execMtspr r f s = s.moveToSpr (numberOf f) (s.r64 r) := by
  rw [execMtspr, registerNumber_eq_numberOf]
  refine if_neg fun hc => ?_
  obtain ⟨hn, hu⟩ := Bool.and_eq_true_iff.1 hc
  exact Bool.false_ne_true ((h hn).symm.trans hu)

/-! ## Reading -/

/-- Reading a vector by a number after one of its places was written. -/
theorem getD_setIfInBounds {α : Type} {m : Nat} (v : Vector α m) {k : Nat} (hk : k < m) (x : α) (j : Nat) (d : α) :
    (v.setIfInBounds k x).toList.getD j d = if j = k then x else v.toList.getD j d := by
  simp only [List.getD_eq_getElem?_getD, Vector.getElem?_toList, Vector.getElem?_setIfInBounds]
  grind

/-- The registers of a bank, by their numbers. -/
theorem State.sprg_getElem (s : State) (k : Nat) (h : k < 10) : s.soft.sprg[k] = s.sprgAt k := by
  simp [State.sprgAt, List.getD_eq_getElem?_getD, h]

theorem State.ivor_getElem (s : State) (k : Nat) (h : k < 19) : s.int.ivor[k] = s.ivorAt k := by
  simp [State.ivorAt, List.getD_eq_getElem?_getD, h]

theorem DebugRegs.iac_getElem (d : DebugRegs) (k : Nat) (h : k < 8) : d.iac[k] = iacReg d k := by
  simp [iacReg, List.getD_eq_getElem?_getD, h]

theorem append_eq_or_zext (a b : BitVec 16) : (a ++ b : Word) = (a ++ 0#16) ||| zext b := by
  ext i hi
  simp [zext]
  grind

/-- PVR is its constant half and the half of the pins (spec/10_state.md R81). -/
theorem State.pvr_eq (s : State) : 0x8155#16 ++ s.pins.pvrin = s.pvr := append_eq_or_zext _ _

/-- Reading a number of the table gives the value it names (R101, R102). -/
theorem State.readSpr_of_mem_sprTable {p : Nat × Word} (h : p ∈ s.sprTable) : s.readSpr p.1 = some p.2 := by
  have reads : s.sprTable.map (fun p => s.readSpr p.1) = s.sprTable.map (fun p => some p.2) := by
    simp only [State.sprTable, State.sprg_getElem, State.ivor_getElem, DebugRegs.iac_getElem, State.pvr_eq]
    rfl
  exact List.map_inj_left.1 reads p h

/-- The table names every readable number but the two registers of 64 bits. -/
theorem State.sprTable_numbers (s : State) : s.sprTable.map Prod.fst = readableSprs.filter (· ∉ [318, 319]) := rfl

/-- Every number of the register list can be read. -/
theorem State.readSpr_of_readable (s : State) (h : n ∈ readableSprs) : ∃ v, s.readSpr n = some v := by
  have all : readableSprs.all (fun n => (s.readSpr n).isSome) = true := rfl
  exact Option.isSome_iff_exists.1 (List.all_eq_true.1 all n h)

/-- No other number can be read. The last arm of readSpr is the one for all other numbers. -/
theorem State.readSpr_of_not_readable (s : State) (h : n ∉ readableSprs) : s.readSpr n = none := by
  unfold State.readSpr
  split
  case h_105 => rfl
  all_goals exact absurd h (by decide)

theorem runs_mfspr (hs : (numberOf f).testBit 4 = true → s.userMode = false) (h318 : numberOf f ≠ 318)
    (h319 : numberOf f ≠ 319) {v : Word} (h : s.readSpr (numberOf f) = some v) : Runs (.mfspr r f) s fun t => s.PlainResult t false r v := by
  refine ⟨_, ?_, s.integerResult ⟨false, false, false⟩ r v false false⟩
  rw [exec_mfspr, execMfspr_allowed hs, State.moveFromSpr, if_neg h318, if_neg h319, h]
  rfl

/-- A register of 64 bits is moved whole (spec/12_state_debug.md R297). -/
theorem State.vectorResult_setR64 (s : State) (rd : Reg) (v : Dword) : s.VectorResult ((s.setR64 rd v).advance 4) rd v where
  result := s.r64_setR64_same rd v
  others := fun r hr => s.r64_setR64_other rd r v fun e => hr (List.mem_singleton.2 e)
  frame := rfl

theorem runs_mfspr_dvc1 (hs : (numberOf f).testBit 4 = true → s.userMode = false) (hn : numberOf f = 318) :
    Runs (.mfspr r f) s fun t => s.VectorResult t r s.dbg.dvc1 := by
  refine ⟨_, ?_, s.vectorResult_setR64 r s.dbg.dvc1⟩
  rw [exec_mfspr, execMfspr_allowed hs, hn]
  rfl

theorem runs_mfspr_dvc2 (hs : (numberOf f).testBit 4 = true → s.userMode = false) (hn : numberOf f = 319) :
    Runs (.mfspr r f) s fun t => s.VectorResult t r s.dbg.dvc2 := by
  refine ⟨_, ?_, s.vectorResult_setR64 r s.dbg.dvc2⟩
  rw [exec_mfspr, execMfspr_allowed hs, hn]
  rfl

/-- mfspr of a number that cannot be read (R870 steps 4 and 5). -/
theorem exec_mfspr_illegal (hs : (numberOf f).testBit 4 = true → s.userMode = false) (h : numberOf f ∉ readableSprs) :
    exec (.mfspr r f) s = .next s.illegal := by
  have h318 : numberOf f ≠ 318 := fun e => h (e ▸ by decide)
  have h319 : numberOf f ≠ 319 := fun e => h (e ▸ by decide)
  rw [exec_mfspr, execMfspr_allowed hs, State.moveFromSpr, if_neg h318, if_neg h319, s.readSpr_of_not_readable h]

/-! ## Writing -/

/-- The fields that no write of a special-purpose register touches. -/
def State.besideSprs (s : State) : Vector Dword 32 × Word × Word × Word × Memory := (s.gpr, s.pc, s.cr, s.msr, s.mem)

/-- A write of a special-purpose register leaves general registers, pc, CR, MSR and memory alone. The cases are those of
writeSpr: 84 is HID0 and 88 is MMUCSR0, whose writes branch, and 90 is no register. -/
theorem State.besideSprs_writeSpr {t : State} {v : Word} (h : s.writeSpr n v = some t) : t.besideSprs = s.besideSprs := by
  unfold State.writeSpr at h
  split at h
  case h_84 =>
    cases h
    unfold State.setHid0
    split <;> rfl
  case h_88 =>
    split at h <;> cases h <;> rfl
  case h_90 => cases h
  all_goals
    cases h
    rfl

/-- Every writable number but those that mtspr itself sees to can be written. -/
theorem State.writeSpr_of_writable (s : State) (v : Word) (h : n ∈ writableSprs) (hn : n ∉ [318, 319, 959]) :
    ∃ t, s.writeSpr n v = some t := by
  have all : (writableSprs.filter (· ∉ [318, 319, 959])).all (fun n => (s.writeSpr n v).isSome) = true := rfl
  exact Option.isSome_iff_exists.1 (List.all_eq_true.1 all n (List.mem_filter.2 ⟨h, decide_eq_true hn⟩))

theorem State.writeSpr_of_not_writable (s : State) (v : Word) (h : n ∉ writableSprs) : s.writeSpr n v = none := by
  unfold State.writeSpr
  split
  case h_90 => rfl
  all_goals exact absurd h (by decide)

/-- mtspr of a register that writeSpr writes (R869). -/
theorem exec_mtspr_of_writeSpr (hs : (numberOf f).testBit 4 = true → s.userMode = false) (hn : numberOf f ∉ [318, 319, 959])
    {t : State} (h : s.writeSpr (numberOf f) (s.r r) = some t) : exec (.mtspr r f) s = .next (t.advance 4) := by
  simp only [List.mem_cons, List.not_mem_nil, or_false, not_or] at hn
  obtain ⟨h318, h319, h959⟩ := hn
  rw [State.r] at h
  rw [exec_mtspr, execMtspr_allowed hs, State.moveToSpr, if_neg h318, if_neg h319, if_neg h959, h]

/-- DVC1 and DVC2 take all 64 bits of the source (spec/12_state_debug.md R297). -/
theorem exec_mtspr_dvc1 (hs : (numberOf f).testBit 4 = true → s.userMode = false) (hn : numberOf f = 318) :
    exec (.mtspr r f) s = .next { s with dbg.dvc1 := s.r64 r, pc := s.pc + 4 } := by
  rw [exec_mtspr, execMtspr_allowed hs, hn]
  rfl

theorem exec_mtspr_dvc2 (hs : (numberOf f).testBit 4 = true → s.userMode = false) (hn : numberOf f = 319) :
    exec (.mtspr r f) s = .next { s with dbg.dvc2 := s.r64 r, pc := s.pc + 4 } := by
  rw [exec_mtspr, execMtspr_allowed hs, hn]
  rfl

/-- mtspr of a number that cannot be written (R870 steps 2 to 5). -/
theorem exec_mtspr_illegal (hs : (numberOf f).testBit 4 = true → s.userMode = false) (h : numberOf f ∉ writableSprs) :
    exec (.mtspr r f) s = .next s.illegal := by
  have h318 : numberOf f ≠ 318 := fun e => h (e ▸ by decide)
  have h319 : numberOf f ≠ 319 := fun e => h (e ▸ by decide)
  have h959 : numberOf f ≠ 959 := fun e => h (e ▸ by decide)
  rw [exec_mtspr, execMtspr_allowed hs, State.moveToSpr, if_neg h318, if_neg h319, if_neg h959, s.writeSpr_of_not_writable _ h]

end Sys2Proof.Machine

namespace Sys2Proof.Proofs
open Sys2Proof.Machine

/-- Settles O38: readSpr and writeSpr answer for exactly the numbers of the register list. -/
theorem sprAccessChecks : Obligations.SprAccessChecks := by
  unfold Obligations.SprAccessChecks
  intro s r f hs n illegal
  refine ⟨fun hn h318 h319 => ?_, fun p hp hn => ?_, fun hn => runs_mfspr_dvc1 hs hn,
    fun hn => runs_mfspr_dvc2 hs hn, fun hn => State.runs_illegal (exec_mfspr_illegal hs hn),
    fun hn h959 => ?_, fun hn => State.runs_illegal (exec_mtspr_illegal hs hn)⟩
  · obtain ⟨v, hv⟩ := s.readSpr_of_readable hn
    exact ⟨v, hv, runs_mfspr hs h318 h319 hv⟩
  · have listed : n ∈ readableSprs.filter (· ∉ [318, 319]) := by
      rw [← s.sprTable_numbers, ← hn]
      exact List.mem_map_of_mem hp
    simp only [List.mem_filter, decide_eq_true_eq, List.mem_cons, List.not_mem_nil, or_false, not_or] at listed
    obtain ⟨-, h318, h319⟩ := listed
    have value := State.readSpr_of_mem_sprTable hp
    rw [hn] at value
    exact runs_mfspr hs h318 h319 value
  · by_cases h318 : n = 318
    · exact ⟨_, exec_mtspr_dvc1 hs h318, rfl, rfl, rfl⟩
    by_cases h319 : n = 319
    · exact ⟨_, exec_mtspr_dvc2 hs h319, rfl, rfl, rfl⟩
    have own : n ∉ [318, 319, 959] := by simp [h318, h319, h959]
    obtain ⟨t, ht⟩ := s.writeSpr_of_writable (s.r r) hn own
    have beside := State.besideSprs_writeSpr ht
    simp only [State.besideSprs, Prod.mk.injEq] at beside
    obtain ⟨gpr, pc, -, -, mem⟩ := beside
    exact ⟨_, exec_mtspr_of_writeSpr hs own ht, gpr, mem, congrArg (· + 4) pc⟩

end Sys2Proof.Proofs
end

section
/-! SUPPORT. The device control registers: moves, the signature unit, and the accesses of CDACNTL to the cache arrays
(spec/43_system.md R866, R867, spec/12_state_debug.md R310, spec/11_state_mmu_cache.md R250 to R252). -/

namespace Sys2Proof.Machine

/-! ## The moves -/

section
variable {s : State} {r : Reg} {f : BitVec 10} {n : Nat}

theorem exec_mfdcr_supervisor (hs : s.userMode = false) (r : Reg) (f : BitVec 10) :
    exec (.mfdcr r f) s = s.moveFromDcr r (numberOf f) := by
  rw [exec_mfdcr, execMfdcr, State.supervisor_of hs, registerNumber_eq_numberOf]

theorem exec_mtdcr_supervisor (hs : s.userMode = false) (r : Reg) (f : BitVec 10) :
    exec (.mtdcr r f) s = s.moveToDcr (numberOf f) (s.r r) := by
  rw [exec_mtdcr, execMtdcr, State.supervisor_of hs, registerNumber_eq_numberOf]

theorem runs_mfdcr (hs : s.userMode = false) {v : Word} (h : s.readDcr (numberOf f) = some v) :
    Runs (.mfdcr r f) s fun t => s.PlainResult t false r v := by
  refine ⟨_, ?_, s.integerResult ⟨false, false, false⟩ r v false false⟩
  rw [exec_mfdcr_supervisor hs, State.moveFromDcr, h]
  rfl

/-- mtdcr of a register that writeDcr writes. -/
theorem exec_mtdcr_of_writeDcr (hs : s.userMode = false) (hf : numberOf f = n) (hn : n ≠ 351) {t : State}
    (h : s.writeDcr n (s.r r) = some t) : exec (.mtdcr r f) s = .next (t.advance 4) := by
  rw [exec_mtdcr_supervisor hs, hf, State.moveToDcr, if_neg hn, h]

/-- The numbers of the device control registers (R866). -/
def supportedDcrs : List Nat := [272, 273, 274, 275, 276, 277, 278, 350, 351]

/-- The last arm of readDcr is the one for all other numbers. -/
theorem State.readDcr_of_not_supported (s : State) (h : n ∉ supportedDcrs) : s.readDcr n = none := by
  unfold State.readDcr
  split
  case h_10 => rfl
  all_goals exact absurd h (by decide)

theorem State.writeDcr_of_not_supported (s : State) (v : Word) (h : n ∉ supportedDcrs) : s.writeDcr n v = none := by
  unfold State.writeDcr
  split
  case h_9 => rfl
  all_goals exact absurd h (by decide)

theorem exec_mfdcr_illegal (hs : s.userMode = false) (h : numberOf f ∉ supportedDcrs) :
    exec (.mfdcr r f) s = .next s.illegal := by
  rw [exec_mfdcr_supervisor hs, State.moveFromDcr, s.readDcr_of_not_supported h]

theorem exec_mtdcr_illegal (hs : s.userMode = false) (h : numberOf f ∉ supportedDcrs) :
    exec (.mtdcr r f) s = .next s.illegal := by
  have h351 : numberOf f ≠ 351 := fun e => h (e ▸ by decide)
  rw [exec_mtdcr_supervisor hs, State.moveToDcr, if_neg h351, s.writeDcr_of_not_supported _ h]

/-- mtdcr PSCR with INIT = 1 zeroes the signatures and the count; else they stay (R310). -/
theorem runs_mtdcr_pscr (hs : s.userMode = false) (hf : numberOf f = 272) : Runs (.mtdcr r f) s fun t =>
    t.psu.pscr = s.r r &&& 0x26 ∧ t.psu.pssr = s.psu.pssr ∧
    (bit (s.r r) 31 = true → t.psu.pshr = 0 ∧ t.psu.pslr = 0 ∧ t.psu.psctr = 0) ∧
    (bit (s.r r) 31 = false → t.psu = { s.psu with pscr := t.psu.pscr }) ∧ t = { s with psu := t.psu, pc := s.pc + 4 } := by
  refine ⟨_, exec_mtdcr_of_writeDcr hs hf (by decide) rfl, ?_⟩
  simp only [State.advance_psu, PsuRegs.writePscr]
  cases bit (s.r r) 31 with
  | true => exact ⟨rfl, rfl, fun _ => ⟨rfl, rfl, rfl⟩, fun h => absurd h (by decide), rfl⟩
  | false => exact ⟨rfl, rfl, fun h => absurd h (by decide), fun _ => rfl, rfl⟩

end

/-! ## Fields of a CDACNTL command -/

/-- A field one bit longer. -/
theorem bits_toNat_succ (a n : Nat) (w : Word) (h : a + n < 32) :
    (bits a (n + 1) w).toNat = 2 * (bits a n w).toNat + (bit w (a + n)).toNat := by
  have low : bit w (a + n) = w.toNat.testBit (32 - a - (n + 1)) := by
    simp [bit, BitVec.getMsbD, h, BitVec.getLsbD, show 32 - 1 - (a + n) = 32 - a - (n + 1) by omega]
  have shift : 32 - a - n = 32 - a - (n + 1) + 1 := by omega
  simp only [bits, BitVec.extractLsb'_toNat, low, shift, Nat.toNat_testBit, Nat.shiftRight_eq_div_pow, Nat.pow_succ,
    ← Nat.div_div_eq_div_mul]
  rw [Nat.mul_comm (2 ^ n) 2, Nat.mod_mul, Nat.add_comm]

/-- The double word and the half of it that a CDACNTL command names (spec/11_state_mmu_cache.md R250). -/
theorem cdacntl_word (v : Word) :
    (bits 13 3 v).toNat / 2 = (bits 13 2 v).toNat ∧ ((bits 13 3 v).toNat % 2 = 0 ↔ bit v 15 = false) := by
  rw [bits_toNat_succ 13 2 v (by decide)]
  cases bit v 15 with
  | false => simp
  | true => simp; omega

/-- CDADATA after a read of a tag: the tag, V and L (R251). -/
theorem tagWord_eq (l : CacheLine) :
    zext l.tag <<< 10 ||| when l.v (oneBit 23) ||| when l.l (oneBit 24) =
      l.tag ++ 0#1 ++ BitVec.ofBool l.v ++ BitVec.ofBool l.l ++ 0#7 := by
  have one (b : Bool) (k : Nat) : (BitVec.ofBool b).getMsbD k = if k = 0 then b else false := by
    cases b <;> by_cases hk : k = 0 <;> simp [hk, BitVec.getMsbD]
  refine word_ext _ _ fun i hi => ?_
  have whole : bit (l.tag ++ 0#1 ++ BitVec.ofBool l.v ++ BitVec.ofBool l.l ++ 0#7) i =
      if i < 22 then l.tag.getMsbD i else if i = 23 then l.v else if i = 24 then l.l else false := by
    refine (BitVec.getMsbD_append (n := 25)).trans ?_
    simp only [BitVec.getMsbD_append, BitVec.getMsbD_zero, one]
    grind
  have field : bit (zext l.tag <<< 10) i = if i < 22 then l.tag.getMsbD i else false := by
    rw [bit_zext_shiftLeft _ (by decide) hi, show i + 10 + 22 - 32 = i by omega]
    grind
  have flag (b : Bool) (k : Nat) : bit (when b (oneBit k)) i = if i = k then b else false := by
    rw [bit_when, bit_oneBit _ _ hi]
    grind
  rw [whole, bit_or, bit_or, field, flag, flag]
  grind

/-- The first two of six check bits. -/
theorem extract_parity (v : Word) :
    (bits 16 6 v).extractLsb' 4 2 = bits 16 2 v ∧ (bits 16 6 v &&& 0x30).extractLsb' 4 2 = bits 16 2 v := by
  have outer : (bits 16 6 v).extractLsb' 4 2 = bits 16 2 v := by
    ext i hi
    simp [bits, show 10 + (4 + i) = 14 + i by omega, show 4 + i < 6 by omega]
  have ones : (0x30 : BitVec 6).extractLsb' 4 2 = BitVec.allOnes 2 := by decide
  exact ⟨outer, by rw [BitVec.extractLsb'_and, outer, ones, BitVec.and_allOnes]⟩

/-! ## What CDACNTL does to the cache -/

section
variable {c : ICache} {v : Word}

/-- The line after a write of its tag (R251). -/
def ICache.tagWritten (c : ICache) (v : Word) (l : CacheLine) : CacheLine :=
  { l with tag := bits 0 22 c.cdadata, v := bit c.cdadata 23, l := bit c.cdadata 24,
           tchk := if c.edt = 0 then bits 16 6 v &&& 0x30 else bits 16 6 v }

/-- The line after a write of one of its data words (R252). -/
def ICache.dataWritten (c : ICache) (v : Word) (l : CacheLine) : CacheLine :=
  let k := (bits 13 3 v).toNat / 2
  { l with data := l.data.setIfInBounds k (putWord (l.data.toList.getD k 0) ((bits 13 3 v).toNat % 2) c.cdadata),
           dchk := l.dchk.setIfInBounds k (bits 16 8 v) }

/-- A write of a data word changes that word and the check bits of its double word. -/
theorem ICache.dataWritten_spec (c : ICache) (v : Word) (l : CacheLine) :
    let k := (bits 13 2 v).toNat
    (c.dataWritten v l).data.toList.getD k 0 =
        (if bit v 15 then hi (l.data.toList.getD k 0) ++ c.cdadata else c.cdadata ++ lo (l.data.toList.getD k 0)) ∧
      (c.dataWritten v l).dchk.toList.getD k 0 = bits 16 8 v ∧
      ∀ j, j ≠ k → (c.dataWritten v l).data.toList.getD j 0 = l.data.toList.getD j 0 ∧
        (c.dataWritten v l).dchk.toList.getD j 0 = l.dchk.toList.getD j 0 := by
  intro k
  have hk : k < 4 := (bits 13 2 v).isLt
  obtain ⟨half, word⟩ := cdacntl_word v
  have put : putWord (l.data.toList.getD k 0) ((bits 13 3 v).toNat % 2) c.cdadata =
      if bit v 15 then hi (l.data.toList.getD k 0) ++ c.cdadata else c.cdadata ++ lo (l.data.toList.getD k 0) := by
    rw [putWord, if_congr word rfl rfl]
    cases bit v 15 <;> rfl
  have data (x : Dword) (j : Nat) := getD_setIfInBounds l.data hk x j 0
  have check (x : Byte) (j : Nat) := getD_setIfInBounds l.dchk hk x j 0
  simp only [ICache.dataWritten, half]
  exact ⟨(data _ k).trans ((if_pos rfl).trans put), (check _ k).trans (if_pos rfl),
    fun j hj => ⟨(data _ j).trans (if_neg hj), (check _ j).trans (if_neg hj)⟩⟩

/-- The check bits that a write of a tag stores: both parity bits, and with EDC all six. -/
theorem ICache.tagWritten_spec (c : ICache) (v : Word) (l : CacheLine) :
    bits 16 2 v = (c.tagWritten v l).tchk.extractLsb' 4 2 ∧ (c.edt ≠ 0 → (c.tagWritten v l).tchk = bits 16 6 v) := by
  obtain ⟨whole, masked⟩ := extract_parity v
  unfold ICache.tagWritten
  split
  next h => exact ⟨masked.symm, fun hne => absurd h hne⟩
  next => exact ⟨whole.symm, fun _ => rfl⟩

variable (hg : bits 30 2 v = 1)
include hg

theorem ICache.writeCdacntl_elsewhere (hc : bit v 28 = false) :
    c.writeCdacntl v = some { c with cdacntl := v &&& 0xB1FFFF0C } := by
  have go : (bits 30 2 v).toNat = 1 := by rw [hg]; rfl
  simp [ICache.writeCdacntl, go, hc]

variable (hc : bit v 28 = true)
include hc

theorem ICache.writeCdacntl_absent (h : c.ways ≤ (bits 2 2 v).toNat ∨ c.sets ≤ (bits 7 6 v).toNat) :
    c.writeCdacntl v = none := by
  have go : (bits 30 2 v).toNat = 1 := by rw [hg]; rfl
  simp [ICache.writeCdacntl, go, hc, h]

variable (hw : (bits 2 2 v).toNat < c.ways) (hset : (bits 7 6 v).toNat < c.sets)
include hw hset

theorem ICache.writeCdacntl_there : c.writeCdacntl v =
    let l := c.line (bits 7 6 v).toNat (bits 2 2 v).toNat
    let c1 := { c with cdacntl := v &&& 0xB1FFFF0C }
    let word := (bits 13 3 v).toNat
    let d := l.data.toList.getD (word / 2) 0
    if bit v 0 then
      if bit v 29 then some { c1 with cdadata := zext l.tag <<< 10 ||| when l.v (oneBit 23) ||| when l.l (oneBit 24) }
      else some (c1.setLine (bits 7 6 v).toNat (bits 2 2 v).toNat (c.tagWritten v l))
    else if bit v 29 then
      some { c1 with
        cdadata := if word % 2 = 0 then hi d else lo d
        cdacntl := putBits 16 8 (l.dchk.toList.getD (word / 2) 0) (v &&& 0xB1FFFF0C) }
    else some (c1.setLine (bits 7 6 v).toNat (bits 2 2 v).toNat (c.dataWritten v l)) := by
  have go : (bits 30 2 v).toNat = 1 := by rw [hg]; rfl
  have low : ¬1 ≥ 2 := by decide
  have idle : (decide (1 = 0) || !bit v 28) = false := by rw [hc]; rfl
  have there : (decide ((bits 2 2 v).toNat ≥ c.ways) || decide ((bits 7 6 v).toNat ≥ c.sets)) = false := by
    simp [hw, hset]
  simp only [ICache.writeCdacntl, go, if_neg low, idle, there, Bool.false_eq_true, if_false]
  rfl

end

section
variable {s : State} {r : Reg} {f : BitVec 10}

/-- mtdcr CDACNTL of a command that the cache carries out. -/
theorem exec_cdacntl {c : ICache} (hs : s.userMode = false) (hf : numberOf f = 351) (h : s.ic.writeCdacntl (s.r r) = some c) :
    exec (.mtdcr r f) s = .next ({ s with ic := c }.advance 4) := by
  rw [exec_mtdcr_cdacntl hs hf, h]

variable (hs : s.userMode = false) (hf : numberOf f = 351) (hg : bits 30 2 (s.r r) = 1)
include hs hf hg

/-- mtdcr CDACNTL of a command that is not for the cache (R250). -/
theorem runs_cdacntl_elsewhere (hc : bit (s.r r) 28 = false) : Runs (.mtdcr r f) s fun t =>
    t = { s with ic.cdacntl := s.r r &&& 0xB1FFFF0C, pc := s.pc + 4 } :=
  ⟨_, exec_cdacntl hs hf (ICache.writeCdacntl_elsewhere hg hc), rfl⟩

variable (hc : bit (s.r r) 28 = true)
include hc

theorem exec_cdacntl_absent (h : s.ic.ways ≤ (bits 2 2 (s.r r)).toNat ∨ s.ic.sets ≤ (bits 7 6 (s.r r)).toNat) :
    exec (.mtdcr r f) s = .fault .undefinedCacheCommand := by
  rw [exec_mtdcr_cdacntl hs hf, ICache.writeCdacntl_absent hg hc h]

variable (hw : (bits 2 2 (s.r r)).toNat < s.ic.ways) (hset : (bits 7 6 (s.r r)).toNat < s.ic.sets)
include hw hset

/-- A read of a tag (R251). -/
theorem runs_cdacntl_readTag (ht : bit (s.r r) 0 = true) (hr : bit (s.r r) 29 = true) : Runs (.mtdcr r f) s fun t =>
    let line := s.ic.line (bits 7 6 (s.r r)).toNat (bits 2 2 (s.r r)).toNat
    t.ic.cdadata = line.tag ++ 0#1 ++ BitVec.ofBool line.v ++ BitVec.ofBool line.l ++ 0#7 ∧
      t = { s with ic.cdadata := t.ic.cdadata, ic.cdacntl := s.r r &&& 0xB1FFFF0C, pc := s.pc + 4 } := by
  have write := ICache.writeCdacntl_there hg hc hw hset
  simp only [ht, hr, if_true] at write
  exact ⟨_, exec_cdacntl hs hf write, tagWord_eq _, rfl⟩

/-- A read of a data word and the check bits of its double word (R252). -/
theorem runs_cdacntl_readData (ht : bit (s.r r) 0 = false) (hr : bit (s.r r) 29 = true) : Runs (.mtdcr r f) s fun t =>
    let line := s.ic.line (bits 7 6 (s.r r)).toNat (bits 2 2 (s.r r)).toNat
    let k := (bits 13 2 (s.r r)).toNat
    (bit (s.r r) 15 = false → t.ic.cdadata = hi (line.data.toList.getD k 0)) ∧
      (¬bit (s.r r) 15 = false → t.ic.cdadata = lo (line.data.toList.getD k 0)) ∧
      bits 16 8 t.ic.cdacntl = line.dchk.toList.getD k 0 ∧
      bits 0 16 t.ic.cdacntl = bits 0 16 (s.r r &&& 0xB1FFFF0C) ∧
      bits 24 8 t.ic.cdacntl = bits 24 8 (s.r r &&& 0xB1FFFF0C) ∧
      t = { s with ic.cdadata := t.ic.cdadata, ic.cdacntl := t.ic.cdacntl, pc := s.pc + 4 } := by
  have write := ICache.writeCdacntl_there hg hc hw hset
  obtain ⟨half, word⟩ := cdacntl_word (s.r r)
  simp only [ht, hr, half, word, Bool.false_eq_true, if_false, if_true] at write
  refine ⟨_, exec_cdacntl hs hf write, ?_⟩
  simp only [State.advance_ic]
  exact ⟨fun h => if_pos h, fun h => if_neg h,
    bits_putBits_same 16 8 _ _ (by decide), bits_putBits_other 16 8 _ _ (by decide) 0 16 (by decide) (.inl (by decide)),
    bits_putBits_other 16 8 _ _ (by decide) 24 8 (by decide) (.inr (by decide)), rfl⟩

/-- A write, to a tag or to a data word, writes one line (R251, R252). -/
theorem runs_cdacntl_write (hr : bit (s.r r) 29 = false) : Runs (.mtdcr r f) s fun t =>
    let set := (bits 7 6 (s.r r)).toNat
    let way := (bits 2 2 (s.r r)).toNat
    t.ic.line set way = (if bit (s.r r) 0 then s.ic.tagWritten (s.r r) (s.ic.line set way)
      else s.ic.dataWritten (s.r r) (s.ic.line set way)) ∧
    s.KeepsOtherLines t set way ∧
    t = { s with ic.lines := t.ic.lines, ic.cdacntl := s.r r &&& 0xB1FFFF0C, pc := s.pc + 4 } := by
  have write := ICache.writeCdacntl_there hg hc hw hset
  simp only [hr, Bool.false_eq_true, if_false, ← apply_ite some, ← apply_ite (ICache.setLine _ _ _)] at write
  refine ⟨_, exec_cdacntl hs hf write, ICache.line_setLine_same (c := s.ic) hset hw _,
    fun j k hj hk hne => ?_, rfl⟩
  exact (ICache.line_setLine (c := s.ic) hset hj hk _).trans (if_neg (by omega))

end

end Sys2Proof.Machine

namespace Sys2Proof.Proofs
open Sys2Proof.Machine

/-- Settles O41: the reads and writes of each register are one arm, and CDACNTL names one line of the cache. -/
theorem dcrInstructions : Obligations.DcrInstructions := by
  unfold Obligations.DcrInstructions
  intro s r f hs n v signature supported illegal
  refine ⟨fun p hp hn => runs_mfdcr hs ?_, fun hn => ⟨State.runs_illegal (exec_mfdcr_illegal hs hn),
      State.runs_illegal (exec_mtdcr_illegal hs hn)⟩, runs_mtdcr_pscr hs,
    fun hn => ⟨_, exec_mtdcr_of_writeDcr hs hn (by decide) rfl, rfl⟩,
    fun hn => ⟨_, exec_mtdcr_of_writeDcr hs hn (by decide) rfl, rfl⟩,
    fun hn => ⟨_, exec_mtdcr_of_writeDcr hs hn (by decide) rfl, rfl⟩,
    fun hn => ⟨_, exec_mtdcr_of_writeDcr hs hn (by decide) rfl, rfl⟩,
    fun hn => ⟨_, exec_mtdcr_of_writeDcr hs hn (by decide) rfl, rfl⟩,
    fun hn => ⟨_, exec_mtdcr_of_writeDcr hs hn (by decide) rfl, rfl⟩,
    fun hn => ⟨_, exec_mtdcr_of_writeDcr hs hn (by decide) rfl, rfl⟩,
    fun hn hg hc => runs_cdacntl_elsewhere hs hn hg hc, fun hn hg hc => ?_⟩
  · rw [show numberOf f = p.1 from hn]
    revert p
    simp only [List.forall_mem_cons, List.not_mem_nil, false_imp_iff, implies_true, and_true]
    exact ⟨fun _ => rfl, fun _ => rfl, fun _ => rfl, fun _ => rfl, fun _ => rfl, fun _ => rfl, fun _ => rfl, fun _ => rfl,
      fun _ => rfl⟩
  · intro way set k high line data check
    refine ⟨exec_cdacntl_absent hs hn hg hc, fun hw hset => ⟨runs_cdacntl_readTag hs hn hg hc hw hset,
      runs_cdacntl_readData hs hn hg hc hw hset, fun hr => ?_⟩⟩
    obtain ⟨t, run, written, others, frame⟩ := runs_cdacntl_write hs hn hg hc hw hset hr
    refine ⟨t, run, fun ht => ?_, fun ht => ?_, others, frame⟩
    · rw [if_pos ht] at written
      obtain ⟨parity, edc⟩ := s.ic.tagWritten_spec v line
      rw [written]
      exact ⟨rfl, rfl, rfl, parity, edc, rfl, rfl⟩
    · rw [if_neg (Bool.not_eq_true _ ▸ ht)] at written
      obtain ⟨word, bytes, rest⟩ := s.ic.dataWritten_spec v line
      rw [written]
      exact ⟨word, bytes, rest, rfl, rfl, rfl, rfl⟩

end Sys2Proof.Proofs
end

section
/-! SUPPORT. The cache instructions when nothing turns them away: icbi over a set without tag errors, locks of a line that is
there, and fills of one that is not (spec/43_system.md R900 to R904, spec/20_memory.md R472, R478). -/

namespace Sys2Proof.Machine

variable {s : State} {m : Mapping} {w : Nat} {ra rb : Reg}

/-! ## icbi -/

theorem State.cacheInvalidate_off {ea : Word} (h : s.ic.enabled = false) : s.cacheInvalidate ea = (s.command 6 ea).done 4 := by
  have off : (s.command 6 ea).ic.enabled = false := h
  simp only [State.cacheInvalidate, off, Bool.not_false, if_true]

/-- The correction cycle over a set without tag errors changes nothing. -/
theorem ICache.correctSet_noError {c : ICache} {set : Nat} (hs : set < c.sets) (spare : Bool)
    (h : ∀ k, k < c.ways → tagError c.edt (c.line set k) = false) : (c.correctSet set spare).1 = c := by
  have swept := (ICache.correctSet_spec hs spare).1
  refine ICache.ext_lines swept.only fun j k hj hk => ?_
  rw [swept.lines j k hj hk]
  split
  next he => rw [ICache.corrected, he.1, tagError_eq_false.1 (h k hk)]
  next => rfl

/-- icbi of an address that may be read, over a set without tag errors: the pass over the matching lines. -/
theorem State.cacheInvalidate_clean {ea : Word} (on : s.ic.enabled = true) (h : s.lookup (bit s.msr 27) ea = some m)
    (hp : m.mayRead s.userMode = true) (hm : m.multi = false) (he : s.ic.edt < 2) (ht : ¬s.TagError ea) :
    s.cacheInvalidate ea = { s.command 6 ea with
      ic := (List.range s.ic.ways).foldl (ICache.clearWay s.freeCtr (m.real ea) (s.ic.setOf ea)) s.ic }.done 4 := by
  have on' : (s.command 6 ea).ic.enabled = true := on
  have h' : (s.command 6 ea).lookup (bit (s.command 6 ea).msr 27) ea = some m := h
  have hp' : m.mayRead (s.command 6 ea).userMode = true := hp
  have code : ((s.command 6 ea).ic.checking && decide ((s.command 6 ea).ic.edt ≥ 2)) = false := by
    rw [decide_eq_false (Nat.not_le.2 he : ¬(s.command 6 ea).ic.edt ≥ 2), Bool.and_false]
  have unreported : (s.command 6 ea).reportTags ea (m.real ea) = s.command 6 ea := by
    refine if_neg fun hc => ht ?_
    exact ((s.command 6 ea).tagError_iff ea).1 hc
  have seen :
      (if (s.ic.checking && s.ic.action = 1) = true then (s.ic.correctSet (s.ic.setOf ea) true).1 else s.ic) = s.ic := by
    split
    next hc =>
      refine ICache.correctSet_noError (s.ic.setOf_lt ea) true fun k hk => ?_
      exact Bool.not_eq_true _ ▸ fun herr => ht ⟨(Bool.and_eq_true_iff.1 hc).1, k, hk, herr⟩
    next => rfl
  simp only [State.cacheInvalidate, on', h', hp', code, Bool.not_true, Bool.false_eq_true, if_false,
    State.usedMapping_single _ hm, unreported]
  rw [show (s.command 6 ea).ic = s.ic from rfl, seen]
  rfl

/-- The lines that icbi clears fit their check bits, and no others change. -/
theorem runs_icbi_clean (on : s.ic.enabled = true) (ht : ¬s.TagError (s.eaX ra rb)) (he : s.ic.edt < 2)
    (h : s.lookup (bit s.msr 27) (s.eaX ra rb) = some m) (hm : m.multi = false) (hp : m.mayRead s.userMode = true) :
    Runs (.icbi ra rb) s fun t =>
      (∀ k, k < s.ic.ways →
        if s.ic.tagMatches (s.ic.line (s.ic.setOf (s.eaX ra rb)) k) (m.real (s.eaX ra rb)) then
          t.ic.line (s.ic.setOf (s.eaX ra rb)) k = { s.ic.line (s.ic.setOf (s.eaX ra rb)) k with
            v := false, l := false, tchk := (t.ic.line (s.ic.setOf (s.eaX ra rb)) k).tchk } ∧
            checkTag s.ic.edt (t.ic.line (s.ic.setOf (s.eaX ra rb)) k) = .good
        else t.ic.line (s.ic.setOf (s.eaX ra rb)) k = s.ic.line (s.ic.setOf (s.eaX ra rb)) k) ∧
      s.KeepsOtherSets t (s.ic.setOf (s.eaX ra rb)) ∧ t.ic.replace = s.ic.replace ∧
      t = { s with ic.lines := t.ic.lines, ic.replace := t.ic.replace, cur.signals := t.cur.signals, pc := s.pc + 4 } := by
  have run := State.cacheInvalidate_clean on h hp hm he ht
  have hs := s.ic.setOf_lt (s.eaX ra rb)
  have clean (k : Nat) (hk : k < s.ic.ways) :
      (s.ic.checking && tagError s.ic.edt (s.ic.line (s.ic.setOf (s.eaX ra rb)) k)) = false :=
    Bool.not_eq_true _ ▸ fun hc => ht ⟨(Bool.and_eq_true_iff.1 hc).1, k, hk, (Bool.and_eq_true_iff.1 hc).2⟩
  generalize s.ic.setOf (s.eaX ra rb) = set at *
  have swept := ICache.clearWays_spec hs s.freeCtr (m.real (s.eaX ra rb)) (le_refl s.ic.ways)
  generalize (List.range s.ic.ways).foldl (ICache.clearWay s.freeCtr (m.real (s.eaX ra rb)) set) s.ic = c at run swept
  have kept : c.replace = s.ic.replace := by rw [swept.only]
  have frame : c = { s.ic with lines := c.lines, replace := c.replace } := by rw [swept.only]
  refine ⟨_, run, fun k hk => ?_, fun j k hj hk hne => swept.line_other hj hk hne, kept, ?_⟩
  · have line := swept.line_set hs hk
    rw [ICache.cleared, clean k hk, Bool.false_and, Bool.not_false, Bool.and_true] at line
    split
    next hmatch =>
      rw [if_pos hmatch] at line
      refine ⟨?_, ?_⟩
      · exact line.trans
          (congrArg (fun l => { s.ic.line set k with v := false, l := false, tchk := CacheLine.tchk l }) line.symm)
      · exact (congrArg (checkTag s.ic.edt) line).trans (checkTag_of_fits he rfl)
    next hmatch => exact line.trans (if_neg hmatch)
  · exact congrArg (fun d => { s.command 6 (s.eaX ra rb) with ic := d }.advance 4) frame

/-! ## icbt, icbtls and icblc -/

theorem State.lockLine_filled {ea : Word} (h : s.ic.cleanWay ea (m.real ea) = none) (hi : m.entry.i = false)
    (hn : s.ic.NextWay (s.ic.setOf ea) false w) (hl : s.lineError (m.real ea) = false) :
    s.lockLine ea m =
      (((s.fetchRequest (m.real ea) 32 m.entry (some w)).fillLine ea (m.real ea) w true).stepReplace w).done 4 := by
  obtain ⟨rest, hc⟩ := ICache.candidates_of_nextWay hn
  have clean : (s.fetchRequest (m.real ea) 32 m.entry (some w)).lineError (m.real ea) = false := hl
  simp only [State.lockLine, h, hi, hc, clean, Bool.false_eq_true, if_false]

/-- A filled line stays so when pc moves on. -/
theorem State.Filled.advance {t : State} {set : Nat} {real : Word} {locked : Bool} (h : s.Filled t set w real locked) :
    s.Filled (t.advance 4) set w real locked :=
  ⟨⟨h.tag, h.valid, h.locked, h.data, h.tagCheck, h.dataCheck, h.others⟩, h.next⟩

/-- Writing a lock bit leaves the replacement counter. -/
theorem State.replace_of_onlyLines {t : State}
    (frame : t = { s with ic.lines := t.ic.lines, cur.signals := t.cur.signals, pc := s.pc + 4 }) :
    t.ic.replace = s.ic.replace ∧
      t = { s with ic.lines := t.ic.lines, ic.replace := t.ic.replace, cur.signals := t.cur.signals, pc := s.pc + 4 } := by
  have kept : t.ic.replace = s.ic.replace := by rw [frame]
  exact ⟨kept, kept ▸ frame⟩

section
variable (on : s.ic.enabled = true) (ht : ¬s.TagError (s.eaX ra rb)) (he : s.ic.edt < 2)
  (h : s.lookup (bit s.msr 27) (s.eaX ra rb) = some m) (hm : m.multi = false) (hp : m.mayTouch s.userMode = true)
include on ht he h hm hp

section
variable (hd : s.lockDenied = false)
include hd

/-- icbtls and icblc of a line that is there write its lock bit (R902, R904). -/
theorem runs_locks_hit (hw : s.ic.hitWay (s.eaX ra rb) (m.real (s.eaX ra rb)) = some w) :
    (Runs (.icbtls 0 ra rb) s fun t =>
      t.ic.line (s.ic.setOf (s.eaX ra rb)) w = { s.ic.line (s.ic.setOf (s.eaX ra rb)) w with l := true } ∧
      s.KeepsOtherLines t (s.ic.setOf (s.eaX ra rb)) w ∧
      t = { s with ic.lines := t.ic.lines, cur.signals := t.cur.signals, pc := s.pc + 4 }) ∧
    Runs (.icblc 0 ra rb) s fun t =>
      t.ic.line (s.ic.setOf (s.eaX ra rb)) w = { s.ic.line (s.ic.setOf (s.eaX ra rb)) w with l := false } ∧
      s.KeepsOtherLines t (s.ic.setOf (s.eaX ra rb)) w ∧
      t = { s with ic.lines := t.ic.lines, cur.signals := t.cur.signals, pc := s.pc + 4 } := by
  have hc := (ICache.cleanWay_of_noTagError ht).trans hw
  have acts (o : List OutputEvent) (act : State → Mapping → Answer) (minds : ICache → Bool) :
      (s.withSignals o).lockConditions (s.eaX ra rb) act minds = act (s.withSignals o) m :=
    State.lockConditions_clean (s := s.withSignals o) h hd hp hm he ht
  have lock := acts (s.command 14 (s.eaX ra rb)).cur.signals (fun t m => t.lockLine (s.eaX ra rb) m) fun _ => true
  have unlock := acts (s.command 13 (s.eaX ra rb)).cur.signals (fun t m => t.unlockLine (s.eaX ra rb) m)
    fun c => c.lockedError (s.eaX ra rb)
  have hway := ICache.cleanWay_some hc
  refine ⟨⟨_, (State.cacheLock_on on).trans (lock.trans (State.lockLine_hit hc)), ?_⟩,
    ⟨_, (State.cacheUnlock_on on).trans (unlock.trans (State.unlockLine_hit hc)), ?_⟩⟩
  · exact State.setLock_spec (ea := s.eaX ra rb) (d := s.ic) rfl hway (s.command 14 (s.eaX ra rb)).cur.signals true
  · exact State.setLock_spec (ea := s.eaX ra rb) (d := s.ic) rfl hway (s.command 13 (s.eaX ra rb)).cur.signals false

end

section
variable (hw : s.ic.hitWay (s.eaX ra rb) (m.real (s.eaX ra rb)) = none) (hi : m.entry.i = false)
  (hway : s.ic.NextWay (s.ic.setOf (s.eaX ra rb)) false w) (hl : s.lineError (m.real (s.eaX ra rb)) = false)
include hw hi hway hl

/-- icbt fills the line into the next way, unlocked (R901). -/
theorem runs_icbt_filled (hn : bit s.hid.hid0 31 = false) : Runs (.icbt 0 ra rb) s fun t =>
    t.ic.hitWay (s.eaX ra rb) (m.real (s.eaX ra rb)) = some w ∧
      s.Filled t (s.ic.setOf (s.eaX ra rb)) w (m.real (s.eaX ra rb)) false ∧
      t = { s with ic.lines := t.ic.lines, ic.replace := t.ic.replace, cur.signals := t.cur.signals, pc := s.pc + 4 } := by
  obtain ⟨rest, hc⟩ := ICache.candidates_of_nextWay hway
  have run := State.cacheTouch_mapped on hn h
  have code : (s.ic.checking && decide (s.ic.edt ≥ 2)) = false := by simp [he]
  have clean : (s.command 12 (s.eaX ra rb)).lineError (m.real (s.eaX ra rb)) = false := hl
  generalize ho : ((s.command 12 (s.eaX ra rb)).fetchRequest (m.real (s.eaX ra rb)) 32 m.entry (some w)).cur.signals = o
  have requested : (s.command 12 (s.eaX ra rb)).fetchRequest (m.real (s.eaX ra rb)) 32 m.entry (some w) = s.withSignals o :=
    ho ▸ rfl
  have ht' := ht
  rw [← State.tagError_iff, Bool.not_eq_true] at ht'
  simp only [State.usedMapping_single _ hm, hp, code, ht', hw, hi, hc, clean, requested, Bool.not_true, Bool.false_eq_true,
    if_false] at run
  obtain ⟨filled, frame⟩ := State.filled_fill (ea := s.eaX ra rb) (real := m.real (s.eaX ra rb)) he
    (ICache.nextWay_lt hway) o false
  generalize ((s.withSignals o).fillLine (s.eaX ra rb) (m.real (s.eaX ra rb)) w false).stepReplace w = t at run filled frame
  have hit := filled.hitWay (ICache.nextWay_lt hway) hw (congrArg State.ic frame)
  exact ⟨_, run, hit, filled.advance, congrArg (State.advance · 4) frame⟩

/-- icbtls fills the line into the next way, locked (R902). -/
theorem runs_icbtls_filled (hd : s.lockDenied = false) : Runs (.icbtls 0 ra rb) s fun t =>
    t.ic.hitWay (s.eaX ra rb) (m.real (s.eaX ra rb)) = some w ∧
      s.Filled t (s.ic.setOf (s.eaX ra rb)) w (m.real (s.eaX ra rb)) true ∧
      t = { s with ic.lines := t.ic.lines, ic.replace := t.ic.replace, cur.signals := t.cur.signals, pc := s.pc + 4 } := by
  obtain ⟨run, miss⟩ := exec_icbtls_missed on h hd hp hm he ht hw
  obtain ⟨rest, hc⟩ := ICache.candidates_of_nextWay hway
  have clean : (s.command 14 (s.eaX ra rb)).lineError (m.real (s.eaX ra rb)) = false := hl
  have fill := State.lockLine_filled (s := s.command 14 (s.eaX ra rb)) miss hi hway hl
  generalize ho : ((s.command 14 (s.eaX ra rb)).fetchRequest (m.real (s.eaX ra rb)) 32 m.entry (some w)).cur.signals = o at fill
  have requested : (s.command 14 (s.eaX ra rb)).fetchRequest (m.real (s.eaX ra rb)) 32 m.entry (some w) = s.withSignals o :=
    ho ▸ rfl
  rw [requested] at fill
  obtain ⟨filled, frame⟩ := State.filled_fill (ea := s.eaX ra rb) (real := m.real (s.eaX ra rb)) he
    (ICache.nextWay_lt hway) o true
  generalize ((s.withSignals o).fillLine (s.eaX ra rb) (m.real (s.eaX ra rb)) w true).stepReplace w = t at fill filled frame
  have hit := filled.hitWay (ICache.nextWay_lt hway) hw (congrArg State.ic frame)
  exact ⟨_, run.trans fill, hit, filled.advance, congrArg (State.advance · 4) frame⟩

end

end

end Sys2Proof.Machine

namespace Sys2Proof.Proofs
open Sys2Proof.Machine

/-- Settles O42: the branches of the four instructions for a set without tag errors. -/
theorem cacheInstructions : Obligations.CacheInstructions := by
  unfold Obligations.CacheInstructions
  intro s ra rb m w ea real set cacheOnly
  refine ⟨fun off => ⟨⟨_, State.cacheInvalidate_off off, rfl⟩, runs_icbt_off (.inr (.inl off)),
    ⟨_, State.cacheUnlock_off 0 (.inr off), rfl⟩, ⟨_, State.cacheLock_off 0 (.inr off), rfl⟩⟩,
    fun on ht he h hm => ?_⟩
  intro touch
  have allowed : touch → m.mayTouch s.userMode = true := (m.mayTouch_iff s.userMode).2
  refine ⟨runs_icbi_clean on ht he h hm, fun hp hw => ⟨?_, fun hd => ?_, fun hd => ?_⟩,
    fun hp hd hw => runs_icblc_missed on h hd (allowed hp) hm he ht hw, fun hp hw hi hway hl =>
      ⟨runs_icbt_filled on ht he h hm (allowed hp) hw hi hway hl,
        runs_icbtls_filled on ht he h hm (allowed hp) hw hi hway hl⟩⟩
  · exact runs_icbt_unfilled h hm (fun _ => he) fun _ _ hnone _ => absurd (hw.symm.trans hnone) (by simp)
  · obtain ⟨⟨t, run, line, others, frame⟩, -⟩ := runs_locks_hit on ht he h hm (allowed hp) hd hw
    exact ⟨t, run, line, others, State.replace_of_onlyLines frame⟩
  · obtain ⟨-, t, run, line, others, frame⟩ := runs_locks_hit on ht he h hm (allowed hp) hd hw
    exact ⟨t, run, line, others, State.replace_of_onlyLines frame⟩

end Sys2Proof.Proofs
end

section
/-! SUPPORT. The special-purpose registers that read back what is written: each is a place of a list of words, and a write sets
one place (spec/43_system.md R869, spec/10_state.md R101). -/

namespace Sys2Proof.Machine

variable {s : State} {v : Word}

/-! ## The words of the storing registers -/

/-- What the registers of plainSprs hold, in that order. -/
def State.plainWords (s : State) : List Word :=
  [s.xer, s.lr, s.ctr, s.tim.dec, s.int.srr0, s.int.srr1, s.soft.pid0, s.tim.decar, s.int.csrr0, s.int.csrr1,
   s.int.dear, s.int.esr, s.int.ivpr, s.soft.usprg0, s.sprgAt 0, s.sprgAt 1, s.sprgAt 2, s.sprgAt 3, s.sprgAt 4,
   s.sprgAt 5, s.sprgAt 6, s.sprgAt 7, s.soft.pir, iacReg s.dbg 0, iacReg s.dbg 1, iacReg s.dbg 2, iacReg s.dbg 3,
   s.dbg.dac1, s.dbg.dac2, s.ivorAt 0, s.ivorAt 1, s.ivorAt 2, s.ivorAt 3, s.ivorAt 4, s.ivorAt 5, s.ivorAt 6,
   s.ivorAt 7, s.ivorAt 8, s.ivorAt 9, s.ivorAt 10, s.ivorAt 11, s.ivorAt 12, s.ivorAt 13, s.ivorAt 14, s.ivorAt 15,
   s.spefscr, s.ivorAt 16, s.ivorAt 17, s.ivorAt 18, s.dbg.dbcnt, iacReg s.dbg 4, iacReg s.dbg 5, iacReg s.dbg 6,
   iacReg s.dbg 7, s.int.mcsrr0, s.int.mcsrr1, s.int.mcar, s.int.dsrr0, s.int.dsrr1, s.sprgAt 8, s.sprgAt 9,
   s.mmu.mas0, s.mmu.mas1, s.mmu.mas2, s.mmu.mas3, s.mmu.mas4, s.mmu.mas6, s.dbg.dbcr1, s.dbg.dbcr2, s.dbg.dbcr3,
   s.dbg.dbcr4, s.dbg.dbcr5, s.dbg.dbcr6, s.deventValue, s.ic.hdbcr0, s.hid.hid0, s.ic.l1csr0, s.ic.l1csr1,
   s.hid.bucsr]

/-- The place of a register in plainSprs. -/
def sprPlace (n : Nat) : Nat := (plainSprs.map Prod.fst).idxOf n

/-- The words are what mfspr reads. -/
theorem State.readSpr_plain (s : State) {p : Nat × Word} (h : p ∈ plainSprs) :
    s.readSpr p.1 = s.plainWords[sprPlace p.1]? := by
  have reads : plainSprs.map (fun p => s.readSpr p.1) = plainSprs.map (fun p => s.plainWords[sprPlace p.1]?) := rfl
  exact List.map_inj_left.1 reads p h

/-- No two numbers share a place. -/
theorem sprPlace_inj {p q : Nat × Word} (hp : p ∈ plainSprs) (h : sprPlace p.1 = sprPlace q.1) : p.1 = q.1 :=
  (List.idxOf_inj (List.mem_map_of_mem hp)).1 h

theorem sprPlace_lt {p : Nat × Word} (hp : p ∈ plainSprs) (s : State) : sprPlace p.1 < s.plainWords.length :=
  List.idxOf_lt_length_of_mem (List.mem_map_of_mem hp)

/-- A write that sets one place is read back from its register, and the others read as before. -/
theorem State.reads_of_set {t : State} {x : Word} {p : Nat × Word} (hp : p ∈ plainSprs)
    (h : t.plainWords = s.plainWords.set (sprPlace p.1) x) :
    t.readSpr p.1 = some x ∧ ∀ q ∈ plainSprs, q.1 ≠ p.1 → t.readSpr q.1 = s.readSpr q.1 := by
  refine ⟨?_, fun q hq hne => ?_⟩
  · rw [t.readSpr_plain hp, h, List.getElem?_set_self (sprPlace_lt hp s)]
  · rw [t.readSpr_plain hq, s.readSpr_plain hq, h, List.getElem?_set_ne fun e => hne (sprPlace_inj hp e).symm]

/-- A write that sets none leaves what all of them read. -/
theorem State.reads_of_eq {t : State} (h : t.plainWords = s.plainWords) {q : Nat × Word} (hq : q ∈ plainSprs) :
    t.readSpr q.1 = s.readSpr q.1 := by
  rw [t.readSpr_plain hq, s.readSpr_plain hq, h]

/-! ## Writes of the banks -/

/-- SPRG0 to SPRG7 are 272 to 279, SPRG8 and SPRG9 are 604 and 605 (spec/10_state.md R101). -/
def sprgNumber (k : Nat) : Nat := if k < 8 then 272 + k else 596 + k

/-- IVOR0 to IVOR15 are 400 to 415, IVOR32 to IVOR34 are 528 to 530. -/
def ivorNumber (k : Nat) : Nat := if k < 16 then 400 + k else 512 + k

/-- IAC1 to IAC4 are 312 to 315, IAC5 to IAC8 are 565 to 568. -/
def iacNumber (k : Nat) : Nat := if k < 4 then 312 + k else 561 + k

theorem State.sprgAt_setSprg {k : Nat} (hk : k < 10) (v : Word) : (s.setSprg k v).sprgAt = Function.update s.sprgAt k v := by
  funext j
  rw [Function.update_apply]
  exact getD_setIfInBounds s.soft.sprg hk v j 0

theorem State.ivorAt_setIvor {k : Nat} (hk : k < 19) (v : Word) :
    (s.setIvor k v).ivorAt = Function.update s.ivorAt k (v &&& 0xFFF0) := by
  funext j
  rw [Function.update_apply]
  exact getD_setIfInBounds s.int.ivor hk _ j 0

theorem State.iacReg_setIac {k : Nat} (hk : k < 8) (v : Word) :
    iacReg (s.setIac k v).dbg = Function.update (iacReg s.dbg) k v := by
  funext j
  rw [Function.update_apply]
  exact getD_setIfInBounds s.dbg.iac hk v j 0

theorem State.plainWords_setSprg {k : Nat} (hk : k < 10) (v : Word) :
    (s.setSprg k v).plainWords = s.plainWords.set (sprPlace (sprgNumber k)) v := by
  rw [State.plainWords, State.sprgAt_setSprg hk]
  interval_cases k <;> rfl

theorem State.plainWords_setIvor {k : Nat} (hk : k < 19) (v : Word) :
    (s.setIvor k v).plainWords = s.plainWords.set (sprPlace (ivorNumber k)) (v &&& 0xFFF0) := by
  rw [State.plainWords, State.ivorAt_setIvor hk]
  interval_cases k <;> rfl

theorem State.plainWords_setIac {k : Nat} (hk : k < 8) (v : Word) :
    (s.setIac k v).plainWords = s.plainWords.set (sprPlace (iacNumber k)) v := by
  rw [State.plainWords, State.iacReg_setIac hk]
  interval_cases k <;> rfl

theorem State.writeSpr_sprg (s : State) {k : Nat} (hk : k < 10) (v : Word) :
    s.writeSpr (sprgNumber k) v = some (s.setSprg k v) := by
  interval_cases k <;> rfl

theorem State.writeSpr_ivor (s : State) {k : Nat} (hk : k < 19) (v : Word) :
    s.writeSpr (ivorNumber k) v = some (s.setIvor k v) := by
  interval_cases k <;> rfl

theorem State.writeSpr_iac (s : State) {k : Nat} (hk : k < 8) (v : Word) :
    s.writeSpr (iacNumber k) v = some (s.setIac k v) := by
  interval_cases k <;> rfl

/-! ## Writes of single registers -/

theorem State.plainWords_setHid0 (s : State) (v : Word) :
    (s.setHid0 v).plainWords = s.plainWords.set (sprPlace 1008) (v &&& 0x80E37F01) := by
  unfold State.setHid0
  split <;> rfl

/-- The control bits of L1CSR1 after a write; its flash operations change lines and the counter only. -/
theorem ICache.writeL1csr1_eq (c : ICache) (free : Nat) (v : Word) :
    c.writeL1csr1 free v = { c with
      lines := (c.writeL1csr1 free v).lines, replace := if bit v 30 then 0 else c.replace, l1csr1 := v &&& 0x0001B6F5 } := by
  unfold ICache.writeL1csr1
  cases bit v 30 <;> cases bit v 23 <;> rfl

theorem State.plainWords_writeL1csr1 (s : State) (v : Word) :
    (s.writeL1csr1 v).plainWords = s.plainWords.set (sprPlace 1011) (v &&& 0x0001B6F5) := by
  rw [State.writeL1csr1, ICache.writeL1csr1_eq]
  rfl

/-- DEVENT stores DQTAG alone (spec/12_state_debug.md R299). -/
theorem State.plainWords_writeDevent (s : State) (v : Word) :
    (s.writeDevent v).plainWords = s.plainWords.set (sprPlace 975) (v &&& 0xFF000000) := by
  have masked : v &&& 0xFF000000 &&& 0xFF000000 = v &&& 0xFF000000 := by rw [BitVec.and_assoc, BitVec.and_self]
  refine Eq.trans ?_ (congrArg (s.plainWords.set (sprPlace 975)) masked)
  rfl

/-- The implemented bits of a word; a register with all 32 stores the word itself. -/
def implemented (mask v : Word) : Word := if mask = 0xFFFFFFFF then v else v &&& mask

theorem implemented_eq (mask v : Word) : implemented mask v = v &&& mask := by
  unfold implemented
  split
  next h => rw [h]; exact BitVec.and_allOnes.symm
  next => rfl

/-- The storing registers that are no bank and whose write is the plain update of one field. -/
def singleSprs : List (Nat × Word) :=
  plainSprs.filter fun p => p.1 ∉ (List.range 10).map sprgNumber ++ (List.range 19).map ivorNumber ++
    (List.range 8).map iacNumber ++ [975, 1008, 1011]

theorem State.writeSpr_single (s : State) (v : Word) {p : Nat × Word} (h : p ∈ singleSprs) :
    (s.writeSpr p.1 v).map State.plainWords = some (s.plainWords.set (sprPlace p.1) (implemented p.2 v)) := by
  have writes : singleSprs.map (fun p => (s.writeSpr p.1 v).map State.plainWords) =
      singleSprs.map (fun p => some (s.plainWords.set (sprPlace p.1) (implemented p.2 v))) := rfl
  exact List.map_inj_left.1 writes p h

/-- Every write of a storing register sets its place to the implemented bits of the source. -/
theorem State.writeSpr_plain (s : State) (v : Word) {p : Nat × Word} (h : p ∈ plainSprs) :
    ∃ t, s.writeSpr p.1 v = some t ∧ t.plainWords = s.plainWords.set (sprPlace p.1) (v &&& p.2) := by
  have kinds : p ∈ singleSprs ∨ p ∈ (List.range 10).map (fun k => (sprgNumber k, 0xFFFFFFFF)) ∨
      p ∈ (List.range 19).map (fun k => (ivorNumber k, 0xFFF0)) ∨
      p ∈ (List.range 8).map (fun k => (iacNumber k, 0xFFFFFFFF)) ∨ p = (975, 0xFF000000) ∨ p = (1008, 0x80E37F01) ∨
      p = (1011, 0x0001B6F5) := by
    revert p
    decide +kernel
  rcases kinds with hsingle | hsprg | hivor | hiac | rfl | rfl | rfl
  · obtain ⟨t, ht, hw⟩ := Option.map_eq_some_iff.1 (s.writeSpr_single v hsingle)
    exact ⟨t, ht, hw.trans (by rw [implemented_eq])⟩
  · obtain ⟨k, hk, rfl⟩ := List.mem_map.1 hsprg
    rw [List.mem_range] at hk
    exact ⟨_, s.writeSpr_sprg hk v, by rw [State.plainWords_setSprg hk, ← implemented_eq]; rfl⟩
  · obtain ⟨k, hk, rfl⟩ := List.mem_map.1 hivor
    rw [List.mem_range] at hk
    exact ⟨_, s.writeSpr_ivor hk v, State.plainWords_setIvor hk v⟩
  · obtain ⟨k, hk, rfl⟩ := List.mem_map.1 hiac
    rw [List.mem_range] at hk
    exact ⟨_, s.writeSpr_iac hk v, by rw [State.plainWords_setIac hk, ← implemented_eq]; rfl⟩
  · exact ⟨_, rfl, s.plainWords_writeDevent v⟩
  · exact ⟨_, rfl, s.plainWords_setHid0 v⟩
  · exact ⟨_, rfl, s.plainWords_writeL1csr1 v⟩

end Sys2Proof.Machine
end

section
/-! SUPPORT. mtspr to the time base, MMUCSR0 and L1CSR1 (spec/10_state.md R85, spec/62_timers_power_platform.md R2144, R2146,
spec/11_state_mmu_cache.md R223, spec/20_memory.md R474, R475). -/

namespace Sys2Proof.Machine

/-! ## The time base -/

/-- Fields with the same bits are equal. -/
theorem bits_congr {a n : Nat} {x y : Word} (h : a + n ≤ 32) (hb : ∀ i, i < n → bit x (a + i) = bit y (a + i)) :
    bits a n x = bits a n y :=
  bits_ext h fun i hi => (hb i hi).trans (bits_getMsbD a n y h i hi).symm

/-- Two fields that a timer puts together select a bit of the time base (R2144, R2146). -/
theorem selector_toNat (ext : BitVec 4) (sel : BitVec 2) : (ext ++ sel : BitVec 6).toNat = 4 * ext.toNat + sel.toNat := by
  rw [BitVec.toNat_append, ← Nat.shiftLeft_add_eq_or_of_lt sel.isLt, Nat.shiftLeft_eq, Nat.mul_comm]

/-- The bit a timer watches goes from 0 to 1. -/
def rises (old new : Dword) (i : Nat) : Bool := !old.getMsbD i && new.getMsbD i

theorem rises_iff (old new : Dword) (i : Nat) :
    rises old new i = true ↔ old.getMsbD i = false ∧ new.getMsbD i = true := by
  simp [rises]

/-- A word with one more bit set. -/
theorem bit_or_oneBit_same (w : Word) {i : Nat} (hi : i < 32) : bit (w ||| oneBit i) i = true := by
  rw [bit_or, bit_oneBit i i hi, decide_eq_true rfl, Bool.or_true]

theorem bit_or_oneBit_other (w : Word) {i k : Nat} (hk : k < 32) (h : i ≠ k) : bit (w ||| oneBit i) k = bit w k := by
  rw [bit_or, bit_oneBit i k hk, decide_eq_false h, Bool.or_false]

theorem bits_or_oneBit_other (w : Word) {a n i : Nat} (h : a + n ≤ 32) (hd : i < a ∨ a + n ≤ i) :
    bits a n (w ||| oneBit i) = bits a n w :=
  bits_congr h fun j hj => bit_or_oneBit_other w (by omega) (by omega)

/-- TSR after a watchdog time-out: its three stages change ENW, WIS and WRS, the bits 0 to 3, and nothing else (R2146). -/
theorem watchdogTimeout_spec (tcr tsr : Word) :
    bit (watchdogTimeout tcr tsr) 0 = true ∧ (bit tsr 0 = true → bit (watchdogTimeout tcr tsr) 1 = true) ∧
    (bit tsr 0 = false → bit (watchdogTimeout tcr tsr) 1 = bit tsr 1) ∧
    bits 2 2 (watchdogTimeout tcr tsr) =
      (if bit tsr 0 = true ∧ bit tsr 1 = true ∧ bits 2 2 tcr ≠ 0 then bits 2 2 tcr else bits 2 2 tsr) ∧
    ∀ k, 4 ≤ k → k < 32 → bit (watchdogTimeout tcr tsr) k = bit tsr k := by
  unfold watchdogTimeout
  split
  case isTrue h0 =>
    rw [Bool.not_eq_true'] at h0
    refine ⟨bit_or_oneBit_same tsr (by decide), fun h => absurd (h0.symm.trans h) (by decide),
      fun _ => bit_or_oneBit_other tsr (by decide) (by decide), ?_, fun k h4 hk => bit_or_oneBit_other tsr hk (by omega)⟩
    rw [if_neg fun h => absurd (h0.symm.trans h.1) (by decide)]
    exact bits_or_oneBit_other tsr (by decide) (.inl (by decide))
  case isFalse h0 =>
    rw [Bool.not_eq_true', Bool.not_eq_false] at h0
    split
    case isTrue h1 =>
      rw [Bool.not_eq_true'] at h1
      refine ⟨(bit_or_oneBit_other tsr (by decide) (by decide)).trans h0, fun _ => bit_or_oneBit_same tsr (by decide),
        fun h => absurd (h0.symm.trans h) (by decide), ?_, fun k h4 hk => bit_or_oneBit_other tsr hk (by omega)⟩
      rw [if_neg fun h => absurd (h1.symm.trans h.2.1) (by decide)]
      exact bits_or_oneBit_other tsr (by decide) (.inl (by decide))
    case isFalse h1 =>
      rw [Bool.not_eq_true', Bool.not_eq_false] at h1
      split
      case isTrue hw =>
        rw [bne_iff_ne] at hw
        have kept {k : Nat} (hk : k < 32) (hd : k < 2 ∨ 4 ≤ k) : bit (putBits 2 2 (bits 2 2 tcr) tsr) k = bit tsr k :=
          bit_putBits_other _ _ (by decide) hk hd
        refine ⟨(kept (by decide) (by decide)).trans h0, fun _ => (kept (by decide) (by decide)).trans h1,
          fun _ => kept (by decide) (by decide), ?_, fun k h4 hk => kept hk (.inr h4)⟩
        rw [if_pos ⟨h0, h1, hw⟩]
        exact bits_putBits_same 2 2 _ _ (by decide)
      case isFalse hw =>
        rw [bne_iff_ne, ne_eq, not_not] at hw
        exact ⟨h0, fun _ => h1, fun _ => rfl, (if_neg fun h => h.2.2 hw).symm, fun _ _ _ => rfl⟩

/-- TSR after the fixed-interval timer has seen whether its bit rose (R2144). -/
def fixedIntervalStep (rose : Bool) (tsr : Word) : Word := if rose then tsr ||| oneBit 5 else tsr

theorem bit_fixedIntervalStep_five (rose : Bool) (tsr : Word) : bit (fixedIntervalStep rose tsr) 5 = (bit tsr 5 || rose) := by
  cases rose with
  | false => exact (Bool.or_false _).symm
  | true => exact (bit_or_oneBit_same tsr (by decide)).trans (Bool.or_true _).symm

theorem bit_fixedIntervalStep_other (rose : Bool) (tsr : Word) {k : Nat} (hk : k < 32) (h : k ≠ 5) :
    bit (fixedIntervalStep rose tsr) k = bit tsr k := by
  cases rose with
  | false => rfl
  | true => exact bit_or_oneBit_other tsr hk h.symm

theorem bits_fixedIntervalStep_other (rose : Bool) (tsr : Word) {a n : Nat} (h : a + n ≤ 32) (hd : 5 < a ∨ a + n ≤ 5) :
    bits a n (fixedIntervalStep rose tsr) = bits a n tsr :=
  bits_congr h fun i hi => bit_fixedIntervalStep_other rose tsr (by omega) (by omega)

/-- TSR after the watchdog has seen whether its bit rose (R2146). -/
def watchdogStep (rose : Bool) (tcr tsr : Word) : Word := if rose then watchdogTimeout tcr tsr else tsr

theorem bit_watchdogStep_other (rose : Bool) (tcr tsr : Word) {k : Nat} (h4 : 4 ≤ k) (hk : k < 32) :
    bit (watchdogStep rose tcr tsr) k = bit tsr k := by
  cases rose with
  | false => rfl
  | true =>
    obtain ⟨-, -, -, -, others⟩ := watchdogTimeout_spec tcr tsr
    exact others k h4 hk

theorem timeBaseChange_eq (tcr tsr : Word) (old new : Dword) : timeBaseChange tcr tsr old new =
    watchdogStep (rises old new (4 * (bits 11 4 tcr).toNat + (bits 0 2 tcr).toNat)) tcr
      (fixedIntervalStep (rises old new (4 * (bits 15 4 tcr).toNat + (bits 6 2 tcr).toNat)) tsr) := by
  rw [← selector_toNat, ← selector_toNat]
  rfl

/-- TSR after the time base changed, as the claims say it (R2144, R2146). -/
theorem timeBaseMoved (tcr tsr : Word) (old new : Dword) :
    TimeBaseMoved tcr tsr (timeBaseChange tcr tsr old new) old new := by
  rw [timeBaseChange_eq]
  refine ⟨?_, fun quiet => ?_, fun low high => ?_, ?_, ?_⟩
  case refine_1 =>
    rw [bit_watchdogStep_other _ _ _ (by decide) (by decide), bit_fixedIntervalStep_five, Bool.or_eq_true, rises_iff]
  case refine_2 =>
    rw [← rises_iff, Bool.not_eq_true] at quiet
    rw [quiet]
    exact bits_fixedIntervalStep_other _ tsr (by decide) (.inr (by decide))
  case refine_3 =>
    rw [(rises_iff _ _ _).2 ⟨low, high⟩]
    have stages := watchdogTimeout_spec tcr
      (fixedIntervalStep (rises old new (4 * (bits 15 4 tcr).toNat + (bits 6 2 tcr).toNat)) tsr)
    rw [bit_fixedIntervalStep_other _ tsr (by decide) (by decide : 0 ≠ 5),
      bit_fixedIntervalStep_other _ tsr (by decide) (by decide : 1 ≠ 5),
      bits_fixedIntervalStep_other _ tsr (by decide) (.inr (by decide) : 5 < 2 ∨ 2 + 2 ≤ 5)] at stages
    obtain ⟨enw, wis, kept, wrs, -⟩ := stages
    exact ⟨enw, wis, kept, wrs⟩
  case refine_4 =>
    rw [bit_watchdogStep_other _ _ _ (by decide) (by decide)]
    exact bit_fixedIntervalStep_other _ tsr (by decide) (by decide)
  case refine_5 =>
    exact bits_congr (by decide) fun i hi => (bit_watchdogStep_other _ _ _ (by omega) (by omega)).trans
      (bit_fixedIntervalStep_other _ tsr (by omega) (by omega))

/-! ## The effects of single registers -/

variable {s : State} {r : Reg} {f : BitVec 10}

/-- What mtspr leaves when its register then reads v: every other storing register reads as before, and no general register, no
flag and no byte of memory changes (R869). -/
def State.ReadsBack (s : State) (n : Nat) (v : Word) (t : State) : Prop :=
  t.readSpr n = some v ∧ (∀ p ∈ plainSprs, p.1 ≠ n → t.readSpr p.1 = s.readSpr p.1) ∧
  t.gpr = s.gpr ∧ t.mem = s.mem ∧ t.cr = s.cr ∧ t.msr = s.msr ∧ t.pc = s.pc + 4

theorem State.plainSprs_move {p : Nat × Word} (h : p ∈ plainSprs) : p.1 ∉ [318, 319, 959] := by
  revert p
  decide

/-- mtspr reads back what writeSpr stored. -/
theorem runs_mtspr_readsBack (hs : (numberOf f).testBit 4 = true → s.userMode = false) (hn : numberOf f ∉ [318, 319, 959])
    {t : State} {v : Word} (h : s.writeSpr (numberOf f) (s.r r) = some t) (hv : t.readSpr (numberOf f) = some v)
    (others : ∀ p ∈ plainSprs, p.1 ≠ numberOf f → t.readSpr p.1 = s.readSpr p.1) :
    Runs (.mtspr r f) s (s.ReadsBack (numberOf f) v) := by
  have beside := State.besideSprs_writeSpr h
  simp only [State.besideSprs, Prod.mk.injEq] at beside
  obtain ⟨gpr, pc, cr, msr, mem⟩ := beside
  exact ⟨_, exec_mtspr_of_writeSpr hs hn h, hv, others, gpr, mem, cr, msr, congrArg (· + 4) pc⟩

theorem runs_mtspr_plain (hs : (numberOf f).testBit 4 = true → s.userMode = false) {p : Nat × Word} (hp : p ∈ plainSprs)
    (hn : p.1 = numberOf f) : Runs (.mtspr r f) s (s.ReadsBack (numberOf f) (s.r r &&& p.2)) := by
  obtain ⟨t, ht, words⟩ := s.writeSpr_plain (s.r r) hp
  obtain ⟨own, others⟩ := State.reads_of_set hp words
  rw [hn] at ht own others
  exact runs_mtspr_readsBack hs (hn ▸ State.plainSprs_move hp) ht own others

/-- mtspr of a register beside the list of storing ones, whose write leaves all of these alone. -/
theorem runs_mtspr_beside (hs : (numberOf f).testBit 4 = true → s.userMode = false) {n : Nat} (hn : numberOf f = n)
    (own : n ∉ [318, 319, 959]) {t : State} {v : Word} (h : s.writeSpr n (s.r r) = some t) (hv : t.readSpr n = some v)
    (words : t.plainWords = s.plainWords) : Runs (.mtspr r f) s (s.ReadsBack (numberOf f) v) := by
  subst hn
  exact runs_mtspr_readsBack hs own h hv fun p hp _ => State.reads_of_eq words hp

theorem runs_mtspr_tcr (hs : (numberOf f).testBit 4 = true → s.userMode = false) (hn : numberOf f = 340) :
    Runs (.mtspr r f) s (s.ReadsBack (numberOf f) ((s.r r &&& 0xFFDFE000) ||| (s.tim.tcr &&& 0x30000000))) :=
  runs_mtspr_beside hs hn (by decide) rfl rfl rfl

theorem runs_mtspr_hid1 (hs : (numberOf f).testBit 4 = true → s.userMode = false) (hn : numberOf f = 1009) :
    Runs (.mtspr r f) s (s.ReadsBack (numberOf f) ((s.r r &&& 0xFF00) ||| if s.reserve then 0x80 else 0)) :=
  runs_mtspr_beside hs hn (by decide) rfl rfl rfl

theorem runs_mtspr_dbcr0 (hs : (numberOf f).testBit 4 = true → s.userMode = false) (hn : numberOf f = 308) :
    Runs (.mtspr r f) s (s.ReadsBack (numberOf f) ((s.r r &&& 0x7FFFFFE1) ||| (s.dbg.dbcr0 &&& 0x80000000))) :=
  runs_mtspr_beside hs hn (by decide) rfl rfl rfl

/-- mtspr of a number whose write is known. -/
theorem exec_mtspr_number (hs : (numberOf f).testBit 4 = true → s.userMode = false) {n : Nat} (hn : numberOf f = n)
    (own : n ∉ [318, 319, 959]) {t : State} (h : s.writeSpr n (s.r r) = some t) :
    exec (.mtspr r f) s = .next (t.advance 4) := by
  subst hn
  exact exec_mtspr_of_writeSpr hs own h

/-- mtspr TBL and TBU write one half of the time base (spec/10_state.md R85). -/
theorem runs_mtspr_timeBase (hs : (numberOf f).testBit 4 = true → s.userMode = false)
    (hn : numberOf f = 284 ∨ numberOf f = 285) : Runs (.mtspr r f) s fun t =>
      t.tim.tb = (if numberOf f = 284 then hi s.tim.tb ++ s.r r else s.r r ++ lo s.tim.tb) ∧
      TimeBaseMoved s.tim.tcr s.tim.tsr t.tim.tsr s.tim.tb t.tim.tb ∧
      t = { s with tim := { s.tim with tb := t.tim.tb, tsr := t.tim.tsr }, pc := s.pc + 4 } := by
  rcases hn with hn | hn <;> rw [hn]
  · exact ⟨_, exec_mtspr_number hs hn (by decide) rfl, rfl, timeBaseMoved _ _ _ _, rfl⟩
  · exact ⟨_, exec_mtspr_number hs hn (by decide) rfl, rfl, timeBaseMoved _ _ _ _, rfl⟩

/-- DDAM goes out with DEVENT[DQTAG] and reads 0 (spec/12_state_debug.md R300). -/
theorem runs_mtspr_ddam (hs : (numberOf f).testBit 4 = true → s.userMode = false) (hn : numberOf f = 576) :
    Runs (.mtspr r f) s fun t => t.readSpr 576 = some 0 ∧ t = { s with
      dbg.ddam := s.r r, outputs := s.outputs ++ [.ddam (bits 0 8 s.dbg.devent) (s.r r)], pc := s.pc + 4 } :=
  ⟨_, exec_mtspr_number hs hn (by decide) rfl, rfl, rfl⟩

/-- The flash invalidation of the TLB, entry by entry (spec/11_state_mmu_cache.md R223). -/
theorem State.entry_flashInvalidate (s : State) (k : BitVec 4) : s.flashInvalidate.mmu.entry k =
    if (s.mmu.entry k).iprot = false then { s.mmu.entry k with v := false } else s.mmu.entry k := by
  refine (Vector.getElem_map ..).trans ?_
  change (if (s.mmu.entry k).iprot = true then _ else _) = _
  cases (s.mmu.entry k).iprot <;> rfl

theorem runs_mtspr_mmucsr0 (hs : (numberOf f).testBit 4 = true → s.userMode = false) (hn : numberOf f = 1012) :
    Runs (.mtspr r f) s fun t =>
      (∀ k : BitVec 4, t.mmu.entry k =
        if bit (s.r r) 30 = true ∧ (s.mmu.entry k).iprot = false then { s.mmu.entry k with v := false }
        else s.mmu.entry k) ∧
      t.readSpr 1012 = s.readSpr 1012 ∧ t = { s with mmu.tlb := t.mmu.tlb, pc := s.pc + 4 } := by
  refine ⟨_, exec_mtspr_number hs hn (by decide) rfl, ?_⟩
  cases bit (s.r r) 30 with
  | true =>
    refine ⟨fun k => ?_, rfl, rfl⟩
    simp only [true_and]
    exact s.entry_flashInvalidate k
  | false => exact ⟨fun k => (if_neg fun h => Bool.false_ne_true h.1).symm, rfl, rfl⟩

/-- One line after mtspr L1CSR1: ICINV clears V and rewrites the check bits, ICLFC clears the lock bit (spec/20_memory.md R474,
R475). -/
theorem ICache.getElem_writeL1csr1 (c : ICache) (free : Nat) (v : Word) (k : Fin 128) :
    (c.writeL1csr1 free v).lines[k] =
      let l := if bit v 23 then { c.lines[k] with l := false } else c.lines[k]
      if bit v 30 then invalidated (c.writeL1csr1 free v).edt free l else l := by
  unfold ICache.writeL1csr1
  cases bit v 30 <;> cases bit v 23
  · rfl
  · exact Vector.getElem_map ..
  · exact Vector.getElem_map ..
  · exact (Vector.getElem_map ..).trans (congrArg (invalidated _ free) (Vector.getElem_map ..))

/-- What of the cache mtspr L1CSR1 can change. -/
theorem ICache.writeL1csr1_frame (c : ICache) (free : Nat) (v : Word) : c.writeL1csr1 free v = { c with
    lines := (c.writeL1csr1 free v).lines
    l1csr1 := (c.writeL1csr1 free v).l1csr1
    replace := (c.writeL1csr1 free v).replace } := by
  rw [ICache.writeL1csr1_eq]

theorem runs_mtspr_l1csr1 (hs : (numberOf f).testBit 4 = true → s.userMode = false) (hn : numberOf f = 1011) :
    Runs (.mtspr r f) s fun t =>
      (∀ k : Fin 128, t.ic.lines[k] =
        { s.ic.lines[k] with
          v := s.ic.lines[k].v && !bit (s.r r) 30
          l := s.ic.lines[k].l && !bit (s.r r) 23
          tchk := if bit (s.r r) 30 then t.ic.lines[k].tchk else s.ic.lines[k].tchk }) ∧
      (bit (s.r r) 30 = true → t.ic.edt < 2 → ∀ k : Fin 128, checkTag t.ic.edt t.ic.lines[k] = .good) ∧
      t.ic.replace = (if bit (s.r r) 30 then 0 else s.ic.replace) ∧ t.ic.l1csr1 = s.r r &&& 0x0001B6F5 ∧
      t = { s with
        ic := { s.ic with lines := t.ic.lines, l1csr1 := t.ic.l1csr1, replace := t.ic.replace }
        freeCtr := t.freeCtr
        pc := s.pc + 4 } := by
  have line := s.ic.getElem_writeL1csr1 s.freeCtr (s.r r)
  have rest := s.ic.writeL1csr1_eq s.freeCtr (s.r r)
  refine ⟨_, exec_mtspr_number hs hn (by decide) rfl, fun k => ?_, fun flash edt k => ?_,
    congrArg ICache.replace rest, congrArg ICache.l1csr1 rest, ?_⟩
  · change (s.ic.writeL1csr1 s.freeCtr (s.r r)).lines[k] = { s.ic.lines[k] with
      v := s.ic.lines[k].v && !bit (s.r r) 30
      l := s.ic.lines[k].l && !bit (s.r r) 23
      tchk := if bit (s.r r) 30 then (s.ic.writeL1csr1 s.freeCtr (s.r r)).lines[k].tchk else s.ic.lines[k].tchk }
    rw [line]
    cases bit (s.r r) 30 <;> cases bit (s.r r) 23 <;> simp [invalidated]
  · refine (congrArg (checkTag _) (line k)).trans ?_
    rw [if_pos flash]
    exact checkTag_invalidated edt _
  · exact congrArg (fun c => ({ s.spendFree with ic := c } : State).advance 4) (s.ic.writeL1csr1_frame s.freeCtr (s.r r))

end Sys2Proof.Machine

namespace Sys2Proof.Proofs
open Sys2Proof.Machine

/-- Settles O39: the storing registers by the list of their words, each of the others by its own write. -/
theorem sprReadsBack : Obligations.SprReadsBack := by
  unfold Obligations.SprReadsBack
  intro s r f hs n reads
  exact ⟨fun p hp hn => runs_mtspr_plain hs hp hn, runs_mtspr_tcr hs, runs_mtspr_hid1 hs, runs_mtspr_dbcr0 hs,
    runs_mtspr_timeBase hs, fun hn => ⟨_, exec_mtspr_dvc1 hs hn, rfl⟩, fun hn => ⟨_, exec_mtspr_dvc2 hs hn, rfl⟩,
    runs_mtspr_ddam hs, runs_mtspr_mmucsr0 hs, runs_mtspr_l1csr1 hs⟩

end Sys2Proof.Proofs
end

section
/-! SUPPORT. The register groups of the volatile context loads and stores (spec/44_vle.md R960, R980 to R991). -/

namespace Sys2Proof.Machine

/-! ## States that the accesses of one instruction cannot tell apart -/

/-- Only registers that no access reads, the signature unit and what the step has noted may differ. -/
def State.SeenAlike (s t : State) : Prop := t = { s with
  gpr := t.gpr, cr := t.cr, lr := t.lr, ctr := t.ctr, xer := t.xer, int := t.int, psu := t.psu, cur := t.cur }

section
variable {s t u : State}

theorem State.SeenAlike.trans (h : s.SeenAlike t) (h' : t.SeenAlike u) : s.SeenAlike u := by
  rw [State.SeenAlike, h] at h'
  exact h'

theorem State.SeenAlike.canLoad (h : s.SeenAlike t) {ea : Word} {n : Nat} {m m2 : Mapping} (hl : s.CanLoad ea n m m2) :
    t.CanLoad ea n m m2 := by
  have maps := hl.maps
  rw [h]
  exact ⟨⟨maps.first, maps.single, maps.within, maps.second, maps.single2, maps.sameOrder⟩, hl.permitted, hl.noError⟩

theorem State.SeenAlike.midway (h : s.SeenAlike t) : t.midway = s.midway := by rw [h]

theorem State.SeenAlike.mem (h : s.SeenAlike t) : t.mem = s.mem := by rw [h]

theorem State.SeenAlike.inputInside (h : s.SeenAlike t) (hint : t.int = s.int) {j n : Nat} (hi : s.InputInside j n) :
    t.InputInside j n := by
  rw [h, hint]
  exact hi

theorem State.SeenAlike.abandonedFor (h : s.SeenAlike t) (hint : t.int = s.int) (hu : t.AbandonedFor u) :
    s.AbandonedFor u := by
  rw [h, hint] at hu
  exact hu

end

/-! ## Writers of a register group -/

/-- What writes a register of a group changes registers only, and does the same whatever the accesses
before it have left in the signature unit and the record of the step. -/
structure GroupWriter (f : Word → State → State) : Prop where
  only : ∀ v (t : State), t.SeenAlike (f v t)
  apart : ∀ v t psu cur, f v { t with psu := psu, cur := cur } = { f v t with psu := psu, cur := cur }

/-- What e_lmvgprw writes a word with. -/
def gprWriter (r : Reg) (v : Word) (t : State) : State := t.setR r v

theorem groupWriter_gpr (rs : List Reg) : ∀ f ∈ rs.map gprWriter, GroupWriter f := by
  intro f hf
  obtain ⟨r, -, rfl⟩ := List.mem_map.1 hf
  exact ⟨fun _ _ => rfl, fun _ _ _ _ => rfl⟩

theorem groupWriter_spr : ∀ f ∈ volatileSprWriters, GroupWriter f := by
  simp only [volatileSprWriters, List.forall_mem_cons]
  exact ⟨⟨fun _ _ => rfl, fun _ _ _ _ => rfl⟩, ⟨fun _ _ => rfl, fun _ _ _ _ => rfl⟩,
    ⟨fun _ _ => rfl, fun _ _ _ _ => rfl⟩, ⟨fun _ _ => rfl, fun _ _ _ _ => rfl⟩, nofun⟩

theorem groupWriter_int (p : Word → IntRegs → IntRegs) : GroupWriter fun v t => { t with int := p v t.int } :=
  ⟨fun _ _ => rfl, fun _ _ _ _ => rfl⟩

/-- A writer that leaves the save/restore pairs and the syndromes alone, as those of the groups that can be abandoned do. -/
def KeepsInterruptRegisters (f : Word → State → State) : Prop := ∀ v t, (f v t).int = t.int

theorem keepsInterruptRegisters_gpr (rs : List Reg) : ∀ f ∈ rs.map gprWriter, KeepsInterruptRegisters f := by
  intro f hf
  obtain ⟨r, -, rfl⟩ := List.mem_map.1 hf
  exact fun _ _ => rfl

theorem keepsInterruptRegisters_spr : ∀ f ∈ volatileSprWriters, KeepsInterruptRegisters f := by
  simp only [volatileSprWriters, List.forall_mem_cons]
  exact ⟨fun _ _ => rfl, fun _ _ => rfl, fun _ _ => rfl, fun _ _ => rfl, nofun⟩

/-! ## The words at an address written to a group -/

/-- The words at ea written to a group, the first with the first writer. -/
def State.withWords (s : State) (m : Nat → Mapping) (ea : Word) (fs : List (Word → State → State)) : State :=
  fs.zipIdx.foldl (fun t p => p.1 (s.wordAt m ea p.2) t) s

section
variable (s : State) (m : Nat → Mapping) (ea : Word)

theorem State.withWords_snoc (fs : List (Word → State → State)) (f : Word → State → State) :
    s.withWords m ea (fs ++ [f]) = f (s.wordAt m ea fs.length) (s.withWords m ea fs) := by
  simp [State.withWords, List.zipIdx_append]

theorem State.seenAlike_withWords {fs : List (Word → State → State)} (hf : ∀ f ∈ fs, GroupWriter f) :
    s.SeenAlike (s.withWords m ea fs) := by
  induction fs using List.reverseRecOn with
  | nil => rfl
  | append_singleton fs f ih =>
    rw [List.forall_mem_append, List.forall_mem_singleton] at hf
    rw [State.withWords_snoc]
    exact (ih hf.1).trans (hf.2.only _ _)

theorem State.withWords_int {fs : List (Word → State → State)} (hf : ∀ f ∈ fs, KeepsInterruptRegisters f) :
    (s.withWords m ea fs).int = s.int := by
  induction fs using List.reverseRecOn with
  | nil => rfl
  | append_singleton fs f ih =>
    rw [List.forall_mem_append, List.forall_mem_singleton] at hf
    rw [State.withWords_snoc, hf.2, ih hf.1]

/-! ### General registers -/

/-- Only general registers differ. -/
theorem State.withWords_gprs_frame (rs : List Reg) :
    s.withWords m ea (rs.map gprWriter) = { s with gpr := (s.withWords m ea (rs.map gprWriter)).gpr } := by
  induction rs using List.reverseRecOn with
  | nil => rfl
  | append_singleton rs r ih =>
    rw [List.map_append, List.map_singleton, State.withWords_snoc]
    exact congrArg (gprWriter r (s.wordAt m ea (rs.map gprWriter).length)) ih

theorem State.keepsUpper_withWords_gprs (rs : List Reg) : s.KeepsUpper (s.withWords m ea (rs.map gprWriter)) := by
  induction rs using List.reverseRecOn with
  | nil => exact fun _ => rfl
  | append_singleton rs r ih =>
    rw [List.map_append, List.map_singleton, State.withWords_snoc]
    exact fun q => (State.keepsUpper_setR _ r _ q).trans (ih q)

theorem State.keepsRegisters_withWords_gprs (rs : List Reg) :
    s.KeepsRegisters (s.withWords m ea (rs.map gprWriter)) rs := by
  induction rs using List.reverseRecOn with
  | nil => exact fun _ _ => rfl
  | append_singleton rs r ih =>
    intro q hq
    rw [List.mem_append, List.mem_singleton, not_or] at hq
    rw [List.map_append, List.map_singleton, State.withWords_snoc]
    exact (State.r64_setR_other _ r q _ hq.2).trans (ih q hq.1)

/-- Register k of the group has word k, when no register is in the group twice. -/
theorem State.r_withWords_gprs {rs : List Reg} (hrs : rs.Nodup) {k : Nat} (hk : k < rs.length) :
    (s.withWords m ea (rs.map gprWriter)).r (rs.getD k 0) = s.wordAt m ea k := by
  induction rs using List.reverseRecOn with
  | nil => exact absurd hk (Nat.not_lt_zero k)
  | append_singleton rs r ih =>
    obtain ⟨nodup, -, fresh⟩ := List.nodup_append.1 hrs
    rw [List.map_append, List.map_singleton, State.withWords_snoc, List.length_map]
    rw [List.length_append, List.length_singleton] at hk
    rcases Nat.lt_succ_iff_lt_or_eq.1 hk with before | rfl
    · rw [List.getD_append _ _ _ _ before]
      have other : rs.getD k 0 ≠ r := by
        rw [List.getD_eq_getElem _ _ before]
        exact fresh _ (List.getElem_mem before) r (List.mem_singleton_self r)
      exact (congrArg lo (State.r64_setR_other _ r _ _ other)).trans (ih nodup before)
    · rw [List.getD_append_right _ _ _ _ le_rfl, Nat.sub_self]
      exact State.r_setR_same _ r _

/-- What e_lmvgprw leaves in the general registers of a state, from what its writers do. -/
theorem State.gprs_loaded {t : State} {rs : List Reg} (hrs : rs.Nodup)
    (hgpr : t.gpr = (s.withWords m ea (rs.map gprWriter)).gpr) :
    (∀ k, k < rs.length → t.r (rs.getD k 0) = s.wordAt m ea k) ∧ s.KeepsRegisters t rs ∧ s.KeepsUpper t := by
  have same (q : Reg) : t.r64 q = (s.withWords m ea (rs.map gprWriter)).r64 q := State.r64_of_gpr hgpr q
  refine ⟨fun k hk => ?_, fun q hq => ?_, fun q => ?_⟩
  · exact (congrArg lo (same _)).trans (s.r_withWords_gprs m ea hrs hk)
  · exact (same q).trans (s.keepsRegisters_withWords_gprs m ea rs q hq)
  · exact (congrArg hi (same q)).trans (s.keepsUpper_withWords_gprs m ea rs q)

end

/-! ## Words loaded -/

/-- The words at ea have been loaded to a group: beside its registers only the signature unit and the record of the step may
have changed. -/
structure State.LoadedGroup (s t : State) (m : Nat → Mapping) (ea : Word) (fs : List (Word → State → State)) : Prop where
  frame : t = { s.withWords m ea fs with psu := t.psu, cur := t.cur }
  signature : s.KeepsSignature t 29

section
variable {s t : State} {m : Nat → Mapping} {ea : Word} {fs : List (Word → State → State)} {b : Bool}

theorem State.LoadedGroup.nil (s : State) (m : Nat → Mapping) (ea : Word) : s.LoadedGroup s m ea [] := ⟨rfl, fun _ => rfl⟩

theorem State.LoadedGroup.seenAlike (h : s.LoadedGroup t m ea fs) (hf : ∀ f ∈ fs, GroupWriter f) : s.SeenAlike t := by
  rw [h.frame]
  exact (s.seenAlike_withWords m ea hf).trans rfl

theorem State.LoadedGroup.int (h : s.LoadedGroup t m ea fs) (hf : ∀ f ∈ fs, KeepsInterruptRegisters f) :
    t.int = s.int := by
  rw [h.frame]
  exact s.withWords_int m ea hf

/-- One more word. -/
theorem State.LoadedGroup.next (h : s.LoadedGroup t m ea fs) (hf : ∀ f ∈ fs, GroupWriter f) {f : Word → State → State}
    (hw : GroupWriter f)
    (hl : s.CanLoad (ea + BitVec.ofNat 32 (4 * fs.length)) 4 (m fs.length) (m fs.length)) :
    ∃ v u, t.load (ea + BitVec.ofNat 32 (4 * fs.length)) 4 .multiple = .done v u ∧
      s.LoadedGroup (f (lo v) u) m ea (fs ++ [f]) := by
  have alike := h.seenAlike hf
  have value : lo (t.scalarAt (m fs.length) (m fs.length) (ea + BitVec.ofNat 32 (4 * fs.length)) 4) =
      s.wordAt m ea fs.length := by
    have byteAt : t.byteAt = s.byteAt := by
      funext a
      rw [State.byteAt, State.byteAt, alike.mem]
    rw [State.scalarAt, State.bytesAt, byteAt]
    rfl
  obtain ⟨u, load, done⟩ := State.load_done (alike.canLoad hl) .multiple
  have frame : u = { s.withWords m ea fs with psu := u.psu, cur := u.cur } := by
    have only := done.only.1
    rw [done.gpr, done.here, h.frame] at only
    exact only
  have signature : s.KeepsSignature u 29 := State.KeepsSignature.trans h.signature done.only.2
  refine ⟨_, u, load, ?_⟩
  have written : f (s.wordAt m ea fs.length) u = { s.withWords m ea (fs ++ [f]) with psu := u.psu, cur := u.cur } := by
    rw [State.withWords_snoc, ← hw.apart, ← frame]
  rw [value]
  exact ⟨by rw [written], fun off => by rw [written]; exact signature off⟩

/-- With no input before the end of them, or in a group that no input abandons, the words are loaded. -/
theorem State.loadWords_group (hquiet : b = true → s.Undisturbed fs.length) (hf : ∀ f ∈ fs, GroupWriter f)
    (hl : s.CanLoadWords ea fs.length m) : ∃ t, s.loadWords b ea 0 fs = .done () t ∧ s.LoadedGroup t m ea fs := by
  induction fs using List.reverseRecOn with
  | nil => exact ⟨s, rfl, .nil s m ea⟩
  | append_singleton fs f ih =>
    rw [List.length_append, List.length_singleton] at hquiet hl
    rw [List.forall_mem_append, List.forall_mem_singleton] at hf
    obtain ⟨before, last⟩ := hf
    obtain ⟨t, first, reached⟩ := ih (fun hb k hk => hquiet hb k (by omega)) before fun k hk => hl k (by omega)
    obtain ⟨v, u, load, next⟩ := reached.next before last (hl fs.length (by omega))
    refine ⟨_, ?_, next⟩
    have going : t.mayAbandon b fs.length = .done () t := by
      cases b with
      | false => rfl
      | true =>
        refine State.between_undisturbed (n := fs.length + 1) ?_ (by omega)
        rw [State.Undisturbed, (reached.seenAlike before).midway]
        exact hquiet rfl
    rw [State.loadWords_append, first, Access.bind_of_done, Nat.zero_add]
    simp only [State.loadWords, going, Access.bind_of_done, load]

/-- The instruction is abandoned, and registers are as in the state w that it had reached. -/
structure State.AbandonedAt (s w u : State) : Prop where
  interrupt : s.AbandonedFor u
  gpr : u.gpr = w.gpr
  special : u.cr = w.cr ∧ u.xer = w.xer ∧ u.lr = w.lr ∧ u.ctr = w.ctr
  mem : u.mem = s.mem

/-- When the external input arrives after transfer j, the first j words are loaded and the instruction is abandoned. -/
theorem State.loadWords_group_abandoned {j : Nat} (hinput : s.InputInside j fs.length) (hf : ∀ f ∈ fs, GroupWriter f)
    (hint : ∀ f ∈ fs, KeepsInterruptRegisters f) (hl : s.CanLoadWords ea j m) :
    ∃ u, s.loadWords true ea 0 fs = .raised u ∧ s.AbandonedAt (s.withWords m ea (fs.take j)) u := by
  have hj : j < fs.length := hinput.lt
  have count : (fs.take j).length = j := List.length_take_of_le hj.le
  have writers : ∀ f ∈ fs.take j, GroupWriter f := fun f hmem => hf f (List.mem_of_mem_take hmem)
  obtain ⟨t, first, reached⟩ := State.loadWords_group (b := true) (fs := fs.take j) (s := s) (ea := ea) (m := m)
    (fun _ => by rw [count]; exact hinput.undisturbed) writers (by rwa [count])
  have alike := reached.seenAlike writers
  have int := reached.int fun f hmem => hint f (List.mem_of_mem_take hmem)
  obtain ⟨u, raised, ⟨abandons, special⟩, gpr, mem⟩ := State.between_inputInside (alike.inputInside int hinput)
  have run : s.loadWords true ea 0 fs = .raised u := by
    rw [← List.take_append_drop j fs, List.drop_eq_getElem_cons hj, State.loadWords_append, first, Access.bind_of_done,
      Nat.zero_add, count]
    simp only [State.loadWords, State.mayAbandon, if_true, raised, Access.bind_of_raised]
  rw [reached.frame] at gpr special
  exact ⟨u, run, alike.abandonedFor int abandons, gpr, special, mem.trans alike.mem⟩

end

/-! ## The instructions -/

section
variable {s : State} {i : Instr} {b : Bool} {ra : Reg} {d8 : BitVec 8} {m : Nat → Mapping} {j n : Nat}
  {fs : List (Word → State → State)} {vs : List Word}

theorem State.loadGroup_aligned (haligned : (s.eaD8 ra d8).toNat % 4 = 0) :
    s.loadGroup b ra d8 fs = (s.loadWords b (s.eaD8 ra d8) 0 fs).next fun _ t => t.advance 4 := by
  rw [State.loadGroup, misaligned_of_multiple haligned]
  rfl

theorem State.storeGroup_aligned (haligned : (s.eaD8 ra d8).toNat % 4 = 0) :
    s.storeGroup b ra d8 vs = (s.storeWords b (s.eaD8 ra d8) 0 vs).next fun _ t => t.advance 4 := by
  rw [State.storeGroup, misaligned_of_multiple haligned]
  rfl

/-! ### Loads -/

/-- A load of a group that nothing interrupts (R960). -/
theorem State.runs_loadGroup (hi : exec i s = s.loadGroup b ra d8 fs) (hf : ∀ f ∈ fs, GroupWriter f)
    (haligned : (s.eaD8 ra d8).toNat % 4 = 0) (hidle : b = true → s.midway = [])
    (hl : s.CanLoadWords (s.eaD8 ra d8) fs.length m) : Runs i s fun t =>
      t = { (s.withWords m (s.eaD8 ra d8) fs).advance 4 with psu := t.psu, cur := t.cur } ∧ s.KeepsSignature t 29 := by
  obtain ⟨t, loads, reached⟩ := State.loadWords_group (fun hb => State.undisturbed_of_idle (hidle hb) _) hf hl
  rw [State.loadGroup_aligned haligned, loads] at hi
  exact ⟨_, hi, congrArg (State.advance · 4) reached.frame, reached.signature⟩

/-- A load of a group that the external input interrupts after transfer j (R960, spec/60_exceptions.md R2011). -/
theorem State.runs_loadGroup_abandoned (hi : exec i s = s.loadGroup true ra d8 fs) (hf : ∀ f ∈ fs, GroupWriter f)
    (hint : ∀ f ∈ fs, KeepsInterruptRegisters f) (haligned : (s.eaD8 ra d8).toNat % 4 = 0)
    (hinput : s.InputInside j fs.length) (hl : s.CanLoadWords (s.eaD8 ra d8) j m) : Runs i s fun u =>
      s.AbandonedAt (s.withWords m (s.eaD8 ra d8) (fs.take j)) u := by
  obtain ⟨u, loads, abandoned⟩ := State.loadWords_group_abandoned hinput hf hint hl
  rw [State.loadGroup_aligned haligned, loads] at hi
  exact ⟨u, hi, abandoned⟩

/-- A load of a save/restore pair (R984, R986, R988, R990). -/
theorem State.runs_loadPair (p q : Word → IntRegs → IntRegs)
    (hi : exec i s = s.supervisor fun u =>
      u.loadGroup false ra d8 [fun v t => { t with int := p v t.int }, fun v t => { t with int := q v t.int }])
    (hs : s.userMode = false) (haligned : (s.eaD8 ra d8).toNat % 4 = 0) (hl : s.CanLoadWords (s.eaD8 ra d8) 2 m) :
    Runs i s fun t => t = { s with
      int := q (s.wordAt m (s.eaD8 ra d8) 1) (p (s.wordAt m (s.eaD8 ra d8) 0) s.int)
      pc := s.pc + 4, psu := t.psu, cur := t.cur } := by
  rw [State.supervisor_of hs] at hi
  have writers : ∀ f ∈ [fun v (t : State) => { t with int := p v t.int }, fun v t => { t with int := q v t.int }],
      GroupWriter f :=
    List.forall_mem_cons.2 ⟨groupWriter_int p, List.forall_mem_singleton.2 (groupWriter_int q)⟩
  exact (State.runs_loadGroup hi writers haligned nofun hl).imp fun _ loaded => loaded.1

/-- No register is twice among the volatile ones. -/
theorem volatileGprs_nodup : volatileGprs.Nodup := by decide

/-- e_lmvgprw that nothing interrupts (R980). -/
theorem State.runs_eLmvgprw (haligned : (s.eaD8 ra d8).toNat % 4 = 0) (hidle : s.midway = [])
    (hl : s.CanLoadWords (s.eaD8 ra d8) 11 m) : Runs (.eLmvgprw ra d8) s fun t =>
      (∀ k, k < 11 → t.r (volatileGprs.getD k 0) = s.wordAt m (s.eaD8 ra d8) k) ∧ s.KeepsRegisters t volatileGprs ∧
        s.KeepsUpper t ∧ t.pc = s.pc + 4 ∧ s.OnlyLoad t := by
  refine (State.runs_loadGroup (fs := volatileGprs.map gprWriter) (exec_eLmvgprw ra d8 s) (groupWriter_gpr volatileGprs)
    haligned (fun _ => hidle) hl).imp fun t ⟨frame, signature⟩ => ?_
  have gpr : t.gpr = (s.withWords m (s.eaD8 ra d8) (volatileGprs.map gprWriter)).gpr := by rw [frame]; rfl
  rw [s.withWords_gprs_frame m (s.eaD8 ra d8) volatileGprs] at frame
  have pc : t.pc = s.pc + 4 := by rw [frame]; rfl
  have only : t = { s with gpr := t.gpr, pc := t.pc, psu := t.psu, cur := t.cur } := by
    rw [gpr, pc]
    exact frame
  obtain ⟨loaded, others, upper⟩ := s.gprs_loaded m _ volatileGprs_nodup gpr
  exact ⟨loaded, others, upper, pc, only, signature⟩

/-- e_lmvgprw that the external input interrupts (R980, spec/60_exceptions.md R2011). -/
theorem State.runs_eLmvgprw_abandoned (haligned : (s.eaD8 ra d8).toNat % 4 = 0) (hinput : s.InputInside j 11)
    (hl : s.CanLoadWords (s.eaD8 ra d8) j m) : Runs (.eLmvgprw ra d8) s fun t => s.AbandonedFor t ∧
      (t.cr = s.cr ∧ t.xer = s.xer ∧ t.lr = s.lr ∧ t.ctr = s.ctr) ∧
      (∀ k, k < j → t.r (volatileGprs.getD k 0) = s.wordAt m (s.eaD8 ra d8) k) ∧
      s.KeepsRegisters t (volatileGprs.take j) ∧ s.KeepsUpper t ∧ t.mem = s.mem := by
  refine (State.runs_loadGroup_abandoned (fs := volatileGprs.map gprWriter) (exec_eLmvgprw ra d8 s)
    (groupWriter_gpr volatileGprs) (keepsInterruptRegisters_gpr volatileGprs) haligned hinput
    hl).imp fun t ⟨interrupt, gpr, special, mem⟩ => ?_
  have count : (volatileGprs.take j).length = j := List.length_take_of_le hinput.lt.le
  rw [← List.map_take] at gpr special
  obtain ⟨loaded, others, upper⟩ := s.gprs_loaded m _ (volatileGprs_nodup.sublist (List.take_sublist j _)) gpr
  rw [s.withWords_gprs_frame m (s.eaD8 ra d8) (volatileGprs.take j)] at special
  refine ⟨interrupt, special, fun k hk => ?_, others, upper, mem⟩
  rw [← loaded k (count.symm ▸ hk), List.getD_eq_getElem?_getD, List.getD_eq_getElem?_getD, List.getElem?_take_of_lt hk]

/-- e_lmvsprw that nothing interrupts (R982). -/
theorem State.runs_eLmvsprw (haligned : (s.eaD8 ra d8).toNat % 4 = 0) (hidle : s.midway = [])
    (hl : s.CanLoadWords (s.eaD8 ra d8) 4 m) : Runs (.eLmvsprw ra d8) s fun t =>
      t = { s with
        cr := s.wordAt m (s.eaD8 ra d8) 0, lr := s.wordAt m (s.eaD8 ra d8) 1, ctr := s.wordAt m (s.eaD8 ra d8) 2
        xer := s.wordAt m (s.eaD8 ra d8) 3 &&& 0xE000007F, pc := s.pc + 4, psu := t.psu, cur := t.cur } :=
  (State.runs_loadGroup (exec_eLmvsprw ra d8 s) groupWriter_spr haligned (fun _ => hidle) hl).imp
    fun _ loaded => loaded.1

/-- The special registers after the first words of their group, fewer than all four. -/
theorem State.withWords_sprs_take (s : State) (m : Nat → Mapping) (ea : Word) (hj : j < 4) :
    s.withWords m ea (volatileSprWriters.take j) = { s with
      cr := if 0 < j then s.wordAt m ea 0 else s.cr
      lr := if 1 < j then s.wordAt m ea 1 else s.lr
      ctr := if 2 < j then s.wordAt m ea 2 else s.ctr } := by
  interval_cases j <;> rfl

/-- e_lmvsprw that the external input interrupts; XER is the last (R982, spec/60_exceptions.md R2011). -/
theorem State.runs_eLmvsprw_abandoned (haligned : (s.eaD8 ra d8).toNat % 4 = 0) (hinput : s.InputInside j 4)
    (hl : s.CanLoadWords (s.eaD8 ra d8) j m) : Runs (.eLmvsprw ra d8) s fun t => s.AbandonedFor t ∧
      t.gpr = s.gpr ∧ t.mem = s.mem ∧ t.cr = (if 0 < j then s.wordAt m (s.eaD8 ra d8) 0 else s.cr) ∧
      t.lr = (if 1 < j then s.wordAt m (s.eaD8 ra d8) 1 else s.lr) ∧
      t.ctr = (if 2 < j then s.wordAt m (s.eaD8 ra d8) 2 else s.ctr) ∧ t.xer = s.xer := by
  refine (State.runs_loadGroup_abandoned (exec_eLmvsprw ra d8 s) groupWriter_spr keepsInterruptRegisters_spr haligned
    hinput hl).imp fun t ⟨interrupt, gpr, ⟨cr, xer, lr, ctr⟩, mem⟩ => ?_
  rw [s.withWords_sprs_take m _ hinput.lt] at gpr cr xer lr ctr
  exact ⟨interrupt, gpr, mem, cr, lr, ctr, xer⟩

/-! ### Stores -/

/-- After the words of a group are stored, the instruction is complete. -/
theorem State.StoredWords.complete {t : State} {ea : Word} (h : s.StoredWords t ea m vs) :
    s.Stored (t.advance 4) none ea (wordAddresses m ea vs.length) (wordImages m vs) where
  stores := h.stores
  updated := nofun
  upper := fun q => congrArg hi (State.r64_of_gpr h.gpr q)
  others := fun q _ => State.r64_of_gpr h.gpr q
  next := congrArg (· + 4) h.here
  frame := State.OnlyStore.advance h.frame 4

/-- A store of a group that nothing interrupts (R960). -/
theorem State.runs_storeGroup (hi : exec i s = s.storeGroup true ra d8 vs) (hn : vs.length = n)
    (haligned : (s.eaD8 ra d8).toNat % 4 = 0) (hidle : s.midway = [])
    (hc : s.CanStoreWords (s.eaD8 ra d8) n m) : Runs i s fun t =>
      s.Stored t none (s.eaD8 ra d8) (wordAddresses m (s.eaD8 ra d8) n) (wordImages m vs) := by
  subst hn
  obtain ⟨t, run, reached⟩ := State.storeWords_done (State.undisturbed_of_idle hidle _) hc
  rw [State.storeGroup_aligned haligned, run] at hi
  exact ⟨_, hi, reached.complete⟩

/-- A store of a group that the external input interrupts after transfer j (R960, spec/60_exceptions.md R2011). -/
theorem State.runs_storeGroup_abandoned (hi : exec i s = s.storeGroup true ra d8 vs) (hn : vs.length = n)
    (haligned : (s.eaD8 ra d8).toNat % 4 = 0) (hinput : s.InputInside j n)
    (hc : s.CanStoreWords (s.eaD8 ra d8) j m) : Runs i s fun t => s.AbandonedFor t ∧
      (t.cr = s.cr ∧ t.xer = s.xer ∧ t.lr = s.lr ∧ t.ctr = s.ctr) ∧ t.gpr = s.gpr ∧
      s.Stores t (wordAddresses m (s.eaD8 ra d8) j) (wordImages m (vs.take j)) := by
  have hj : j < vs.length := hn.symm ▸ hinput.lt
  have count : (vs.take j).length = j := List.length_take_of_le hj.le
  have parts : vs.take j ++ vs[j] :: vs.drop (j + 1) = vs := by
    rw [← List.drop_eq_getElem_cons hj, List.take_append_drop]
  rw [← count] at hc
  obtain ⟨t, u, run, reached, ⟨interrupt, special⟩, gpr, mem⟩ :=
    State.storeWords_abandoned (count.symm ▸ hinput) vs[j] (vs.drop (j + 1)) hc
  rw [parts] at run
  rw [State.storeGroup_aligned haligned, run] at hi
  have memory := mem.trans reached.memory
  rw [count] at memory
  exact ⟨u, hi, interrupt, special, gpr.trans reached.gpr,
    State.stores_of_memory (by rw [wordAddresses_length, wordImages_length, count]) memory⟩

/-- A store of a save/restore pair, which no input abandons (R985, R987, R989, R991). -/
theorem State.runs_storePair {f : State → Answer} {v w : Word} (hi : exec i s = s.supervisor f)
    (hf : f s = s.storeGroup false ra d8 [v, w]) (hs : s.userMode = false) (haligned : (s.eaD8 ra d8).toNat % 4 = 0)
    (hc : s.CanStoreWords (s.eaD8 ra d8) 2 m) : Runs i s fun t =>
      s.Stored t none (s.eaD8 ra d8) (wordAddresses m (s.eaD8 ra d8) 2) (wordImages m [v, w]) := by
  obtain ⟨t, store, first⟩ := (State.StoredWords.nil s (s.eaD8 ra d8) m).next v (hc 0 (by decide))
  obtain ⟨u, store', both⟩ := first.next w (hc 1 (by decide))
  have run : s.storeWords false (s.eaD8 ra d8) 0 [v, w] = .done () u := by
    have here : s.eaD8 ra d8 + BitVec.ofNat 32 (4 * 0) = s.eaD8 ra d8 := BitVec.add_zero _
    change s.store (s.eaD8 ra d8 + BitVec.ofNat 32 (4 * 0)) 4 _ _ = _ at store
    change t.store (s.eaD8 ra d8 + 4) 4 _ _ = _ at store'
    rw [here] at store
    simp only [State.storeWords, State.mayAbandon, Bool.false_eq_true, if_false, Access.bind_of_done, store, store']
  rw [State.supervisor_of hs, hf, State.storeGroup_aligned haligned, run] at hi
  exact ⟨_, hi, both.complete⟩

end

end Sys2Proof.Machine

namespace Sys2Proof.Proofs
open Sys2Proof.Machine

/-- Settles O46: the two long groups, complete or abandoned after their first words, and the four pairs. -/
theorem volatileContextMoves : Obligations.VolatileContextMoves := by
  unfold Obligations.VolatileContextMoves
  intro s ra d8 m j ea group keepsSpecial haligned
  have address : ea = s.eaD8 ra d8 := rfl
  have gprs : group = volatileGprs := rfl
  clear_value ea group
  subst address gprs
  have gprCount : (volatileGprs.map s.r).length = 11 := rfl
  have sprCount : [s.cr, s.lr, s.ctr, s.xer].length = 4 := rfl
  refine ⟨fun hinput => ⟨State.runs_eLmvgprw_abandoned haligned hinput, fun hc => ?_⟩,
    fun hinput => ⟨State.runs_eLmvsprw_abandoned haligned hinput,
      State.runs_storeGroup_abandoned (exec_eStmvsprw ra d8 s) sprCount haligned hinput⟩,
    State.runs_eLmvgprw haligned, State.runs_eLmvsprw haligned,
    fun hs hl => ⟨
      State.runs_loadPair (fun v x => { x with srr0 := v }) (fun v x => { x with srr1 := v })
        (exec_eLmvsrrw ra d8 s) hs haligned hl,
      State.runs_loadPair (fun v x => { x with csrr0 := v }) (fun v x => { x with csrr1 := v })
        (exec_eLmvcsrrw ra d8 s) hs haligned hl,
      State.runs_loadPair (fun v x => { x with dsrr0 := v }) (fun v x => { x with dsrr1 := v })
        (exec_eLmvdsrrw ra d8 s) hs haligned hl,
      State.runs_loadPair (fun v x => { x with mcsrr0 := v }) (fun v x => { x with mcsrr1 := v })
        (exec_eLmvmcsrrw ra d8 s) hs haligned hl⟩,
    State.runs_storeGroup (exec_eStmvgprw ra d8 s) gprCount haligned,
    State.runs_storeGroup (exec_eStmvsprw ra d8 s) sprCount haligned,
    fun hs => ⟨State.runs_storePair (exec_eStmvsrrw ra d8 s) rfl hs haligned,
      State.runs_storePair (exec_eStmvcsrrw ra d8 s) rfl hs haligned,
      State.runs_storePair (exec_eStmvdsrrw ra d8 s) rfl hs haligned,
      State.runs_storePair (exec_eStmvmcsrrw ra d8 s) rfl hs haligned⟩⟩
  · rw [List.map_take]
    exact State.runs_storeGroup_abandoned (exec_eStmvgprw ra d8 s) gprCount haligned hinput hc

end Sys2Proof.Proofs
end

section
/-! SUPPORT. What the end of a floating-point instruction leaves: SPEFSCR, and the result or the interrupt in its place
(spec/45_efpu_scalar.md R1110, R1115, R1117, spec/46_efpu_vector.md R1200, R1203). -/

namespace Sys2Proof.Machine

/-! ## SPEFSCR -/

/-- The bits of SPEFSCR that every floating-point instruction writes anew are the status bits of the two elements. -/
theorem bit_statusMask : ∀ k < 32,
    bit 0xC0FFC0FF k = decide (k ∉ [2, 3, 4, 5, 6, 7, 18, 19, 20, 21, 22, 23]) := by decide

/-- A bit of SPEFSCR after the status bits of the elements are written. -/
theorem bit_efpStatus (h l : ElementResult) (w : Word) {k : Nat} (hk : k < 32) :
    bit (efpStatus h l w) k =
      (bit w k && decide (k ∉ [2, 3, 4, 5, 6, 7, 18, 19, 20, 21, 22, 23]) ||
        (h.inv && decide (4 = k)) || (h.dbz && decide (5 = k)) || (h.unf && decide (6 = k)) || (h.ovf && decide (7 = k)) ||
        (l.inv && decide (20 = k)) || (l.dbz && decide (21 = k)) || (l.unf && decide (22 = k)) ||
        (l.ovf && decide (23 = k)) || ((h.inv || l.inv) && decide (11 = k)) || ((h.dbz || l.dbz) && decide (12 = k)) ||
        ((h.unf || l.unf) && decide (13 = k)) || ((h.ovf || l.ovf) && decide (14 = k))) := by
  simp only [efpStatus, bit_or, bit_and, bit_when, bit_oneBit _ _ hk, bit_statusMask k hk]

/-- A bit of SPEFSCR after an instruction that takes no data interrupt. -/
theorem bit_efpFinal (h l : ElementResult) (w : Word) {k : Nat} (hk : k < 32) :
    bit (efpFinal h l w) k =
      (bit (efpStatus h l w) k || (h.g && decide (2 = k)) || (h.x && decide (3 = k)) || (l.g && decide (18 = k)) ||
        (l.x && decide (19 = k)) || ((h.inexact || l.inexact) && decide (10 = k))) := by
  simp only [efpFinal, bit_or, bit_when, bit_oneBit _ _ hk]

/-- The status bits that an instruction without a data interrupt leaves are those the claims name. -/
theorem State.fpStatus_of_efpFinal {s t : State} {h l : ElementResult} (ht : t.spefscr = efpFinal h l s.spefscr) :
    s.FpStatus t h l := by
  constructor
  case rest =>
    intro k hk hlisted
    simp only [List.mem_cons, List.not_mem_nil, or_false, not_or, eq_comm (a := k)] at hlisted
    simp [ht, bit_efpFinal _ _ _ hk, bit_efpStatus _ _ _ hk, eq_comm (a := k), hlisted]
  all_goals simp [ht, bit_efpFinal, bit_efpStatus, ElementResult.inexact, Bool.or_assoc]

/-! ## Interrupts -/

/-- The EFP data interrupt (R2044) after the status bits of the elements were written. -/
theorem State.fpDataTaken_efpData (s : State) (h l : ElementResult) :
    s.FpDataTaken (s.setSpefscr (efpStatus h l s.spefscr)).efpData h l := by
  have ht : (s.setSpefscr (efpStatus h l s.spefscr)).efpData.spefscr = efpStatus h l s.spefscr :=
    State.raise_spefscr _ 17
  constructor
  case taken =>
    rw [ht]
    exact State.interrupted_raise_other (s := s.setSpefscr _) (by decide) (by decide) (oneBit 24 ||| s.vlemi) s.int.dear
      s.cur s.freeCtr
  case rest =>
    intro k hk hlisted
    simp only [List.mem_cons, List.not_mem_nil, or_false, not_or, eq_comm (a := k)] at hlisted
    simp [ht, bit_efpStatus _ _ _ hk, eq_comm (a := k), hlisted]
  all_goals simp [ht, bit_efpStatus, Bool.or_assoc]

/-- The EFP round interrupt (R2045): it is taken after the instruction, so that pc may already have moved. -/
theorem State.interrupted_efpRoundAt (s : State) (n address : Word) :
    (s.advance n).Interrupted (s.efpRoundAt address) 18 address (0x80 ||| if s.cur.vle then 0x20 else 0) s.int.dear := by
  have taken : s.efpRoundAt address =
      { (s.setEsr (oneBit 24 ||| s.vlemi)).takeInterrupt .nonCritical (vectorOf s 18) address with
        cur := (s.efpRoundAt address).cur } := rfl
  rw [taken]
  constructor
  case saved => simp [saveContext]; rfl
  case mode => simp [newMsr_nonCritical]
  case vector => simp [codeAddress_vectorOf]; rfl
  case awake => simp
  case program => simp [State.KeepsProgram]
  case translation => simp
  case frame =>
    have dbg (t : State) (v : Word) : (t.takeInterrupt .nonCritical v address).dbg =
        { t.dbg with dbsr := (t.takeInterrupt .nonCritical v address).dbg.dbsr } := State.record_dbg _ _ _
    rw [State.takeInterrupt_eq, dbg]
    rfl

theorem State.efpRoundAt_spefscr (s : State) (address : Word) : (s.efpRoundAt address).spefscr = s.spefscr :=
  State.takeInterrupt_spefscr _ _ _ _

/-- The round interrupt of an instruction that has left the registers as in w (R1117). -/
theorem State.fpRoundTaken_efpRoundAt {s u w : State} (registers : { u with spefscr := w.spefscr } = w.advance 4)
    (hcur : w.cur = s.cur) (hint : w.int = s.int) : s.FpRoundTaken (w.efpRoundAt (s.pc + 4)) u := by
  rw [State.FpRoundTaken, State.efpRoundAt_spefscr, registers, ← hcur, ← hint]
  exact w.interrupted_efpRoundAt 4 (s.pc + 4)

/-! ## The three outcomes of a commit -/

section
variable {s : State} {h l : ElementResult} {write : Bool → State → State}

theorem State.dataException_eq_dataTrap (s : State) (h l : ElementResult) :
    (h.dataException s.spefscr || l.dataException s.spefscr) = s.dataTrap h l := by
  simp only [ElementResult.dataException, State.dataTrap, Bool.and_or_distrib_right]
  ac_rfl

theorem State.efpCommit_dataTrap (htrap : s.dataTrap h l = true) :
    s.efpCommit h l write = .next (s.setSpefscr (efpStatus h l s.spefscr)).efpData := by
  rw [State.efpCommit_eq, State.dataException_eq_dataTrap, if_pos htrap]

theorem State.efpCommit_roundTrap (htrap : s.roundTrap h l = true) :
    s.efpCommit h l write = .next ((write true (s.setSpefscr (efpFinal h l s.spefscr))).efpRoundAt (s.pc + 4)) := by
  simp only [State.roundTrap, Bool.and_eq_true, Bool.not_eq_true'] at htrap
  obtain ⟨⟨hdata, hinexact⟩, henabled⟩ := htrap
  have both : ((h.inexact || l.inexact) && bit s.spefscr 25) = true := by
    rw [henabled, Bool.and_true]
    exact hinexact
  rw [State.efpCommit_eq, State.dataException_eq_dataTrap, hdata, if_neg Bool.false_ne_true, if_pos both]

theorem State.efpCommit_noTrap (hno : s.NoFpTrap h l) :
    s.efpCommit h l write = .next ((write false (s.setSpefscr (efpFinal h l s.spefscr))).advance 4) := by
  obtain ⟨hinv, hdbz, hunf, hovf, hround⟩ := hno
  have hdata : s.dataTrap h l = false := by simp only [State.dataTrap, hinv, hdbz, hunf, hovf, Bool.or_self]
  have silent : ((h.inexact || l.inexact) && bit s.spefscr 25) = false := hround
  rw [State.efpCommit_eq, State.dataException_eq_dataTrap, hdata, silent, if_neg Bool.false_ne_true,
    if_neg Bool.false_ne_true]

end

/-! ## Commits -/

theorem State.vectorCommit_on {s : State} (on : s.speOn = true) (rd : Reg) (h l : ElementResult) :
    s.vectorCommit rd h l =
      s.efpCommit h l fun truncated t => t.setR64 rd (if truncated then h.t ++ l.t else h.v ++ l.v) := by
  rw [State.vectorCommit, on, Bool.not_true, if_neg Bool.false_ne_true]

/-- A register result leaves CR and XER alone. -/
theorem State.plainResult_setR (s : State) (rd : Reg) (v : Word) : s.PlainResult ((s.setR rd v).advance 4) false rd v :=
  s.integerResult ⟨false, false, false⟩ rd v false false

/-- A scalar result that is written, with its status bits. -/
theorem State.scalarFp_setR (s : State) (rd : Reg) (e : ElementResult) :
    s.ScalarFp (((s.setSpefscr (efpFinal noElement e s.spefscr)).setR rd e.v).advance 4) rd e where
  result := State.r_setR_same _ rd e.v
  upper := (s.setSpefscr _).keepsUpper_setR rd e.v
  others := fun r hr => State.r64_setR_other _ rd r e.v fun e => hr (List.mem_singleton.2 e)
  status := State.fpStatus_of_efpFinal rfl
  frame := rfl

section
variable {s : State} {rd : Reg} {h l e : ElementResult}

theorem State.scalarCommit_roundTrap (htrap : s.roundTrap noElement e = true) :
    ∃ t, s.scalarCommit rd e = .next t ∧
      ∃ u, s.PlainResult u false rd e.t ∧ s.FpStatus t noElement e ∧ s.FpRoundTaken t u :=
  ⟨_, State.efpCommit_roundTrap htrap, _, s.plainResult_setR rd e.t,
    State.fpStatus_of_efpFinal (State.efpRoundAt_spefscr _ _), State.fpRoundTaken_efpRoundAt rfl rfl rfl⟩

theorem State.vectorCommit_roundTrap (on : s.speOn = true) (htrap : s.roundTrap h l = true) :
    ∃ t, s.vectorCommit rd h l = .next t ∧
      ∃ u, s.VectorResult u rd (h.t ++ l.t) ∧ s.FpStatus t h l ∧ s.FpRoundTaken t u :=
  ⟨_, (State.vectorCommit_on on rd h l).trans (State.efpCommit_roundTrap htrap), _, s.vectorResult_setR64 rd (h.t ++ l.t),
    State.fpStatus_of_efpFinal (State.efpRoundAt_spefscr _ _), State.fpRoundTaken_efpRoundAt rfl rfl rfl⟩

theorem State.efpCommit_dataTaken {write : Bool → State → State} (htrap : s.dataTrap h l = true) :
    ∃ t, s.efpCommit h l write = .next t ∧ s.FpDataTaken t h l :=
  ⟨_, State.efpCommit_dataTrap htrap, s.fpDataTaken_efpData h l⟩

/-- A scalar instruction without an interrupt delivers the element it commits (R1110). -/
theorem State.runs_scalarFp {i : Instr} (hi : s.scalarElement i = some (rd, e)) (hno : s.NoFpTrap noElement e) :
    Runs i s fun t => s.ScalarFp t rd e :=
  ⟨_, (exec_of_scalarElement hi).trans (State.efpCommit_noTrap hno), s.scalarFp_setR rd e⟩

end

end Sys2Proof.Machine

namespace Sys2Proof.Proofs
open Sys2Proof.Machine

/-- Settles O47: each instruction commits the element that State.scalarElement names. -/
theorem scalarFloatingPoint : Obligations.ScalarFloatingPoint := by
  unfold Obligations.ScalarFloatingPoint
  intro s rd ra rb
  and_intros <;> exact State.runs_scalarFp rfl

/-- Settles O50: the commit takes the interrupt that its elements call for, and every instruction ends in a commit. -/
theorem floatingPointInterrupts : Obligations.FloatingPointInterrupts := by
  unfold Obligations.FloatingPointInterrupts
  intro s
  refine ⟨fun i rd e hi => ⟨fun htrap => ?_, fun htrap => ?_⟩, fun i e hi htrap => ?_,
    fun on => ⟨fun i rd h l hi' => ⟨fun htrap => ?_, fun htrap => ?_⟩, fun i h l hi' htrap => ?_⟩,
    fun rd crfD c rel a b x y h l => ⟨State.efpCommit_dataTaken, fun htrap => ?_, State.efpCommit_dataTaken,
      fun on => ⟨fun htrap => ?_, fun htrap => ?_, fun htrap => ?_⟩⟩⟩
  · rw [Runs, exec_of_scalarElement hi]
    exact State.efpCommit_dataTaken htrap
  · rw [Runs, exec_of_scalarElement hi]
    exact State.scalarCommit_roundTrap htrap
  · obtain ⟨write, commit⟩ := exec_of_comparedElement hi
    rw [Runs, commit]
    exact State.efpCommit_dataTaken htrap
  · rw [Runs, exec_of_vectorElements hi', State.vectorCommit_on on]
    exact State.efpCommit_dataTaken htrap
  · rw [Runs, exec_of_vectorElements hi']
    exact State.vectorCommit_roundTrap on htrap
  · obtain ⟨write, commit⟩ := exec_of_comparedElements on hi'
    rw [Runs, commit]
    exact State.efpCommit_dataTaken htrap
  · obtain ⟨t, commit, u, taken⟩ := State.scalarCommit_roundTrap (rd := rd) htrap
    exact ⟨t, u, commit, taken⟩
  · rw [State.vectorCommit_on on]
    exact State.efpCommit_dataTaken htrap
  · obtain ⟨t, commit, u, taken⟩ := State.vectorCommit_roundTrap (rd := rd) on htrap
    exact ⟨t, u, commit, taken⟩
  · rw [State.vectorCompare_eq on]
    exact State.efpCommit_dataTaken htrap

end Sys2Proof.Proofs
end

section
/-! SUPPORT. The fields of a floating-point element, its class, a word with its sign replaced, and the order of compares
(spec/45_efpu_scalar.md R1101, R1109, R1160). -/

namespace Sys2Proof.Machine

/-! ## Sign, exponent and fraction -/

theorem fpSign_eq (x : Word) : fpSign x = decide (2 ^ 31 ≤ x.toNat) := BitVec.msb_eq_decide x

theorem fpExp_eq (x : Word) : fpExp x = x.toNat / 2 ^ 23 % 2 ^ 8 := by
  rw [fpExp, bits, BitVec.extractLsb'_toNat, Nat.shiftRight_eq_div_pow]

theorem fpFrac_eq (x : Word) : fpFrac x = x.toNat % 2 ^ 23 := toNat_bits_low 23 x (by decide)

theorem fpFrac_lt (x : Word) : fpFrac x < 8388608 := (bits 9 23 x).isLt

theorem fpSig_bounds (x : Word) : 2 ^ 23 ≤ fpSig x ∧ fpSig x < 2 ^ 24 := by
  have := fpFrac_lt x
  unfold fpSig
  omega

/-- A word is its three fields. -/
theorem toNat_eq_fields (x : Word) : x.toNat = (fpSign x).toNat * 2 ^ 31 + fpExp x * 2 ^ 23 + fpFrac x := by
  have := x.isLt
  rw [fpSign_eq, fpExp_eq, fpFrac_eq]
  by_cases h : 2 ^ 31 ≤ x.toNat
  · rw [decide_eq_true h, Bool.toNat_true]
    omega
  · rw [decide_eq_false h, Bool.toNat_false]
    omega

theorem word_eq_of_fields {x y : Word} (hs : fpSign x = fpSign y) (he : fpExp x = fpExp y) (hf : fpFrac x = fpFrac y) :
    x = y :=
  BitVec.eq_of_toNat_eq (by rw [toNat_eq_fields, toNat_eq_fields y, hs, he, hf])

/-- The fields of a word put together from fields. -/
theorem fields_of_toNat {x : Word} {s : Bool} {e f : Nat} (he : e < 2 ^ 8) (hf : f < 2 ^ 23)
    (h : x.toNat = s.toNat * 2 ^ 31 + e * 2 ^ 23 + f) : fpSign x = s ∧ fpExp x = e ∧ fpFrac x = f := by
  rw [fpSign_eq, fpExp_eq, fpFrac_eq, h]
  cases s
  · simp only [Bool.toNat_false]
    exact ⟨decide_eq_false (by omega), by omega, by omega⟩
  · simp only [Bool.toNat_true]
    exact ⟨decide_eq_true (by omega), by omega, by omega⟩

/-- A bit string put behind another, as a number. -/
theorem toNat_append_eq {n k : Nat} (a : BitVec n) (b : BitVec k) : (a ++ b).toNat = a.toNat * 2 ^ k + b.toNat := by
  rw [BitVec.toNat_append, ← Nat.shiftLeft_add_eq_or_of_lt b.isLt, Nat.shiftLeft_eq]

theorem fields_append (s : Bool) (e : BitVec 8) (f : BitVec 23) :
    fpSign (BitVec.ofBool s ++ e ++ f) = s ∧ fpExp (BitVec.ofBool s ++ e ++ f) = e.toNat ∧
      fpFrac (BitVec.ofBool s ++ e ++ f) = f.toNat := by
  refine fields_of_toNat e.isLt f.isLt ?_
  rw [toNat_append_eq, toNat_append_eq, BitVec.toNat_ofBool]
  ring

/-! ## Classes -/

theorem fpClass_norm_iff {x : Word} : fpClass x = .norm ↔ fpExp x ≠ 0 ∧ fpExp x ≠ 255 := by
  unfold fpClass
  split_ifs <;> simp_all

theorem fpClass_zero_iff {x : Word} : fpClass x = .zero ↔ fpExp x = 0 ∧ fpFrac x = 0 := by
  unfold fpClass
  split_ifs <;> simp_all

/-- The class does not depend on the sign. -/
theorem fpClass_congr {x y : Word} (he : fpExp x = fpExp y) (hf : fpFrac x = fpFrac y) : fpClass x = fpClass y := by
  rw [fpClass, fpClass, he, hf]

/-! ## A word with its sign replaced -/

/-- The element x with the sign s. -/
def withFpSign (s : Bool) (x : Word) : Word := fpZero s ||| (x &&& 0x7FFFFFFF)

theorem bit_withFpSign (s : Bool) (x : Word) {k : Nat} (hk : k < 32) :
    bit (withFpSign s x) k = if k = 0 then s else bit x k := by
  have mask : ∀ k < 32, bit 0x7FFFFFFF k = decide (k ≠ 0) := by decide
  rw [withFpSign, fpZero, bit_or, bit_when, bit_oneBit _ _ hk, bit_and, mask k hk]
  by_cases h : k = 0 <;> simp [h, eq_comm]

/-- A word that differs from x in its sign only. -/
theorem eq_withFpSign {x y : Word} {s : Bool} (h0 : bit y 0 = s) (h : ∀ k < 32, k ≠ 0 → bit y k = bit x k) :
    y = withFpSign s x := by
  refine word_ext _ _ fun k hk => ?_
  rw [bit_withFpSign s x hk]
  split
  case isTrue hk0 => rw [hk0, h0]
  case isFalse hk0 => exact h k hk hk0

@[simp] theorem fpSign_withFpSign (s : Bool) (x : Word) : fpSign (withFpSign s x) = s := bit_withFpSign s x (by decide)

@[simp] theorem fpExp_withFpSign (s : Bool) (x : Word) : fpExp (withFpSign s x) = fpExp x :=
  congrArg BitVec.toNat (bits_congr (by decide) fun i hi => by rw [bit_withFpSign s x (by omega), if_neg (by omega)])

@[simp] theorem fpFrac_withFpSign (s : Bool) (x : Word) : fpFrac (withFpSign s x) = fpFrac x :=
  congrArg BitVec.toNat (bits_congr (by decide) fun i hi => by rw [bit_withFpSign s x (by omega), if_neg (by omega)])

@[simp] theorem fpClass_withFpSign (s : Bool) (x : Word) : fpClass (withFpSign s x) = fpClass x :=
  fpClass_congr (fpExp_withFpSign s x) (fpFrac_withFpSign s x)

theorem setBit_eq_withFpSign (x : Word) (s : Bool) : setBit x 0 s = withFpSign s x :=
  eq_withFpSign (by rw [bit_setBit _ _ _ _ (by decide), if_pos rfl]) fun k hk hk0 => by
    rw [bit_setBit _ _ _ _ hk, if_neg (Ne.symm hk0)]

/-- Inverting the sign bit, where c holds. -/
theorem xor_eq_withFpSign (x : Word) (c : Bool) : x ^^^ when c (oneBit 0) = withFpSign (fpSign x != c) x := by
  refine eq_withFpSign ?_ fun k hk hk0 => ?_
  · rw [bit_xor, bit_when, bit_oneBit _ _ (by decide), fpSign]
    simp
  · rw [bit_xor, bit_when, bit_oneBit _ _ hk, decide_eq_false (Ne.symm hk0), Bool.and_false, Bool.xor_false]

theorem xor_oneBit_eq_withFpSign (x : Word) : x ^^^ oneBit 0 = withFpSign (!fpSign x) x :=
  (xor_eq_withFpSign x true).trans (by rw [Bool.bne_true])

/-! ## The order of compares -/

/-- The magnitude that a compare takes the exponent and fraction n for (R1109). -/
def orderMagnitude (n : Nat) : Rat :=
  if n = 0 then 0 else ((8388608 + n % 8388608 : Nat) : Rat) * (2 : Rat) ^ ((n / 8388608 : Nat) - 150 : Int)

/-- The number that a compare takes the integer of compareKey for. -/
def orderValue (z : Int) : Rat := if z < 0 then -orderMagnitude z.natAbs else orderMagnitude z.natAbs

theorem orderMagnitude_strictMono : StrictMono orderMagnitude := by
  refine strictMono_nat_of_lt_succ fun n => ?_
  have hpow (k : Int) : (0 : Rat) < 2 ^ k := zpow_pos (by norm_num) k
  by_cases h0 : n = 0
  · subst h0
    exact mul_pos (by norm_num) (hpow _)
  rw [orderMagnitude, orderMagnitude, if_neg h0, if_neg n.succ_ne_zero]
  by_cases hlast : n % 8388608 = 8388607
  · have hquotient : (n + 1) / 8388608 = n / 8388608 + 1 := by omega
    have hrest : (n + 1) % 8388608 = 0 := by omega
    have hexp : ((n / 8388608 + 1 : Nat) - 150 : Int) = (n / 8388608 : Nat) - 150 + 1 := by push_cast; ring
    rw [hquotient, hrest, hlast, hexp, zpow_add_one₀ (by norm_num)]
    have := hpow ((n / 8388608 : Nat) - 150)
    push_cast at this ⊢
    linarith
  · have hquotient : (n + 1) / 8388608 = n / 8388608 := by omega
    have hrest : (n + 1) % 8388608 = n % 8388608 + 1 := by omega
    rw [hquotient, hrest]
    exact mul_lt_mul_of_pos_right (by exact_mod_cast Nat.lt_succ_self _) (hpow _)

theorem orderMagnitude_zero : orderMagnitude 0 = 0 := if_pos rfl

theorem orderValue_neg (z : Int) : orderValue (-z) = -orderValue z := by
  unfold orderValue
  rcases lt_trichotomy z 0 with h | h | h
  · rw [if_neg (by omega), if_pos h, Int.natAbs_neg, neg_neg]
  · subst h
    simp [orderMagnitude_zero]
  · rw [if_pos (by omega), if_neg (by omega), Int.natAbs_neg]

theorem orderValue_strictMono : StrictMono orderValue := by
  refine strictMono_of_odd_strictMonoOn_nonneg orderValue_neg fun a ha b hb hab => ?_
  rw [Set.mem_Ici] at ha hb
  rw [orderValue, orderValue, if_neg (by omega), if_neg (by omega)]
  exact orderMagnitude_strictMono (by omega)

theorem key_toNat (x : Word) : (bits 1 31 x).toNat = fpExp x * 8388608 + fpFrac x := by
  have low : (bits 1 31 x).toNat = x.toNat % 2 ^ 31 := toNat_bits_low 31 x (by decide)
  rw [low, fpExp_eq, fpFrac_eq]
  omega

/-- The claims' order of two elements is that of the integers compared. -/
theorem fpOrder_eq (x : Word) : fpOrder x = orderValue (compareKey x) := by
  have hfrac := fpFrac_lt x
  have hquotient : (fpExp x * 8388608 + fpFrac x) / 8388608 = fpExp x := by omega
  have hrest : (fpExp x * 8388608 + fpFrac x) % 8388608 = fpFrac x := by omega
  have magnitude : orderMagnitude (bits 1 31 x).toNat = if fpExp x = 0 ∧ fpFrac x = 0 then 0
      else ((8388608 + fpFrac x : Nat) : Rat) * (2 : Rat) ^ ((fpExp x : Int) - 150) := by
    rw [key_toNat, orderMagnitude, hquotient, hrest]
    exact if_congr (by omega) rfl rfl
  have signed : orderValue (compareKey x) =
      (if fpSign x then -1 else 1) * orderMagnitude (bits 1 31 x).toNat := by
    rw [compareKey, withSign]
    split
    · rw [orderValue_neg, orderValue, if_neg (by omega), Int.natAbs_natCast, neg_one_mul]
    · rw [orderValue, if_neg (by omega), Int.natAbs_natCast, one_mul]
  rw [signed, magnitude, fpOrder]
  split
  · rw [mul_zero]
  · rw [mul_assoc]

theorem fpOrder_lt_iff {a b : Word} : fpOrder a < fpOrder b ↔ compareKey a < compareKey b := by
  rw [fpOrder_eq, fpOrder_eq, orderValue_strictMono.lt_iff_lt]

theorem fpOrder_eq_iff {a b : Word} : fpOrder a = fpOrder b ↔ compareKey a = compareKey b := by
  rw [fpOrder_eq, fpOrder_eq, orderValue_strictMono.injective.eq_iff]

theorem fpLt_iff {a b : Word} : fpLt a b = true ↔ fpOrder a < fpOrder b := decide_eq_true_iff.trans fpOrder_lt_iff.symm

theorem fpGt_iff {a b : Word} : fpGt a b = true ↔ fpOrder b < fpOrder a := decide_eq_true_iff.trans fpOrder_lt_iff.symm

theorem fpEq_iff {a b : Word} : fpEq a b = true ↔ fpOrder a = fpOrder b := decide_eq_true_iff.trans fpOrder_eq_iff.symm

/-! ## Compares and tests -/

section
variable {s : State} {i : Instr} {crfD : CrField}

/-- A compare field whose second bit is defined and whose other bits are free (spec/93_implementation_defined.md U30). -/
theorem State.scalarCompared_setSpefscr (s : State) (w : Word) (crfD : CrField) (c : Bool) :
    s.ScalarCompared (((s.setSpefscr w).scalarCompareField crfD c).advance 4) crfD c := by
  refine ⟨?_, fun k hk => State.crField_setCrField_other _ crfD k _ hk, rfl⟩
  have field := State.crField_setCrField_same (s.setSpefscr w).spendFree crfD
    (crBits ((Config.freeCompareBits s.freeCtr).getMsbD 0) c ((Config.freeCompareBits s.freeCtr).getMsbD 1)
      ((Config.freeCompareBits s.freeCtr).getMsbD 2))
  refine (congrArg (BitVec.getMsbD · 1) field).trans ?_
  simp only [crBits, BitVec.getMsbD_append]
  simp

theorem State.runs_scalarCompare {c : Bool} {a b : Word} (hi : exec i s = s.scalarCompare crfD c a b)
    (hno : s.NoFpTrap noElement (invalidOf a b)) :
    Runs i s fun t => s.ScalarCompared t crfD c ∧ s.FpStatus t noElement (invalidOf a b) :=
  ⟨_, hi.trans (State.efpCommit_noTrap hno), s.scalarCompared_setSpefscr _ crfD c, State.fpStatus_of_efpFinal rfl⟩

theorem State.runs_scalarTest {c : Bool} (hi : exec i s = s.scalarTest crfD c) :
    Runs i s fun t => s.ScalarCompared t crfD c ∧ t.spefscr = s.spefscr :=
  ⟨_, hi, s.scalarCompared_setSpefscr s.spefscr crfD c, rfl⟩

/-- A compare field of which all four bits are defined (R1203). -/
theorem State.vectorCompared_setSpefscr (s : State) (w : Word) (crfD : CrField) (h l : Bool) :
    s.VectorCompared (((s.setSpefscr w).setCrField crfD (vectorCompareField h l)).advance 4) crfD h l :=
  ⟨State.crField_setCrField_same _ crfD _, fun k hk => State.crField_setCrField_other _ crfD k _ hk, rfl⟩

variable {rel : Word → Word → Bool} {a b : Dword}

theorem State.runs_vectorCompare (hi' : exec i s = s.vectorCompare crfD rel a b) (on : s.speOn = true)
    (hno : s.NoFpTrap (invalidOf (hi a) (hi b)) (invalidOf (lo a) (lo b))) :
    Runs i s fun t => s.VectorCompared t crfD (rel (hi a) (hi b)) (rel (lo a) (lo b)) ∧
      s.FpStatus t (invalidOf (hi a) (hi b)) (invalidOf (lo a) (lo b)) :=
  ⟨_, hi'.trans ((State.vectorCompare_eq on crfD rel a b).trans (State.efpCommit_noTrap hno)),
    s.vectorCompared_setSpefscr _ crfD _ _, State.fpStatus_of_efpFinal rfl⟩

theorem State.runs_vectorTest (hi' : exec i s = s.vectorTest crfD rel a b) (on : s.speOn = true) :
    Runs i s fun t => s.IntegerCompared t crfD (rel (hi a) (hi b)) (rel (lo a) (lo b)) := by
  rw [State.vectorTest, on, Bool.not_true, if_neg Bool.false_ne_true] at hi'
  exact ⟨_, hi', s.vectorCompared_setSpefscr s.spefscr crfD _ _, rfl⟩

end

end Sys2Proof.Machine

namespace Sys2Proof.Proofs
open Sys2Proof.Machine

/-- Settles O48: the integers compared have the order of the claims, and a compare is a commit that writes a CR field. -/
theorem floatingPointComparesAndTests : Obligations.FloatingPointComparesAndTests := by
  unfold Obligations.FloatingPointComparesAndTests
  refine ⟨fun a b => ⟨fpGt_iff, fpLt_iff, fpEq_iff⟩, fun s crfD ra rb => ?_⟩
  exact ⟨State.runs_scalarCompare rfl, State.runs_scalarTest rfl, State.runs_scalarCompare rfl, State.runs_scalarTest rfl,
    State.runs_scalarCompare rfl, State.runs_scalarTest rfl,
    State.runs_vectorCompare rfl, State.runs_vectorTest rfl, State.runs_vectorCompare rfl, State.runs_vectorTest rfl,
    State.runs_vectorCompare rfl, State.runs_vectorTest rfl⟩

end Sys2Proof.Proofs
end

section
/-! SUPPORT. Rounding over the reals: a magnitude cut at a unit, its guard and sticky bits, the number each mode chooses, and
RoundSP as such a cut (spec/45_efpu_scalar.md R1104, R1105). -/

namespace Sys2Proof.Machine

/-! ## Signs and powers of two -/

/-- The real with the sign s and the magnitude a. -/
noncomputable def signed (s : Bool) (a : ℝ) : ℝ := if s then -a else a

theorem signed_true (a : ℝ) : signed true a = -a := rfl

theorem abs_signed (s : Bool) (a : ℝ) : |signed s a| = |a| := by
  cases s
  · rfl
  · exact abs_neg a

theorem signed_of_sign {s : Bool} {x : ℝ} (hs : s = true ↔ x < 0) : signed s |x| = x := by
  cases s
  · exact abs_of_nonneg (not_lt.1 fun h => Bool.false_ne_true (hs.2 h))
  · exact neg_eq_iff_eq_neg.2 (abs_of_neg (hs.1 rfl))

theorem signed_inj {s : Bool} {a b : ℝ} : signed s a = signed s b ↔ a = b := by
  cases s
  · exact Iff.rfl
  · exact neg_inj

theorem signed_mul (s : Bool) (a b : ℝ) : signed s a * b = signed s (a * b) := by
  cases s
  · rfl
  · exact neg_mul a b

theorem signed_mul_signed (s : Bool) (a b : ℝ) : signed s a * signed s b = a * b := by
  cases s
  · rfl
  · exact neg_mul_neg a b

theorem abs_signed_sub_signed (s : Bool) (a b : ℝ) : |signed s b - signed s a| = |b - a| := by
  cases s
  · rfl
  · rw [signed_true, signed_true, neg_sub_neg, abs_sub_comm]

theorem cast_withSign (s : Bool) (n : Nat) : ((withSign s n : Int) : ℝ) = signed s n := by
  cases s <;> simp [withSign, signed]

theorem withSign_emod_two (s : Bool) (n : Nat) : withSign s n % 2 = 0 ↔ n % 2 = 0 := by
  cases s <;> simp only [withSign, if_true, if_false, Bool.false_eq_true] <;> omega

theorem two_zpow_pos (e : Int) : (0 : ℝ) < 2 ^ e := zpow_pos two_pos e

theorem two_zpow_add (i j : Int) : (2 : ℝ) ^ (i + j) = 2 ^ i * 2 ^ j := zpow_add₀ two_ne_zero i j

/-- A number with its leading bit at e is at least a power of two exactly when e is at least its exponent. -/
theorem two_zpow_le_iff {e k : Int} {y : ℝ} (low : (2 : ℝ) ^ e ≤ y) (high : y < (2 : ℝ) ^ (e + 1)) :
    (2 : ℝ) ^ k ≤ y ↔ k ≤ e := by
  constructor
  · intro h
    have := (zpow_lt_zpow_iff_right₀ (one_lt_two (α := ℝ))).1 (h.trans_lt high)
    omega
  · exact fun h => (zpow_le_zpow_right₀ one_le_two h).trans low

/-! ## A magnitude cut at a unit -/

/-- The share of the unit that a guard bit stands for. -/
noncomputable def guardShare (g : Bool) : ℝ := if g then 1 / 2 else 0

/-- The magnitude a in units u: the whole units, the guard bit (half a unit) and the sticky bit (anything below). -/
structure CutsTo (a u : ℝ) (p : Nat × Bool × Bool) : Prop where
  lower : (p.1 + guardShare p.2.1) * u ≤ a
  upper : a < (p.1 + guardShare p.2.1 + 1 / 2) * u
  sticky : p.2.2 = false ↔ a = (p.1 + guardShare p.2.1) * u

/-- The whole units after rounding (R1105). -/
def roundedSig (m : Rounding) (s : Bool) (p : Nat × Bool × Bool) : Nat :=
  p.1 + (roundUp m s (p.1.testBit 0) p.2.1 p.2.2).toNat

theorem roundedSig_bounds (m : Rounding) (s : Bool) (p : Nat × Bool × Bool) :
    p.1 ≤ roundedSig m s p ∧ roundedSig m s p ≤ p.1 + 1 :=
  ⟨Nat.le_add_right _ _, Nat.add_le_add_left (Bool.toNat_le _) _⟩

theorem roundedSig_of_true {m : Rounding} {s : Bool} {p : Nat × Bool × Bool}
    (h : roundUp m s (p.1.testBit 0) p.2.1 p.2.2 = true) : roundedSig m s p = p.1 + 1 := by rw [roundedSig, h]; rfl

theorem roundedSig_of_false {m : Rounding} {s : Bool} {p : Nat × Bool × Bool}
    (h : roundUp m s (p.1.testBit 0) p.2.1 p.2.2 = false) : roundedSig m s p = p.1 := by rw [roundedSig, h]; rfl

/-- A whole number of units. -/
theorem CutsTo.whole {a u : ℝ} {t : Nat} (hu : 0 < u) (h : a = t * u) : CutsTo a u (t, false, false) := by
  have share : guardShare false = 0 := rfl
  refine ⟨?_, ?_, ?_⟩ <;> simp only [share, h, add_zero]
  · exact le_refl _
  · linarith

/-- The cut of a natural number, when what was lost before is less than one. -/
theorem cutsTo_cut {n k : Nat} {lost : Bool} {a : ℝ} (low : n ≤ a) (high : a < n + 1) (whole : lost = false ↔ a = n)
    (hk : k = 0 → lost = false) : CutsTo a (2 ^ k) (cut n k lost) := by
  cases k with
  | zero =>
    obtain rfl := hk rfl
    exact CutsTo.whole (by norm_num) (by rw [whole.1 rfl]; norm_num)
  | succ j =>
    have hcut : cut n (j + 1) lost = (n / 2 ^ (j + 1), n.testBit j, lost || decide (n % 2 ^ j ≠ 0)) := by
      rw [cut, if_neg j.succ_ne_zero, Nat.shiftRight_eq_div_pow, Nat.add_sub_cancel]
    have parts : n = n / 2 ^ (j + 1) * 2 ^ (j + 1) + (n.testBit j).toNat * 2 ^ j + n % 2 ^ j := by
      have hmod := Nat.mod_mul (a := 2 ^ j) (b := 2) (x := n)
      rw [← Nat.pow_succ, ← Nat.toNat_testBit] at hmod
      have hdiv := Nat.div_add_mod' n (2 ^ (j + 1))
      linarith
    have hrest : n % 2 ^ j < 2 ^ j := Nat.mod_lt _ (by positivity)
    have kept : ((n / 2 ^ (j + 1) : Nat) + guardShare (n.testBit j)) * (2 : ℝ) ^ (j + 1) =
        (n / 2 ^ (j + 1) * 2 ^ (j + 1) + (n.testBit j).toNat * 2 ^ j : Nat) := by
      cases n.testBit j <;> simp only [guardShare, Bool.toNat_true, Bool.toNat_false] <;> push_cast <;> ring
    rw [hcut]
    generalize n / 2 ^ (j + 1) * 2 ^ (j + 1) + (n.testBit j).toNat * 2 ^ j = base at parts kept
    refine ⟨?_, ?_, ?_⟩
    · rw [kept]
      refine le_trans ?_ low
      exact_mod_cast (by omega : base ≤ n)
    · rw [add_mul, kept]
      have fits : (n : ℝ) + 1 ≤ base + 2 ^ j := by exact_mod_cast (by omega : n + 1 ≤ base + 2 ^ j)
      calc a < n + 1 := high
        _ ≤ base + 2 ^ j := fits
        _ = base + 1 / 2 * 2 ^ (j + 1) := by ring
    · rw [kept, Bool.or_eq_false_iff, whole, decide_eq_false_iff_not, not_not]
      constructor
      · rintro ⟨rfl, hzero⟩
        exact_mod_cast (by omega : n = base)
      · intro ha
        have hle : n ≤ base := by exact_mod_cast low.trans_eq ha
        have heq : n = base := by omega
        exact ⟨by rw [ha, heq], by omega⟩

theorem CutsTo.scale {a u c : ℝ} {p : Nat × Bool × Bool} (h : CutsTo a u p) (hc : 0 < c) : CutsTo (a * c) (u * c) p where
  lower := by
    rw [← mul_assoc]
    exact mul_le_mul_of_nonneg_right h.lower hc.le
  upper := by
    rw [← mul_assoc]
    exact mul_lt_mul_of_pos_right h.upper hc
  sticky := by rw [h.sticky, ← mul_assoc, mul_left_inj' hc.ne']

section
variable {a u : ℝ} {p : Nat × Bool × Bool}

theorem CutsTo.le (h : CutsTo a u p) (hu : 0 < u) : p.1 * u ≤ a := by
  have := h.lower
  unfold guardShare at this
  split at this <;> linarith

theorem CutsTo.lt (h : CutsTo a u p) (hu : 0 < u) : a < (p.1 + 1) * u := by
  have := h.upper
  unfold guardShare at this
  split at this <;> linarith

/-- Without a guard bit the rest is less than half a unit. -/
theorem CutsTo.lt_half (h : CutsTo a u p) (hg : p.2.1 = false) : a < p.1 * u + u / 2 := by
  have := h.upper
  rw [hg, guardShare] at this
  simp only [Bool.false_eq_true, if_false] at this
  linarith

/-- With a guard bit the rest is half a unit or more, and half a unit without a sticky bit. -/
theorem CutsTo.half_le (h : CutsTo a u p) (hg : p.2.1 = true) :
    p.1 * u + u / 2 ≤ a ∧ (p.2.2 = false ↔ a = p.1 * u + u / 2) := by
  have value : (p.1 + guardShare p.2.1) * u = p.1 * u + u / 2 := by
    rw [hg, guardShare, if_pos rfl]
    ring
  exact ⟨value ▸ h.lower, value ▸ h.sticky⟩

theorem CutsTo.eq_iff (h : CutsTo a u p) (hu : 0 < u) : a = p.1 * u ↔ p.2.1 = false ∧ p.2.2 = false := by
  cases hg : p.2.1
  case false =>
    have := h.sticky
    rw [hg, guardShare] at this
    simp [this]
  case true =>
    have := (h.half_le hg).1
    simp only [Bool.true_eq_false, false_and, iff_false]
    intro ha
    linarith

theorem CutsTo.inexact (h : CutsTo a u p) (hu : 0 < u) (hx : (p.2.1 || p.2.2) = true) : p.1 * u < a := by
  refine lt_of_le_of_ne (h.le hu) fun ha => ?_
  obtain ⟨hg, hs⟩ := (h.eq_iff hu).1 ha.symm
  rw [hg, hs] at hx
  exact Bool.false_ne_true hx

theorem CutsTo.exact (h : CutsTo a u p) (hu : 0 < u) (hx : (p.2.1 || p.2.2) = false) : a = p.1 * u :=
  (h.eq_iff hu).2 (Bool.or_eq_false_iff.1 hx)

/-- Guard or sticky exactly when rounding changes the number. -/
theorem CutsTo.inexact_iff (h : CutsTo a u p) (hu : 0 < u) (m : Rounding) (s : Bool) :
    (p.2.1 = true ∨ p.2.2 = true) ↔ roundedSig m s p * u ≠ a := by
  rw [← Bool.or_eq_true]
  cases hx : (p.2.1 || p.2.2)
  case false =>
    have stays : roundUp m s (p.1.testBit 0) p.2.1 p.2.2 = false := by
      obtain ⟨hg, hs⟩ := Bool.or_eq_false_iff.1 hx
      rw [hg, hs]
      cases m <;> cases s <;> rfl
    simp [roundedSig_of_false stays, ← h.exact hu hx]
  case true =>
    have hlow := h.inexact hu hx
    have hhigh := h.lt hu
    simp only [true_iff]
    cases hup : roundUp m s (p.1.testBit 0) p.2.1 p.2.2
    · rw [roundedSig_of_false hup]
      exact hlow.ne
    · rw [roundedSig_of_true hup]
      push_cast
      exact hhigh.ne'

/-- The magnitude is truncated. -/
theorem CutsTo.truncated (h : CutsTo a u p) (hu : 0 < u) {m : Rounding} {s : Bool}
    (hup : roundUp m s (p.1.testBit 0) p.2.1 p.2.2 = false) :
    roundedSig m s p * u ≤ a ∧ a < roundedSig m s p * u + u := by
  rw [roundedSig_of_false hup]
  exact ⟨h.le hu, by linarith [h.lt hu]⟩

/-- The magnitude is rounded away from zero. -/
theorem CutsTo.raised (h : CutsTo a u p) (hu : 0 < u) {m : Rounding} {s : Bool}
    (hup : roundUp m s (p.1.testBit 0) p.2.1 p.2.2 = (p.2.1 || p.2.2)) :
    a ≤ roundedSig m s p * u ∧ roundedSig m s p * u < a + u := by
  cases hx : (p.2.1 || p.2.2)
  case false =>
    rw [roundedSig_of_false (hup.trans hx), ← h.exact hu hx]
    exact ⟨le_refl a, by linarith⟩
  case true =>
    have hlow := h.inexact hu hx
    have hhigh := h.lt hu
    rw [roundedSig_of_true (hup.trans hx)]
    push_cast
    constructor <;> linarith

/-- The magnitude is rounded to the nearest number of units, and half way to an even one. -/
theorem CutsTo.nearestEven (h : CutsTo a u p) (hu : 0 < u) (s : Bool) :
    |roundedSig .nearest s p * u - a| ≤ u / 2 ∧
      (|roundedSig .nearest s p * u - a| = u / 2 → roundedSig .nearest s p % 2 = 0) := by
  have hle := h.le hu
  have hlt := h.lt hu
  have lastBit : p.1.testBit 0 = decide (p.1 % 2 = 1) := Nat.testBit_zero p.1
  cases hg : p.2.1
  case false =>
    have hhalf := h.lt_half hg
    have stays : roundUp .nearest s (p.1.testBit 0) p.2.1 p.2.2 = false := by rw [hg]; rfl
    rw [roundedSig_of_false stays, abs_of_nonpos (by linarith)]
    exact ⟨by linarith, fun he => by linarith⟩
  case true =>
    obtain ⟨hhalf, hsticky⟩ := h.half_le hg
    have up : roundUp .nearest s (p.1.testBit 0) p.2.1 p.2.2 = (p.2.2 || p.1.testBit 0) := by rw [hg]; rfl
    cases hup : (p.2.2 || p.1.testBit 0)
    case false =>
      obtain ⟨hs, hlast⟩ := Bool.or_eq_false_iff.1 hup
      have ha := hsticky.1 hs
      rw [roundedSig_of_false (up.trans hup), abs_of_nonpos (by linarith)]
      rw [lastBit, decide_eq_false_iff_not] at hlast
      exact ⟨by linarith, fun _ => by omega⟩
    case true =>
      rw [roundedSig_of_true (up.trans hup)]
      push_cast
      rw [abs_of_nonneg (by linarith)]
      refine ⟨by linarith, fun he => ?_⟩
      rw [hsticky.2 (by linarith), Bool.false_or, lastBit, decide_eq_true_iff] at hup
      omega

/-- The rounded number of units is the one that the mode chooses (R1104, R1105). -/
theorem CutsTo.nearest (h : CutsTo a u p) (hu : 0 < u) (m : Rounding) (s : Bool) :
    Nearest m (signed s a) (signed s (roundedSig m s p * u)) u (withSign s (roundedSig m s p) % 2 = 0) := by
  rw [withSign_emod_two]
  cases m with
  | nearest =>
    rw [Nearest, abs_signed_sub_signed]
    exact h.nearestEven hu s
  | towardZero =>
    have hnat : 0 ≤ (roundedSig .towardZero s p : ℝ) * u := by positivity
    obtain ⟨hle, hlt⟩ := h.truncated hu (m := .towardZero) (s := s) rfl
    have ha : 0 ≤ a := hnat.trans hle
    rw [Nearest, abs_signed, abs_signed, signed_mul_signed, abs_of_nonneg hnat, abs_of_nonneg ha]
    exact ⟨mul_nonneg ha hnat, hle, hlt⟩
  | up =>
    cases s
    case false => exact h.raised hu (m := .up) (s := false) rfl
    case true =>
      obtain ⟨hle, hlt⟩ := h.truncated hu (m := .up) (s := true) rfl
      rw [Nearest, signed_true, signed_true]
      constructor <;> linarith
  | down =>
    cases s
    case false => exact h.truncated hu (m := .down) (s := false) rfl
    case true =>
      obtain ⟨hle, hlt⟩ := h.raised hu (m := .down) (s := true) rfl
      rw [Nearest, signed_true, signed_true]
      constructor <;> linarith

end

/-! ## Rounding to a number of significant bits -/

/-- A magnitude of q + 1 significant whole units has its leading bit q places above the unit. -/
theorem CutsTo.leading {a : ℝ} {e : Int} {q : Nat} {p : Nat × Bool × Bool} (h : CutsTo a (2 ^ (e - q)) p)
    (low : 2 ^ q ≤ p.1) (high : p.1 < 2 ^ (q + 1)) : (2 : ℝ) ^ e ≤ a ∧ a < (2 : ℝ) ^ (e + 1) := by
  have hu := two_zpow_pos (e - q)
  have place (k : Nat) : ((2 ^ k : Nat) : ℝ) * 2 ^ (e - q) = 2 ^ (k + (e - q)) := by
    rw [two_zpow_add, zpow_natCast]
    push_cast
    rfl
  have hlow : ((2 ^ q : Nat) : ℝ) * 2 ^ (e - q) ≤ p.1 * 2 ^ (e - q) :=
    mul_le_mul_of_nonneg_right (by exact_mod_cast low) hu.le
  have hhigh : (p.1 + 1 : ℝ) * 2 ^ (e - q) ≤ ((2 ^ (q + 1) : Nat) : ℝ) * 2 ^ (e - q) :=
    mul_le_mul_of_nonneg_right (by exact_mod_cast high) hu.le
  rw [place] at hlow hhigh
  constructor
  · calc (2 : ℝ) ^ e = 2 ^ (q + (e - q)) := by ring_nf
      _ ≤ p.1 * 2 ^ (e - q) := hlow
      _ ≤ a := h.le hu
  · calc a < (p.1 + 1) * 2 ^ (e - q) := h.lt hu
      _ ≤ 2 ^ (((q + 1 : Nat) : Int) + (e - q)) := hhigh
      _ = 2 ^ (e + 1) := by push_cast; ring_nf

/-- A magnitude cut to q + 1 significant bits rounds to q + 1 significant bits (R1105). -/
theorem CutsTo.roundsTo {a : ℝ} {e : Int} {q : Nat} {p : Nat × Bool × Bool} (h : CutsTo a (2 ^ (e - q)) p)
    (low : 2 ^ q ≤ p.1) (high : p.1 < 2 ^ (q + 1)) (m : Rounding) (s : Bool) :
    RoundsTo (q + 1) m (signed s a) (signed s (roundedSig m s p * 2 ^ (e - q))) := by
  have hu : (2 : ℝ) ^ (e - ((q + 1 : Nat) : Int) + 1) = 2 ^ (e - q) := by
    push_cast
    ring_nf
  obtain ⟨hlow, hhigh⟩ := h.leading low high
  have ha : |signed s a| = a := (abs_signed s a).trans (abs_of_nonneg ((two_zpow_pos e).le.trans hlow))
  refine ⟨e, withSign s (roundedSig m s p), ha.symm ▸ hlow, ha.symm ▸ hhigh, ?_, ?_⟩
  · rw [hu, cast_withSign, signed_mul]
  · rw [hu]
    exact h.nearest (two_zpow_pos _) m s

/-- A significand that rounding has carried out of its p bits, and its exponent, put right (R1105). -/
def carried (p n : Nat) (e : Int) : Nat × Int := if n = 2 ^ p then (2 ^ (p - 1), e + 1) else (n, e)

/-- It stands for the same number, and has its p bits. -/
theorem carried_spec {q n : Nat} (e : Int) (low : 2 ^ q ≤ n) (high : n ≤ 2 ^ (q + 1)) :
    2 ^ q ≤ (carried (q + 1) n e).1 ∧ (carried (q + 1) n e).1 < 2 ^ (q + 1) ∧
      e ≤ (carried (q + 1) n e).2 ∧ (carried (q + 1) n e).2 ≤ e + 1 ∧
      ((carried (q + 1) n e).1 : ℝ) * 2 ^ ((carried (q + 1) n e).2 - q) = n * 2 ^ (e - q) := by
  unfold carried
  split
  case isTrue h =>
    refine ⟨le_refl _, Nat.pow_lt_pow_succ one_lt_two, by simp, by simp, ?_⟩
    have unit : (2 : ℝ) ^ (e + 1 - q) = 2 * 2 ^ (e - q) := by
      rw [show e + 1 - (q : Int) = 1 + (e - q) by ring, two_zpow_add, zpow_one]
    rw [h, unit]
    push_cast
    ring
  case isFalse h => exact ⟨low, by omega, le_refl _, by simp, rfl⟩

/-! ## RoundSP -/

/-- The magnitude of a record cut to 24 significant bits. -/
def Exact.cutSig (r : Exact) : Nat × Bool × Bool :=
  if r.mag.log2 ≤ 23 then (r.mag <<< (23 - r.mag.log2), false, r.lost) else cut r.mag (r.mag.log2 - 23) r.lost

/-- The exponent of its leading bit. -/
def Exact.topExp (r : Exact) : Int := r.mag.log2 + r.exp

/-- The significand after rounding and the exponent. -/
def Exact.roundedPair (m : Rounding) (r : Exact) : Nat × Int := carried 24 (roundedSig m r.neg r.cutSig) r.topExp

/-- RoundSP cuts, rounds and puts the carry right. -/
theorem roundSingle_eq (m : Rounding) (r : Exact) : roundSingle m r =
    { v := fpPack r.neg (r.roundedPair m).2 (r.roundedPair m).1
      t := if r.topExp < -126 then fpPack r.neg (r.roundedPair m).2 (r.roundedPair m).1
        else fpPack r.neg r.topExp r.cutSig.1
      g := r.cutSig.2.1
      x := r.cutSig.2.2
      ovf := decide (127 < (r.roundedPair m).2)
      unf := decide ((r.roundedPair m).2 < -126) } := by
  have pair : r.roundedPair m =
      (if roundedSig m r.neg r.cutSig == 16777216 then 8388608 else roundedSig m r.neg r.cutSig,
        if roundedSig m r.neg r.cutSig == 16777216 then r.topExp + 1 else r.topExp) := by
    unfold Exact.roundedPair carried
    by_cases h : roundedSig m r.neg r.cutSig = 16777216 <;> simp [h]
  rw [pair]
  rfl

/-- The record of a real number, cut to 24 significant bits. -/
theorem Exact.Represents.cutsTo {r : Exact} {x : ℝ} (h : r.Represents x) :
    CutsTo |x| (2 ^ (r.topExp - (23 : Nat))) r.cutSig ∧ 2 ^ 23 ≤ r.cutSig.1 ∧ r.cutSig.1 < 2 ^ 24 := by
  have hlog : 2 ^ r.mag.log2 ≤ r.mag := Nat.log2_self_le h.nonzero
  have hlog' : r.mag < 2 ^ (r.mag.log2 + 1) := Nat.lt_log2_self
  unfold Exact.cutSig Exact.topExp
  split
  case isTrue hsmall =>
    obtain ⟨d, hd⟩ : ∃ d, 23 = r.mag.log2 + d := ⟨23 - r.mag.log2, by omega⟩
    have hshift : 23 - r.mag.log2 = d := by omega
    have hlost : r.lost = false := by
      by_contra hne
      have hwide := (h.lost (Bool.eq_true_of_not_eq_false hne)).1
      have : r.mag < 2 ^ 24 := hlog'.trans_le (Nat.pow_le_pow_right two_pos (by omega))
      omega
    rw [hlost, hshift, Nat.shiftLeft_eq]
    refine ⟨CutsTo.whole (two_zpow_pos _) ?_, ?_, ?_⟩
    · rw [h.exact hlost, show (r.mag.log2 : Int) + r.exp - (23 : Nat) = r.exp - d by omega, zpow_sub₀ two_ne_zero,
        zpow_natCast]
      push_cast
      field_simp
    · calc 2 ^ 23 = 2 ^ r.mag.log2 * 2 ^ d := by rw [← Nat.pow_add, ← hd]
        _ ≤ r.mag * 2 ^ d := Nat.mul_le_mul_right _ hlog
    · calc r.mag * 2 ^ d < 2 ^ (r.mag.log2 + 1) * 2 ^ d := Nat.mul_lt_mul_of_pos_right hlog' (by positivity)
        _ = 2 ^ 24 := by rw [← Nat.pow_add, show r.mag.log2 + 1 + d = 24 by omega]
  case isFalse hbig =>
    obtain ⟨k, hk⟩ : ∃ k, r.mag.log2 = 23 + k := ⟨r.mag.log2 - 23, by omega⟩
    have hshift : r.mag.log2 - 23 = k := by omega
    have hunit := two_zpow_pos r.exp
    have bounds : (r.mag : ℝ) ≤ |x| / 2 ^ r.exp ∧ |x| / 2 ^ r.exp < r.mag + 1 ∧
        (r.lost = false ↔ |x| / 2 ^ r.exp = r.mag) := by
      rw [le_div_iff₀ hunit, div_lt_iff₀ hunit, div_eq_iff hunit.ne']
      cases hlost : r.lost
      · have := h.exact hlost
        exact ⟨this.ge, by linarith, by simp [this]⟩
      · obtain ⟨-, hlow, hhigh⟩ := h.lost hlost
        exact ⟨hlow.le, hhigh, by simp [hlow.ne']⟩
    obtain ⟨hlow, hhigh, hexact⟩ := bounds
    have hcut := (cutsTo_cut hlow hhigh hexact (k := k) fun h0 => absurd h0 (by omega)).scale hunit
    rw [div_mul_cancel₀ _ hunit.ne'] at hcut
    have place : (2 : ℝ) ^ k * 2 ^ r.exp = 2 ^ ((r.mag.log2 : Int) + r.exp - (23 : Nat)) := by
      rw [show (r.mag.log2 : Int) + r.exp - (23 : Nat) = k + r.exp by omega, two_zpow_add, zpow_natCast]
    have whole : (cut r.mag k r.lost).1 = r.mag / 2 ^ k := by
      rw [cut, if_neg (by omega), Nat.shiftRight_eq_div_pow]
    rw [hshift]
    refine ⟨place ▸ hcut, ?_, ?_⟩
    · rw [whole, Nat.le_div_iff_mul_le (by positivity), ← Nat.pow_add, ← hk]
      exact hlog
    · rw [whole, Nat.div_lt_iff_lt_mul (by positivity), ← Nat.pow_add, show 24 + k = r.mag.log2 + 1 by omega]
      exact hlog'

/-! ## The value of an element -/

/-- The magnitude of a number. -/
noncomputable def fpMagnitude (x : Word) : ℝ := fpSig x * 2 ^ fpScale x

theorem fpMagnitude_pos (x : Word) : 0 < fpMagnitude x := by
  have sig : 0 < fpSig x := by
    have := (fpSig_bounds x).1
    omega
  exact mul_pos (Nat.cast_pos.2 sig) (two_zpow_pos _)

theorem fpValue_eq (x : Word) : (fpValue x : ℝ) = signed (fpSign x) (fpMagnitude x) := by
  rw [fpValue, fpMagnitude]
  push_cast
  cases fpSign x <;> simp [signed]

/-- A number put together from its sign, exponent and significand is a Norm of that value. -/
theorem fpPack_spec (s : Bool) {e : Int} {t : Nat} (he : -126 ≤ e) (he' : e ≤ 127) (low : 2 ^ 23 ≤ t) (high : t < 2 ^ 24) :
    (fpValue (fpPack s e t) : ℝ) = signed s (t * 2 ^ (e - (23 : Nat))) := by
  obtain ⟨hs, hexp, hfrac⟩ := fields_append s (BitVec.ofInt 8 (e + 127)) (BitVec.ofNat 23 t)
  have exponent : ((BitVec.ofInt 8 (e + 127)).toNat : Int) = e + 127 := by
    rw [BitVec.toNat_ofInt]
    omega
  have sig : fpSig (fpPack s e t) = t := by
    rw [fpSig, fpPack, hfrac, BitVec.toNat_ofNat]
    omega
  have scale : fpScale (fpPack s e t) = e - (23 : Nat) := by
    rw [fpScale, fpPack, hexp, exponent]
    push_cast
    ring
  rw [fpValue_eq, fpMagnitude, sig, scale, fpPack, hs]

theorem fpClass_fpPack (s : Bool) {e : Int} (t : Nat) (he : -126 ≤ e) (he' : e ≤ 127) : fpClass (fpPack s e t) = .norm := by
  have exponent : ((BitVec.ofInt 8 (e + 127)).toNat : Int) = e + 127 := by
    rw [BitVec.toNat_ofInt]
    omega
  rw [fpClass_norm_iff, fpPack, (fields_append s _ _).2.1]
  omega

/-- What RoundSP makes of the record of a real number: the rounded significand and exponent (R1105). -/
theorem Exact.Represents.roundedPair_spec {r : Exact} {x : ℝ} (h : r.Represents x) (m : Rounding) :
    2 ^ 23 ≤ (r.roundedPair m).1 ∧ (r.roundedPair m).1 < 2 ^ 24 ∧
      r.topExp ≤ (r.roundedPair m).2 ∧ (r.roundedPair m).2 ≤ r.topExp + 1 ∧
      ((r.roundedPair m).1 : ℝ) * 2 ^ ((r.roundedPair m).2 - (23 : Nat)) =
        roundedSig m r.neg r.cutSig * 2 ^ (r.topExp - (23 : Nat)) := by
  obtain ⟨-, low, high⟩ := h.cutsTo
  obtain ⟨hle, hle'⟩ := roundedSig_bounds m r.neg r.cutSig
  exact carried_spec (q := 23) r.topExp (low.trans hle) (hle'.trans high)

theorem Exact.Represents.leading {r : Exact} {x : ℝ} (h : r.Represents x) :
    (2 : ℝ) ^ r.topExp ≤ |x| ∧ |x| < (2 : ℝ) ^ (r.topExp + 1) := by
  obtain ⟨hcut, low, high⟩ := h.cutsTo
  exact hcut.leading low high

/-- RoundSP rounds correctly. -/
theorem roundSingle_spec (m : Rounding) {r : Exact} {x : ℝ} (h : r.Represents x) :
    ∃ y, RoundsTo 24 m x y ∧ ((roundSingle m r).ovf = true ↔ (2 : ℝ) ^ (128 : Int) ≤ |y|) ∧
      ((roundSingle m r).unf = true ↔ |y| < (2 : ℝ) ^ (-126 : Int)) ∧
      ((roundSingle m r).ovf = false → (roundSingle m r).unf = false →
        fpClass (roundSingle m r).v = .norm ∧ (fpValue (roundSingle m r).v : ℝ) = y ∧
        (((roundSingle m r).g = true ∨ (roundSingle m r).x = true) ↔ y ≠ x) ∧
        ((2 : ℝ) ^ (-126 : Int) ≤ |x| → RoundsTo 24 .towardZero x (fpValue (roundSingle m r).t))) := by
  obtain ⟨hcut, low, high⟩ := h.cutsTo
  obtain ⟨low2, high2, hexp, hexp', hvalue⟩ := h.roundedPair_spec m
  have hx : signed r.neg |x| = x := signed_of_sign h.sign
  have hlead := CutsTo.leading (CutsTo.whole (two_zpow_pos ((r.roundedPair m).2 - (23 : Nat))) rfl) low2 high2
  have habs : |signed r.neg ((r.roundedPair m).1 * 2 ^ ((r.roundedPair m).2 - (23 : Nat)))| =
      (r.roundedPair m).1 * 2 ^ ((r.roundedPair m).2 - (23 : Nat)) := by
    rw [abs_signed, abs_of_nonneg]
    have := two_zpow_pos ((r.roundedPair m).2 - (23 : Nat))
    positivity
  refine ⟨signed r.neg ((r.roundedPair m).1 * 2 ^ ((r.roundedPair m).2 - (23 : Nat))), ?_, ?_, ?_, ?_⟩
  · rw [hvalue]
    exact hx ▸ hcut.roundsTo low high m r.neg
  · rw [habs, two_zpow_le_iff hlead.1 hlead.2, roundSingle_eq, decide_eq_true_iff]
    omega
  · rw [habs, ← not_le, two_zpow_le_iff hlead.1 hlead.2, roundSingle_eq, decide_eq_true_iff]
    omega
  · rw [roundSingle_eq]
    simp only [decide_eq_false_iff_not, not_lt]
    intro hovf hunf
    refine ⟨fpClass_fpPack _ _ hunf hovf, fpPack_spec _ hunf hovf low2 high2, ?_, fun hnorm => ?_⟩
    · rw [hcut.inexact_iff (two_zpow_pos _) m r.neg, hvalue, ← not_iff_not, not_not, not_not]
      conv_rhs => rw [← hx]
      exact signed_inj.symm
    · have hlead' := h.leading
      rw [two_zpow_le_iff hlead'.1 hlead'.2] at hnorm
      rw [if_neg (not_lt.2 hnorm), fpPack_spec _ hnorm (hexp.trans hovf) low high]
      exact hx ▸ hcut.roundsTo low high .towardZero r.neg

end Sys2Proof.Machine

namespace Sys2Proof.Proofs
open Sys2Proof.Machine

/-- Settles O51: RoundSP cuts the number to 24 significant bits and raises the cut as its mode says. -/
theorem roundsCorrectly : Obligations.RoundsCorrectly := fun m _ _ h => roundSingle_spec m h

end Sys2Proof.Proofs
end

section
/-! SUPPORT. The element operations on numbers: the exact result each computes, and its rounding
(spec/45_efpu_scalar.md R1106 to R1108, R1161 to R1166). -/

namespace Sys2Proof.Machine

/-! ## ElemCalc -/

section
variable {m : Rounding} {f : Family} {r : Exact}

theorem elemCalc_overflow (ho : (roundSingle m r).ovf = true) :
    elemCalc m f r = { plainElement (fpMax r.neg) false with ovf := true } := by
  simp only [elemCalc, ho, if_true]

theorem elemCalc_underflow (ho : (roundSingle m r).ovf = false) (hu : (roundSingle m r).unf = true) :
    elemCalc m f r = { plainElement (underflowZero m f r.neg) false with unf := true } := by
  simp only [elemCalc, ho, hu, if_true, if_false, Bool.false_eq_true]

theorem elemCalc_normal (ho : (roundSingle m r).ovf = false) (hu : (roundSingle m r).unf = false) :
    elemCalc m f r =
      { plainElement (roundSingle m r).v false with
        t := (roundSingle m r).t, g := (roundSingle m r).g, x := (roundSingle m r).x } := by
  simp only [elemCalc, ho, hu, if_false, Bool.false_eq_true]

/-- The flags of a calculated result are those of its rounding, of which overflow comes first. -/
theorem elemCalc_flags (m : Rounding) (f : Family) (r : Exact) :
    (elemCalc m f r).inv = false ∧ (elemCalc m f r).dbz = false ∧ (elemCalc m f r).ovf = (roundSingle m r).ovf ∧
      (elemCalc m f r).unf = (!(roundSingle m r).ovf && (roundSingle m r).unf) := by
  cases ho : (roundSingle m r).ovf
  case true =>
    rw [elemCalc_overflow ho]
    exact ⟨rfl, rfl, rfl, rfl⟩
  cases hu : (roundSingle m r).unf
  case true =>
    rw [elemCalc_underflow ho hu]
    exact ⟨rfl, rfl, rfl, rfl⟩
  case false =>
    rw [elemCalc_normal ho hu]
    exact ⟨rfl, rfl, rfl, rfl⟩

/-- A result does not both overflow and underflow. -/
theorem roundSingle_unf_of_ovf (ho : (roundSingle m r).ovf = true) : (roundSingle m r).unf = false := by
  rw [roundSingle_eq] at ho ⊢
  have := of_decide_eq_true ho
  exact decide_eq_false (by omega)

/-- The result of an operation is its exact result rounded, with the default of an overflow or underflow (R1106, R1107). -/
theorem elemCalc_isRounded (m : Rounding) (f : Family) {x : ℝ} (h : r.Represents x) : (elemCalc m f r).IsRounded m f x := by
  obtain ⟨y, hy, hovf, hunf, hnormal⟩ := roundSingle_spec m h
  have negative (hx : x < 0) : r.neg = true := h.sign.2 hx
  have positive (hx : 0 < x) : r.neg = false := Bool.eq_false_iff.2 fun hneg => (h.sign.1 hneg).not_gt hx
  obtain ⟨inv, dbz, ovf, unf⟩ := elemCalc_flags m f r
  have unf : (elemCalc m f r).unf = (roundSingle m r).unf := by
    rw [unf]
    cases ho : (roundSingle m r).ovf
    · rfl
    · exact (roundSingle_unf_of_ovf ho).symm
  have notOvf (hu : (roundSingle m r).unf = true) : (roundSingle m r).ovf = false :=
    Bool.eq_false_iff.2 fun ho => Bool.false_ne_true ((roundSingle_unf_of_ovf ho).symm.trans hu)
  constructor
  case valid => exact ⟨inv, dbz⟩
  case rounded =>
    refine ⟨y, hy, ovf ▸ hovf, unf ▸ hunf, fun ho hu => ?_⟩
    rw [ovf] at ho
    rw [unf] at hu
    rw [elemCalc_normal ho hu]
    exact hnormal ho hu
  case overflow =>
    intro ho
    rw [elemCalc_overflow (ovf ▸ ho)]
    exact ⟨fun hx => by rw [negative hx]; rfl, fun hx => by rw [positive hx]; rfl⟩
  case underflow =>
    intro hu
    rw [unf] at hu
    rw [elemCalc_underflow (notOvf hu) hu]
    cases f with
    | sum => exact ⟨by cases m <;> rfl, fun hf => nomatch hf⟩
    | negated => exact ⟨by cases m <;> rfl, fun hf => nomatch hf⟩
    | product => exact ⟨rfl, fun _ => ⟨fun hx => by rw [negative hx]; rfl, fun hx => by rw [positive hx]; rfl⟩⟩
  case default =>
    rintro (ho | hu)
    · rw [elemCalc_overflow (ovf ▸ ho)]
      exact ⟨rfl, rfl, rfl⟩
    · rw [unf] at hu
      rw [elemCalc_underflow (notOvf hu) hu]
      exact ⟨rfl, rfl, rfl⟩

end

/-! ## Exact numbers -/

theorem exactOf_represents {z e : Int} {x : ℝ} (hz : z ≠ 0) (hx : x = z * 2 ^ e) : (exactOf z e).Represents x where
  nonzero := Int.natAbs_ne_zero.2 hz
  sign := by
    rw [hx, mul_comm, ← smul_eq_mul, smul_neg_iff_of_pos_left (two_zpow_pos e), exactOf, decide_eq_true_iff]
    exact_mod_cast Iff.rfl
  exact := fun _ => by rw [hx, abs_mul, abs_of_pos (two_zpow_pos e), exactOf, Nat.cast_natAbs, Int.cast_abs]
  lost := fun h => absurd h Bool.false_ne_true

/-- A record of a magnitude and its sign. -/
theorem Exact.represents_signed {r : Exact} {a : ℝ} (hmag : r.mag ≠ 0) (low : r.mag * (2 : ℝ) ^ r.exp ≤ a)
    (whole : r.lost = false → a = r.mag * (2 : ℝ) ^ r.exp)
    (lost : r.lost = true → 16777216 ≤ r.mag ∧ r.mag * (2 : ℝ) ^ r.exp < a ∧ a < (r.mag + 1) * (2 : ℝ) ^ r.exp) :
    r.Represents (signed r.neg a) := by
  have ha : 0 < a := by
    have := two_zpow_pos r.exp
    exact lt_of_lt_of_le (by positivity) low
  have habs : |signed r.neg a| = a := (abs_signed _ _).trans (abs_of_pos ha)
  refine ⟨hmag, ?_, fun h => habs.trans (whole h), fun h => habs.symm ▸ lost h⟩
  cases r.neg
  · simp [signed, ha.le]
  · simp [signed, ha]

theorem alignedSum_value (a i b j : Int) :
    ((alignedSum a i b j).1 : ℝ) * 2 ^ (alignedSum a i b j).2 = a * 2 ^ i + b * 2 ^ j := by
  have shift {k l : Int} (h : k ≤ l) : ((2 ^ (l - k).toNat : Nat) : ℝ) * 2 ^ k = 2 ^ l := by
    rw [Nat.cast_pow, Nat.cast_ofNat, ← zpow_natCast, Int.toNat_of_nonneg (by omega), ← two_zpow_add]
    ring_nf
  unfold alignedSum
  split
  case isTrue h =>
    simp only [Int.cast_add, Int.cast_mul, Int.cast_natCast]
    rw [add_mul, mul_assoc, shift h]
  case isFalse h =>
    simp only [Int.cast_add, Int.cast_mul, Int.cast_natCast]
    rw [add_mul, mul_assoc, shift (not_le.1 h).le]

/-! ## Operands that are numbers -/

section
variable {a b d : Word}

theorem fpSpecial_norm (h : fpClass a = .norm) : fpSpecial a = false := by rw [fpSpecial, h]; rfl

theorem fpHuge_norm (h : fpClass a = .norm) : fpHuge a = false := by rw [fpHuge, h]; rfl

theorem fpTiny_norm (h : fpClass a = .norm) : fpTiny a = false := by rw [fpTiny, h]; rfl

theorem fpSig_pos (a : Word) : 0 < fpSig a := by
  have := (fpSig_bounds a).1
  omega

theorem fpValue_withFpSign (s : Bool) (a : Word) : (fpValue (withFpSign s a) : ℝ) = signed s (fpMagnitude a) := by
  rw [fpValue_eq, fpSign_withFpSign, fpMagnitude, fpSig, fpFrac_withFpSign, fpScale, fpExp_withFpSign]
  rfl

/-- A sum that is zero has addends of different signs. -/
theorem sign_ne_of_sum_zero {s t : Bool} {x y : ℝ} (hx : 0 < x) (hy : 0 < y) (h : signed s x + signed t y = 0) : s ≠ t := by
  rintro rfl
  cases s <;> simp only [signed, if_true, if_false, Bool.false_eq_true] at h <;> linarith

theorem zeroSum_of_ne (m : Rounding) {s t : Bool} (h : s ≠ t) : zeroSum m s t = (m == .down) := by
  rw [zeroSum, beq_false_of_ne h, if_neg Bool.false_ne_true]

theorem fpZero_eq (s : Bool) : fpZero s = if s then 0x80000000 else 0 := by cases s <;> rfl

/-! ## Sum and difference -/

/-- The exact sum of two numbers, as an integer and an exponent. -/
def exactSum (a b : Word) : Int × Int :=
  alignedSum (withSign (fpSign a) (fpSig a)) (fpScale a) (withSign (fpSign b) (fpSig b)) (fpScale b)

theorem exactSum_value (a b : Word) : ((exactSum a b).1 : ℝ) * 2 ^ (exactSum a b).2 = fpValue a + fpValue b := by
  rw [exactSum, alignedSum_value, cast_withSign, cast_withSign, signed_mul, signed_mul, fpValue_eq, fpValue_eq]
  rfl

theorem elemAdd_norm (m : Rounding) (ha : fpClass a = .norm) (hb : fpClass b = .norm) :
    elemAdd m a b = if (exactSum a b).1 = 0 then plainElement (fpZero (zeroSum m (fpSign a) (fpSign b))) false
      else elemCalc m .sum (exactOf (exactSum a b).1 (exactSum a b).2) := by
  simp only [elemAdd, fpSpecial_norm ha, fpSpecial_norm hb, fpHuge_norm ha, fpHuge_norm hb, fpTiny_norm ha, fpTiny_norm hb,
    Bool.or_self, Bool.and_self, Bool.false_eq_true, if_false]
  rfl

theorem elemAdd_isRounded (m : Rounding) (ha : fpClass a = .norm) (hb : fpClass b = .norm)
    (h : (fpValue a + fpValue b : ℝ) ≠ 0) : (elemAdd m a b).IsRounded m .sum (fpValue a + fpValue b) := by
  have value := exactSum_value a b
  have hz : (exactSum a b).1 ≠ 0 := fun h0 => h (by rw [← value, h0, Int.cast_zero, zero_mul])
  rw [elemAdd_norm m ha hb, if_neg hz]
  exact elemCalc_isRounded m .sum (exactOf_represents hz value.symm)

theorem elemAdd_zero (m : Rounding) (ha : fpClass a = .norm) (hb : fpClass b = .norm)
    (h : (fpValue a + fpValue b : ℝ) = 0) : elemAdd m a b = plainElement (fpZero (m == .down)) false := by
  have hz : (exactSum a b).1 = 0 := by
    have value := (exactSum_value a b).trans h
    exact_mod_cast (mul_eq_zero.1 value).resolve_right (two_zpow_pos _).ne'
  rw [fpValue_eq, fpValue_eq] at h
  rw [elemAdd_norm m ha hb, if_pos hz, zeroSum_of_ne m (sign_ne_of_sum_zero (fpMagnitude_pos a) (fpMagnitude_pos b) h)]

/-- A difference is the sum with the second operand's sign inverted. -/
theorem elemSub_eq (m : Rounding) (a b : Word) : elemSub m a b = elemAdd m a (withFpSign (!fpSign b) b) := by
  rw [elemSub, xor_oneBit_eq_withFpSign]

theorem signed_not (s : Bool) (x : ℝ) : signed (!s) x = -signed s x := by cases s <;> simp [signed]

theorem fpValue_negated (b : Word) : (fpValue (withFpSign (!fpSign b) b) : ℝ) = -fpValue b := by
  rw [fpValue_withFpSign, fpValue_eq, signed_not]

theorem elemSub_isRounded (m : Rounding) (ha : fpClass a = .norm) (hb : fpClass b = .norm)
    (h : (fpValue a - fpValue b : ℝ) ≠ 0) : (elemSub m a b).IsRounded m .sum (fpValue a - fpValue b) := by
  have := elemAdd_isRounded m (b := withFpSign (!fpSign b) b) ha (by rw [fpClass_withFpSign, hb])
  rw [fpValue_negated, ← sub_eq_add_neg, ← elemSub_eq] at this
  exact this h

theorem elemSub_zero (m : Rounding) (ha : fpClass a = .norm) (hb : fpClass b = .norm)
    (h : (fpValue a - fpValue b : ℝ) = 0) : elemSub m a b = plainElement (fpZero (m == .down)) false := by
  have := elemAdd_zero m (b := withFpSign (!fpSign b) b) ha (by rw [fpClass_withFpSign, hb])
  rw [fpValue_negated, ← sub_eq_add_neg, ← elemSub_eq] at this
  exact this h

/-! ## Product and quotient -/

theorem signed_mul_signed_ne (s t : Bool) (x y : ℝ) : signed s x * signed t y = signed (s != t) (x * y) := by
  cases s <;> cases t <;> simp [signed]

theorem signed_div_signed (s t : Bool) (x y : ℝ) : signed s x / signed t y = signed (s != t) (x / y) := by
  cases s <;> cases t <;> simp [signed, neg_div, div_neg]

theorem fpMagnitude_mul (a b : Word) :
    fpMagnitude a * fpMagnitude b = ((fpSig a * fpSig b : Nat) : ℝ) * 2 ^ (fpScale a + fpScale b) := by
  rw [fpMagnitude, fpMagnitude, two_zpow_add]
  push_cast
  ring

theorem elemMul_isRounded (m : Rounding) (ha : fpClass a = .norm) (hb : fpClass b = .norm) :
    (elemMul m a b).IsRounded m .product (fpValue a * fpValue b) := by
  have result : elemMul m a b = elemCalc m .product
      { neg := fpSign a != fpSign b, mag := fpSig a * fpSig b, exp := fpScale a + fpScale b, lost := false } := by
    simp only [elemMul, fpHuge_norm ha, fpHuge_norm hb, fpTiny_norm ha, fpTiny_norm hb, Bool.or_self, Bool.false_eq_true,
      if_false]
  have hmag : fpSig a * fpSig b ≠ 0 := (Nat.mul_pos (fpSig_pos a) (fpSig_pos b)).ne'
  rw [fpValue_eq, fpValue_eq, signed_mul_signed_ne, result]
  exact elemCalc_isRounded m .product (Exact.represents_signed hmag (fpMagnitude_mul a b).ge (fun _ => fpMagnitude_mul a b)
    fun h => absurd h Bool.false_ne_true)

/-- A quotient of natural numbers, over the reals: its whole part, and whether there is a rest. -/
theorem nat_div_bounds (n : Nat) {b : Nat} (hb : 0 < b) :
    ((n / b : Nat) : ℝ) ≤ n / b ∧ (n / b : ℝ) < (n / b : Nat) + 1 ∧ (n % b = 0 ↔ (n / b : ℝ) = (n / b : Nat)) := by
  have hb' : (0 : ℝ) < b := Nat.cast_pos.2 hb
  have parts : ((n / b : Nat) : ℝ) * b + (n % b : Nat) = n := by exact_mod_cast Nat.div_add_mod' n b
  have rest : ((n % b : Nat) : ℝ) < b := Nat.cast_lt.2 (Nat.mod_lt n hb)
  have rest' : (0 : ℝ) ≤ (n % b : Nat) := Nat.cast_nonneg _
  rw [le_div_iff₀ hb', div_lt_iff₀ hb', div_eq_iff hb'.ne', ← Nat.cast_eq_zero (R := ℝ)]
  exact ⟨by linarith, by linarith, ⟨fun h => by linarith, fun h => by linarith⟩⟩

theorem fpMagnitude_div (a b : Word) : fpMagnitude a / fpMagnitude b =
    ((fpSig a <<< 32 : Nat) / fpSig b : ℝ) * 2 ^ (fpScale a - fpScale b - 32) := by
  have hsig : (fpSig b : ℝ) ≠ 0 := (Nat.cast_pos.2 (fpSig_pos b)).ne'
  rw [fpMagnitude, fpMagnitude, Nat.shiftLeft_eq, zpow_sub₀ two_ne_zero, zpow_sub₀ two_ne_zero]
  have := (two_zpow_pos (fpScale b)).ne'
  push_cast
  field_simp
  norm_num

theorem elemDiv_isRounded (m : Rounding) (ha : fpClass a = .norm) (hb : fpClass b = .norm) :
    (elemDiv m a b).IsRounded m .product (fpValue a / fpValue b) := by
  have result : elemDiv m a b = elemCalc m .product
      { neg := fpSign a != fpSign b, mag := (fpSig a <<< 32) / fpSig b, exp := fpScale a - fpScale b - 32,
        lost := decide ((fpSig a <<< 32) % fpSig b ≠ 0) } := by
    simp only [elemDiv, fpHuge_norm ha, fpHuge_norm hb, fpTiny_norm ha, fpTiny_norm hb, Bool.false_eq_true, if_false]
  have hwide : 16777216 ≤ (fpSig a <<< 32) / fpSig b := by
    rw [Nat.shiftLeft_eq, Nat.le_div_iff_mul_le (fpSig_pos b)]
    have := (fpSig_bounds a).1
    have := (fpSig_bounds b).2
    omega
  obtain ⟨hlow, hhigh, hexact⟩ := nat_div_bounds (fpSig a <<< 32) (fpSig_pos b)
  have hunit := two_zpow_pos (fpScale a - fpScale b - 32)
  rw [fpValue_eq, fpValue_eq, signed_div_signed, fpMagnitude_div, result]
  have hmag : (fpSig a <<< 32) / fpSig b ≠ 0 := by omega
  refine elemCalc_isRounded m .product (Exact.represents_signed hmag (mul_le_mul_of_nonneg_right hlow hunit.le)
    (fun h => ?_) fun h => ⟨hwide, mul_lt_mul_of_pos_right (lt_of_le_of_ne hlow fun he => ?_) hunit,
      mul_lt_mul_of_pos_right hhigh hunit⟩)
  · rw [hexact.1 (by simpa using h)]
  · simp [hexact.2 he.symm] at h

/-! ## Multiply-add -/

/-- The exact product as an integer and an exponent, and with it the addend when it is a number (R1165). -/
def exactFma (a b d : Word) (subD : Bool) : Int × Int :=
  if fpTiny d then (withSign (fpSign a != fpSign b) (fpSig a * fpSig b), fpScale a + fpScale b)
  else alignedSum (withSign (fpSign a != fpSign b) (fpSig a * fpSig b)) (fpScale a + fpScale b)
    (withSign (fpSign d != subD) (fpSig d)) (fpScale d)

theorem product_value (a b : Word) :
    ((withSign (fpSign a != fpSign b) (fpSig a * fpSig b) : Int) : ℝ) * 2 ^ (fpScale a + fpScale b) =
      fpValue a * fpValue b := by
  rw [cast_withSign, signed_mul, ← fpMagnitude_mul, fpValue_eq, fpValue_eq, signed_mul_signed_ne]

theorem exactFma_tiny (a b : Word) {d : Word} (hd : fpTiny d = true) (subD : Bool) :
    ((exactFma a b d subD).1 : ℝ) * 2 ^ (exactFma a b d subD).2 = fpValue a * fpValue b := by
  rw [exactFma, if_pos hd, product_value]

theorem signed_ne (s t : Bool) (x : ℝ) : signed (s != t) x = if t then -signed s x else signed s x := by
  cases s <;> cases t <;> simp [signed]

theorem exactFma_norm (a b : Word) {d : Word} (hd : fpClass d = .norm) (subD : Bool) :
    ((exactFma a b d subD).1 : ℝ) * 2 ^ (exactFma a b d subD).2 =
      fpValue a * fpValue b + if subD then -(fpValue d : ℝ) else fpValue d := by
  rw [exactFma, if_neg (by simp [fpTiny_norm hd]), alignedSum_value, product_value, cast_withSign, signed_mul,
    fpValue_eq d, ← signed_ne]
  rfl

/-- A multiply-add of numbers whose addend is no infinity and no NaN (R1165). -/
theorem elemFma_norm (m : Rounding) (ha : fpClass a = .norm) (hb : fpClass b = .norm) (hd : fpHuge d = false)
    (subD negRes : Bool) :
    elemFma m a b d subD negRes =
      if (exactFma a b d subD).1 = 0 then
        plainElement (fpZero (zeroSum m (fpSign a != fpSign b) (fpSign d != subD)) ^^^ when negRes (oneBit 0)) (fpSpecial d)
      else if fpSpecial d then
        plainElement (elemCalc m (if negRes then .negated else .sum)
          (exactOf (if negRes then -(exactFma a b d subD).1 else (exactFma a b d subD).1) (exactFma a b d subD).2)).v true
      else elemCalc m (if negRes then .negated else .sum)
        (exactOf (if negRes then -(exactFma a b d subD).1 else (exactFma a b d subD).1) (exactFma a b d subD).2) := by
  simp only [elemFma, fpSpecial_norm ha, fpSpecial_norm hb, fpHuge_norm ha, fpHuge_norm hb, fpTiny_norm ha, fpTiny_norm hb,
    hd, Bool.or_self, Bool.false_or, Bool.false_eq_true, if_false]
  rfl

/-- A multiply-add whose exact result is not zero, without an invalid operand. -/
theorem elemFma_isRounded (m : Rounding) (ha : fpClass a = .norm) (hb : fpClass b = .norm) (hd : fpHuge d = false)
    (hd' : fpSpecial d = false) (subD negRes : Bool) {x : ℝ}
    (value : ((exactFma a b d subD).1 : ℝ) * 2 ^ (exactFma a b d subD).2 = x) (hx : x ≠ 0) :
    (elemFma m a b d subD negRes).IsRounded m (if negRes then .negated else .sum) (if negRes then -x else x) := by
  have hz : (exactFma a b d subD).1 ≠ 0 := fun h0 => hx (by rw [← value, h0, Int.cast_zero, zero_mul])
  rw [elemFma_norm m ha hb hd, if_neg hz, hd', if_neg Bool.false_ne_true]
  refine elemCalc_isRounded m _ (exactOf_represents ?_ ?_)
  · cases negRes <;> simpa using hz
  · rw [← value]
    cases negRes <;> simp

theorem fpZero_xor (s c : Bool) : fpZero s ^^^ when c (oneBit 0) = fpZero (s != c) := by
  cases s <;> cases c <;> decide

/-- A multiply-add whose exact result is zero. -/
theorem elemFma_zero (m : Rounding) (ha : fpClass a = .norm) (hb : fpClass b = .norm) (hd : fpClass d = .norm)
    (subD negRes : Bool) (h : (fpValue a * fpValue b + if subD then -(fpValue d : ℝ) else fpValue d) = 0) :
    elemFma m a b d subD negRes = plainElement (fpZero ((m == .down) != negRes)) false := by
  have hz : (exactFma a b d subD).1 = 0 := by
    have value := (exactFma_norm a b hd subD).trans h
    exact_mod_cast (mul_eq_zero.1 value).resolve_right (two_zpow_pos _).ne'
  rw [fpValue_eq a, fpValue_eq b, fpValue_eq d, signed_mul_signed_ne, ← signed_ne] at h
  have hne := sign_ne_of_sum_zero (mul_pos (fpMagnitude_pos a) (fpMagnitude_pos b)) (fpMagnitude_pos d) h
  rw [elemFma_norm m ha hb (fpHuge_norm hd), if_pos hz, fpSpecial_norm hd, zeroSum_of_ne m hne, fpZero_xor]

/-! ## Square root -/

/-- The integer square root, bit by bit: what is found so far is at most the root, and less than the next place below it. -/
theorem sqrtBits_spec (n k r : Nat) (low : r * r ≤ n) (high : n < (r + 2 ^ k) * (r + 2 ^ k)) :
    sqrtBits n k r * sqrtBits n k r ≤ n ∧ n < (sqrtBits n k r + 1) * (sqrtBits n k r + 1) := by
  induction k generalizing r with
  | zero => exact ⟨low, high⟩
  | succ k ih =>
    rw [sqrtBits]
    split
    case isTrue h =>
      refine ih _ h ?_
      rw [show r + 2 ^ k + 2 ^ k = r + 2 ^ (k + 1) by ring]
      exact high
    case isFalse h => exact ih r low (not_le.1 h)

/-- The radicand of ElemSqrt: 64 or 65 bits, with an even exponent. -/
def radicand (a : Word) : Nat := (if fpScale a % 2 != 0 then 2 * fpSig a else fpSig a) <<< 40

/-- Half the exponent of the radicand. -/
def rootScale (a : Word) : Int := ((if fpScale a % 2 != 0 then fpScale a - 1 else fpScale a) - 40) / 2

theorem radicand_eq (a : Word) : radicand a = (if fpScale a % 2 != 0 then 2 * fpSig a else fpSig a) * 2 ^ 40 := by
  unfold radicand
  exact Nat.shiftLeft_eq _ _

theorem radicand_value (a : Word) : fpMagnitude a = radicand a * ((2 : ℝ) ^ rootScale a * 2 ^ rootScale a) := by
  rw [← two_zpow_add, fpMagnitude, radicand_eq, rootScale]
  have place : (1099511627776 : ℝ) = 2 ^ (40 : Int) := by norm_num
  by_cases hodd : fpScale a % 2 = 0
  · have heven : (fpScale a - 40) / 2 + (fpScale a - 40) / 2 = fpScale a - 40 := by omega
    simp only [hodd, bne_self_eq_false, Bool.false_eq_true, if_false, heven]
    push_cast
    rw [place, mul_assoc, ← two_zpow_add]
    ring_nf
  · have heven : (fpScale a - 1 - 40) / 2 + (fpScale a - 1 - 40) / 2 = fpScale a - 1 - 40 := by omega
    simp only [bne_iff_ne.2 hodd, if_true, heven]
    push_cast
    rw [place, mul_assoc, ← two_zpow_add, show 40 + (fpScale a - 1 - 40) = fpScale a - 1 by ring,
      zpow_sub_one₀ two_ne_zero]
    ring

theorem radicand_bounds (a : Word) : 2 ^ 63 ≤ radicand a ∧ radicand a < 2 ^ 65 := by
  obtain ⟨hlow, hhigh⟩ := fpSig_bounds a
  rw [radicand_eq]
  split <;> omega

theorem sqrt_fpMagnitude (a : Word) : Real.sqrt (fpMagnitude a) = Real.sqrt (radicand a) * 2 ^ rootScale a := by
  rw [radicand_value, Real.sqrt_mul (Nat.cast_nonneg _), Real.sqrt_mul_self (two_zpow_pos _).le]

/-- An integer square root, over the reals: its whole part, and whether it is exact. -/
theorem sqrt_bounds {n r : Nat} (low : r * r ≤ n) (high : n < (r + 1) * (r + 1)) :
    (r : ℝ) ≤ Real.sqrt n ∧ Real.sqrt n < r + 1 ∧ (r * r = n ↔ Real.sqrt n = r) := by
  refine ⟨Real.le_sqrt_of_sq_le ?_, (Real.sqrt_lt' (by positivity)).2 ?_, fun h => ?_, fun h => ?_⟩
  · rw [sq]
    exact_mod_cast low
  · rw [sq]
    exact_mod_cast high
  · rw [← h, Nat.cast_mul, Real.sqrt_mul_self (Nat.cast_nonneg r)]
  · have := Real.mul_self_sqrt (Nat.cast_nonneg (α := ℝ) n)
    rw [h] at this
    exact_mod_cast this

theorem elemSqrt_isRounded (m : Rounding) (ha : fpClass a = .norm) (hs : fpSign a = false) :
    (elemSqrt m a).IsRounded m .sum (Real.sqrt (fpValue a)) := by
  have result : elemSqrt m a = elemCalc m .sum
      { neg := false, mag := sqrtBits (radicand a) 34 0, exp := rootScale a,
        lost := decide (sqrtBits (radicand a) 34 0 * sqrtBits (radicand a) 34 0 ≠ radicand a) } := by
    rw [elemSqrt, ha]
    simp only [hs, Bool.false_eq_true, if_false]
    rfl
  obtain ⟨hbig, hfits⟩ := radicand_bounds a
  obtain ⟨hlow, hhigh⟩ := sqrtBits_spec (radicand a) 34 0 (Nat.zero_le _) (by omega)
  have hunit := two_zpow_pos (rootScale a)
  have value : Real.sqrt (fpValue a) = signed false (Real.sqrt (radicand a) * 2 ^ rootScale a) := by
    rw [fpValue_eq, hs, ← sqrt_fpMagnitude]
    rfl
  rw [value, result]
  generalize sqrtBits (radicand a) 34 0 = r at hlow hhigh ⊢
  generalize radicand a = n at *
  have hwide : 16777216 ≤ r := by
    by_contra hsmall
    have : (r + 1) * (r + 1) ≤ 16777216 * 16777216 := Nat.mul_le_mul (by omega) (by omega)
    omega
  have hmag : r ≠ 0 := by omega
  obtain ⟨below, above, whole⟩ := sqrt_bounds hlow hhigh
  refine elemCalc_isRounded m .sum (Exact.represents_signed (r := ⟨false, r, rootScale a, _⟩) hmag
    (mul_le_mul_of_nonneg_right below hunit.le) (fun h => ?_) fun h => ⟨hwide,
      mul_lt_mul_of_pos_right (lt_of_le_of_ne below fun he => ?_) hunit, mul_lt_mul_of_pos_right above hunit⟩)
  · rw [whole.1 (by simpa using h)]
  · simp [whole.2 he.symm] at h

theorem elemSqrt_negative (m : Rounding) (ha : fpClass a = .norm) (hs : fpSign a = true) :
    elemSqrt m a = plainElement 0x80000000 true := by
  rw [elemSqrt, ha]
  simp only [hs, if_true]
  rfl

end

end Sys2Proof.Machine

namespace Sys2Proof.Proofs
open Sys2Proof.Machine

/-- Settles O52: each operation calculates a record of its exact result and rounds it. -/
theorem elementArithmetic : Obligations.ElementArithmetic := by
  unfold Obligations.ElementArithmetic
  intro m a b d subD negRes ha hb hd
  extract_lets zero sum
  have zero_eq (s : Bool) : plainElement (fpZero s) false = zero s := by rw [fpZero_eq]
  have sum_cast : ((sum : Rat) : ℝ) = fpValue a * fpValue b + if subD then -(fpValue d : ℝ) else fpValue d := by
    simp only [sum]
    split <;> push_cast <;> rfl
  have negated_cast : (((if negRes then -sum else sum) : Rat) : ℝ) = if negRes then -(sum : ℝ) else sum := by
    split <;> push_cast <;> rfl
  refine ⟨fun h => ?_, fun h => ?_, fun h => ?_, fun h => ?_, ?_, ?_, fun h => ?_, fun h => ?_,
    elemSqrt_isRounded m ha, elemSqrt_negative m ha⟩
  · push_cast
    exact elemAdd_isRounded m ha hb (by exact_mod_cast h)
  · exact (elemAdd_zero m ha hb (by exact_mod_cast h)).trans (zero_eq _)
  · push_cast
    exact elemSub_isRounded m ha hb (by exact_mod_cast h)
  · exact (elemSub_zero m ha hb (by exact_mod_cast h)).trans (zero_eq _)
  · push_cast
    exact elemMul_isRounded m ha hb
  · push_cast
    exact elemDiv_isRounded m ha hb
  · rw [negated_cast]
    exact elemFma_isRounded m ha hb (fpHuge_norm hd) (fpSpecial_norm hd) subD negRes
      ((exactFma_norm a b hd subD).trans sum_cast.symm) (Rat.cast_ne_zero.2 h)
  · exact (elemFma_zero m ha hb hd subD negRes (sum_cast.symm.trans (Rat.cast_eq_zero.2 h))).trans (zero_eq _)

end Sys2Proof.Proofs
end

section
/-! SUPPORT. The conversions of numbers: from and to integers and fractions, from and to half precision
(spec/45_efpu_scalar.md R1102, R1169 to R1172). -/

namespace Sys2Proof.Machine

/-! ## From an integer or fraction -/

/-- A number far from both ends of the exponent range neither overflows nor underflows. -/
theorem roundSingle_moderate (m : Rounding) {r : Exact} {x : ℝ} (h : r.Represents x) (low : (2 : ℝ) ^ (-126 : Int) ≤ |x|)
    (high : |x| < (2 : ℝ) ^ (127 : Int)) :
    (roundSingle m r).ovf = false ∧ (roundSingle m r).unf = false ∧ fpClass (roundSingle m r).t = .norm := by
  obtain ⟨hlead, hlead'⟩ := h.leading
  rw [two_zpow_le_iff hlead hlead'] at low
  rw [← not_le, two_zpow_le_iff hlead hlead', not_le] at high
  obtain ⟨-, -, hexp, hexp', -⟩ := h.roundedPair_spec m
  rw [roundSingle_eq]
  refine ⟨decide_eq_false (by omega), decide_eq_false (by omega), ?_⟩
  rw [if_neg (by omega)]
  exact fpClass_fpPack _ _ low (by omega)

/-- The integer or fraction that a word stands for, as an integer. -/
def FixedKind.integer (k : FixedKind) (b : Word) : Int := if k.signed then b.toInt else b.toNat

theorem FixedKind.integer_abs (k : FixedKind) (b : Word) : |k.integer b| ≤ 2 ^ 32 := by
  have h := b.isLt
  have hi := b.toInt_lt
  have lo := b.le_toInt
  rw [abs_le]
  unfold FixedKind.integer
  split <;> omega

theorem elemFromInt_zero (m : Rounding) {k : FixedKind} {b : Word} (h : k.integer b = 0) :
    elemFromInt m k b = plainElement 0 false := if_pos h

theorem elemFromInt_nonzero (m : Rounding) {k : FixedKind} {b : Word} (h : k.integer b ≠ 0) :
    elemFromInt m k b =
      { plainElement (roundSingle m (exactOf (k.integer b) (-(k.scale : Int)))).v false with
        t := (roundSingle m (exactOf (k.integer b) (-(k.scale : Int)))).t
        g := (roundSingle m (exactOf (k.integer b) (-(k.scale : Int)))).g
        x := (roundSingle m (exactOf (k.integer b) (-(k.scale : Int)))).x } := if_neg h

theorem FixedKind.scale_le (k : FixedKind) : k.scale ≤ 32 := by cases k <;> decide

/-- A conversion from a non-zero integer or fraction rounds it to 24 significant bits (R1169). -/
theorem elemFromInt_spec (m : Rounding) {k : FixedKind} {b : Word} (h : k.integer b ≠ 0) {x : ℝ}
    (hx : x = k.integer b / 2 ^ k.scale) :
    (elemFromInt m k b).Flagless ∧ fpClass (elemFromInt m k b).v = .norm ∧ RoundsTo 24 m x (fpValue (elemFromInt m k b).v) ∧
      (((elemFromInt m k b).g = true ∨ (elemFromInt m k b).x = true) ↔ (fpValue (elemFromInt m k b).v : ℝ) ≠ x) ∧
      fpClass (elemFromInt m k b).t = .norm ∧ RoundsTo 24 .towardZero x (fpValue (elemFromInt m k b).t) := by
  have value : x = k.integer b * 2 ^ (-(k.scale : Int)) := by
    rw [hx, zpow_neg, zpow_natCast, div_eq_mul_inv]
  have represents := exactOf_represents h value
  have hscale := k.scale_le
  have habs : |x| = ((|k.integer b| : Int) : ℝ) * 2 ^ (-(k.scale : Int)) := by
    rw [value, abs_mul, abs_of_pos (two_zpow_pos _), Int.cast_abs]
  have low : (2 : ℝ) ^ (-126 : Int) ≤ |x| := by
    have one : (1 : ℝ) ≤ (|k.integer b| : Int) := by exact_mod_cast Int.one_le_abs h
    calc (2 : ℝ) ^ (-126 : Int) ≤ 2 ^ (-(k.scale : Int)) := zpow_le_zpow_right₀ one_le_two (by omega)
      _ ≤ |x| := habs ▸ le_mul_of_one_le_left (two_zpow_pos _).le one
  have high : |x| < (2 : ℝ) ^ (127 : Int) := by
    have most : ((|k.integer b| : Int) : ℝ) ≤ 2 ^ (32 : Int) := by exact_mod_cast k.integer_abs b
    have unit : (2 : ℝ) ^ (-(k.scale : Int)) ≤ 1 := zpow_le_one_of_nonpos₀ one_le_two (by omega)
    calc |x| ≤ ((|k.integer b| : Int) : ℝ) := habs ▸ mul_le_of_le_one_right (by exact_mod_cast abs_nonneg _) unit
      _ ≤ 2 ^ (32 : Int) := most
      _ < 2 ^ (127 : Int) := zpow_lt_zpow_right₀ one_lt_two (by decide)
  obtain ⟨hovf, hunf, htnorm⟩ := roundSingle_moderate m represents low high
  obtain ⟨y, hy, -, -, hnormal⟩ := roundSingle_spec m represents
  obtain ⟨hnorm, hvalue, hexact, htrunc⟩ := hnormal hovf hunf
  rw [elemFromInt_nonzero m h]
  exact ⟨⟨rfl, rfl, rfl, rfl⟩, hnorm, hvalue.symm ▸ hy, hvalue.symm ▸ hexact, htnorm, htrunc low⟩

/-! ## To an integer or fraction -/

/-- The magnitude of a number in units of the last place of a kind, cut at that place (R1170). -/
def toIntCut (k : FixedKind) (b : Word) : Nat × Bool × Bool :=
  if 0 ≤ fpScale b + k.scale then (fpSig b <<< (fpScale b + k.scale).toNat, false, false)
  else cut (fpSig b) (-(fpScale b + k.scale)).toNat false

theorem toIntCut_cutsTo (k : FixedKind) (b : Word) : CutsTo (fpMagnitude b * 2 ^ k.scale) 1 (toIntCut k b) := by
  have magnitude : fpMagnitude b * 2 ^ k.scale = fpSig b * 2 ^ (fpScale b + k.scale) := by
    rw [fpMagnitude, two_zpow_add, zpow_natCast, mul_assoc]
  rw [magnitude]
  unfold toIntCut
  generalize fpScale b + k.scale = e
  split
  case isTrue h =>
    refine CutsTo.whole one_pos ?_
    rw [Nat.shiftLeft_eq, mul_one]
    push_cast
    rw [← zpow_natCast, Int.toNat_of_nonneg h]
  case isFalse h =>
    have hcut := (cutsTo_cut (k := (-e).toNat) (le_refl (fpSig b : ℝ)) (by linarith) (by simp) fun _ => rfl).scale
      (two_zpow_pos e)
    have unit : (2 : ℝ) ^ (-e).toNat * 2 ^ e = 1 := by
      rw [← zpow_natCast, Int.toNat_of_nonneg (by omega), ← two_zpow_add, neg_add_cancel, zpow_zero]
    rwa [unit] at hcut

/-- The least and the greatest integer of a kind's format. -/
def FixedKind.least (k : FixedKind) : Int := if k.signed then -2147483648 else 0
def FixedKind.greatest (k : FixedKind) : Int := if k.signed then 2147483647 else 4294967295

/-- The limit on the side of a sign. -/
def FixedKind.limit (k : FixedKind) (s : Bool) : Word :=
  if k.signed then (if s then 0x80000000 else 0x7FFFFFFF) else 0xFFFFFFFF

/-- A magnitude exceeds the limit of its sign when the number is not in the format, and the limit is the nearest there. -/
theorem FixedKind.limit_lt_iff {k : FixedKind} {s : Bool} (hs : k.signed = true ∨ s = false) (n : Nat) :
    (k.limit s).toNat < n ↔ k.greatest < withSign s n ∨ withSign s n < k.least := by
  unfold FixedKind.limit FixedKind.greatest FixedKind.least
  cases s <;> cases hk : k.signed
  case true.false => simp [hk] at hs
  all_goals
    simp only [withSign, if_true, if_false, Bool.false_eq_true, BitVec.reduceToNat]
    omega

theorem FixedKind.limit_greatest {k : FixedKind} {s : Bool} {n : Nat} (hs : k.signed = true ∨ s = false)
    (h : k.greatest < withSign s n) : k.limit s = wordOf k.greatest := by
  unfold FixedKind.greatest at h
  unfold FixedKind.limit FixedKind.greatest
  cases s <;> cases hk : k.signed
  case true.false => simp [hk] at hs
  case true.true =>
    simp only [hk, withSign, if_true] at h
    omega
  all_goals rfl

theorem FixedKind.limit_least {k : FixedKind} {s : Bool} {n : Nat} (hs : k.signed = true ∨ s = false)
    (h : withSign s n < k.least) : k.limit s = wordOf k.least := by
  unfold FixedKind.least at h
  unfold FixedKind.limit FixedKind.least
  cases s <;> cases hk : k.signed
  case true.false => simp [hk] at hs
  case true.true => rfl
  all_goals
    simp only [hk, withSign, if_true, if_false, Bool.false_eq_true] at h
    omega

theorem elemToInt_negative (m : Rounding) {k : FixedKind} {b : Word} (hb : fpClass b = .norm) (hk : k.signed = false)
    (hs : fpSign b = true) : elemToInt m k b = plainElement 0 false := by
  simp only [elemToInt, fpTiny_norm hb, fpSpecial_norm hb, hk, hs, Bool.not_false, Bool.and_self, Bool.false_eq_true,
    if_false, if_true]

/-- A conversion of a number that its format can hold the sign of. -/
theorem elemToInt_norm (m : Rounding) {k : FixedKind} {b : Word} (hb : fpClass b = .norm)
    (hs : k.signed = true ∨ fpSign b = false) :
    elemToInt m k b =
      if (k.limit (fpSign b)).toNat < roundedSig m (fpSign b) (toIntCut k b) then plainElement (k.limit (fpSign b)) true
      else
        { plainElement (wordOf (withSign (fpSign b) (roundedSig m (fpSign b) (toIntCut k b)))) false with
          t := wordOf (withSign (fpSign b) (toIntCut k b).1), g := (toIntCut k b).2.1, x := (toIntCut k b).2.2 } := by
  have held : (!k.signed && fpSign b) = false := by
    rcases hs with h | h <;> simp [h]
  simp only [elemToInt, fpTiny_norm hb, held, hb, Bool.false_eq_true, if_false]
  rfl

/-- A conversion of a number to an integer or fraction rounds it to an integer of the format, or delivers the nearest limit
(R1170). -/
theorem elemToInt_spec (m : Rounding) {k : FixedKind} {b : Word} (hb : fpClass b = .norm)
    (hs : k.signed = true ∨ fpSign b = false) :
    ∃ z cut : Int, Nearest m ((fpValue b : ℝ) * 2 ^ k.scale) z 1 (z % 2 = 0) ∧
      Nearest .towardZero ((fpValue b : ℝ) * 2 ^ k.scale) cut 1 (cut % 2 = 0) ∧
      (k.least ≤ z → z ≤ k.greatest → (elemToInt m k b).v = wordOf z ∧ (elemToInt m k b).t = wordOf cut ∧
        (elemToInt m k b).Flagless ∧
        (((elemToInt m k b).g = true ∨ (elemToInt m k b).x = true) ↔ (z : ℝ) ≠ (fpValue b : ℝ) * 2 ^ k.scale)) ∧
      (k.greatest < z → elemToInt m k b = plainElement (wordOf k.greatest) true) ∧
      (z < k.least → elemToInt m k b = plainElement (wordOf k.least) true) := by
  have hcut := toIntCut_cutsTo k b
  have value : (fpValue b : ℝ) * 2 ^ k.scale = signed (fpSign b) (fpMagnitude b * 2 ^ k.scale) := by
    rw [fpValue_eq, signed_mul]
  have nearest (m' : Rounding) := hcut.nearest one_pos m' (fpSign b)
  have limit_iff := FixedKind.limit_lt_iff hs (roundedSig m (fpSign b) (toIntCut k b))
  simp only [mul_one, ← cast_withSign, ← value] at nearest
  refine ⟨_, _, nearest m, nearest .towardZero, fun hlow hhigh => ?_, fun hhigh => ?_, fun hlow => ?_⟩
  · rw [elemToInt_norm m hb hs, if_neg fun h => (limit_iff.1 h).elim hhigh.not_gt hlow.not_gt]
    refine ⟨rfl, rfl, ⟨rfl, rfl, rfl, rfl⟩, (hcut.inexact_iff one_pos m (fpSign b)).trans ?_⟩
    rw [mul_one, value, cast_withSign, ne_eq, ne_eq, signed_inj]
  · rw [elemToInt_norm m hb hs, if_pos (limit_iff.2 (.inl hhigh)), FixedKind.limit_greatest hs hhigh]
  · rw [elemToInt_norm m hb hs, if_pos (limit_iff.2 (.inr hlow)), FixedKind.limit_least hs hlow]

/-! ## Half precision numbers -/

/-- The fraction of a half-precision number. -/
def halfFrac (f : Half) : Nat := (f.extractLsb' 0 10).toNat

/-- The fields of a half word put together from fields. -/
theorem halfFields_append (s : Bool) (e : BitVec 5) (t : BitVec 10) :
    (BitVec.ofBool s ++ e ++ t).getMsbD 0 = s ∧ halfExp (BitVec.ofBool s ++ e ++ t) = e.toNat ∧
      halfFrac (BitVec.ofBool s ++ e ++ t) = t.toNat := by
  refine ⟨?_, ?_, ?_⟩
  · simp only [BitVec.getMsbD_append]
    cases s <;> rfl
  · rw [halfExp, BitVec.extractLsb'_toNat, toNat_append_eq, toNat_append_eq, Nat.shiftRight_eq_div_pow]
    have he := e.isLt
    have ht := t.isLt
    omega
  · rw [halfFrac, BitVec.extractLsb'_toNat, toNat_append_eq, Nat.shiftRight_zero]
    have ht := t.isLt
    omega

theorem halfValue_eq (f : Half) :
    (halfValue f : ℝ) = signed (f.getMsbD 0) ((1024 + halfFrac f : Nat) * 2 ^ ((halfExp f : Int) - 25)) := by
  rw [halfValue, halfFrac]
  push_cast
  cases f.getMsbD 0 <;> simp only [signed, if_true, if_false, Bool.false_eq_true] <;> ring

/-- A half-precision number put together from its sign, exponent and significand (R1102). -/
theorem halfPack_spec (s : Bool) {e : Int} {t : Nat} (he : -14 ≤ e) (he' : e ≤ 15) (low : 2 ^ 10 ≤ t) (high : t < 2 ^ 11) :
    ∃ g : Half, halfPack s e t = 0#16 ++ g ∧ 1 ≤ halfExp g ∧ halfExp g ≤ 30 ∧
      (halfValue g : ℝ) = signed s (t * 2 ^ (e - (10 : Nat))) := by
  obtain ⟨hsign, hexp, hfrac⟩ := halfFields_append s (BitVec.ofInt 5 (e + 15)) (BitVec.ofNat 10 t)
  have exponent : ((BitVec.ofInt 5 (e + 15)).toNat : Int) = e + 15 := by
    rw [BitVec.toNat_ofInt]
    omega
  have sig : 1024 + (BitVec.ofNat 10 t).toNat = t := by
    rw [BitVec.toNat_ofNat]
    omega
  refine ⟨_, rfl, by omega, by omega, ?_⟩
  rw [halfValue_eq, hsign, hexp, hfrac, sig, exponent]
  congr 3
  push_cast
  ring

/-- A normal half-precision number is a single-precision Norm of the same value (R1171). -/
theorem elemFromHalf_norm {f : Half} (h : 1 ≤ halfExp f) (h' : halfExp f ≤ 30) :
    ∃ v, elemFromHalf f = plainElement v false ∧ fpClass v = .norm ∧ fpValue v = halfValue f := by
  have hfrac : halfFrac f < 2 ^ 10 := (f.extractLsb' 0 10).isLt
  have result : elemFromHalf f = plainElement
      (BitVec.ofBool (f.getMsbD 0) ++ BitVec.ofNat 8 (halfExp f + 112) ++ f.extractLsb' 0 10 ++ 0#13) false :=
    (if_neg (show halfExp f ≠ 0 by omega)).trans (if_neg (show halfExp f ≠ 31 by omega))
  have number :
      (BitVec.ofBool (f.getMsbD 0) ++ BitVec.ofNat 8 (halfExp f + 112) ++ f.extractLsb' 0 10 ++ 0#13 : Word).toNat =
        (f.getMsbD 0).toNat * 2 ^ 31 + (halfExp f + 112) * 2 ^ 23 + halfFrac f * 2 ^ 13 := by
    rw [toNat_append_eq, toNat_append_eq, toNat_append_eq, BitVec.toNat_ofBool, BitVec.toNat_ofNat, BitVec.toNat_ofNat,
      Nat.mod_eq_of_lt (show halfExp f + 112 < 2 ^ 8 by omega), halfFrac]
    ring
  obtain ⟨hsign, hexp, hfrac'⟩ := fields_of_toNat (by omega) (by omega) number
  refine ⟨_, result, fpClass_norm_iff.2 (by omega), Rat.cast_injective (α := ℝ) ?_⟩
  have place : (2 : ℝ) ^ ((halfExp f : Int) - 25) = 2 ^ 13 * 2 ^ (((halfExp f + 112 : Nat) : Int) - 150) := by
    rw [show ((2 : ℝ) ^ 13) = 2 ^ (13 : Int) by norm_num, ← two_zpow_add]
    congr 1
    push_cast
    ring
  rw [fpValue_eq, halfValue_eq, hsign, fpMagnitude, fpSig, fpScale, hexp, hfrac', place]
  congr 1
  push_cast
  ring

/-! ## To half precision -/

/-- The significand of a number cut to 11 bits (R1172). -/
def toHalfCut (b : Word) : Nat × Bool × Bool := cut (fpSig b) 13 false

/-- The unbiased exponent of a number. -/
def unbiasedExp (b : Word) : Int := (fpExp b : Int) - 127

/-- The rounded significand of a half precision result and its exponent. -/
def toHalfPair (m : Rounding) (b : Word) : Nat × Int :=
  carried 11 (roundedSig m (fpSign b) (toHalfCut b)) (unbiasedExp b)

theorem elemToHalf_norm (m : Rounding) {b : Word} (hb : fpClass b = .norm) :
    elemToHalf m b =
      if 15 < (toHalfPair m b).2 then { plainElement (halfMax (fpSign b)) false with ovf := true }
      else if (toHalfPair m b).2 < -14 then { plainElement (halfZero (fpSign b)) false with unf := true }
      else
        { plainElement (halfPack (fpSign b) (toHalfPair m b).2 (toHalfPair m b).1) false with
          t := if unbiasedExp b < -14 then halfPack (fpSign b) (toHalfPair m b).2 (toHalfPair m b).1
            else halfPack (fpSign b) (unbiasedExp b) (toHalfCut b).1
          g := (toHalfCut b).2.1
          x := (toHalfCut b).2.2 } := by
  have pair : toHalfPair m b =
      (if roundedSig m (fpSign b) (toHalfCut b) == 2048 then 1024 else roundedSig m (fpSign b) (toHalfCut b),
        if roundedSig m (fpSign b) (toHalfCut b) == 2048 then unbiasedExp b + 1 else unbiasedExp b) := by
    unfold toHalfPair carried
    by_cases h : roundedSig m (fpSign b) (toHalfCut b) = 2048 <;> simp [h]
  rw [pair, elemToHalf, hb]
  rfl

theorem toHalfCut_cutsTo (b : Word) :
    CutsTo (fpMagnitude b) (2 ^ (unbiasedExp b - (10 : Nat))) (toHalfCut b) ∧
      2 ^ 10 ≤ (toHalfCut b).1 ∧ (toHalfCut b).1 < 2 ^ 11 := by
  obtain ⟨hlow, hhigh⟩ := fpSig_bounds b
  have hcut := (cutsTo_cut (k := 13) (le_refl (fpSig b : ℝ)) (by linarith) (by simp) fun _ => rfl).scale
    (two_zpow_pos (fpScale b))
  have unit : (2 : ℝ) ^ 13 * 2 ^ fpScale b = 2 ^ (unbiasedExp b - (10 : Nat)) := by
    rw [show ((2 : ℝ) ^ 13) = 2 ^ (13 : Int) by norm_num, ← two_zpow_add, fpScale, unbiasedExp]
    congr 1
    push_cast
    ring
  have whole : (toHalfCut b).1 = fpSig b / 2 ^ 13 := Nat.shiftRight_eq_div_pow _ _
  rw [unit] at hcut
  exact ⟨hcut, by omega, by omega⟩

theorem toHalfPair_spec (m : Rounding) (b : Word) :
    2 ^ 10 ≤ (toHalfPair m b).1 ∧ (toHalfPair m b).1 < 2 ^ 11 ∧
      unbiasedExp b ≤ (toHalfPair m b).2 ∧ (toHalfPair m b).2 ≤ unbiasedExp b + 1 ∧
      ((toHalfPair m b).1 : ℝ) * 2 ^ ((toHalfPair m b).2 - (10 : Nat)) =
        roundedSig m (fpSign b) (toHalfCut b) * 2 ^ (unbiasedExp b - (10 : Nat)) := by
  obtain ⟨-, low, high⟩ := toHalfCut_cutsTo b
  obtain ⟨hle, hle'⟩ := roundedSig_bounds m (fpSign b) (toHalfCut b)
  exact carried_spec (q := 10) (unbiasedExp b) (low.trans hle) (hle'.trans high)

/-- The number that a half precision result stands for before overflow and underflow. -/
noncomputable def toHalfValue (m : Rounding) (b : Word) : ℝ :=
  signed (fpSign b) ((toHalfPair m b).1 * 2 ^ ((toHalfPair m b).2 - (10 : Nat)))

theorem toHalfValue_roundsTo (m : Rounding) (b : Word) : RoundsTo 11 m (fpValue b) (toHalfValue m b) := by
  obtain ⟨hcut, low, high⟩ := toHalfCut_cutsTo b
  rw [toHalfValue, (toHalfPair_spec m b).2.2.2.2, fpValue_eq]
  exact hcut.roundsTo low high m (fpSign b)

theorem toHalfValue_inexact_iff (m : Rounding) (b : Word) :
    ((toHalfCut b).2.1 = true ∨ (toHalfCut b).2.2 = true) ↔ toHalfValue m b ≠ fpValue b := by
  rw [(toHalfCut_cutsTo b).1.inexact_iff (two_zpow_pos _) m (fpSign b), toHalfValue, (toHalfPair_spec m b).2.2.2.2,
    fpValue_eq, ne_eq, ne_eq, signed_inj]

theorem le_abs_toHalfValue_iff (m : Rounding) (b : Word) (k : Int) :
    (2 : ℝ) ^ k ≤ |toHalfValue m b| ↔ k ≤ (toHalfPair m b).2 := by
  obtain ⟨low, high, -⟩ := toHalfPair_spec m b
  have hlead := CutsTo.leading (CutsTo.whole (two_zpow_pos ((toHalfPair m b).2 - (10 : Nat))) rfl) low high
  have habs : |toHalfValue m b| = (toHalfPair m b).1 * 2 ^ ((toHalfPair m b).2 - (10 : Nat)) := by
    have := two_zpow_pos ((toHalfPair m b).2 - (10 : Nat))
    rw [toHalfValue, abs_signed, abs_of_nonneg (by positivity)]
  rw [habs, two_zpow_le_iff hlead.1 hlead.2]

theorem le_abs_fpValue_iff (b : Word) (k : Int) : (2 : ℝ) ^ k ≤ |(fpValue b : ℝ)| ↔ k ≤ unbiasedExp b := by
  obtain ⟨hcut, low, high⟩ := toHalfCut_cutsTo b
  obtain ⟨hlead, hlead'⟩ := hcut.leading low high
  rw [fpValue_eq, abs_signed, abs_of_pos (fpMagnitude_pos b), two_zpow_le_iff hlead hlead']

theorem elemToHalf_overflow (m : Rounding) {b : Word} (hb : fpClass b = .norm) (h : 15 < (toHalfPair m b).2) :
    elemToHalf m b = { plainElement (halfMax (fpSign b)) false with ovf := true } := by
  rw [elemToHalf_norm m hb, if_pos h]

theorem elemToHalf_underflow (m : Rounding) {b : Word} (hb : fpClass b = .norm) (h : (toHalfPair m b).2 < -14) :
    elemToHalf m b = { plainElement (halfZero (fpSign b)) false with unf := true } := by
  rw [elemToHalf_norm m hb, if_neg (by omega), if_pos h]

theorem elemToHalf_normal (m : Rounding) {b : Word} (hb : fpClass b = .norm) (h : (toHalfPair m b).2 ≤ 15)
    (h' : -14 ≤ (toHalfPair m b).2) :
    elemToHalf m b =
      { plainElement (halfPack (fpSign b) (toHalfPair m b).2 (toHalfPair m b).1) false with
        t := if unbiasedExp b < -14 then halfPack (fpSign b) (toHalfPair m b).2 (toHalfPair m b).1
          else halfPack (fpSign b) (unbiasedExp b) (toHalfCut b).1
        g := (toHalfCut b).2.1
        x := (toHalfCut b).2.2 } := by
  rw [elemToHalf_norm m hb, if_neg (by omega), if_neg (by omega)]

/-- The flags of a conversion to half precision, by the exponent after rounding. -/
theorem elemToHalf_flags (m : Rounding) {b : Word} (hb : fpClass b = .norm) :
    (elemToHalf m b).inv = false ∧ (elemToHalf m b).dbz = false ∧
      ((elemToHalf m b).ovf = true ↔ 15 < (toHalfPair m b).2) ∧
      ((elemToHalf m b).unf = true ↔ (toHalfPair m b).2 < -14) := by
  by_cases hbig : 15 < (toHalfPair m b).2
  · rw [elemToHalf_overflow m hb hbig]
    exact ⟨rfl, rfl, iff_of_true rfl hbig, iff_of_false Bool.false_ne_true (by omega)⟩
  by_cases hsmall : (toHalfPair m b).2 < -14
  · rw [elemToHalf_underflow m hb hsmall]
    exact ⟨rfl, rfl, iff_of_false Bool.false_ne_true hbig, iff_of_true rfl hsmall⟩
  · rw [elemToHalf_normal m hb (not_lt.1 hbig) (not_lt.1 hsmall)]
    exact ⟨rfl, rfl, iff_of_false Bool.false_ne_true hbig, iff_of_false Bool.false_ne_true hsmall⟩

theorem halfZero_eq (s : Bool) : halfZero s = if s then 0x8000 else 0 := by cases s <;> rfl

/-- The truncated result of a number that half precision can hold. -/
theorem toHalfCut_truncated {b : Word} (low : -14 ≤ unbiasedExp b) (high : unbiasedExp b ≤ 15) :
    ∃ g : Half, halfPack (fpSign b) (unbiasedExp b) (toHalfCut b).1 = 0#16 ++ g ∧ 1 ≤ halfExp g ∧ halfExp g ≤ 30 ∧
      RoundsTo 11 .towardZero (fpValue b) (halfValue g) := by
  obtain ⟨hcut, sigLow, sigHigh⟩ := toHalfCut_cutsTo b
  obtain ⟨g, hg, hexp, hexp', hvalue⟩ := halfPack_spec (fpSign b) low high sigLow sigHigh
  refine ⟨g, hg, hexp, hexp', ?_⟩
  rw [hvalue, fpValue_eq]
  exact hcut.roundsTo sigLow sigHigh .towardZero (fpSign b)

/-- A number to half precision (R1172): overflow, underflow or the rounded number. -/
theorem elemToHalf_spec (m : Rounding) {b : Word} (hb : fpClass b = .norm) :
    let half := elemToHalf m b
    half.inv = false ∧ half.dbz = false ∧ ∃ y, RoundsTo 11 m (fpValue b) y ∧
      (half.ovf = true ↔ (2 : ℝ) ^ (16 : Int) ≤ |y|) ∧ (half.unf = true ↔ |y| < (2 : ℝ) ^ (-14 : Int)) ∧
      (half.ovf = true → half.v = if fpSign b then 0xFBFF else 0x7BFF) ∧
      (half.unf = true → half.v = if fpSign b then 0x8000 else 0) ∧
      (half.ovf = false → half.unf = false → ∃ g : Half, half.v = 0#16 ++ g ∧ 1 ≤ halfExp g ∧ halfExp g ≤ 30 ∧
        (halfValue g : ℝ) = y ∧ ((half.g = true ∨ half.x = true) ↔ y ≠ fpValue b)) ∧
      (half.ovf = true ∨ half.unf = true → half.t = half.v ∧ half.g = false ∧ half.x = false) ∧
      (half.ovf = false → half.unf = false →
        (|(fpValue b : ℝ)| < (2 : ℝ) ^ (-14 : Int) → half.t = half.v) ∧
        ((2 : ℝ) ^ (-14 : Int) ≤ |(fpValue b : ℝ)| → ∃ g : Half, half.t = 0#16 ++ g ∧ 1 ≤ halfExp g ∧ halfExp g ≤ 30 ∧
          RoundsTo 11 .towardZero (fpValue b) (halfValue g))) := by
  intro half
  obtain ⟨hinv, hdbz, hovf, hunf⟩ := elemToHalf_flags m hb
  have normal (ho : half.ovf = false) (hu : half.unf = false) : (toHalfPair m b).2 ≤ 15 ∧ -14 ≤ (toHalfPair m b).2 :=
    ⟨not_lt.1 fun h => Bool.false_ne_true (ho.symm.trans (hovf.2 h)),
      not_lt.1 fun h => Bool.false_ne_true (hu.symm.trans (hunf.2 h))⟩
  obtain ⟨low, high, hexp, -⟩ := toHalfPair_spec m b
  refine ⟨hinv, hdbz, toHalfValue m b, toHalfValue_roundsTo m b, ?_, ?_, fun ho => ?_, fun hu => ?_, fun ho hu => ?_,
    fun h => ?_, fun ho hu => ⟨fun h => ?_, fun h => ?_⟩⟩
  · rw [hovf, le_abs_toHalfValue_iff]
    omega
  · rw [hunf, ← not_le (b := |_|), le_abs_toHalfValue_iff, not_le]
  · exact congrArg ElementResult.v (elemToHalf_overflow m hb (hovf.1 ho))
  · exact (congrArg ElementResult.v (elemToHalf_underflow m hb (hunf.1 hu))).trans (halfZero_eq _)
  · obtain ⟨most, least⟩ := normal ho hu
    obtain ⟨g, hg, hgexp, hgexp', hvalue⟩ := halfPack_spec (fpSign b) least most low high
    simp only [half, elemToHalf_normal m hb most least]
    exact ⟨g, hg, hgexp, hgexp', hvalue, toHalfValue_inexact_iff m b⟩
  · rcases h with ho | hu
    · simp only [half, elemToHalf_overflow m hb (hovf.1 ho), plainElement, and_self]
    · simp only [half, elemToHalf_underflow m hb (hunf.1 hu), plainElement, and_self]
  · rw [← not_le, le_abs_fpValue_iff, not_le] at h
    simp only [half, elemToHalf_normal m hb (normal ho hu).1 (normal ho hu).2, if_pos h, plainElement]
  · rw [le_abs_fpValue_iff] at h
    obtain ⟨most, least⟩ := normal ho hu
    simp only [half, elemToHalf_normal m hb most least, if_neg (not_lt.2 h)]
    exact toHalfCut_truncated h (by omega)

end Sys2Proof.Machine

namespace Sys2Proof.Proofs
open Sys2Proof.Machine

/-- Settles O53: one lemma for each conversion. -/
theorem elementConversions : Obligations.ElementConversions := by
  unfold Obligations.ElementConversions
  intro m k b f
  extract_lets n scale signed' low high from' to' half
  have hn : n = k.integer b := by cases k <;> rfl
  have hscale : scale = k.scale := by cases k <;> rfl
  have hsigned : signed' = k.signed := by cases k <;> rfl
  have hlow : low = k.least := by cases k <;> rfl
  have hhigh : high = k.greatest := by cases k <;> rfl
  clear_value n scale signed' low high
  subst hn hscale hsigned hlow hhigh
  exact ⟨elemFromInt_zero m, fun h => elemFromInt_spec m h rfl, elemToInt_negative m, elemToInt_spec m, elemFromHalf_norm,
    elemToHalf_spec m⟩

end Sys2Proof.Proofs
end

section
/-! SUPPORT. The element operations on infinities, NaNs, denormalized numbers and zeros, and that no arithmetic operation and
no conversion delivers one of the first three (spec/45_efpu_scalar.md R1103, R1160 to R1172). -/

namespace Sys2Proof.Machine

/-! ## Classes of operands -/

section
variable {x : Word}

theorem fpHuge_iff : fpHuge x = true ↔ fpClass x = .inf ∨ fpClass x = .nan := by simp [fpHuge]

theorem fpTiny_iff : fpTiny x = true ↔ fpClass x = .zero ∨ fpClass x = .denorm := by simp [fpTiny]

theorem fpSpecial_huge (h : fpHuge x = true) : fpSpecial x = true := by
  rcases fpHuge_iff.1 h with h | h <;> rw [fpSpecial, h] <;> rfl

theorem fpTiny_huge (h : fpHuge x = true) : fpTiny x = false := by
  rcases fpHuge_iff.1 h with h | h <;> rw [fpTiny, h] <;> rfl

theorem fpHuge_tiny (h : fpTiny x = true) : fpHuge x = false := by
  rcases fpTiny_iff.1 h with h | h <;> rw [fpHuge, h] <;> rfl

theorem fpSpecial_tiny (h : fpTiny x = true) : fpSpecial x = (fpClass x == .denorm) := by
  rcases fpTiny_iff.1 h with h | h <;> rw [fpSpecial, h] <;> rfl

theorem fpClass_norm (h : fpHuge x = false) (h' : fpTiny x = false) : fpClass x = .norm := by
  rw [← Bool.not_eq_true, fpHuge_iff, not_or] at h
  rw [← Bool.not_eq_true, fpTiny_iff, not_or] at h'
  cases hc : fpClass x
  case norm => rfl
  case zero => exact absurd hc h'.1
  case denorm => exact absurd hc h'.2
  case inf => exact absurd hc h.1
  case nan => exact absurd hc h.2

theorem fpClass_fpMax (s : Bool) : fpClass (fpMax s) = .norm := by cases s <;> decide

theorem fpClass_fpZero (s : Bool) : fpClass (fpZero s) = .zero := by cases s <;> decide

theorem fpSign_fpZero (s : Bool) : fpSign (fpZero s) = s := by cases s <;> decide

/-- A zero is a zero of its sign. -/
theorem eq_fpZero (h : fpClass x = .zero) : x = fpZero (fpSign x) := by
  obtain ⟨he, hf⟩ := fpClass_zero_iff.1 h
  obtain ⟨he', hf'⟩ := fpClass_zero_iff.1 (fpClass_fpZero (fpSign x))
  exact word_eq_of_fields (fpSign_fpZero _).symm (he.trans he'.symm) (hf.trans hf'.symm)

variable (s : Bool) (x : Word)

theorem fpHuge_withFpSign : fpHuge (withFpSign s x) = fpHuge x := by rw [fpHuge, fpClass_withFpSign, fpHuge]

theorem fpTiny_withFpSign : fpTiny (withFpSign s x) = fpTiny x := by rw [fpTiny, fpClass_withFpSign, fpTiny]

theorem fpSpecial_withFpSign : fpSpecial (withFpSign s x) = fpSpecial x := by rw [fpSpecial, fpClass_withFpSign, fpSpecial]

theorem withFpSign_withFpSign (t : Bool) : withFpSign s (withFpSign t x) = withFpSign s x :=
  eq_withFpSign (fpSign_withFpSign s _) fun k hk hk0 => by
    rw [bit_withFpSign _ _ hk, if_neg hk0, bit_withFpSign _ _ hk, if_neg hk0]

theorem fpMax_xor (c : Bool) : fpMax s ^^^ when c (oneBit 0) = fpMax (s != c) := by
  cases s <;> cases c <;> decide

end

/-! ## Results that are numbers or zeros -/

/-- Neither the result nor the truncated result is an infinity, a NaN or a denormalized number. -/
def ElementResult.Finite (e : ElementResult) : Prop :=
  (fpClass e.v = .zero ∨ fpClass e.v = .norm) ∧ (fpClass e.t = .zero ∨ fpClass e.t = .norm)

theorem ElementResult.finite_norm {v : Word} (inv : Bool) (h : fpClass v = .norm) : (plainElement v inv).Finite :=
  ⟨.inr h, .inr h⟩

theorem ElementResult.finite_max (s inv : Bool) : (plainElement (fpMax s) inv).Finite :=
  ElementResult.finite_norm inv (fpClass_fpMax s)

theorem ElementResult.finite_zero (s inv : Bool) : (plainElement (fpZero s) inv).Finite :=
  ⟨.inl (fpClass_fpZero s), .inl (fpClass_fpZero s)⟩

theorem le_carried (p n : Nat) (e : Int) : e ≤ (carried p n e).2 := by
  unfold carried
  split <;> simp

/-- Without overflow and underflow RoundSP gives numbers. -/
theorem fpClass_roundSingle {m : Rounding} {r : Exact} (ho : (roundSingle m r).ovf = false)
    (hu : (roundSingle m r).unf = false) :
    fpClass (roundSingle m r).v = .norm ∧ fpClass (roundSingle m r).t = .norm := by
  rw [roundSingle_eq] at ho hu ⊢
  simp only [decide_eq_false_iff_not, not_lt] at ho hu
  have hle : r.topExp ≤ (r.roundedPair m).2 := le_carried _ _ _
  have whole := fpClass_fpPack r.neg (r.roundedPair m).1 hu ho
  refine ⟨whole, ?_⟩
  dsimp only
  split
  case isTrue => exact whole
  case isFalse h => exact fpClass_fpPack _ _ (not_lt.1 h) (hle.trans ho)

theorem elemCalc_finite (m : Rounding) (f : Family) (r : Exact) : (elemCalc m f r).Finite := by
  cases ho : (roundSingle m r).ovf
  case true =>
    rw [elemCalc_overflow ho]
    exact ElementResult.finite_max r.neg false
  cases hu : (roundSingle m r).unf
  case true =>
    rw [elemCalc_underflow ho hu]
    cases f <;> exact ElementResult.finite_zero _ false
  case false =>
    obtain ⟨hv, ht⟩ := fpClass_roundSingle ho hu
    rw [elemCalc_normal ho hu]
    exact ⟨.inr hv, .inr ht⟩

/-! ## Signs -/

/-- The sign that a sign operation gives. -/
def SignOp.sign : SignOp → Bool → Bool
  | .abs, _ => false
  | .nabs, _ => true
  | .neg, s => !s

theorem elemSign_eq (op : SignOp) (a : Word) :
    elemSign op a = plainElement (withFpSign (op.sign (fpSign a)) a) (fpSpecial a) := by
  cases op with
  | abs => exact congrArg (plainElement · _) (setBit_eq_withFpSign a false)
  | nabs => exact congrArg (plainElement · _) (setBit_eq_withFpSign a true)
  | neg => exact congrArg (plainElement · _) (xor_oneBit_eq_withFpSign a)

/-! ## Sums and differences -/

section
variable (m : Rounding) {a b d : Word}

theorem elemAdd_huge_left (b : Word) (ha : fpHuge a = true) : elemAdd m a b = plainElement (fpMax (fpSign a)) true := by
  simp only [elemAdd, ha, fpSpecial_huge ha, Bool.true_or, if_true]

theorem elemAdd_huge_right (ha : ¬fpHuge a = true) (hb : fpHuge b = true) :
    elemAdd m a b = plainElement (fpMax (fpSign b)) true := by
  simp only [elemAdd, ha, hb, fpSpecial_huge hb, Bool.or_true, Bool.false_eq_true, if_true, if_false]

theorem elemAdd_tiny (ha : fpTiny a = true) (hb : fpTiny b = true) :
    elemAdd m a b = plainElement (fpZero (zeroSum m (fpSign a) (fpSign b))) (fpSpecial a || fpSpecial b) := by
  simp only [elemAdd, fpHuge_tiny ha, fpHuge_tiny hb, ha, hb, Bool.and_self, Bool.false_eq_true, if_true, if_false]

theorem elemAdd_tiny_left (ha : fpTiny a = true) (hb : fpClass b = .norm) :
    elemAdd m a b = plainElement b (fpSpecial a || fpSpecial b) := by
  simp only [elemAdd, fpHuge_tiny ha, fpHuge_norm hb, ha, fpTiny_norm hb, Bool.and_false, Bool.false_eq_true, if_true,
    if_false]

theorem elemAdd_tiny_right (ha : fpClass a = .norm) (hb : fpTiny b = true) :
    elemAdd m a b = plainElement a (fpSpecial a || fpSpecial b) := by
  simp only [elemAdd, fpHuge_norm ha, fpHuge_tiny hb, fpTiny_norm ha, hb, Bool.false_and, Bool.false_eq_true, if_true,
    if_false]

theorem elemAdd_finite (a b : Word) : (elemAdd m a b).Finite := by
  cases ha : fpHuge a
  case true => exact elemAdd_huge_left m b ha ▸ ElementResult.finite_max _ _
  have ha' : ¬fpHuge a = true := by simp [ha]
  cases hb : fpHuge b
  case true => exact elemAdd_huge_right m ha' hb ▸ ElementResult.finite_max _ _
  cases ta : fpTiny a <;> cases tb : fpTiny b
  case true.true => exact elemAdd_tiny m ta tb ▸ ElementResult.finite_zero _ _
  case true.false =>
    have nb := fpClass_norm hb tb
    exact elemAdd_tiny_left m ta nb ▸ ElementResult.finite_norm _ nb
  case false.true =>
    have na := fpClass_norm ha ta
    exact elemAdd_tiny_right m na tb ▸ ElementResult.finite_norm _ na
  case false.false =>
    rw [elemAdd_norm m (fpClass_norm ha ta) (fpClass_norm hb tb)]
    split
    · exact ElementResult.finite_zero _ _
    · exact elemCalc_finite m _ _

theorem elemSub_finite (a b : Word) : (elemSub m a b).Finite := elemSub_eq m a b ▸ elemAdd_finite m a _

theorem elemSub_huge_left (b : Word) (ha : fpHuge a = true) : elemSub m a b = plainElement (fpMax (fpSign a)) true := by
  rw [elemSub_eq, elemAdd_huge_left m _ ha]

theorem elemSub_huge_right (ha : ¬fpHuge a = true) (hb : fpHuge b = true) :
    elemSub m a b = plainElement (fpMax (!fpSign b)) true := by
  rw [elemSub_eq, elemAdd_huge_right m ha (by rw [fpHuge_withFpSign, hb]), fpSign_withFpSign]

theorem zeroSum_eq (s t : Bool) : zeroSum m s t = if s = t then s else m == .down := by
  rw [zeroSum]
  exact if_congr beq_iff_eq rfl rfl

theorem zeroSum_not (s t : Bool) : zeroSum m s (!t) = if s = t then m == .down else s := by
  cases s <;> cases t <;> rfl

theorem elemSub_tiny (ha : fpTiny a = true) (hb : fpTiny b = true) :
    elemSub m a b =
      plainElement (fpZero (if fpSign a = fpSign b then m == .down else fpSign a)) (fpSpecial a || fpSpecial b) := by
  rw [elemSub_eq, elemAdd_tiny m ha (by rw [fpTiny_withFpSign, hb]), fpSign_withFpSign, zeroSum_not, fpSpecial_withFpSign]

theorem elemSub_tiny_left (ha : fpTiny a = true) (hb : fpClass b = .norm) :
    elemSub m a b = plainElement (withFpSign (!fpSign b) b) (fpSpecial a || fpSpecial b) := by
  rw [elemSub_eq, elemAdd_tiny_left m ha (by rw [fpClass_withFpSign, hb]), fpSpecial_withFpSign]

theorem elemSub_tiny_right (ha : fpClass a = .norm) (hb : fpTiny b = true) :
    elemSub m a b = plainElement a (fpSpecial a || fpSpecial b) := by
  rw [elemSub_eq, elemAdd_tiny_right m ha (by rw [fpTiny_withFpSign, hb]), fpSpecial_withFpSign]

/-! ## Multiply-adds -/

variable (subD negRes : Bool)

theorem withFpSign_xor (s c : Bool) (x : Word) : withFpSign s x ^^^ when c (oneBit 0) = withFpSign (s != c) x := by
  rw [xor_eq_withFpSign, fpSign_withFpSign, withFpSign_withFpSign]

/-- A multiply-add whose product is zero delivers its addend (R1165). -/
theorem elemFma_tiny_huge (h : fpTiny a = true ∨ fpTiny b = true) (hd : fpHuge d = true) :
    elemFma m a b d subD negRes = plainElement (fpMax ((fpSign d != subD) != negRes)) true := by
  simp only [elemFma, Bool.or_eq_true, h, hd, fpSpecial_huge hd, Bool.or_true, if_true, fpMax_xor]

theorem elemFma_tiny_tiny (h : fpTiny a = true ∨ fpTiny b = true) (hd : fpTiny d = true) :
    elemFma m a b d subD negRes = plainElement
      (fpZero ((if (fpSign a != fpSign b) = (fpSign d != subD) then fpSign a != fpSign b else m == .down) != negRes))
      (fpSpecial a || fpSpecial b || fpSpecial d) := by
  simp only [elemFma, Bool.or_eq_true, h, hd, fpHuge_tiny hd, Bool.false_eq_true, if_true, if_false, fpZero_xor, zeroSum_eq]

theorem elemFma_tiny_norm (h : fpTiny a = true ∨ fpTiny b = true) (hd : fpClass d = .norm) :
    elemFma m a b d subD negRes =
      plainElement (withFpSign ((fpSign d != subD) != negRes) d) (fpSpecial a || fpSpecial b) := by
  simp only [elemFma, Bool.or_eq_true, h, fpTiny_norm hd, fpHuge_norm hd, fpSpecial_norm hd, Bool.false_eq_true, if_true,
    if_false, setBit_eq_withFpSign, withFpSign_xor, Bool.or_false]

theorem elemFma_huge (d : Word) (ha : ¬fpTiny a = true) (hb : ¬fpTiny b = true) (h : fpHuge a = true ∨ fpHuge b = true) :
    elemFma m a b d subD negRes = plainElement (fpMax ((fpSign a != fpSign b) != negRes)) true := by
  have special : (fpSpecial a || fpSpecial b) = true :=
    Bool.or_eq_true_iff.2 (h.imp fpSpecial_huge fpSpecial_huge)
  simp only [elemFma, Bool.or_eq_true, ha, hb, h, special, or_self, Bool.true_or, Bool.false_eq_true, if_true,
    if_false, fpMax_xor]

theorem elemFma_norm_huge (ha : fpClass a = .norm) (hb : fpClass b = .norm) (hd : fpHuge d = true) :
    elemFma m a b d subD negRes = plainElement (fpMax ((fpSign d != subD) != negRes)) true := by
  simp only [elemFma, fpTiny_norm ha, fpTiny_norm hb, fpHuge_norm ha, fpHuge_norm hb, hd, fpSpecial_huge hd, Bool.or_self,
    Bool.or_true, Bool.false_eq_true, if_true, if_false, fpMax_xor]

theorem exactFma_tiny_ne (a b : Word) (hd : fpTiny d = true) : (exactFma a b d subD).1 ≠ 0 := by
  have hpos := Nat.mul_pos (fpSig_pos a) (fpSig_pos b)
  rw [exactFma, if_pos hd, withSign]
  split <;> omega

/-- A multiply-add with the addend zero is the product alone. -/
theorem elemFma_norm_zero (ha : fpClass a = .norm) (hb : fpClass b = .norm) (hd : fpClass d = .zero) :
    (elemFma m a b d subD negRes).IsRounded m (if negRes then .negated else .sum)
      (((if negRes then -(fpValue a * fpValue b) else fpValue a * fpValue b) : Rat) : ℝ) := by
  have tiny : fpTiny d = true := fpTiny_iff.2 (.inl hd)
  have special : fpSpecial d = false := by rw [fpSpecial_tiny tiny, hd]; rfl
  have value := exactFma_tiny a b tiny subD
  have product : (fpValue a * fpValue b : ℝ) ≠ 0 :=
    value ▸ mul_ne_zero (Int.cast_ne_zero.2 (exactFma_tiny_ne subD a b tiny)) (two_zpow_pos _).ne'
  have rounded := elemFma_isRounded m ha hb (fpHuge_tiny tiny) special subD negRes value product
  have castProduct : (((if negRes then -(fpValue a * fpValue b) else fpValue a * fpValue b) : Rat) : ℝ) =
      if negRes then -(fpValue a * fpValue b : ℝ) else fpValue a * fpValue b := by
    split <;> push_cast <;> rfl
  rwa [castProduct]

/-- With a denormalized addend the product alone is rounded, and the result is invalid (assumption log entry 12). -/
theorem elemFma_norm_denorm (ha : fpClass a = .norm) (hb : fpClass b = .norm) (hd : fpClass d = .denorm) :
    elemFma m a b d subD negRes = plainElement (elemFma m a b (fpZero (fpSign d)) subD negRes).v true := by
  have tiny : fpTiny d = true := fpTiny_iff.2 (.inr hd)
  have tiny' : fpTiny (fpZero (fpSign d)) = true := fpTiny_iff.2 (.inl (fpClass_fpZero _))
  have special : fpSpecial d = true := by rw [fpSpecial_tiny tiny, hd]; rfl
  have special' : fpSpecial (fpZero (fpSign d)) = false := by rw [fpSpecial_tiny tiny', fpClass_fpZero]; rfl
  have same : exactFma a b (fpZero (fpSign d)) subD = exactFma a b d subD := by
    rw [exactFma, if_pos tiny', exactFma, if_pos tiny]
  have nonzero := exactFma_tiny_ne subD a b tiny
  rw [elemFma_norm m ha hb (fpHuge_tiny tiny), if_neg nonzero, special, if_pos rfl,
    elemFma_norm m ha hb (fpHuge_tiny tiny'), same, if_neg nonzero, special', if_neg Bool.false_ne_true]

theorem elemFma_finite (a b d : Word) : (elemFma m a b d subD negRes).Finite := by
  by_cases tiny : fpTiny a = true ∨ fpTiny b = true
  · cases hd : fpHuge d
    case true => exact elemFma_tiny_huge m subD negRes tiny hd ▸ ElementResult.finite_max _ _
    cases td : fpTiny d
    case true => exact elemFma_tiny_tiny m subD negRes tiny td ▸ ElementResult.finite_zero _ _
    case false =>
      have nd := fpClass_norm hd td
      exact elemFma_tiny_norm m subD negRes tiny nd ▸ ElementResult.finite_norm _ ((fpClass_withFpSign _ _).trans nd)
  · obtain ⟨ta, tb⟩ := not_or.1 tiny
    by_cases huge : fpHuge a = true ∨ fpHuge b = true
    · exact elemFma_huge m subD negRes d ta tb huge ▸ ElementResult.finite_max _ _
    obtain ⟨ha, hb⟩ := not_or.1 huge
    have na := fpClass_norm (Bool.eq_false_iff.2 ha) (Bool.eq_false_iff.2 ta)
    have nb := fpClass_norm (Bool.eq_false_iff.2 hb) (Bool.eq_false_iff.2 tb)
    cases hd : fpHuge d
    case true => exact elemFma_norm_huge m subD negRes na nb hd ▸ ElementResult.finite_max _ _
    case false =>
      rw [elemFma_norm m na nb hd]
      split
      · exact fpZero_xor _ _ ▸ ElementResult.finite_zero _ _
      split
      · exact ⟨(elemCalc_finite m _ _).1, (elemCalc_finite m _ _).1⟩
      · exact elemCalc_finite m _ _

/-! ## Products, quotients and square roots -/

theorem elemMul_tiny (h : fpTiny a = true ∨ fpTiny b = true) :
    elemMul m a b = plainElement (fpZero (fpSign a != fpSign b)) (fpSpecial a || fpSpecial b) := by
  simp only [elemMul, Bool.or_eq_true, h, if_true]

theorem elemMul_huge (ha : ¬fpTiny a = true) (hb : ¬fpTiny b = true) (h : fpHuge a = true ∨ fpHuge b = true) :
    elemMul m a b = plainElement (fpMax (fpSign a != fpSign b)) true := by
  have special : (fpSpecial a || fpSpecial b) = true :=
    Bool.or_eq_true_iff.2 (h.imp fpSpecial_huge fpSpecial_huge)
  simp only [elemMul, Bool.or_eq_true, ha, hb, h, special, or_self, Bool.false_eq_true, if_true, if_false]

theorem elemMul_finite (a b : Word) : (elemMul m a b).Finite := by
  unfold elemMul
  simp only []
  split
  · exact ElementResult.finite_zero _ _
  split
  · exact ElementResult.finite_max _ _
  · exact elemCalc_finite m _ _

theorem elemDiv_by_huge (a : Word) (hb : fpHuge b = true) :
    elemDiv m a b = plainElement (fpZero (fpSign a != fpSign b)) true := by
  simp only [elemDiv, hb, if_true]

/-- A number divided by zero. -/
theorem elemDiv_norm_by_zero (ha : fpClass a = .norm) (hb : fpClass b = .zero) :
    elemDiv m a b = { plainElement (fpMax (fpSign a != fpSign b)) false with dbz := true } := by
  have tiny : fpTiny b = true := fpTiny_iff.2 (.inl hb)
  simp only [elemDiv, fpHuge_tiny tiny, tiny, ha, hb, decide_true, Bool.and_self, Bool.false_eq_true, if_true, if_false]

theorem elemDiv_by_tiny (hb : fpTiny b = true) (h : ¬(fpClass a = .norm ∧ fpClass b = .zero)) :
    elemDiv m a b = plainElement (fpMax (fpSign a != fpSign b)) true := by
  have other : ¬(decide (fpClass b = .zero) && decide (fpClass a = .norm)) = true := by
    rw [Bool.and_eq_true, decide_eq_true_iff, decide_eq_true_iff]
    exact fun h' => h h'.symm
  simp only [elemDiv, fpHuge_tiny hb, hb, other, Bool.false_eq_true, if_true, if_false]

theorem elemDiv_huge (hb : fpClass b = .norm) (ha : fpHuge a = true) :
    elemDiv m a b = plainElement (fpMax (fpSign a != fpSign b)) true := by
  simp only [elemDiv, fpHuge_norm hb, fpTiny_norm hb, ha, Bool.false_eq_true, if_true, if_false]

theorem elemDiv_tiny (hb : fpClass b = .norm) (ha : fpTiny a = true) :
    elemDiv m a b = plainElement (fpZero (fpSign a != fpSign b)) (fpSpecial a) := by
  simp only [elemDiv, fpHuge_norm hb, fpTiny_norm hb, fpHuge_tiny ha, ha, fpSpecial_tiny ha, Bool.false_eq_true, if_true,
    if_false]

theorem elemDiv_finite (a b : Word) : (elemDiv m a b).Finite := by
  unfold elemDiv
  simp only []
  split
  · exact ElementResult.finite_zero _ _
  split
  · split
    · exact ElementResult.finite_max _ false
    · exact ElementResult.finite_max _ _
  split
  · exact ElementResult.finite_max _ _
  split
  · exact ElementResult.finite_zero _ _
  · exact elemCalc_finite m _ _

theorem elemSqrt_huge (ha : fpHuge a = true) :
    elemSqrt m a = plainElement (if fpSign a then fpZero true else fpMax false) true := by
  rcases fpHuge_iff.1 ha with h | h <;> rw [elemSqrt, h]

theorem elemSqrt_tiny (ha : fpTiny a = true) : elemSqrt m a = plainElement (fpZero (fpSign a)) (fpSpecial a) := by
  rw [fpSpecial_tiny ha]
  rcases fpTiny_iff.1 ha with h | h <;> rw [elemSqrt, h] <;> rfl

theorem elemSqrt_finite (a : Word) : (elemSqrt m a).Finite := by
  cases ha : fpHuge a
  case true =>
    rw [elemSqrt_huge m ha]
    split
    · exact ElementResult.finite_zero _ _
    · exact ElementResult.finite_max _ _
  cases ta : fpTiny a
  case true => exact elemSqrt_tiny m ta ▸ ElementResult.finite_zero _ _
  have na := fpClass_norm ha ta
  cases hs : fpSign a
  case true => exact elemSqrt_negative m na hs ▸ ElementResult.finite_zero true true
  case false =>
    rw [elemSqrt, na]
    simp only [hs, Bool.false_eq_true, if_false]
    exact elemCalc_finite m _ _

end

/-! ## Maximum and minimum -/

section
variable {a b : Word} (least : Bool)

/-- The operand that ElemMax or ElemMin selects (R1167). -/
def extremeOf (least : Bool) (a b : Word) : Word :=
  if fpClass a == .nan && !(fpClass b == .nan) then b
  else if fpClass b == .nan && !(fpClass a == .nan) then a
  else if fpEq a b then (if fpSign a == least then a else b)
  else if fpLt a b == least then a else b

theorem elemExtreme_eq (a b : Word) :
    elemExtreme least a b = plainElement (selected (extremeOf least a b)) (fpSpecial a || fpSpecial b) := rfl

/-- Unless one operand alone is a NaN, the order decides. -/
theorem extremeOf_order (h : fpClass a = .nan ↔ fpClass b = .nan) :
    extremeOf least a b =
      if fpEq a b then (if fpSign a == least then a else b) else if fpLt a b == least then a else b := by
  have same : (fpClass a == .nan) = (fpClass b == .nan) := by
    rw [Bool.eq_iff_iff, beq_iff_eq, beq_iff_eq, h]
  rw [extremeOf, same, Bool.and_not_self, if_neg Bool.false_ne_true, if_neg Bool.false_ne_true]

theorem extremeOf_lt (h : fpClass a = .nan ↔ fpClass b = .nan) (hlt : fpOrder a < fpOrder b) :
    extremeOf least a b = (if least then a else b) ∧ extremeOf least b a = if least then a else b := by
  have ne : fpEq a b = false := Bool.eq_false_iff.2 fun he => hlt.ne (fpEq_iff.1 he)
  have ne' : fpEq b a = false := Bool.eq_false_iff.2 fun he => hlt.ne' (fpEq_iff.1 he)
  have lt : fpLt a b = true := fpLt_iff.2 hlt
  have notLt : fpLt b a = false := Bool.eq_false_iff.2 fun he => hlt.not_gt (fpLt_iff.1 he)
  rw [extremeOf_order least h, extremeOf_order least h.symm, ne, ne', lt, notLt]
  cases least <;> exact ⟨rfl, rfl⟩

theorem extremeOf_self (a : Word) : extremeOf least a a = a := by
  rw [extremeOf_order least Iff.rfl, fpEq_iff.2 rfl, if_pos rfl, ite_self]

theorem extremeOf_nan (ha : fpClass a = .nan) (hb : fpClass b ≠ .nan) :
    extremeOf least a b = b ∧ extremeOf least b a = b := by
  have nan : (fpClass a == .nan) = true := beq_iff_eq.2 ha
  have other : (fpClass b == .nan) = false := beq_false_of_ne hb
  rw [extremeOf, extremeOf, nan, other]
  exact ⟨rfl, rfl⟩

theorem selected_norm {z : Word} (h : fpClass z = .norm) : selected z = z := by rw [selected, h]

theorem selected_zero {z : Word} (h : fpClass z = .zero) : selected z = z := by rw [selected, h]

/-- What is delivered of the operand selected. -/
theorem selected_eq (z : Word) : selected z =
    if fpSpecial z then (if fpClass z == .denorm then fpZero (fpSign z) else fpMax (fpSign z)) else z := by
  unfold selected fpSpecial
  cases fpClass z <;> rfl

theorem elemExtreme_finite (a b : Word) : (elemExtreme least a b).Finite := by
  rw [elemExtreme_eq]
  generalize extremeOf least a b = z
  cases h : fpClass z
  case zero => rw [selected_zero h]; exact ⟨.inl h, .inl h⟩
  case norm => rw [selected_norm h]; exact ElementResult.finite_norm _ h
  case denorm => rw [selected, h]; exact ElementResult.finite_zero _ _
  case inf => rw [selected, h]; exact ElementResult.finite_max _ _
  case nan => rw [selected, h]; exact ElementResult.finite_max _ _

theorem fpOrder_norm (ha : fpClass a = .norm) : fpOrder a = fpValue a := by
  rw [fpOrder, if_neg fun h => (fpClass_norm_iff.1 ha).1 h.1]
  rfl

theorem fpOrder_zero (ha : fpClass a = .zero) : fpOrder a = 0 := if_pos (fpClass_zero_iff.1 ha)

/-- Numbers of the same value are the same word. -/
theorem norm_eq_of_compareKey (ha : fpClass a = .norm) (h : compareKey a = compareKey b) : a = b := by
  have hexp := (fpClass_norm_iff.1 ha).1
  have hfa := fpFrac_lt a
  have hfb := fpFrac_lt b
  rw [compareKey, compareKey, key_toNat, key_toNat] at h
  have sign : fpSign a = fpSign b := by
    cases hs : fpSign a <;> cases ht : fpSign b <;>
      simp only [withSign, hs, ht, if_true, if_false, Bool.false_eq_true] at h ⊢ <;> omega
  have key : fpExp a * 8388608 + fpFrac a = fpExp b * 8388608 + fpFrac b := by
    rw [sign] at h
    cases hs : fpSign b <;> simp only [withSign, hs, if_true, if_false, Bool.false_eq_true] at h <;> omega
  exact word_eq_of_fields sign (by omega) (by omega)

theorem not_nan_of_norm (ha : fpClass a = .norm) : fpClass a ≠ .nan := by rw [ha]; decide

theorem elemExtreme_norm (ha : fpClass a = .norm) (hb : fpClass b = .norm) :
    elemExtreme least a b = plainElement
      (if least then (if fpValue a ≤ fpValue b then a else b) else if fpValue b ≤ fpValue a then a else b) false := by
  have sameNan : fpClass a = .nan ↔ fpClass b = .nan :=
    iff_of_false (not_nan_of_norm ha) (not_nan_of_norm hb)
  have chosen : extremeOf least a b =
      if least then (if fpValue a ≤ fpValue b then a else b) else if fpValue b ≤ fpValue a then a else b := by
    rw [← fpOrder_norm ha, ← fpOrder_norm hb]
    rcases lt_trichotomy (fpOrder a) (fpOrder b) with h | h | h
    · rw [(extremeOf_lt least sameNan h).1, if_pos h.le, if_neg h.not_ge]
    · obtain rfl := norm_eq_of_compareKey ha (fpOrder_eq_iff.1 h)
      rw [extremeOf_self, ite_self, ite_self]
    · rw [(extremeOf_lt least sameNan.symm h).2, if_pos h.le, if_neg h.not_ge]
  rw [elemExtreme_eq, chosen, fpSpecial_norm ha, fpSpecial_norm hb, Bool.or_self, selected_norm]
  split_ifs <;> assumption

theorem elemExtreme_nan (ha : fpClass a = .nan) (hb : fpClass b ≠ .nan) :
    elemExtreme least a b = plainElement (selected b) true ∧ elemExtreme least b a = plainElement (selected b) true := by
  obtain ⟨h, h'⟩ := extremeOf_nan least ha hb
  have special : fpSpecial a = true := fpSpecial_huge (fpHuge_iff.2 (.inr ha))
  rw [elemExtreme_eq, elemExtreme_eq, h, h', special, Bool.true_or, Bool.or_true]
  exact ⟨rfl, rfl⟩

theorem elemExtreme_lt (h : fpClass a = .nan ↔ fpClass b = .nan) (hlt : fpOrder a < fpOrder b) :
    elemExtreme least a b = plainElement (selected (if least then a else b)) (fpSpecial a || fpSpecial b) ∧
      elemExtreme least b a = plainElement (selected (if least then a else b)) (fpSpecial a || fpSpecial b) := by
  obtain ⟨h1, h2⟩ := extremeOf_lt least h hlt
  rw [elemExtreme_eq, elemExtreme_eq, h1, h2, Bool.or_comm (fpSpecial b)]
  exact ⟨rfl, rfl⟩

/-- Of two zeros the signs decide. -/
theorem elemExtreme_zero (ha : fpClass a = .zero) (hb : fpClass b = .zero) :
    elemExtreme least a b =
      plainElement (fpZero (if least then fpSign a || fpSign b else fpSign a && fpSign b)) false := by
  have sameNan : fpClass a = .nan ↔ fpClass b = .nan := by rw [ha, hb]
  have notSpecial {x : Word} (hx : fpClass x = .zero) : fpSpecial x = false := by rw [fpSpecial, hx]; rfl
  have chosen : extremeOf least a b = fpZero (if least then fpSign a || fpSign b else fpSign a && fpSign b) := by
    rw [extremeOf_order least sameNan, fpEq_iff.2 ((fpOrder_zero ha).trans (fpOrder_zero hb).symm), if_pos rfl]
    generalize hs : fpSign a = s
    generalize ht : fpSign b = t
    rw [eq_fpZero ha, eq_fpZero hb, hs, ht]
    cases least <;> cases s <;> cases t <;> rfl
  rw [elemExtreme_eq, chosen, selected_zero (fpClass_fpZero _), notSpecial ha, notSpecial hb, Bool.or_self]

end

/-! ## Conversions -/

section
variable (m : Rounding) (k : FixedKind) {b : Word}

theorem elemFromInt_finite (b : Word) : (elemFromInt m k b).Finite := by
  by_cases h : k.integer b = 0
  · rw [elemFromInt_zero m h]
    exact ElementResult.finite_zero false false
  · obtain ⟨-, hv, -, -, ht, -⟩ := elemFromInt_spec m h rfl
    exact ⟨.inr hv, .inr ht⟩

theorem elemToInt_nan (hb : fpClass b = .nan) : elemToInt m k b = plainElement 0 true := by
  have huge : fpHuge b = true := fpHuge_iff.2 (.inr hb)
  simp only [elemToInt, fpTiny_huge huge, fpSpecial_huge huge, hb, Bool.false_eq_true, ite_self]

theorem elemToInt_tiny (hb : fpTiny b = true) : elemToInt m k b = plainElement 0 (fpSpecial b) := by
  simp only [elemToInt, hb, if_true]

theorem elemToInt_inf (hb : fpClass b = .inf) :
    (elemToInt m k b).inv = true ∧
      (fpSign b = false → (elemToInt m k b).v = if k.signed then 0x7FFFFFFF else 0xFFFFFFFF) ∧
      (fpSign b = true → (elemToInt m k b).v = if k.signed then 0x80000000 else 0) := by
  have huge : fpHuge b = true := fpHuge_iff.2 (.inl hb)
  have result : elemToInt m k b =
      if !k.signed && fpSign b then plainElement 0 true else plainElement (k.limit (fpSign b)) true := by
    simp only [elemToInt, fpTiny_huge huge, fpSpecial_huge huge, hb, Bool.false_eq_true, if_false]
    rfl
  rw [result, FixedKind.limit]
  cases k.signed <;> cases fpSign b <;> simp [plainElement]

theorem elemFromHalf_zero {f : Half} (h : halfExp f = 0) :
    elemFromHalf f = plainElement (fpZero (f.getMsbD 0)) (f.extractLsb' 0 10 != 0) := if_pos h

theorem elemFromHalf_max {f : Half} (h : halfExp f = 31) : elemFromHalf f = plainElement (fpMax (f.getMsbD 0)) true :=
  (if_neg (show halfExp f ≠ 0 by omega)).trans (if_pos h)

theorem elemFromHalf_finite (f : Half) : (elemFromHalf f).Finite := by
  have hlt : halfExp f < 32 := (f.extractLsb' 10 5).isLt
  by_cases h0 : halfExp f = 0
  · exact elemFromHalf_zero h0 ▸ ElementResult.finite_zero _ _
  by_cases h31 : halfExp f = 31
  · exact elemFromHalf_max h31 ▸ ElementResult.finite_max _ _
  · obtain ⟨v, hv, hnorm, -⟩ := elemFromHalf_norm (f := f) (by omega) (by omega)
    exact hv ▸ ElementResult.finite_norm _ hnorm

theorem elemToHalf_huge (hb : fpHuge b = true) : elemToHalf m b = plainElement (halfMax (fpSign b)) true := by
  rcases fpHuge_iff.1 hb with h | h <;> rw [elemToHalf, h]

theorem elemToHalf_tiny (hb : fpTiny b = true) : elemToHalf m b = plainElement (halfZero (fpSign b)) (fpSpecial b) := by
  rw [fpSpecial_tiny hb]
  rcases fpTiny_iff.1 hb with h | h <;> rw [elemToHalf, h] <;> rfl

/-- A word that holds a half-precision number or zero: no infinity, no NaN, no denormalized number (R1102). -/
def HalfFinite (x : Word) : Prop := ∃ g : Half, x = 0#16 ++ g ∧ halfExp g ≠ 31 ∧ (halfExp g = 0 → g.extractLsb' 0 10 = 0)

theorem halfFinite_halfMax (s : Bool) : HalfFinite (halfMax s) := by
  cases s
  · exact ⟨0x7BFF, by decide, by decide, by decide⟩
  · exact ⟨0xFBFF, by decide, by decide, by decide⟩

theorem halfFinite_halfZero (s : Bool) : HalfFinite (halfZero s) := by
  cases s
  · exact ⟨0, by decide, by decide, by decide⟩
  · exact ⟨0x8000, by decide, by decide, by decide⟩

theorem halfFinite_halfPack (s : Bool) {e : Int} {t : Nat} (he : -14 ≤ e) (he' : e ≤ 15) (low : 2 ^ 10 ≤ t)
    (high : t < 2 ^ 11) : HalfFinite (halfPack s e t) := by
  obtain ⟨g, hg, hexp, hexp', -⟩ := halfPack_spec s he he' low high
  exact ⟨g, hg, by omega, fun h => by omega⟩

theorem elemToHalf_finite (b : Word) : HalfFinite (elemToHalf m b).v ∧ HalfFinite (elemToHalf m b).t := by
  cases hb : fpHuge b
  case true => exact elemToHalf_huge m hb ▸ ⟨halfFinite_halfMax _, halfFinite_halfMax _⟩
  cases tb : fpTiny b
  case true => exact elemToHalf_tiny m tb ▸ ⟨halfFinite_halfZero _, halfFinite_halfZero _⟩
  have nb := fpClass_norm hb tb
  by_cases hbig : 15 < (toHalfPair m b).2
  · exact elemToHalf_overflow m nb hbig ▸ ⟨halfFinite_halfMax _, halfFinite_halfMax _⟩
  by_cases hsmall : (toHalfPair m b).2 < -14
  · exact elemToHalf_underflow m nb hsmall ▸ ⟨halfFinite_halfZero _, halfFinite_halfZero _⟩
  obtain ⟨low, high, hexp, -⟩ := toHalfPair_spec m b
  obtain ⟨-, cutLow, cutHigh⟩ := toHalfCut_cutsTo b
  have packed := halfFinite_halfPack (fpSign b) (not_lt.1 hsmall) (not_lt.1 hbig) low high
  rw [elemToHalf_normal m nb (not_lt.1 hbig) (not_lt.1 hsmall)]
  refine ⟨packed, ?_⟩
  change HalfFinite (if _ then _ else _)
  split
  case isTrue => exact packed
  case isFalse h => exact halfFinite_halfPack _ (not_lt.1 h) (by omega) cutLow cutHigh

end

end Sys2Proof.Machine

namespace Sys2Proof.Proofs
open Sys2Proof.Machine

/-- Settles O54: the terms of the statement are the model's own, and each clause is the lemma of its operation and class. -/
theorem elementSpecialOperands : Obligations.ElementSpecialOperands := by
  unfold Obligations.ElementSpecialOperands
  intro m k op a b d f subD negRes least
  extract_lets finite huge tiny special inv most zero s sd signed' mapped half halfFinite
  have hhuge : huge = fun x => fpHuge x = true := funext fun x => propext fpHuge_iff.symm
  have htiny : tiny = fun x => fpTiny x = true := funext fun x => propext fpTiny_iff.symm
  have hzero : zero = fpZero := funext fun t => (fpZero_eq t).symm
  have hsigned : signed' = withFpSign := by
    funext t x
    simp only [signed', hzero]
    rfl
  have hmapped : mapped = selected := by
    funext x
    rw [selected_eq]
    simp only [mapped, hzero]
    rfl
  have hhalfMax (t : Bool) : halfMax t = if t then 0xFBFF else 0x7BFF := rfl
  rw [← hhalfMax, ← halfZero_eq]
  clear_value huge tiny zero signed' mapped
  subst hhuge htiny hzero hsigned hmapped
  refine ⟨by cases op <;> exact elemSign_eq _ a, ?_, (elemToHalf_finite m b).1, (elemToHalf_finite m b).2,
    elemAdd_finite m a b, elemSub_finite m a b, elemMul_finite m a b, elemDiv_finite m a b,
    elemFma_finite m subD negRes a b d, elemSqrt_finite m a, elemExtreme_finite least a b, elemFromInt_finite m k b, elemFromHalf_finite f,
    elemAdd_huge_left m b, elemAdd_huge_right m, ?_, elemAdd_tiny_left m, elemAdd_tiny_right m,
    elemSub_huge_left m b, elemSub_huge_right m, elemSub_tiny m, elemSub_tiny_left m, elemSub_tiny_right m,
    fun h => ⟨elemFma_tiny_huge m subD negRes h, elemFma_tiny_tiny m subD negRes h, elemFma_tiny_norm m subD negRes h⟩,
    elemFma_huge m subD negRes d,
    fun ha hb => ⟨elemFma_norm_huge m subD negRes ha hb, elemFma_norm_zero m subD negRes ha hb,
      elemFma_norm_denorm m subD negRes ha hb⟩,
    elemMul_tiny m, elemMul_huge m, elemDiv_by_huge m a, elemDiv_norm_by_zero m, elemDiv_by_tiny m, elemDiv_huge m,
    elemDiv_tiny m, elemSqrt_huge m, elemSqrt_tiny m, elemExtreme_norm least, elemExtreme_nan least,
    fun h => ⟨elemExtreme_lt least h, ?_, elemExtreme_zero least⟩,
    elemToInt_nan m k, elemToInt_tiny m k, elemToInt_inf m k, elemFromHalf_zero, elemFromHalf_max, elemToHalf_huge m,
    elemToHalf_tiny m⟩
  · rw [elemSign_eq]
    exact fpClass_withFpSign _ a
  · rw [← zeroSum_eq]
    exact elemAdd_tiny m
  · rintro rfl
    rw [elemExtreme_eq, extremeOf_self]
    rfl

end Sys2Proof.Proofs
end

section
/-! SUPPORT. The vector floating-point instructions that take no interrupt (spec/46_efpu_vector.md R1200). -/

namespace Sys2Proof.Machine

/-- A vector result that is written, with the status bits of both its elements. -/
theorem State.vectorFp_setR64 (s : State) (rd : Reg) (h l : ElementResult) :
    s.VectorFp (((s.setSpefscr (efpFinal h l s.spefscr)).setR64 rd (h.v ++ l.v)).advance 4) rd h l :=
  have written := (s.setSpefscr (efpFinal h l s.spefscr)).vectorResult_setR64 rd (h.v ++ l.v)
  { result := written.result
    others := written.others
    status := State.fpStatus_of_efpFinal rfl
    frame := rfl }

/-- With MSR[SPE] = 1 a vector instruction without an interrupt delivers the two elements it commits (R1200). -/
theorem State.runs_vectorFp {s : State} {i : Instr} {rd : Reg} {h l : ElementResult} (on : s.speOn = true)
    (hi' : s.vectorElements i = some (rd, h, l)) (hno : s.NoFpTrap h l) : Runs i s fun t => s.VectorFp t rd h l := by
  have commit : exec i s = .next (((s.setSpefscr (efpFinal h l s.spefscr)).setR64 rd (h.v ++ l.v)).advance 4) := by
    rw [exec_of_vectorElements hi', State.vectorCommit_on on, State.efpCommit_noTrap hno, if_neg Bool.false_ne_true]
  exact ⟨_, commit, s.vectorFp_setR64 rd h l⟩

end Sys2Proof.Machine

namespace Sys2Proof.Proofs
open Sys2Proof.Machine

/-- Settles O49: each instruction commits the two elements that State.vectorElements names. -/
theorem vectorFloatingPoint : Obligations.VectorFloatingPoint := by
  unfold Obligations.VectorFloatingPoint
  intro s rd ra rb on a b d
  and_intros <;> exact State.runs_vectorFp on rfl

end Sys2Proof.Proofs
end

section
/-! SUPPORT. Word operations over the integers modulo 2^32, and the counts, rotates and divides of an SPE element
(spec/47_spe_simple.md R1310 to R1391). -/

namespace Sys2Proof.Machine

/-! ## Integers modulo 2^32 -/

/-- Reading a word as an unsigned integer loses nothing. -/
theorem wordOf_toNat (w : Word) : wordOf w.toNat = w := by
  rw [wordOf, BitVec.ofInt_natCast, BitVec.ofNat_toNat, BitVec.setWidth_eq]

/-- Reading a word as a signed integer loses nothing. -/
theorem wordOf_toInt (w : Word) : wordOf w.toInt = w := BitVec.ofInt_toInt

theorem wordOf_add (x y : Int) : wordOf (x + y) = wordOf x + wordOf y := BitVec.ofInt_add x y

theorem wordOf_neg (x : Int) : wordOf (-x) = -wordOf x := BitVec.ofInt_neg

theorem wordOf_sub (x y : Int) : wordOf (x - y) = wordOf x - wordOf y := by
  rw [Int.sub_eq_add_neg, wordOf_add, wordOf_neg, ← BitVec.sub_eq_add_neg]

/-- The sum of two words (R1313). -/
theorem add_eq_wordOf (a b : Word) : a + b = wordOf (a.toNat + b.toNat) := by
  rw [wordOf_add, wordOf_toNat, wordOf_toNat]

/-- The difference of two words (R1315). -/
theorem sub_eq_wordOf (a b : Word) : a - b = wordOf (a.toNat - b.toNat) := by
  rw [wordOf_sub, wordOf_toNat, wordOf_toNat]

theorem neg_eq_wordOf (a : Word) : -a = wordOf (-a.toInt) := by rw [wordOf_neg, wordOf_toInt]

/-- A zero-extended immediate, as an integer (R1312). -/
theorem zext_eq_wordOf (v : BitVec 5) : zext v = wordOf v.toNat := zext_eq_ofNat v

/-- A word plus an immediate (R1312). -/
theorem add_zext_eq_wordOf (a : Word) (v : BitVec 5) : a + zext v = wordOf (a.toNat + v.toNat) := by
  rw [wordOf_add, wordOf_toNat, zext_eq_wordOf]

/-- A word minus an immediate (R1316). -/
theorem sub_zext_eq_wordOf (a : Word) (v : BitVec 5) : a - zext v = wordOf (a.toNat - v.toNat) := by
  rw [wordOf_sub, wordOf_toNat, zext_eq_wordOf]

/-- The absolute value; that of the least integer is the least integer again (R1311). -/
theorem abs_eq_wordOf (a : Word) : (if bit a 0 then -a else a) = wordOf |a.toInt| := by
  rw [bit_zero_eq_neg]
  rcases lt_or_ge a.toInt 0 with h | h
  · rw [if_pos (decide_eq_true h), abs_of_neg h, neg_eq_wordOf]
  · rw [if_neg (by simpa using h), abs_of_nonneg h, wordOf_toInt]

/-- Sign extension from the low n bits (R1342, R1343). -/
theorem sext_bits_eq_wordOf (n : Nat) (w : Word) (h : n ≤ 32) : sext (bits (32 - n) n w) = wordOf (w.setWidth n).toInt := by
  rw [sext_eq_wordOf, bits_low n w h]

/-- Rounding to a multiple of 65536 (R1362). -/
theorem round_eq_wordOf (w : Word) : (w + 0x00008000) &&& 0xFFFF0000 = wordOf ((w.toNat + 32768) / 65536 * 65536) := by
  have mask : (0xFFFF0000 : Word) = BitVec.allOnes 32 <<< 16 := by decide
  rw [mask, ← BitVec.shiftLeft_ushiftRight]
  apply BitVec.eq_of_toNat_eq
  rw [BitVec.toNat_shiftLeft, BitVec.toNat_ushiftRight, BitVec.toNat_add, wordOf, BitVec.toNat_ofInt,
    Nat.shiftLeft_eq, Nat.shiftRight_eq_div_pow, show (0x00008000 : Word).toNat = 32768 from rfl]
  omega

/-- A shift left multiplies by a power of two, modulo 2^32 (R1370, R1371). -/
theorem shiftLeft_eq_wordOf (w : Word) (n : Nat) : w <<< n = wordOf (w.toNat * 2 ^ n) := by
  rw [← wordOf_shiftLeft, wordOf_toNat]

/-- A shift right divides by a power of two (R1373, R1375). -/
theorem ushiftRight_eq_wordOf (w : Word) (n : Nat) : w >>> n = wordOf (w.toNat / 2 ^ n) := by
  rw [← wordOf_toNat (w >>> n), BitVec.toNat_ushiftRight, Nat.shiftRight_eq_div_pow]
  push_cast
  rfl

/-- An immediate in the five high-order bits (R1380). -/
theorem append_zeros_eq_wordOf (v : BitVec 5) : (v ++ 0#27 : Word) = wordOf (134217728 * v.toNat) := by
  have product : (134217728 * v.toNat : Int) = ((v.toNat * 2 ^ 27 + 0 : Nat) : Int) := by push_cast; ring
  rw [product, ← wordOf_toNat (v ++ 0#27 : Word), toNat_append_eq]
  rfl

/-! ## Half words -/

/-- The high half word of a word. -/
theorem toNat_bits_high (w : Word) : (bits 0 16 w).toNat = w.toNat / 65536 := by
  have hlt := w.isLt
  rw [bits, BitVec.extractLsb'_toNat, Nat.shiftRight_eq_div_pow]
  omega

theorem toNat_append_half_div (h l : Half) : (h ++ l : Word).toNat / 65536 = h.toNat := by
  have hlt := l.isLt
  rw [toNat_append_eq]
  omega

/-! ## Counts of leading bits -/

/-- A run of zeros of the complement is a run of ones (R1340). -/
theorem LeadingRun.of_not {w : Word} {n : Nat} (h : LeadingRun (~~~w) false n) : LeadingRun w true n := by
  obtain ⟨hle, hrun, hend⟩ := h
  refine ⟨hle, fun i hi => ?_, fun hn => ?_⟩
  · simpa [bit_not w i (by omega)] using hrun i hi
  · simpa [bit_not w n hn] using hend hn

/-- evcntlsw counts the bits equal to the sign bit (R1340). -/
theorem leadingRun_leadingSigns (w : Word) : LeadingRun w (bit w 0) (leadingSigns w) := by
  unfold leadingSigns
  cases bit w 0
  · exact leadingRun_leadingZeros w
  · exact (leadingRun_leadingZeros (~~~w)).of_not

/-! ## Compares -/

theorem slt_eq_decide (a b : Word) : a.slt b = decide (a.toInt < b.toInt) := rfl

theorem ult_eq_decide (a b : Word) : a.ult b = decide ((a.toNat : Int) < b.toNat) :=
  decide_eq_decide.2 Int.ofNat_lt.symm

theorem beq_eq_decide (a b : Word) : (a == b) = decide ((a.toNat : Int) = b.toNat) :=
  decide_eq_decide.2 (BitVec.toNat_inj.symm.trans Int.ofNat_inj.symm)

/-! ## Divides -/

theorem toInt_eq_zero_iff {w : Word} : w.toInt = 0 ↔ w = 0 := BitVec.toInt_inj (y := 0)

/-- The saturated signed quotient and its overflow (R1390). -/
theorem divideElementSigned_eq (x y : Word) :
    divideElementSigned x y = (wordOf (divS x.toInt y.toInt).1, (divS x.toInt y.toInt).2) := by
  have least : x = 0x80000000 ↔ x.toInt = -2147483648 := (BitVec.toInt_inj (y := 0x80000000)).symm
  have minusOne : y = 0xFFFFFFFF ↔ y.toInt = -1 := (BitVec.toInt_inj (y := 0xFFFFFFFF)).symm
  simp only [divideElementSigned, divS, toInt_eq_zero_iff, ← least, ← minusOne, bit_zero_eq_neg, decide_eq_true_eq]
  split_ifs
  · rfl
  · rfl
  · rfl
  · rw [sdiv_eq_wordOf]

/-- The saturated unsigned quotient and its overflow (R1391). -/
theorem divideElementUnsigned_eq (x y : Word) :
    divideElementUnsigned x y = (wordOf (divU x.toNat y.toNat).1, (divU x.toNat y.toNat).2) := by
  have zero : (y.toNat : Int) = 0 ↔ y = 0 := Int.ofNat_inj.trans (BitVec.toNat_inj (y := 0))
  simp only [divideElementUnsigned, divU, zero]
  split_ifs
  · rfl
  · rw [udiv_eq_ofNat]
    rfl

end Sys2Proof.Machine
end

section
/-! SUPPORT. The SPE instructions without memory access while MSR[SPE] = 1: a 64-bit result, a CR field, and a divide with its
overflow (spec/47_spe_simple.md R1300 to R1304). -/

namespace Sys2Proof.Machine

/-! ## SetOV and VecCR -/

/-- A state whose SPEFSCR is the one SetOV leaves (spec/13_state_spe.md R1054). -/
theorem State.setsOverflow_of_spefscr {s t : State} {h l : Bool} (ht : t.spefscr = (s.setOvPair h l).spefscr) :
    s.SetsOverflow t h l := by
  refine ⟨?_, ?_, ?_, ?_, fun k hk h0 h1 h16 h17 => ?_⟩ <;> rw [ht, setOvPair_bit _ _ _ _ (by omega)]
  · rfl
  · rfl
  · rfl
  · rfl
  · rw [if_neg h0, if_neg h1, if_neg h16, if_neg h17]

/-- A bit of a CR field is a bit of CR. -/
theorem State.crField_getMsbD (s : State) (f : CrField) {k : Nat} (hk : k < 4) :
    (s.crField f).getMsbD k = bit s.cr (4 * f.toNat + k) := by
  have hf := f.isLt
  exact bits_getMsbD _ _ _ (by omega) k hk

/-- The four bits of a compare field: high, low, either, both (R1304). -/
theorem vectorCompareField_getMsbD (h l : Bool) :
    (vectorCompareField h l).getMsbD 0 = h ∧ (vectorCompareField h l).getMsbD 1 = l ∧
      (vectorCompareField h l).getMsbD 2 = (h || l) ∧ (vectorCompareField h l).getMsbD 3 = (h && l) := by
  cases h <;> cases l <;> decide

/-! ## Results -/

section
variable {s : State} {i : Instr} {rd : Reg} {crfD : CrField} (on : s.speOn = true)
include on

/-- A 64-bit result (R1300). -/
theorem State.runs_vectorResult {v : Dword} (h : exec i s = s.vectorResult rd v) :
    Runs i s fun t => s.VectorResult t rd v :=
  ⟨_, h.trans (State.vector_on s _ on), s.vectorResult_setR64 rd v⟩

/-- A result of two elements that are integers modulo 2^32 (R1300). -/
theorem State.runs_vectorPair {x y : Word} {p q : Int} (h : exec i s = s.vectorResult rd (x ++ y)) (hx : x = wordOf p)
    (hy : y = wordOf q) : Runs i s fun t => s.VectorResult t rd (pairOf p q) := by
  subst hx hy
  exact State.runs_vectorResult on h

/-- A result of two counts of leading bits (R1340, R1341). -/
theorem State.runs_vectorCounts {m n : Nat} {a b : Word} {c d : Bool}
    (h : exec i s = s.vectorResult rd (BitVec.ofNat 32 m ++ BitVec.ofNat 32 n)) (hm : LeadingRun a c m)
    (hn : LeadingRun b d n) :
    Runs i s fun t => ∃ m n : Nat, s.VectorResult t rd (pairOf m n) ∧ LeadingRun a c m ∧ LeadingRun b d n := by
  obtain ⟨t, run, result⟩ := State.runs_vectorResult on h
  exact ⟨t, run, m, n, result, hm, hn⟩

/-- A result of two rotated elements (R1360, R1361). -/
theorem State.runs_vectorRotate {a b : Word} {m n : Nat}
    (h : exec i s = s.vectorResult rd (a.rotateLeft m ++ b.rotateLeft n)) :
    Runs i s fun t => s.VectorResult t rd (t.r64 rd) ∧ ∀ k, k < 32 →
      bit (hi (t.r64 rd)) k = rotatedBit a m k ∧ bit (lo (t.r64 rd)) k = rotatedBit b n k := by
  obtain ⟨t, run, result⟩ := State.runs_vectorResult on h
  refine ⟨t, run, ?_, fun k hk => ?_⟩
  · rwa [result.result]
  · rw [result.result, hi_append, lo_append]
    exact ⟨bit_rotateLeft a m hk, bit_rotateLeft b n hk⟩

/-- A compare of two elements (R1304). -/
theorem State.runs_vectorCr {rel : Word → Word → Bool} {a b : Dword} {c d : Bool} (h : exec i s = s.vectorCr crfD rel a b)
    (hc : rel (hi a) (hi b) = c) (hd : rel (lo a) (lo b) = d) : Runs i s fun t => s.IntegerCompared t crfD c d := by
  subst hc hd
  exact ⟨_, h.trans (State.vector_on s _ on), s.vectorCompared_setSpefscr s.spefscr crfD _ _, rfl⟩

/-- The bits VecCR writes, for any relation (R1304). -/
theorem State.vectorCr_bits (crfD : CrField) (rel : Word → Word → Bool) (x y : Dword) :
    ∃ t, s.vectorCr crfD rel x y = .next t ∧
      bit t.cr (4 * crfD.toNat) = rel (hi x) (hi y) ∧ bit t.cr (4 * crfD.toNat + 1) = rel (lo x) (lo y) ∧
      bit t.cr (4 * crfD.toNat + 2) = (rel (hi x) (hi y) || rel (lo x) (lo y)) ∧
      bit t.cr (4 * crfD.toNat + 3) = (rel (hi x) (hi y) && rel (lo x) (lo y)) ∧
      ∀ k : CrField, k ≠ crfD → t.crField k = s.crField k := by
  obtain ⟨field, others, -⟩ :=
    s.vectorCompared_setSpefscr s.spefscr crfD (rel (hi x) (hi y)) (rel (lo x) (lo y))
  obtain ⟨high, low, either, both⟩ := vectorCompareField_getMsbD (rel (hi x) (hi y)) (rel (lo x) (lo y))
  rw [vectorCompareField, ← field, State.crField_getMsbD _ _ (by decide)] at high low either both
  exact ⟨_, State.vector_on s _ on, high, low, either, both, others⟩

/-- A divide of two elements, with the overflow of each (R1390, R1391). -/
theorem State.runs_divideElements {f : Word → Word → Word × Bool} {a b : Dword} {p q : Int × Bool}
    (h : exec i s = s.divideElements rd f a b) (hp : f (hi a) (hi b) = (wordOf p.1, p.2))
    (hq : f (lo a) (lo b) = (wordOf q.1, q.2)) : Runs i s fun t => s.MacSaturated t rd false p q := by
  rw [State.divideElements, hp, hq] at h
  have written := s.vectorResult_setR64 rd (pairOf p.1 q.1)
  exact ⟨_, h.trans (State.vector_on s _ on),
    { result := written.result
      others := written.others
      accumulator := rfl
      saturating := fun o ho => by
        cases ho
        exact State.setsOverflow_of_spefscr rfl
      modulo := fun ho => nomatch ho
      frame := rfl }⟩

end

/-- brinc: the index under its mask counts in bit-reversed order (R1310). -/
theorem State.runs_brinc (s : State) (rd ra rb : Reg) :
    Runs (.brinc rd ra rb) s fun t =>
      s.PlainResult t false rd (t.r rd) ∧ (t.r rd).toNat / 65536 = (s.r ra).toNat / 65536 ∧
      ∃ d : Half, (t.r rd).setWidth 16 = d &&& (s.r rb).setWidth 16 ∧
        d.reverse = 1 + ((s.r ra).setWidth 16 ||| ~~~((s.r rb).setWidth 16)).reverse := by
  have low (w : Word) : bits 16 16 w = w.setWidth 16 := bits_low 16 w (by decide)
  refine ⟨_, exec_brinc rd ra rb s, ?_⟩
  rw [low, low]
  have written := s.plainResult_setR rd
    (bits 0 16 (s.r ra) ++
      (reverse16 (1 + reverse16 ((s.r ra).setWidth 16 ||| ~~~((s.r rb).setWidth 16))) &&& (s.r rb).setWidth 16))
  refine ⟨by rwa [written.result], ?_, _, ?_, BitVec.reverse_reverse_eq⟩
  · rw [written.result, toNat_append_half_div, toNat_bits_high]
  · rw [written.result, BitVec.setWidth_append_eq_right]
    rfl

end Sys2Proof.Machine

namespace Sys2Proof.Proofs
open Sys2Proof.Machine

/-- Settles O55: each element is the word of the integer it stands for, or has the bits given. -/
theorem speSimpleInstructions : Obligations.SpeSimpleInstructions := by
  unfold Obligations.SpeSimpleInstructions
  intro s rd ra rb uimm simm crfS
  refine ⟨s.runs_brinc rd ra rb, fun on => ?_⟩
  intro a b
  have byte (w : Word) : sext (bits 24 8 w) = wordOf (w.setWidth 8).toInt := sext_bits_eq_wordOf 8 w (by decide)
  have half (w : Word) : sext (bits 16 16 w) = wordOf (w.setWidth 16).toInt := sext_bits_eq_wordOf 16 w (by decide)
  have rotateCount (w : Word) : w.toNat % 32 = (bits 27 5 w).toNat := (toNat_bits_low 5 w (by decide)).symm
  have selectHigh : bit s.cr (4 * crfS.toNat) = (s.crField crfS).getMsbD 0 :=
    (s.crField_getMsbD crfS (k := 0) (by decide)).symm
  have selectLow : bit s.cr (4 * crfS.toNat + 1) = (s.crField crfS).getMsbD 1 :=
    (s.crField_getMsbD crfS (k := 1) (by decide)).symm
  rw [rotateCount (hi b), rotateCount (lo b), ← shiftCount_eq (hi b), ← shiftCount_eq (lo b), selectHigh, selectLow]
  have whole {i : Instr} {v : Dword} (h : exec i s = s.vectorResult rd v) := State.runs_vectorResult on h
  exact ⟨State.runs_vectorPair on rfl (abs_eq_wordOf _) (abs_eq_wordOf _),
    State.runs_vectorPair on rfl (add_zext_eq_wordOf _ _) (add_zext_eq_wordOf _ _),
    State.runs_vectorPair on rfl (add_eq_wordOf _ _) (add_eq_wordOf _ _),
    State.runs_vectorPair on rfl (neg_eq_wordOf _) (neg_eq_wordOf _),
    State.runs_vectorPair on rfl (sub_eq_wordOf _ _) (sub_eq_wordOf _ _),
    State.runs_vectorPair on rfl (sub_zext_eq_wordOf _ _) (sub_zext_eq_wordOf _ _),
    whole rfl, whole rfl, whole rfl, whole rfl, whole rfl, whole rfl, whole rfl, whole rfl,
    State.runs_vectorCounts on rfl (leadingRun_leadingSigns _) (leadingRun_leadingSigns _),
    State.runs_vectorCounts on rfl (leadingRun_leadingZeros _) (leadingRun_leadingZeros _),
    State.runs_vectorPair on rfl (byte _) (byte _),
    State.runs_vectorPair on rfl (half _) (half _),
    whole rfl, whole rfl, whole rfl, whole rfl,
    State.runs_vectorRotate on rfl, State.runs_vectorRotate on rfl,
    State.runs_vectorPair on rfl (round_eq_wordOf _) (round_eq_wordOf _),
    whole rfl,
    State.runs_vectorPair on rfl (shiftLeft_eq_wordOf _ _) (shiftLeft_eq_wordOf _ _),
    State.runs_vectorPair on rfl (shiftLeft_eq_wordOf _ _) (shiftLeft_eq_wordOf _ _),
    State.runs_vectorPair on rfl (sshiftRight_eq_wordOf _ _) (sshiftRight_eq_wordOf _ _),
    State.runs_vectorPair on rfl (ushiftRight_eq_wordOf _ _) (ushiftRight_eq_wordOf _ _),
    State.runs_vectorPair on rfl (sshiftRight_eq_wordOf _ _) (sshiftRight_eq_wordOf _ _),
    State.runs_vectorPair on rfl (ushiftRight_eq_wordOf _ _) (ushiftRight_eq_wordOf _ _),
    State.runs_vectorPair on rfl (append_zeros_eq_wordOf _) (append_zeros_eq_wordOf _),
    State.runs_vectorPair on rfl (sext_eq_wordOf _) (sext_eq_wordOf _)⟩

/-- Settles O56: the words compare and divide as the integers they stand for. -/
theorem speCompareAndDivide : Obligations.SpeCompareAndDivide := by
  unfold Obligations.SpeCompareAndDivide
  intro s rd ra rb crfD on a b
  exact ⟨State.runs_vectorCr on rfl (beq_eq_decide _ _) (beq_eq_decide _ _),
    State.runs_vectorCr on rfl (slt_eq_decide _ _) (slt_eq_decide _ _),
    State.runs_vectorCr on rfl (ult_eq_decide _ _) (ult_eq_decide _ _),
    State.runs_vectorCr on rfl (slt_eq_decide _ _) (slt_eq_decide _ _),
    State.runs_vectorCr on rfl (ult_eq_decide _ _) (ult_eq_decide _ _),
    State.runs_divideElements on rfl (divideElementSigned_eq _ _) (divideElementSigned_eq _ _),
    State.runs_divideElements on rfl (divideElementUnsigned_eq _ _) (divideElementUnsigned_eq _ _),
    State.vectorCr_bits on crfD⟩

end Sys2Proof.Proofs
end

section
/-! SUPPORT. What an instruction in user mode leaves alone: the control state as one record, the operations that hold it and
MSR, and the interrupts, which change MSR alone of the two (spec/60_exceptions.md R2080, spec/10_state.md R100). -/

namespace Sys2Proof.Machine

/-! ## Control -/

/-- The state that only supervisor mode may change: translation, vectors, hardware and timer control, debug control. The inputs
that wait to arrive inside a multiple are of it too, since it is they that would move the timers. -/
structure Control where
  tlb : Vector TlbEntry 16
  soft : SoftRegs
  ivpr : Word
  ivor : Vector Word 19
  hid : HidRegs
  tim : TimerRegs
  pscr : Word
  l1csr0 : Word
  dbg : DebugRegs
  midway : List MidwayInput

/-- The control state of s, with what user mode may write of its registers (USPRG0, DBSR, DEVENT, DDAM) cleared. -/
def State.control (s : State) : Control :=
  { tlb := s.mmu.tlb
    soft := { s.soft with usprg0 := 0 }
    ivpr := s.int.ivpr
    ivor := s.int.ivor
    hid := s.hid
    tim := s.tim
    pscr := s.psu.pscr
    l1csr0 := s.ic.l1csr0
    dbg := { s.dbg with dbsr := 0, devent := 0, ddam := 0 }
    midway := s.midway }

/-- Control and MSR. An operation that leaves them alone leaves nothing to be said. -/
def State.held (s : State) : Control × Word := (s.control, s.msr)

/-- An operation leads from s to t without a change of control, and changes MSR only as interrupt entry does. -/
structure State.KeepsControl (s t : State) : Prop where
  control : t.control = s.control
  msr : t.msr = s.msr ∨ ∃ c : IntClass, t.msr = newMsr s.hid.hid0 c s.msr

/-- An instruction that begins in s keeps control, if it answers a next state. -/
def State.KeepsControlIn (s : State) : Answer → Prop
  | .next t => s.KeepsControl t
  | .fault _ => True
  | .refused _ => True

variable {s t u : State}

theorem State.held_eq_iff : t.held = s.held ↔ t.control = s.control ∧ t.msr = s.msr := Prod.mk.injEq .. ▸ Iff.rfl

theorem State.KeepsControl.of_held (h : t.held = s.held) : s.KeepsControl t := by
  obtain ⟨control, msr⟩ := State.held_eq_iff.1 h
  exact ⟨control, .inl msr⟩

/-- An operation that keeps control, after one that leaves control and MSR alone. -/
theorem State.KeepsControl.after (h : t.KeepsControl u) (ht : t.held = s.held) : s.KeepsControl u := by
  obtain ⟨control, msr⟩ := State.held_eq_iff.1 ht
  have hid : t.hid = s.hid := congrArg Control.hid control
  exact ⟨h.control.trans control, by simpa only [hid, msr] using h.msr⟩

/-- An operation that leaves control and MSR alone, after one that keeps control. -/
theorem State.KeepsControl.before (h : s.KeepsControl t) (hu : u.held = t.held) : s.KeepsControl u := by
  obtain ⟨control, msr⟩ := State.held_eq_iff.1 hu
  exact ⟨control.trans h.control, by simpa only [msr] using h.msr⟩

theorem State.keepsControlIn_of_held (h : t.held = s.held) : s.KeepsControlIn (.next t) := State.KeepsControl.of_held h

/-- With nothing changed in control, inputs wait exactly when they waited before. -/
theorem State.idle_of_held (h : t.held = s.held) (hm : s.midway = []) : t.midway = [] :=
  (congrArg (fun c => c.1.midway) h).trans hm

/-! ## Operations that leave control and MSR alone -/

section
variable (s : State)

@[simp] theorem State.held_advance (n : Word) : (s.advance n).held = s.held := rfl
@[simp] theorem State.held_setR64 (r : Reg) (v : Dword) : (s.setR64 r v).held = s.held := rfl
@[simp] theorem State.held_setR (r : Reg) (v : Word) : (s.setR r v).held = s.held := rfl
@[simp] theorem State.held_setCrField (f : CrField) (v : BitVec 4) : (s.setCrField f v).held = s.held := rfl
@[simp] theorem State.held_setSpefscr (v : Word) : (s.setSpefscr v).held = s.held := rfl
@[simp] theorem State.held_spendFree : s.spendFree.held = s.held := rfl
@[simp] theorem State.held_suppress : s.suppress.held = s.held := rfl
@[simp] theorem State.held_pulse (o : OutputEvent) : (s.pulse o).held = s.held := rfl
@[simp] theorem State.held_setEsr (v : Word) : (s.setEsr v).held = s.held := rfl
@[simp] theorem State.held_setDear (v : Word) : (s.setDear v).held = s.held := rfl
@[simp] theorem State.held_noteAccess (x : DataAccess) : (s.noteAccess x).held = s.held := rfl
@[simp] theorem State.held_command (k : BitVec 5) (ea : Word) : (s.command k ea).held = s.held := rfl
@[simp] theorem State.held_fetchRequest (real : Word) (n : Nat) (e : TlbEntry) (fill : Option Nat) :
    (s.fetchRequest real n e fill).held = s.held := rfl
@[simp] theorem State.held_dropLine (ea : Word) (way : Nat) : (s.dropLine ea way).held = s.held := rfl
@[simp] theorem State.held_stepReplace (way : Nat) : (s.stepReplace way).held = s.held := rfl
@[simp] theorem State.held_setLock (set way : Nat) (v : Bool) : (s.setLock set way v).held = s.held := rfl
@[simp] theorem State.held_setIcul : s.setIcul.held = s.held := rfl
@[simp] theorem State.held_setIclo : s.setIclo.held = s.held := rfl

@[simp] theorem State.held_record (e : Word) (v : Bool) : (s.record e v).held = s.held := by
  unfold State.record
  split <;> rfl

@[simp] theorem State.held_asyncCheck (e a : Word) (effective : Bool) : (s.asyncCheck e a effective).held = s.held := by
  rw [State.asyncCheck_eq]
  rfl

@[simp] theorem State.held_usedMapping (m : Mapping) : (s.usedMapping m).held = s.held := by
  rw [State.usedMapping_eq]
  rfl

@[simp] theorem State.held_loadMissMas (as : Bool) (ea : Word) : (s.loadMissMas as ea).held = s.held := by
  unfold State.loadMissMas
  simp only []
  split <;> rfl

@[simp] theorem State.held_reportTags (ea real : Word) : (s.reportTags ea real).held = s.held := by
  unfold State.reportTags
  split <;> rfl

@[simp] theorem State.held_fillLine (ea real : Word) (way : Nat) (lock : Bool) :
    (s.fillLine ea real way lock).held = s.held := by
  unfold State.fillLine
  simp only []
  split <;> rfl

theorem State.held_withIc {c : ICache} (h : c.l1csr0 = s.ic.l1csr0) : { s with ic := c }.held = s.held := by
  simp only [State.held, State.control, h]

/-- A pass over the set of an address corrects lines and leaves L1CSR0 alone (R476). -/
theorem State.held_corrected (ea : Word) (spare : Bool) :
    { s with ic := (s.ic.correctSet (s.ic.setOf ea) spare).1 }.held = s.held := by
  obtain ⟨swept, -⟩ := ICache.correctSet_spec (s.ic.setOf_lt ea) spare
  exact s.held_withIc (by rw [swept.only])

end

/-! ## Interrupts -/

section
variable (s : State)

theorem State.control_enter (c : IntClass) (v a : Word) : (s.enter c v a).control = s.control := by
  cases c with
  | nonCritical | critical | machineCheck => rfl
  | debug =>
    unfold State.enter saveContext
    simp only []
    split <;> rfl

theorem State.held_takenEvent (c : IntClass) : (s.takenEvent c).held = s.held := by
  cases c with
  | nonCritical | critical => exact State.held_record _ _ _
  | debug | machineCheck => rfl

theorem State.keepsControl_takeInterrupt (c : IntClass) (v a : Word) : s.KeepsControl (s.takeInterrupt c v a) :=
  State.KeepsControl.before ⟨s.control_enter c v a, .inr ⟨c, rfl⟩⟩ (State.held_takenEvent _ c)

theorem State.keepsControl_raise (n : Nat) : s.KeepsControl (s.raise n) := (s.keepsControl_takeInterrupt _ _ _).before rfl

theorem State.keepsControl_program (cause : Word) : s.KeepsControl (s.program cause) :=
  (State.keepsControl_raise _ 6).after rfl

theorem State.keepsControl_speUnavailable : s.KeepsControl s.speUnavailable := (State.keepsControl_raise _ 16).after rfl

theorem State.keepsControl_efpData : s.KeepsControl s.efpData := (State.keepsControl_raise _ 17).after rfl

theorem State.keepsControl_efpRoundAt (next : Word) : s.KeepsControl (s.efpRoundAt next) :=
  ((State.keepsControl_takeInterrupt (s.setEsr _) .nonCritical (vectorOf s 18) next).before
    (u := s.efpRoundAt next) rfl).after rfl

theorem State.keepsControl_systemCall (next : Word) : s.KeepsControl (s.systemCall next) :=
  (State.keepsControl_takeInterrupt (s.setEsr _) .nonCritical (vectorOf s 8) next).after rfl

theorem State.keepsControl_alignment (ea : Word) (store spe : Bool) : s.KeepsControl (s.alignment ea store spe) :=
  (State.keepsControl_raise _ 5).after rfl

theorem State.keepsControl_takeDebug (a : Word) : s.KeepsControl (s.takeDebug a) :=
  s.keepsControl_takeInterrupt .debug _ a

theorem State.keepsControl_debugInstead (e : Word) : s.KeepsControl (s.debugInstead e) :=
  ((State.keepsControl_takeDebug _ s.pc).before (State.held_suppress _)).after (s.held_record e true)

theorem State.keepsControl_errorReport (report : Word) : s.KeepsControl (s.errorReport report) :=
  ((State.keepsControl_takeInterrupt _ .machineCheck (vectorOf s 1) s.pc).before (State.held_suppress _)).after rfl

theorem State.keepsControl_dataTlbError (store spe : Bool) (ea : Word) : s.KeepsControl (s.dataTlbError store spe ea) :=
  (State.keepsControl_raise _ 13).after (State.held_loadMissMas _ _ ea)

theorem State.keepsControl_dataStorage (store spe : Bool) (extra ea : Word) :
    s.KeepsControl (s.dataStorage store spe extra ea) :=
  (State.keepsControl_raise _ 2).after rfl

theorem State.keepsControl_lockStorage : s.KeepsControl s.lockStorage :=
  (State.keepsControl_dataStorage _ false false _ _).after rfl

theorem State.keepsControl_cacheCheck (async real : Word) : s.KeepsControl (s.cacheCheck async real) :=
  (State.keepsControl_errorReport _ _).after (s.held_asyncCheck async real false)

end

/-! ## Data accesses -/

/-- A data access that begins in s leaves control and MSR alone until it is done, or an interrupt has taken its place. -/
def State.HoldsThrough {α : Type} (s : State) : Access α → Prop
  | .done _ t => t.held = s.held
  | .raised t => s.KeepsControl t

theorem State.HoldsThrough.after {α : Type} {x : Access α} (h : t.HoldsThrough x) (ht : t.held = s.held) :
    s.HoldsThrough x := by
  cases x with
  | done v u => exact Eq.trans h ht
  | raised u => exact State.KeepsControl.after h ht

theorem State.HoldsThrough.bind {α β : Type} {x : Access α} {f : α → State → Access β} (hx : s.HoldsThrough x)
    (hf : ∀ v (t : State), t.held = s.held → t.HoldsThrough (f v t)) : s.HoldsThrough (x.bind f) := by
  cases x with
  | done v t => exact (hf v t hx).after hx
  | raised t => exact hx

theorem State.HoldsThrough.next {α : Type} {x : Access α} {f : α → State → State} (hx : s.HoldsThrough x)
    (hf : ∀ v (t : State), (f v t).held = t.held) : s.KeepsControlIn (x.next f) := by
  cases x with
  | done v t => exact State.keepsControlIn_of_held ((hf v t).trans hx)
  | raised t => exact hx

theorem State.keepsControl_dataFault (s : State) (q : Request) {fault : State → State}
    (hfault : ∀ t : State, t.KeepsControl (fault t)) : s.KeepsControl (s.dataFault q fault) := by
  unfold State.dataFault
  extract_lets x hits c t u
  have noted : u.held = s.held := State.held_record _ _ _
  split
  · split
    · exact ((u.keepsControl_takeDebug s.pc).before (State.held_suppress _)).after noted
    · exact (hfault u).after noted
  · exact (hfault t).after rfl

theorem State.holdsThrough_translateData (s : State) (q : Request) : s.HoldsThrough (s.translateData q) := by
  have missed (ea : Word) := s.keepsControl_dataFault q fun t => t.keepsControl_dataTlbError q.store (q.kind == .spe) ea
  have denied (extra ea : Word) :=
    s.keepsControl_dataFault q fun t => t.keepsControl_dataStorage q.store (q.kind == .spe) extra ea
  unfold State.translateData
  split
  · exact missed _
  · split
    · exact denied _ _
    · split
      · exact State.held_usedMapping _ _
      · simp only []
        split
        · exact missed _
        · split
          · exact denied _ _
          · split
            · exact denied _ _
            · exact (State.held_usedMapping _ _).trans (State.held_usedMapping _ _)

theorem PsuRegs.accumulate_pscr (p : PsuRegs) (store error : Bool) (ea : Word) (bs : List Byte) :
    (p.accumulate store error ea bs).pscr = p.pscr := by
  unfold PsuRegs.accumulate
  exact (apply_ite PsuRegs.pscr _ _ _).trans (ite_self _)

theorem PsuRegs.accumulateAccess_pscr (p : PsuRegs) (store e1 e2 : Bool) (ea : Word) (bs : List Byte) :
    (p.accumulateAccess store e1 e2 ea bs).pscr = p.pscr := by
  unfold PsuRegs.accumulateAccess
  simp only []
  split
  · exact PsuRegs.accumulate_pscr _ _ _ _ _
  · rw [PsuRegs.accumulate_pscr, PsuRegs.accumulate_pscr]

/-- The bus and the signature unit see a transfer; PSCR and the rest of control do not. -/
theorem State.held_transfer (s : State) (q : Request) (m m2 : Mapping) (real : List Word) (bs : List Byte) (e1 e2 : Bool)
    (cells : Memory) : { s.transfer q m m2 real bs e1 e2 with mem := cells }.held = s.held := by
  simp only [State.held, State.control, State.transfer, PsuRegs.accumulateAccess_pscr]

theorem State.holdsThrough_loadBytes (s : State) (ea : Word) (n : Nat) (kind : AccessKind) :
    s.HoldsThrough (s.loadBytes ea n kind) := by
  unfold State.loadBytes
  refine (s.holdsThrough_translateData _).bind fun mm t _ => ?_
  extract_lets real k err1 err2 bytes u g u'
  have moved : u.held = t.held := t.held_transfer _ _ _ _ _ _ _ t.mem
  split
  · exact (State.keepsControl_dataFault u' _ fun v => v.keepsControl_errorReport _).after
      ((State.held_asyncCheck _ _ _ _).trans moved)
  · exact moved

theorem State.holdsThrough_load (s : State) (ea : Word) (n : Nat) (kind : AccessKind) : s.HoldsThrough (s.load ea n kind) :=
  (s.holdsThrough_loadBytes ea n kind).bind fun _ _ _ => rfl

theorem State.holdsThrough_storeImage (s : State) (ea : Word) (n : Nat) (image : Bool → List Byte) (kind : AccessKind) :
    s.HoldsThrough (s.storeImage ea n image kind) := by
  unfold State.storeImage
  refine (s.holdsThrough_translateData _).bind fun mm t _ => ?_
  extract_lets real bytes k err1 err2 e precise refused cells kept transferred u u'
  have moved : u.held = t.held := t.held_transfer _ _ _ _ _ _ _ _
  have checked : u'.held = t.held := (State.held_asyncCheck _ _ _ _).trans moved
  split
  · split
    · exact (State.keepsControl_dataFault u' _ fun w => w.keepsControl_errorReport _).after checked
    · exact checked
  · exact moved

theorem State.holdsThrough_store (s : State) (ea : Word) (n : Nat) (v : Dword) (kind : AccessKind) :
    s.HoldsThrough (s.store ea n v kind) :=
  s.holdsThrough_storeImage ea n _ kind

theorem State.holdsThrough_loadWords (hm : s.midway = []) (interruptible : Bool) (ea : Word) (k : Nat)
    (fs : List (Word → State → State)) (hfs : ∀ f ∈ fs, ∀ v (t : State), (f v t).held = t.held) :
    s.HoldsThrough (s.loadWords interruptible ea k fs) := by
  induction fs generalizing s ea k with
  | nil => exact rfl
  | cons f fs ih =>
    obtain ⟨hf, hrest⟩ := List.forall_mem_cons.1 hfs
    unfold State.loadWords
    rw [State.mayAbandon_idle hm]
    refine (s.holdsThrough_load ea 4 .multiple).bind fun v u hu => ?_
    exact (ih (State.idle_of_held ((hf (lo v) u).trans hu) hm) _ _ hrest).after (hf (lo v) u)

theorem State.holdsThrough_storeWords (hm : s.midway = []) (interruptible : Bool) (ea : Word) (k : Nat) (vs : List Word) :
    s.HoldsThrough (s.storeWords interruptible ea k vs) := by
  induction vs generalizing s ea k with
  | nil => exact rfl
  | cons v vs ih =>
    unfold State.storeWords
    rw [State.mayAbandon_idle hm]
    exact (s.holdsThrough_store ea 4 _ .multiple).bind fun _ u hu => ih (State.idle_of_held hu hm) _ _

end Sys2Proof.Machine
end

section
/-! SUPPORT. The shapes of the instructions in user mode, with no input waiting: each keeps control. -/

namespace Sys2Proof.Machine

variable {s t : State}

/-! ## Results, traps and branches -/

/-- A privileged instruction in user mode (R2080). -/
theorem State.keepsControlIn_ite_user (hs : s.userMode = true) (o : Answer) :
    s.KeepsControlIn (if s.userMode then .next s.privileged else o) := by
  rw [if_pos hs]
  exact s.keepsControl_program _

theorem State.keepsControlIn_supervisor (hs : s.userMode = true) (f : State → Answer) : s.KeepsControlIn (s.supervisor f) :=
  State.keepsControlIn_ite_user hs _

theorem State.keepsControlIn_illegal (s : State) : s.KeepsControlIn (.next s.illegal) := s.keepsControl_program _

/-- A result of an integer instruction. -/
theorem State.keepsControlIn_result (s : State) (f : Form) (rt : Reg) (v : Word) (ca ov : Bool) :
    s.KeepsControlIn (.next ((s.result f rt v ca ov).advance 4)) := by
  rw [State.result_eq]
  exact State.keepsControlIn_of_held rfl

theorem State.keepsControlIn_divideUndefined (s : State) (f : Form) (rt : Reg) :
    s.KeepsControlIn (.next ((s.divideUndefined f rt).advance 4)) := by
  rw [State.divideUndefined_eq]
  exact State.keepsControlIn_of_held rfl

theorem State.keepsControlIn_divideSigned (s : State) (f : Form) (rt : Reg) (a b : Word) :
    s.KeepsControlIn (s.divideSigned f rt a b) := by
  unfold State.divideSigned
  split
  · exact s.keepsControlIn_divideUndefined f rt
  · exact s.keepsControlIn_result _ _ _ _ _

theorem State.keepsControlIn_divideUnsigned (s : State) (f : Form) (rt : Reg) (a b : Word) :
    s.KeepsControlIn (s.divideUnsigned f rt a b) := by
  unfold State.divideUnsigned
  split
  · exact s.keepsControlIn_divideUndefined f rt
  · exact s.keepsControlIn_result _ _ _ _ _

theorem State.keepsControlIn_trap (s : State) (met : Bool) : s.KeepsControlIn (s.trap met) := by
  unfold State.trap
  split
  · exact State.keepsControlIn_of_held rfl
  · split
    · exact s.keepsControl_debugInstead _
    · exact (State.keepsControl_program _ _).after (s.held_record _ _)

theorem State.keepsControlIn_branch (s : State) (taken link : Bool) (ctr target : Word) :
    s.KeepsControlIn (s.branch taken link ctr target) := by
  unfold State.branch
  split
  · exact s.keepsControl_debugInstead _
  · simp only []
    split <;> exact State.keepsControlIn_of_held rfl

theorem State.keepsControlIn_returnPlain (hs : s.userMode = true) (x0 x1 : Word) (o : OutputEvent) :
    s.KeepsControlIn (s.returnPlain x0 x1 o) :=
  State.keepsControlIn_supervisor hs _

theorem State.keepsControlIn_returnNonCritical (hs : s.userMode = true) : s.KeepsControlIn s.returnNonCritical :=
  State.keepsControlIn_supervisor hs _

theorem State.keepsControlIn_returnCritical (hs : s.userMode = true) : s.KeepsControlIn s.returnCritical :=
  State.keepsControlIn_supervisor hs _

theorem State.keepsControlIn_returnDebug (hs : s.userMode = true) : s.KeepsControlIn s.returnDebug := by
  unfold State.returnDebug
  split
  · exact s.keepsControlIn_illegal
  · exact State.keepsControlIn_supervisor hs _

theorem State.keepsControlIn_notifyHalt (s : State) (ir : Word) (dui : BitVec 5) : s.KeepsControlIn (s.notifyHalt ir dui) := by
  unfold State.notifyHalt
  split
  · exact s.keepsControlIn_illegal
  · exact State.keepsControlIn_of_held rfl

theorem State.keepsControlIn_mbar (s : State) (mo : BitVec 5) : s.KeepsControlIn (execMbar mo s) := by
  unfold execMbar
  split
  · exact State.keepsControlIn_of_held rfl
  · exact s.keepsControlIn_illegal

/-! ## Floating-point and SPE instructions -/

theorem State.keepsControlIn_efpCommit {h l : ElementResult} {write : Bool → State → State}
    (hwrite : ∀ b (t : State), (write b t).held = t.held) : s.KeepsControlIn (s.efpCommit h l write) := by
  rw [State.efpCommit_eq]
  split
  · exact (State.keepsControl_efpData _).after (s.held_setSpefscr _)
  · split
    · exact (State.keepsControl_efpRoundAt _ _).after ((hwrite true _).trans (s.held_setSpefscr _))
    · exact State.keepsControlIn_of_held ((hwrite false _).trans (s.held_setSpefscr _))

/-- An instruction that tests MSR[SPE] and then does what o says. -/
theorem State.keepsControlIn_spe {o : Answer} (h : s.KeepsControlIn o) :
    s.KeepsControlIn (if !s.speOn then .next s.speUnavailable else o) := by
  split
  · exact s.keepsControl_speUnavailable
  · exact h

/-- A result of an SPE instruction without memory access. -/
theorem State.keepsControlIn_vector (h : t.held = s.held) : s.KeepsControlIn (s.vector t) := by
  rw [State.vector_eq]
  split
  · exact State.keepsControlIn_of_held h
  · exact s.keepsControl_speUnavailable

theorem State.keepsControlIn_scalarCommit (s : State) (rd : Reg) (e : ElementResult) :
    s.KeepsControlIn (s.scalarCommit rd e) :=
  State.keepsControlIn_efpCommit fun _ t => t.held_setR rd _

theorem State.keepsControlIn_vectorCommit (s : State) (rd : Reg) (h l : ElementResult) :
    s.KeepsControlIn (s.vectorCommit rd h l) :=
  State.keepsControlIn_spe (State.keepsControlIn_efpCommit fun _ t => t.held_setR64 rd _)

theorem State.keepsControlIn_scalarCompare (s : State) (crfD : CrField) (k : Bool) (a b : Word) :
    s.KeepsControlIn (s.scalarCompare crfD k a b) :=
  State.keepsControlIn_efpCommit fun _ _ => by rfl

theorem State.keepsControlIn_vectorCompare (s : State) (crfD : CrField) (rel : Word → Word → Bool) (a b : Dword) :
    s.KeepsControlIn (s.vectorCompare crfD rel a b) :=
  State.keepsControlIn_spe (State.keepsControlIn_efpCommit fun _ t => t.held_setCrField crfD _)

theorem State.keepsControlIn_vectorTest (s : State) (crfD : CrField) (rel : Word → Word → Bool) (a b : Dword) :
    s.KeepsControlIn (s.vectorTest crfD rel a b) :=
  State.keepsControlIn_spe (State.keepsControlIn_of_held rfl)

theorem State.keepsControlIn_vectorResult (s : State) (rd : Reg) (v : Dword) : s.KeepsControlIn (s.vectorResult rd v) :=
  State.keepsControlIn_vector (s.held_setR64 rd v)

theorem State.keepsControlIn_vectorCr (s : State) (crfD : CrField) (rel : Word → Word → Bool) (a b : Dword) :
    s.KeepsControlIn (s.vectorCr crfD rel a b) :=
  State.keepsControlIn_vector (s.held_setCrField crfD _)

theorem State.keepsControlIn_divideElements (s : State) (rd : Reg) (f : Word → Word → Word × Bool) (a b : Dword) :
    s.KeepsControlIn (s.divideElements rd f a b) :=
  State.keepsControlIn_vector ((State.held_setSpefscr _ _).trans (s.held_setR64 rd _))

theorem State.keepsControlIn_macResult (s : State) (rd : Reg) (toAcc : Bool) (v : Dword) (ov : Option (Bool × Bool)) :
    s.KeepsControlIn (s.macResult rd toAcc v ov) :=
  State.keepsControlIn_vector (by cases toAcc <;> cases ov <;> rfl)

theorem State.keepsControlIn_macModulo (s : State) (rd : Reg) (toAcc : Bool) (v : Dword) :
    s.KeepsControlIn (s.macResult rd toAcc v none) :=
  s.keepsControlIn_macResult rd toAcc v none

theorem State.keepsControlIn_macSaturated (s : State) (rd : Reg) (toAcc : Bool) (v : Dword) (o : Bool × Bool) :
    s.KeepsControlIn (s.macResult rd toAcc v (some o)) :=
  s.keepsControlIn_macResult rd toAcc v (some o)

/-! ## Loads and stores -/

theorem State.keepsControlIn_loadInto (s : State) (n : Nat) (f : Dword → Word) (update : Option Reg) (rt : Reg) (ea : Word) :
    s.KeepsControlIn (s.loadInto n f update rt ea) :=
  (s.holdsThrough_load ea n .base).next fun _ _ => by cases update <;> rfl

theorem State.keepsControlIn_storeFrom (s : State) (n : Nat) (v : Word) (update : Option Reg) (ea : Word) :
    s.KeepsControlIn (s.storeFrom n v update ea) :=
  (s.holdsThrough_store ea n _ .base).next fun _ _ => by cases update <;> rfl

/-- An access that must be aligned, and is turned away or does what o says. -/
theorem State.keepsControlIn_aligned {o : Answer} (h : s.KeepsControlIn o) (c : Bool) (ea : Word) (store spe : Bool) :
    s.KeepsControlIn (if c then .next (s.alignment ea store spe) else o) := by
  split
  · exact s.keepsControl_alignment ea store spe
  · exact h

theorem State.keepsControlIn_loadReserve (s : State) (n : Nat) (rt : Reg) (ea : Word) :
    s.KeepsControlIn (s.loadReserve n rt ea) :=
  State.keepsControlIn_aligned ((s.holdsThrough_load ea n .atomic).next fun _ _ => by rfl) _ _ _ _

theorem State.keepsControlIn_storeConditional (s : State) (n : Nat) (rs : Reg) (ea : Word) :
    s.KeepsControlIn (s.storeConditional n rs ea) := by
  unfold State.storeConditional
  split
  · exact State.keepsControlIn_of_held rfl
  · exact State.keepsControlIn_aligned ((s.holdsThrough_store ea n _ .atomic).next fun _ _ => by rfl) _ _ _ _

theorem State.keepsControlIn_vectorLoad (s : State) (strict : Bool) (n : Nat) (rd : Reg) (ea : Word)
    (layout : List Byte × Mapping → Dword) : s.KeepsControlIn (s.vectorLoad strict n rd ea layout) :=
  State.keepsControlIn_spe <| State.keepsControlIn_aligned
    ((s.holdsThrough_loadBytes ea n .spe).next fun _ _ => by rfl) _ _ _ _

theorem State.keepsControlIn_vectorStore (s : State) (strict : Bool) (n : Nat) (ea : Word) (elements : List Dword) :
    s.KeepsControlIn (s.vectorStore strict n ea elements) :=
  State.keepsControlIn_spe <| State.keepsControlIn_aligned
    ((s.holdsThrough_storeImage ea _ _ .spe).next fun _ _ => by rfl) _ _ _ _

section
variable (hm : s.midway = [])
include hm

theorem State.keepsControlIn_loadMultiple (rt : Reg) (ea : Word) : s.KeepsControlIn (s.loadMultiple rt ea) := by
  refine State.keepsControlIn_aligned ((State.holdsThrough_loadWords hm true ea 0 _ ?_).next fun _ _ => by rfl) _ _ _ _
  intro f hf v t
  obtain ⟨r, -, rfl⟩ := List.mem_map.1 hf
  rfl

theorem State.keepsControlIn_storeMultiple (rs : Reg) (ea : Word) : s.KeepsControlIn (s.storeMultiple rs ea) :=
  State.keepsControlIn_aligned ((State.holdsThrough_storeWords hm true ea 0 _).next fun _ _ => by rfl) _ _ _ _

theorem State.keepsControlIn_loadGroup (interruptible : Bool) (ra : Reg) (d8 : BitVec 8)
    {fs : List (Word → State → State)} (hfs : ∀ f ∈ fs, ∀ v (t : State), (f v t).held = t.held) :
    s.KeepsControlIn (s.loadGroup interruptible ra d8 fs) :=
  State.keepsControlIn_aligned ((State.holdsThrough_loadWords hm interruptible _ 0 fs hfs).next fun _ _ => by rfl) _ _ _ _

theorem State.keepsControlIn_storeGroup (interruptible : Bool) (ra : Reg) (d8 : BitVec 8) (vs : List Word) :
    s.KeepsControlIn (s.storeGroup interruptible ra d8 vs) :=
  State.keepsControlIn_aligned ((State.holdsThrough_storeWords hm interruptible _ 0 vs).next fun _ _ => by rfl) _ _ _ _

end

theorem held_gprWriters (rs : List Reg) :
    ∀ f ∈ rs.map (fun r v (t : State) => t.setR r v), ∀ v (t : State), (f v t).held = t.held := by
  intro f hf v t
  obtain ⟨r, -, rfl⟩ := List.mem_map.1 hf
  rfl

theorem held_volatileSprWriters : ∀ f ∈ volatileSprWriters, ∀ v (t : State), (f v t).held = t.held := by
  simp only [volatileSprWriters, List.forall_mem_cons, List.not_mem_nil, false_imp_iff, implies_true, and_true]
  exact ⟨fun _ _ => rfl, fun _ _ => rfl, fun _ _ => rfl, fun _ _ => rfl⟩

/-! ## The cache instructions -/

theorem State.keepsControlIn_done (h : t.held = s.held) : s.KeepsControlIn (t.done 4) := State.keepsControlIn_of_held h

/-- icbi changes lines: those that its correction repairs, and those that it clears (R900, R476). -/
theorem State.held_cleared (s : State) (ea real : Word) (free : Nat) (correcting : Bool) :
    let c := if correcting then (s.ic.correctSet (s.ic.setOf ea) true).1 else s.ic
    { s with ic := (List.range c.ways).foldl (ICache.clearWay free real (s.ic.setOf ea)) c }.held = s.held := by
  intro c
  have corrected : c.l1csr0 = s.ic.l1csr0 := by
    cases correcting with
    | false => rfl
    | true =>
      obtain ⟨swept, -⟩ := ICache.correctSet_spec (s.ic.setOf_lt ea) true
      exact congrArg (fun k => k.l1csr0) swept.only
  refine s.held_withIc (Eq.trans ?_ corrected)
  exact List.foldlRecOn (motive := fun (k : ICache) => k.l1csr0 = c.l1csr0) _ _ rfl fun k hk w _ => by
    unfold ICache.clearWay
    split <;> exact hk

theorem State.keepsControlIn_cacheInvalidate (s : State) (ea : Word) : s.KeepsControlIn (s.cacheInvalidate ea) := by
  unfold State.cacheInvalidate
  simp only []
  split
  · exact State.keepsControlIn_done (s.held_command _ _)
  · split
    · exact (State.keepsControl_dataTlbError _ _ _ _).after (s.held_command _ _)
    · split
      · exact (State.keepsControl_dataStorage _ _ _ _ _).after (s.held_command _ _)
      · split
        · trivial
        · next m _ _ _ =>
          have reported : (((s.command 6 ea).usedMapping m).reportTags ea (m.real ea)).held = s.held := by simp
          generalize ((s.command 6 ea).usedMapping m).reportTags ea (m.real ea) = t at reported
          exact State.keepsControlIn_done ((t.held_cleared ea (m.real ea) t.freeCtr _).trans reported)

theorem State.keepsControlIn_cacheTouch (s : State) (ct : BitVec 5) (ea : Word) : s.KeepsControlIn (s.cacheTouch ct ea) := by
  unfold State.cacheTouch
  simp only []
  split
  · exact State.keepsControlIn_done (s.held_command _ _)
  · split
    · exact State.keepsControlIn_done (s.held_command _ _)
    · split
      · exact State.keepsControlIn_done (by simp)
      · split
        · trivial
        · split
          · exact State.keepsControlIn_done (by simp)
          · split
            · exact State.keepsControlIn_done (by simp)
            · split
              · exact State.keepsControlIn_done (by simp)
              · split
                · exact State.keepsControlIn_done (by simp)
                · split <;> exact State.keepsControlIn_done (by simp)

theorem State.keepsControlIn_lockLine (s : State) (ea : Word) (m : Mapping) : s.KeepsControlIn (s.lockLine ea m) := by
  unfold State.lockLine
  simp only []
  split
  · exact State.keepsControlIn_done (by simp)
  · split
    · exact State.keepsControlIn_done (by simp)
    · split
      · split
        · exact (State.keepsControl_cacheCheck _ _ _).after (by simp)
        · exact State.keepsControlIn_done (by simp)
      · split
        · exact State.keepsControlIn_done (by simp)
        · split
          · split
            · exact (State.keepsControl_cacheCheck _ _ _).after (by simp)
            · exact State.keepsControlIn_done (by simp)
          · exact State.keepsControlIn_done (by simp)

theorem State.keepsControlIn_unlockLine (s : State) (ea : Word) (m : Mapping) : s.KeepsControlIn (s.unlockLine ea m) := by
  unfold State.unlockLine
  split
  · exact State.keepsControlIn_done (by simp)
  · exact State.keepsControlIn_done rfl

theorem State.KeepsControlIn.after {o : Answer} (h : t.KeepsControlIn o) (ht : t.held = s.held) : s.KeepsControlIn o := by
  cases o with
  | next u => exact State.KeepsControl.after h ht
  | fault _ => trivial
  | refused _ => trivial

/-- icbtls and icblc, whose conditions are the same (R478). -/
theorem State.keepsControlIn_lockConditions {act : State → Mapping → Answer} {minds : ICache → Bool}
    (hact : ∀ (t : State) m, t.KeepsControlIn (act t m)) (s : State) (ea : Word) :
    s.KeepsControlIn (s.lockConditions ea act minds) := by
  unfold State.lockConditions
  split
  · exact s.keepsControl_dataTlbError _ _ _
  · next m _ =>
    have reported : ((s.usedMapping m).reportTags ea (m.real ea)).held = s.held := by simp
    generalize (s.usedMapping m).reportTags ea (m.real ea) = t at reported
    have corrected := (t.held_corrected ea (t.ic.cleanWay ea (m.real ea)).isSome).trans reported
    simp only []
    split
    · exact s.keepsControl_lockStorage
    · split
      · exact s.keepsControl_dataStorage _ _ _ _
      · split
        · trivial
        · split
          · split
            · trivial
            · split
              · split
                · exact (hact _ m).after reported
                · exact (State.keepsControl_cacheCheck _ _ _).after reported
              · split
                · exact (State.keepsControl_cacheCheck _ _ _).after corrected
                · exact (hact _ m).after corrected
          · exact (hact _ m).after reported

/-- A cache locking instruction is without effect on the cache with the cache off or CT ≠ 0. -/
theorem lock_off_or_on (s : State) (ct : BitVec 5) : (ct ≠ 0 ∨ s.ic.enabled = false) ∨ ct = 0 ∧ s.ic.enabled = true := by
  by_cases h : ct = 0
  · cases he : s.ic.enabled with
    | true => exact .inr ⟨h, rfl⟩
    | false => exact .inl (.inr rfl)
  · exact .inl (.inl h)

theorem State.keepsControlIn_cacheLock (s : State) (ct : BitVec 5) (ea : Word) : s.KeepsControlIn (s.cacheLock ct ea) := by
  rcases lock_off_or_on s ct with off | ⟨rfl, on⟩
  · rw [State.cacheLock_off ct off]
    exact State.keepsControlIn_done (by simp)
  · rw [State.cacheLock_on on]
    exact (State.keepsControlIn_lockConditions (fun t m => t.keepsControlIn_lockLine ea m) _ ea).after (s.held_command _ _)

theorem State.keepsControlIn_cacheUnlock (s : State) (ct : BitVec 5) (ea : Word) :
    s.KeepsControlIn (s.cacheUnlock ct ea) := by
  rcases lock_off_or_on s ct with off | ⟨rfl, on⟩
  · rw [State.cacheUnlock_off ct off]
    exact State.keepsControlIn_done (by simp)
  · rw [State.cacheUnlock_on on]
    exact (State.keepsControlIn_lockConditions (fun t m => t.keepsControlIn_unlockLine ea m) _ ea).after (s.held_command _ _)

/-! ## Special-purpose registers -/

/-- The numbers that user mode may write, which have no bit of weight 16: XER, LR, CTR, USPRG0, SPEFSCR, DDAM and DEVENT. -/
theorem writableSprs_user : ∀ n ∈ writableSprs, n.testBit 4 = false → n ∈ [1, 8, 9, 256, 512, 576, 975] := by decide

/-- The registers that user mode may write are none of control. -/
theorem State.held_writeSpr {n : Nat} {v : Word} (hn : n.testBit 4 = false) (h : s.writeSpr n v = some t) :
    t.held = s.held := by
  have writable : n ∈ writableSprs := by
    by_contra other
    exact nomatch (s.writeSpr_of_not_writable v other).symm.trans h
  have user := writableSprs_user n writable hn
  simp only [List.mem_cons, List.not_mem_nil, or_false] at user
  rcases user with rfl | rfl | rfl | rfl | rfl | rfl | rfl
  all_goals
    obtain rfl : _ = t := Option.some.inj h
    rfl

theorem State.keepsControlIn_mtspr (hs : s.userMode = true) (rs : Reg) (f : BitVec 10) :
    s.KeepsControlIn (execMtspr rs f s) := by
  unfold execMtspr
  rw [registerNumber_eq_numberOf, supervisorSpr, hs, Bool.and_true]
  split
  · exact s.keepsControl_program _
  · next user =>
    have number : ∀ k, k.testBit 4 = true → numberOf f ≠ k := by
      rintro _ hk rfl
      exact user hk
    unfold State.moveToSpr
    rw [if_neg (number 318 rfl), if_neg (number 319 rfl), if_neg (number 959 rfl)]
    split
    · next t h => exact State.keepsControlIn_of_held ((t.held_advance 4).trans (State.held_writeSpr (by simpa using user) h))
    · exact s.keepsControlIn_illegal

theorem State.keepsControlIn_mfspr (s : State) (rt : Reg) (f : BitVec 10) :
    s.KeepsControlIn (execMfspr rt f s) := by
  unfold execMfspr State.moveFromSpr
  split
  · exact s.keepsControl_program _
  · split
    · exact State.keepsControlIn_of_held rfl
    · split
      · exact State.keepsControlIn_of_held rfl
      · split
        · exact State.keepsControlIn_of_held rfl
        · exact s.keepsControlIn_illegal

end Sys2Proof.Machine
end

section
/-! SUPPORT. Every instruction in user mode keeps control. -/

namespace Sys2Proof.Machine

theorem State.keepsControlIn_exec {s : State} (hs : s.userMode = true) (hm : s.midway = []) (i : Instr) :
    s.KeepsControlIn (exec i s) := by
  cases i with
  | add | addRc | addc | addcRc | addco | addcoRc | adde | addeRc | addeo | addeoRc | addi | addic | addicRc | addis | addme
  | addmeRc | addmeo | addmeoRc | addo | addoRc | addze | addzeRc | addzeo | addzeoRc | neg | negRc | nego | negoRc | subf
  | subfRc | subfc | subfcRc | subfco | subfcoRc | subfe | subfeRc | subfeo | subfeoRc | subfic | subfme | subfmeRc | subfmeo
  | subfmeoRc | subfo | subfoRc | subfze | subfzeRc | subfzeo | subfzeoRc
  | and | andRc | andc | andcRc | andiRc | andisRc | cntlzw | cntlzwRc | eqv | eqvRc | extsb | extsbRc | extsh | extshRc
  | mulhw | mulhwRc | mulhwu | mulhwuRc | nand | nandRc | nor | norRc | or | orRc | orc | orcRc | ori | oris | rlwimi
  | rlwimiRc | rlwinm | rlwinmRc | rlwnm | rlwnmRc | slw | slwRc | srw | srwRc | xor | xorRc | xori | xoris
  | mulli | mullw | mullwRc | mullwo | mullwoRc | sraw | srawRc | srawi | srawiRc => exact s.keepsControlIn_result _ _ _ _ _
  | b | ba | bc | bca | bcctr | bcctrl | bcl | bcla | bclr | bclrl | bl | bla => exact s.keepsControlIn_branch _ _ _ _
  | cmp | cmpi | cmpl | cmpli | crand | crandc | creqv | crnand | crnor | cror | crorc | crxor | dcba | dcbf | dcblc | dcbst
  | dcbt | dcbtls | dcbtst | dcbtstls | isync | msync | seIsync | isel | mfcr | brinc | mcrf | mcrxr | mtcrf | wait
  | efststgt | efststlt | efststeq => exact State.keepsControlIn_of_held rfl
  | dcbi | tlbsync | mfdcr | mfmsr | mtdcr | mtmsr | wrtee | wrteei | tlbivax | tlbre | tlbsx | tlbwe | eLmvsrrw | eLmvcsrrw
  | eLmvdsrrw | eLmvmcsrrw | eStmvsrrw | eStmvcsrrw | eStmvdsrrw | eStmvmcsrrw => exact State.keepsControlIn_ite_user hs _
  | rfci | seRfci => exact State.keepsControlIn_returnCritical hs
  | rfi | seRfi => exact State.keepsControlIn_returnNonCritical hs
  | rfmci | seRfmci => exact State.keepsControlIn_returnPlain hs _ _ _
  | rfdi | seRfdi => exact State.keepsControlIn_returnDebug hs
  | dcbz => exact s.keepsControl_alignment _ _ _
  | divw | divwRc | divwo | divwoRc => exact s.keepsControlIn_divideSigned _ _ _ _
  | divwu | divwuRc | divwuo | divwuoRc => exact s.keepsControlIn_divideUnsigned _ _ _ _
  | icbi => exact s.keepsControlIn_cacheInvalidate _
  | icblc => exact s.keepsControlIn_cacheUnlock _ _
  | icbt => exact s.keepsControlIn_cacheTouch _ _
  | icbtls => exact s.keepsControlIn_cacheLock _ _
  | lbz | lbzx | lha | lhax | lhbrx | lhz | lhzx | lwbrx | lwz | lwzx => exact s.keepsControlIn_loadInto _ _ none _ _
  | lbzu | lbzux | lhau | lhaux | lhzu | lhzux | lwzu | lwzux => exact s.keepsControlIn_loadInto _ _ (some _) _ _
  | lmw | eLmw => exact State.keepsControlIn_loadMultiple hm _ _
  | lwarx | lbarx | lharx => exact s.keepsControlIn_loadReserve _ _ _
  | mbar => exact s.keepsControlIn_mbar _
  | mfspr => exact s.keepsControlIn_mfspr _ _
  | mtspr => exact State.keepsControlIn_mtspr hs _ _
  | sc | seSc => exact s.keepsControl_systemCall _
  | stb | stbx | sth | sthbrx | sthx | stw | stwbrx | stwx => exact s.keepsControlIn_storeFrom _ _ none _
  | stbu | stbux | sthu | sthux | stwu | stwux => exact s.keepsControlIn_storeFrom _ _ (some _) _
  | stmw | eStmw => exact State.keepsControlIn_storeMultiple hm _ _
  | stwcxRc | stbcxRc | sthcxRc => exact s.keepsControlIn_storeConditional _ _ _
  | tw | twi => exact s.keepsControlIn_trap _
  | dnh | seDnh | eDnh => exact s.keepsControlIn_notifyHalt _ _
  | eLmvgprw => exact State.keepsControlIn_loadGroup hm _ _ _ (held_gprWriters _)
  | eStmvgprw | eStmvsprw => exact State.keepsControlIn_storeGroup hm _ _ _ _
  | eLmvsprw => exact State.keepsControlIn_loadGroup hm _ _ _ held_volatileSprWriters
  | efsabs | efsnabs | efsneg | efsadd | efssub | efsmul | efsdiv | efsmadd | efsmsub | efsnmadd | efsnmsub | efssqrt
  | efsmax | efsmin | efscfui | efscfsi | efscfuf | efscfsf | efscfh | efsctui | efsctsi | efsctuiz | efsctsiz | efsctuf
  | efsctsf | efscth => exact s.keepsControlIn_scalarCommit _ _
  | efscmpgt | efscmplt | efscmpeq => exact s.keepsControlIn_scalarCompare _ _ _ _
  | evfsabs | evfsnabs | evfsneg | evfsadd | evfssub | evfsaddsub | evfssubadd | evfsaddx | evfssubx | evfsaddsubx
  | evfssubaddx | evfssum | evfsdiff | evfssumdiff | evfsdiffsum | evfsmul | evfsmule | evfsmulo | evfsmulx | evfsdiv
  | evfsmadd | evfsmsub | evfsnmadd | evfsnmsub | evfssqrt | evfsmax | evfsmin | evfscfui | evfscfsi | evfscfuf | evfscfsf
  | evfscfh | evfscth | evfsctui | evfsctsi | evfsctuiz | evfsctsiz | evfsctuf | evfsctsf =>
    exact s.keepsControlIn_vectorCommit _ _ _
  | evfscmpgt | evfscmplt | evfscmpeq => exact s.keepsControlIn_vectorCompare _ _ _ _
  | evfststgt | evfststlt | evfststeq => exact s.keepsControlIn_vectorTest _ _ _ _
  | evabs | evaddiw | evaddw | evneg | evsubfw | evsubifw | evand | evandc | eveqv | evnand | evnor | evor | evorc | evxor
  | evcntlsw | evcntlzw | evextsb | evextsh | evmergehi | evmergehilo | evmergelo | evmergelohi | evrlw | evrlwi | evrndw
  | evsel | evslw | evslwi | evsrwis | evsrwiu | evsrws | evsrwu | evsplatfi | evsplati =>
    exact s.keepsControlIn_vectorResult _ _
  | evcmpeq | evcmpgts | evcmpgtu | evcmplts | evcmpltu => exact s.keepsControlIn_vectorCr _ _ _ _
  | evdivws | evdivwu => exact s.keepsControlIn_divideElements _ _ _ _
  | evmwhsmf | evmwhsmfa | evmwhsmi | evmwhsmia | evmwhumi | evmwhumia | evmwlumi | evmwlumia | evmhesmf | evmhesmfa
  | evmhesmi | evmhesmia | evmheumi | evmheumia | evmhosmf | evmhosmfa | evmhosmi | evmhosmia | evmhoumi | evmhoumia =>
    exact s.keepsControlIn_macModulo _ _ _
  | evmwhssf | evmwhssfa | evmhessf | evmhessfa | evmhossf | evmhossfa => exact s.keepsControlIn_macSaturated _ _ _ _
  | evmwlsmiaaw | evmwlsmianw | evmwlumiaaw | evmwlumianw | evaddsmiaaw | evaddumiaaw | evsubfsmiaaw | evsubfumiaaw
  | evmhesmfaaw | evmhesmfanw | evmhesmiaaw | evmhesmianw | evmheumiaaw | evmheumianw | evmhosmfaaw | evmhosmfanw
  | evmhosmiaaw | evmhosmianw | evmhoumiaaw | evmhoumianw => exact s.keepsControlIn_macModulo _ _ _
  | evmwlssiaaw | evmwlssianw | evmwlusiaaw | evmwlusianw | evaddssiaaw | evaddusiaaw | evsubfssiaaw | evsubfusiaaw
  | evmhessfaaw | evmhessfanw | evmhessiaaw | evmhessianw | evmheusiaaw | evmheusianw | evmhossfaaw | evmhossfanw
  | evmhossiaaw | evmhossianw | evmhousiaaw | evmhousianw => exact s.keepsControlIn_macSaturated _ _ _ _
  | evmwsmf | evmwsmfa | evmwsmi | evmwsmia | evmwumi | evmwumia | evmra => exact s.keepsControlIn_macModulo _ _ _
  | evmwsmfaa | evmwsmfan | evmwsmiaa | evmwsmian | evmwumiaa | evmwumian | evmhegsmfaa | evmhegsmfan | evmhegsmiaa
  | evmhegsmian | evmhegumiaa | evmhegumian | evmhogsmfaa | evmhogsmfan | evmhogsmiaa | evmhogsmian | evmhogumiaa
  | evmhogumian => exact s.keepsControlIn_macModulo _ _ _
  | evmwssf | evmwssfa => exact s.keepsControlIn_macSaturated _ _ _ _
  | evmwssfaa | evmwssfan => exact s.keepsControlIn_macSaturated _ _ _ _
  | evldd | evlddx | evldw | evldwx | evldh | evldhx | evlwhe | evlwhex | evlwhou | evlwhoux | evlwhos | evlwhosx
  | evlwwsplat | evlwwsplatx | evlwhsplat | evlwhsplatx | evlhhesplat | evlhhesplatx | evlhhousplat | evlhhousplatx
  | evlhhossplat | evlhhossplatx => exact s.keepsControlIn_vectorLoad _ _ _ _ _
  | evstdd | evstddx | evstdw | evstdwx | evstdh | evstdhx | evstwhe | evstwhex | evstwho | evstwhox | evstwwe | evstwwex
  | evstwwo | evstwwox => exact s.keepsControlIn_vectorStore _ _ _ _

end Sys2Proof.Machine

namespace Sys2Proof.Proofs
open Sys2Proof.Machine

/-- Settles O15: each instruction is one of the shapes that keep control in user mode. -/
theorem userModeKeepsControl : Obligations.UserModeKeepsControl := by
  unfold Obligations.UserModeKeepsControl
  intro i s t hs hm h
  have keeps := State.keepsControlIn_exec hs hm i
  rw [h] at keeps
  obtain ⟨control, msr⟩ := keeps
  simp only [State.control, Control.mk.injEq] at control
  obtain ⟨tlb, soft, ivpr, ivor, hid, tim, pscr, l1csr0, dbg, -⟩ := control
  refine ⟨tlb, ?_, ivpr, ivor, hid, tim, pscr, l1csr0, ?_, msr⟩
  · exact congrArg (fun r => { r with usprg0 := t.soft.usprg0 }) soft
  · exact congrArg (fun d => { d with dbsr := t.dbg.dbsr, devent := t.dbg.devent, ddam := t.dbg.ddam }) dbg

end Sys2Proof.Proofs
end

section
/-! SUPPORT. Events recorded in DBSR as the claims say them (Recorded), and interrupts that record nothing but their own event
(spec/61_debug.md R2205, R2214, spec/60_exceptions.md R2008, R2009). -/

namespace Sys2Proof.Machine

/-! ## Recording -/

theorem exists_bit_iff (w : Word) : (∃ j, j < 32 ∧ bit w j = true) ↔ w ≠ 0 := by
  refine ⟨?_, fun h => ?_⟩
  · rintro ⟨j, -, hj⟩ rfl
    exact absurd hj (by simp [bit])
  · by_contra none
    refine h (word_ext _ _ fun i hi => ?_)
    rw [Bool.eq_false_iff.2 fun hb => none ⟨i, hi, hb⟩]
    simp [bit]

theorem Recorded.congr {old new : Word} {P Q : Nat → Prop} {imprecise vle : Bool} (h : Recorded old new P imprecise vle)
    (hPQ : ∀ k, k < 32 → (P k ↔ Q k)) : Recorded old new Q imprecise vle := by
  have some_iff : (∃ j, j < 32 ∧ P j) ↔ ∃ j, j < 32 ∧ Q j :=
    exists_congr fun j => and_congr_right fun hj => hPQ j hj
  intro k hk
  rw [h k hk, hPQ k hk, some_iff]

/-- Nothing is recorded when there is no event. -/
theorem Recorded.none {old : Word} {P : Nat → Prop} {imprecise vle : Bool} (h : ∀ k, ¬P k) : Recorded old old P imprecise vle :=
  fun k _ => by simp [h]

/-- Events recorded at once: their bits, and the bits that go with them. -/
theorem Recorded.of_events {old e : Word} {imprecise vle : Bool} (he : e ≠ 0) :
    Recorded old (old ||| e ||| when imprecise (oneBit 0) ||| when vle (oneBit 27)) (fun k => bit e k = true) imprecise vle := by
  intro k hk
  have any := (exists_bit_iff e).2 he
  simp only [bit_or, bit_when, bit_oneBit _ _ hk, Bool.or_eq_true, Bool.and_eq_true, decide_eq_true_eq, any, true_and,
    or_assoc, eq_comm (a := k), and_comm (b := 0 = k), and_comm (b := 27 = k)]

/-- What record does (R2205). -/
theorem State.recorded_record (s : State) (e : Word) (v : Bool) :
    Recorded s.dbg.dbsr (s.record e v).dbg.dbsr (fun k => s.idm = true ∧ bit e k = true) (!s.de) (v && s.cur.vle) := by
  unfold State.record
  by_cases h : s.idm = true ∧ e ≠ 0
  · obtain ⟨idm, he⟩ := h
    rw [if_pos (by rw [idm, bne_iff_ne.2 he]; rfl)]
    exact (Recorded.of_events he).congr fun k _ => by simp [idm]
  · rw [if_neg (by simpa using h)]
    refine Recorded.none fun k hk => h ⟨hk.1, fun he => ?_⟩
    exact absurd hk.2 (by simp [he, bit])

theorem bit_when_oneBit {c : Bool} {i k : Nat} (hk : k < 32) : bit (when c (oneBit i)) k = true ↔ k = i ∧ c = true := by
  rw [bit_when, bit_oneBit _ _ hk, Bool.and_eq_true, decide_eq_true_eq, and_comm, eq_comm]

/-! ## Interrupts an instruction raises -/

/-- Raising a non-critical interrupt records its being taken, and nothing else (R2214). -/
theorem State.recorded_raise (s : State) (n : Nat) :
    Recorded s.dbg.dbsr (s.raise n).dbg.dbsr (fun k => s.idm = true ∧ k = 6 ∧ bit s.dbg.dbcr0 6 = true) (!bit s.msr 22)
      false := by
  have de : bit (newMsr s.hid.hid0 .nonCritical s.msr) 22 = bit s.msr 22 := by
    rw [newMsr_nonCritical, bit_and]
    exact Bool.and_true _
  have taken := State.recorded_record { s.enter .nonCritical (vectorOf s n) s.pc with cur.irpt := true }
    (when (bit s.dbg.dbcr0 6) (oneBit 6)) false
  have ide : (State.de { s.enter .nonCritical (vectorOf s n) s.pc with cur.irpt := true }) = bit s.msr 22 := de
  rw [ide, Bool.false_and] at taken
  exact taken.congr fun k hk => and_congr_right fun _ => bit_when_oneBit hk

/-- An interrupt raised after ESR and DEAR were written is all that happens. -/
theorem State.onlyInterrupted_raise {s : State} {n : Nat} (h13 : n ≠ 13) (h14 : n ≠ 14) (esr dear : Word) :
    s.OnlyInterrupted (((s.setEsr esr).setDear dear).raise n) n s.pc esr dear where
  toInterrupted := State.interrupted_raise_other h13 h14 esr dear s.cur s.freeCtr
  events := State.recorded_raise _ n

theorem State.onlyInterrupted_program (s : State) (cause : Word) :
    s.OnlyInterrupted (s.program cause) 6 s.pc (cause ||| if s.cur.vle then 0x20 else 0) s.int.dear :=
  State.onlyInterrupted_raise (by decide) (by decide) (cause ||| s.vlemi) s.int.dear

theorem State.onlyInterrupted_alignment (s : State) (ea : Word) (store spe : Bool) :
    s.OnlyInterrupted (s.alignment ea store spe) 5 s.pc
      (((if store then 0x00800000 else 0) ||| if spe then 0x80 else 0) ||| if s.cur.vle then 0x20 else 0) ea := by
  rw [← State.accessEsr_eq]
  exact State.onlyInterrupted_raise (by decide) (by decide) _ ea

/-! ## Interrupt entry -/

/-- Entering an interrupt clears the MSR bits that the table of R2009 clears. -/
theorem bit_newMsr (hid0 : Word) (c : IntClass) (m : Word) {k : Nat} (hk : k < 32) :
    bit (newMsr hid0 c m) k = (keepsMsrBit hid0 c k && bit m k) := by
  have kept : bit (keptMsr hid0 c) k = keepsMsrBit hid0 c k := by
    have held (b : Nat) : (!clears hid0 b) = (bit hid0 23 && !bit hid0 b) := by rw [clears, Bool.not_or, Bool.not_not]
    have single (i : Nat) : bit (oneBit i) k = (k == i) := by
      rw [bit_oneBit _ _ hk, Bool.eq_iff_iff, decide_eq_true_eq, beq_iff_eq, eq_comm]
    cases c <;> simp only [keptMsr, keepsMsrBit, bit_or, bit_when, single, held, Bool.and_comm (k == _)]
  rw [newMsr, bit_and, kept, Bool.and_comm]

theorem State.keepsProgram_takeInterrupt (s : State) (c : IntClass) (v a : Word) : s.KeepsProgram (s.takeInterrupt c v a) :=
  ⟨State.takeInterrupt_gpr s c v a, State.takeInterrupt_cr s c v a, State.takeInterrupt_xer s c v a,
    State.takeInterrupt_lr s c v a, State.takeInterrupt_ctr s c v a, State.takeInterrupt_acc s c v a,
    State.takeInterrupt_spefscr s c v a, State.takeInterrupt_mem s c v a, State.takeInterrupt_reserve s c v a⟩

/-- System call, which saves the address given (R2028). -/
theorem State.interrupted_systemCall (s : State) (next : Word) :
    s.Interrupted (s.systemCall next) 8 next (if s.cur.vle then 0x20 else 0) s.int.dear where
  saved := State.takeInterrupt_int _ _ _ _
  mode := (State.takeInterrupt_msr _ _ _ _).trans (newMsr_nonCritical _ _)
  vector := (State.takeInterrupt_pc _ _ _ _).trans (codeAddress_vectorOf s 8)
  awake := State.takeInterrupt_waiting _ _ _ _
  program := State.keepsProgram_takeInterrupt _ _ _ _
  translation := State.takeInterrupt_mmu _ _ _ _
  frame := by
    have dbg : (s.systemCall next).dbg = { s.dbg with dbsr := (s.systemCall next).dbg.dbsr } := State.record_dbg _ _ _
    rw [State.systemCall, State.takeInterrupt_eq, ← State.systemCall, dbg]
    rfl

end Sys2Proof.Machine

namespace Sys2Proof.Proofs
open Sys2Proof.Machine

/-- Settles O11: entry writes the pair of the class, MSR by the table of R2009, and pc. -/
theorem interruptEntry : Obligations.InterruptEntry := by
  unfold Obligations.InterruptEntry
  intro s c vector address hv
  refine ⟨?_, fun k hk => ?_, ?_, s.keepsProgram_takeInterrupt c vector address⟩
  · rw [State.takeInterrupt_int]
    cases c <;> rfl
  · rw [State.takeInterrupt_msr]
    exact bit_newMsr _ c _ hk
  · rw [State.takeInterrupt_pc]
    exact codeAddress_of_even hv

/-- Settles O12: both take the system call interrupt, with the address after them. -/
theorem systemCalls : Obligations.SystemCalls := by
  unfold Obligations.SystemCalls
  exact fun s => ⟨⟨_, rfl, s.interrupted_systemCall _⟩, ⟨_, rfl, s.interrupted_systemCall _⟩⟩

end Sys2Proof.Proofs
end

section
/-! SUPPORT. The instructions that are turned away: privileged ones in user mode, SPE ones with MSR[SPE] = 0, and accesses that
are not aligned (spec/60_exceptions.md R2025, R2026, R2043, R2080). -/

namespace Sys2Proof.Machine

variable {s : State} {i : Instr}

/-! ## Privilege -/

theorem State.supervisor_user (hs : s.userMode = true) (f : State → Answer) : s.supervisor f = .next s.privileged :=
  if_pos hs

theorem State.returnPlain_user (hs : s.userMode = true) (x0 x1 : Word) (o : OutputEvent) :
    s.returnPlain x0 x1 o = .next s.privileged :=
  State.supervisor_user hs _

theorem State.returnNonCritical_user (hs : s.userMode = true) : s.returnNonCritical = .next s.privileged :=
  State.supervisor_user hs _

theorem State.returnCritical_user (hs : s.userMode = true) : s.returnCritical = .next s.privileged :=
  State.supervisor_user hs _

/-- Every instruction: of those that are not privileged nothing is said. -/
theorem exec_cond_privileged (hs : s.userMode = true) (i : Instr) :
    cond i.isPrivileged (exec i s = .next s.privileged) True := by
  cases i with
  | dcbi | mfdcr | mtdcr | mfmsr | mtmsr | wrtee | wrteei | tlbre | tlbwe | tlbsx | tlbivax | tlbsync | eLmvsrrw
  | eStmvsrrw | eLmvcsrrw | eStmvcsrrw | eLmvdsrrw | eStmvdsrrw | eLmvmcsrrw | eStmvmcsrrw =>
    exact if_pos hs
  | rfi | seRfi =>
    exact State.returnNonCritical_user hs
  | rfci | seRfci =>
    exact State.returnCritical_user hs
  | rfmci | seRfmci =>
    exact State.returnPlain_user hs _ _ _
  | _ => exact True.intro

theorem exec_privileged (hs : s.userMode = true) (hi : i.isPrivileged = true) : exec i s = .next s.privileged := by
  have run := exec_cond_privileged hs i
  rwa [hi] at run

theorem State.returnDebug_user (hs : s.userMode = true) (hd : bit s.hid.hid0 23 = true) :
    s.returnDebug = .next s.privileged :=
  (State.returnDebug_on hd).trans (State.supervisor_user hs _)

/-- A privileged SPR number in user mode, whether there is such a register or not (spec/43_system.md R870). -/
theorem exec_mfspr_user (hs : s.userMode = true) {f : BitVec 10} (hf : (numberOf f).testBit 4 = true) (r : Reg) :
    exec (.mfspr r f) s = .next s.privileged := by
  show execMfspr r f s = _
  rw [execMfspr, registerNumber_eq_numberOf, supervisorSpr, hs, hf]
  rfl

theorem exec_mtspr_user (hs : s.userMode = true) {f : BitVec 10} (hf : (numberOf f).testBit 4 = true) (r : Reg) :
    exec (.mtspr r f) s = .next s.privileged := by
  show execMtspr r f s = _
  rw [execMtspr, registerNumber_eq_numberOf, supervisorSpr, hs, hf]
  rfl

/-! ## MSR[SPE] -/

section
variable (off : s.speOn = false)
include off

theorem State.vector_off (t : State) : s.vector t = .next s.speUnavailable := by
  rw [State.vector_eq, off]
  rfl

theorem State.vectorCommit_off (rd : Reg) (h l : ElementResult) : s.vectorCommit rd h l = .next s.speUnavailable := by
  rw [State.vectorCommit, off]
  rfl

theorem State.vectorCompare_off (crfD : CrField) (rel : Word → Word → Bool) (a b : Dword) :
    s.vectorCompare crfD rel a b = .next s.speUnavailable := by
  rw [State.vectorCompare, off]
  rfl

theorem State.vectorTest_off (crfD : CrField) (rel : Word → Word → Bool) (a b : Dword) :
    s.vectorTest crfD rel a b = .next s.speUnavailable := by
  rw [State.vectorTest, off]
  rfl

theorem State.vectorLoad_off (strict : Bool) (n : Nat) (rd : Reg) (ea : Word) (layout : List Byte × Mapping → Dword) :
    s.vectorLoad strict n rd ea layout = .next s.speUnavailable := by
  rw [State.vectorLoad, off]
  rfl

theorem State.vectorStore_off (strict : Bool) (n : Nat) (ea : Word) (elements : List Dword) :
    s.vectorStore strict n ea elements = .next s.speUnavailable := by
  rw [State.vectorStore, off]
  rfl

theorem State.vectorResult_off (rd : Reg) (v : Dword) : s.vectorResult rd v = .next s.speUnavailable :=
  State.vector_off off _

theorem State.vectorCr_off (crfD : CrField) (rel : Word → Word → Bool) (a b : Dword) :
    s.vectorCr crfD rel a b = .next s.speUnavailable :=
  State.vector_off off _

theorem State.divideElements_off (rd : Reg) (f : Word → Word → Word × Bool) (a b : Dword) :
    s.divideElements rd f a b = .next s.speUnavailable :=
  State.vector_off off _

theorem State.macModulo_off (rd : Reg) (toAcc : Bool) (v : Dword) : s.macResult rd toAcc v none = .next s.speUnavailable :=
  State.vector_off off _

theorem State.macSaturated_off (rd : Reg) (toAcc : Bool) (v : Dword) (o : Bool × Bool) :
    s.macResult rd toAcc v (some o) = .next s.speUnavailable :=
  State.vector_off off _

theorem exec_cond_usesSpe (i : Instr) : cond i.usesSpe (exec i s = .next s.speUnavailable) True := by
  cases i with
  | evfsabs | evfsnabs | evfsneg | evfsadd | evfssub | evfsaddsub | evfssubadd | evfsaddx | evfssubx | evfsaddsubx
  | evfssubaddx | evfssum | evfsdiff | evfssumdiff | evfsdiffsum | evfsmul | evfsmule | evfsmulo | evfsmulx | evfsdiv
  | evfsmadd | evfsmsub | evfsnmadd | evfsnmsub | evfssqrt | evfsmax | evfsmin | evfscfui | evfscfsi | evfscfuf | evfscfsf
  | evfscfh | evfscth | evfsctui | evfsctsi | evfsctuiz | evfsctsiz | evfsctuf | evfsctsf =>
    exact State.vectorCommit_off off _ _ _
  | evfscmpgt | evfscmplt | evfscmpeq =>
    exact State.vectorCompare_off off _ _ _ _
  | evfststgt | evfststlt | evfststeq =>
    exact State.vectorTest_off off _ _ _ _
  | evabs | evaddiw | evaddw | evneg | evsubfw | evsubifw | evand | evandc | eveqv | evnand | evnor | evor | evorc | evxor
  | evcntlsw | evcntlzw | evextsb | evextsh | evmergehi | evmergehilo | evmergelo | evmergelohi | evrlw | evrlwi | evrndw
  | evsel | evslw | evslwi | evsrwis | evsrwiu | evsrws | evsrwu | evsplatfi | evsplati =>
    exact State.vectorResult_off off _ _
  | evcmpeq | evcmpgts | evcmpgtu | evcmplts | evcmpltu =>
    exact State.vectorCr_off off _ _ _ _
  | evdivws | evdivwu =>
    exact State.divideElements_off off _ _ _ _
  | evmwhsmf | evmwhsmfa | evmwhsmi | evmwhsmia | evmwhumi | evmwhumia | evmwlumi | evmwlumia | evmhesmf | evmhesmfa
  | evmhesmi | evmhesmia | evmheumi | evmheumia | evmhosmf | evmhosmfa | evmhosmi | evmhosmia | evmhoumi | evmhoumia =>
    exact State.macModulo_off off _ _ _
  | evmwhssf | evmwhssfa | evmhessf | evmhessfa | evmhossf | evmhossfa =>
    exact State.macSaturated_off off _ _ _ _
  | evmwlsmiaaw | evmwlsmianw | evmwlumiaaw | evmwlumianw | evaddsmiaaw | evaddumiaaw | evsubfsmiaaw | evsubfumiaaw
  | evmhesmfaaw | evmhesmfanw | evmhesmiaaw | evmhesmianw | evmheumiaaw | evmheumianw | evmhosmfaaw | evmhosmfanw
  | evmhosmiaaw | evmhosmianw | evmhoumiaaw | evmhoumianw =>
    exact State.macModulo_off off _ _ _
  | evmwlssiaaw | evmwlssianw | evmwlusiaaw | evmwlusianw | evaddssiaaw | evaddusiaaw | evsubfssiaaw | evsubfusiaaw
  | evmhessfaaw | evmhessfanw | evmhessiaaw | evmhessianw | evmheusiaaw | evmheusianw | evmhossfaaw | evmhossfanw
  | evmhossiaaw | evmhossianw | evmhousiaaw | evmhousianw =>
    exact State.macSaturated_off off _ _ _ _
  | evmwsmf | evmwsmfa | evmwsmi | evmwsmia | evmwumi | evmwumia | evmra =>
    exact State.macModulo_off off _ _ _
  | evmwsmfaa | evmwsmfan | evmwsmiaa | evmwsmian | evmwumiaa | evmwumian | evmhegsmfaa | evmhegsmfan | evmhegsmiaa
  | evmhegsmian | evmhegumiaa | evmhegumian | evmhogsmfaa | evmhogsmfan | evmhogsmiaa | evmhogsmian | evmhogumiaa
  | evmhogumian =>
    exact State.macModulo_off off _ _ _
  | evmwssf | evmwssfa =>
    exact State.macSaturated_off off _ _ _ _
  | evmwssfaa | evmwssfan =>
    exact State.macSaturated_off off _ _ _ _
  | evldd | evlddx | evldw | evldwx | evldh | evldhx | evlwhe | evlwhex | evlwhou | evlwhoux | evlwhos | evlwhosx
  | evlwwsplat | evlwwsplatx | evlwhsplat | evlwhsplatx | evlhhesplat | evlhhesplatx | evlhhousplat | evlhhousplatx
  | evlhhossplat | evlhhossplatx =>
    exact State.vectorLoad_off off _ _ _ _ _
  | evstdd | evstddx | evstdw | evstdwx | evstdh | evstdhx | evstwhe | evstwhex | evstwho | evstwhox | evstwwe | evstwwex
  | evstwwo | evstwwox =>
    exact State.vectorStore_off off _ _ _ _
  | _ => exact True.intro

theorem exec_speUnavailable (hi : i.usesSpe = true) : exec i s = .next s.speUnavailable := by
  have run := exec_cond_usesSpe off i
  rwa [hi] at run

end

/-! ## Alignment -/

theorem misaligned_of_not_multiple {ea : Word} {n : Nat} (h : ea.toNat % n ≠ 0) : misaligned ea n = true := bne_iff_ne.2 h

/-- The alignment interrupt, ESR as the access is (R2025, R2046). -/
theorem State.runs_alignment {ea esr : Word} {store spe : Bool} (h : exec i s = .next (s.alignment ea store spe))
    (hesr : esr = (if store then 0x00800000 else 0) ||| if spe then 0x80 else 0) :
    Runs i s fun t => s.OnlyInterrupted t 5 s.pc (esr ||| if s.cur.vle then 0x20 else 0) ea := by
  subst hesr
  exact ⟨_, h, s.onlyInterrupted_alignment ea store spe⟩

section
variable {r : Reg} {ea : Word}

theorem State.loadMultiple_misaligned (h : ea.toNat % 4 ≠ 0) : s.loadMultiple r ea = .next (s.alignment ea false false) :=
  if_pos (misaligned_of_not_multiple h)

theorem State.storeMultiple_misaligned (h : ea.toNat % 4 ≠ 0) : s.storeMultiple r ea = .next (s.alignment ea true false) :=
  if_pos (misaligned_of_not_multiple h)

theorem State.loadGroup_misaligned {b : Bool} {ra : Reg} {d8 : BitVec 8} {fs : List (Word → State → State)}
    (h : (s.eaD8 ra d8).toNat % 4 ≠ 0) : s.loadGroup b ra d8 fs = .next (s.alignment (s.eaD8 ra d8) false false) :=
  if_pos (misaligned_of_not_multiple h)

theorem State.storeGroup_misaligned {b : Bool} {ra : Reg} {d8 : BitVec 8} {vs : List Word}
    (h : (s.eaD8 ra d8).toNat % 4 ≠ 0) : s.storeGroup b ra d8 vs = .next (s.alignment (s.eaD8 ra d8) true false) :=
  if_pos (misaligned_of_not_multiple h)

theorem State.loadReserve_misaligned {n : Nat} (h : ea.toNat % n ≠ 0) :
    s.loadReserve n r ea = .next (s.alignment ea false false) :=
  if_pos (misaligned_of_not_multiple h)

theorem State.storeConditional_misaligned {n : Nat} (hr : s.reserve = true) (h : ea.toNat % n ≠ 0) :
    s.storeConditional n r ea = .next (s.alignment ea true false) := by
  rw [State.storeConditional, hr, misaligned_of_not_multiple h]
  rfl

theorem State.vectorLoad_misaligned {n : Nat} {layout : List Byte × Mapping → Dword} (on : s.speOn = true)
    (h : ea.toNat % 4 ≠ 0) : s.vectorLoad true n r ea layout = .next (s.alignment ea false true) := by
  rw [State.vectorLoad, on, misaligned_of_not_multiple h]
  rfl

theorem State.vectorStore_misaligned {n : Nat} {elements : List Dword} (on : s.speOn = true) (h : ea.toNat % 4 ≠ 0) :
    s.vectorStore true n ea elements = .next (s.alignment ea true true) := by
  rw [State.vectorStore, on, misaligned_of_not_multiple h]
  rfl

end

end Sys2Proof.Machine

namespace Sys2Proof.Proofs
open Sys2Proof.Machine

/-- Settles O14: in user mode each takes the privileged-instruction exception. -/
theorem privilegedInstructionsTrap : Obligations.PrivilegedInstructionsTrap := by
  unfold Obligations.PrivilegedInstructionsTrap
  intro s hs trapped
  have trap {i : Instr} (h : exec i s = .next s.privileged) : Runs i s trapped := ⟨_, h, s.onlyInterrupted_program _⟩
  exact ⟨fun i hi => trap (exec_privileged hs hi),
    fun hd => ⟨trap (State.returnDebug_user hs hd), trap (State.returnDebug_user hs hd)⟩,
    fun r f hf => ⟨trap (exec_mfspr_user hs hf r), trap (exec_mtspr_user hs hf r)⟩⟩

/-- Settles O23: with MSR[SPE] = 0 each is the SPE unavailable exception. -/
theorem speUnavailable : Obligations.SpeUnavailable := by
  unfold Obligations.SpeUnavailable
  intro s off unavailable
  have taken : unavailable s.speUnavailable := s.interrupted_speUnavailable
  refine ⟨fun i hi => ⟨_, exec_speUnavailable off hi, taken⟩, _, ?_, taken⟩
  rw [State.reject, off]
  rfl

/-- Settles O21: each access that is not aligned is the alignment exception. -/
theorem alignmentInterrupts : Obligations.AlignmentInterrupts := by
  unfold Obligations.AlignmentInterrupts
  intro s r ra rb d d8 uimm v
  have plain {i : Instr} {ea : Word} (h : exec i s = .next (s.alignment ea false false)) :
      Runs i s fun t => s.OnlyInterrupted t 5 s.pc (0 ||| v) ea := State.runs_alignment h rfl
  have store {i : Instr} {ea : Word} (h : exec i s = .next (s.alignment ea true false)) :
      Runs i s fun t => s.OnlyInterrupted t 5 s.pc (0x00800000 ||| v) ea := State.runs_alignment h rfl
  have vectorLoad {i : Instr} {ea : Word} (h : exec i s = .next (s.alignment ea false true)) :
      Runs i s fun t => s.OnlyInterrupted t 5 s.pc (0x80 ||| v) ea := State.runs_alignment h rfl
  have vectorStore {i : Instr} {ea : Word} (h : exec i s = .next (s.alignment ea true true)) :
      Runs i s fun t => s.OnlyInterrupted t 5 s.pc (0x00800080 ||| v) ea := State.runs_alignment h rfl
  have group {i : Instr} {b : Bool} {fs : List (Word → State → State)} (hi : exec i s = s.loadGroup b ra d8 fs)
      (h : (s.eaD8 ra d8).toNat % 4 ≠ 0) := plain (hi.trans (State.loadGroup_misaligned h))
  have groupStore {i : Instr} {b : Bool} {vs : List Word} (hi : exec i s = s.storeGroup b ra d8 vs)
      (h : (s.eaD8 ra d8).toNat % 4 ≠ 0) := store (hi.trans (State.storeGroup_misaligned h))
  refine ⟨?_, fun h => plain (State.loadMultiple_misaligned h), fun h => store (State.storeMultiple_misaligned h),
    fun h => plain (State.loadMultiple_misaligned h), fun h => store (State.storeMultiple_misaligned h),
    group rfl, groupStore rfl, group rfl, groupStore rfl,
    fun h => plain (State.loadReserve_misaligned h), fun h => plain (State.loadReserve_misaligned h),
    fun hr h => store (State.storeConditional_misaligned hr h), fun hr h => store (State.storeConditional_misaligned hr h),
    fun hs => ?_, fun on => ?_⟩
  · have zeroed : Runs (.dcbz ra rb) s fun t => s.OnlyInterrupted t 5 s.pc (0 ||| v) (s.eaX ra rb) := plain rfl
    rwa [show 0 ||| v = v from BitVec.zero_or] at zeroed
  · have pair {i : Instr} {fs : List (Word → State → State)} (hi : exec i s = s.supervisor fun u => u.loadGroup false ra d8 fs)
        (h : (s.eaD8 ra d8).toNat % 4 ≠ 0) := group (hi.trans (State.supervisor_of hs _)) h
    have pairStore {i : Instr} (vs : State → List Word)
        (hi : exec i s = s.supervisor fun u => u.storeGroup false ra d8 (vs u)) (h : (s.eaD8 ra d8).toNat % 4 ≠ 0) :=
      groupStore (hi.trans (State.supervisor_of hs _)) h
    exact ⟨pair rfl, pairStore (fun u => [u.int.srr0, u.int.srr1]) rfl,
      pair rfl, pairStore (fun u => [u.int.csrr0, u.int.csrr1]) rfl,
      pair rfl, pairStore (fun u => [u.int.dsrr0, u.int.dsrr1]) rfl,
      pair rfl, pairStore (fun u => [u.int.mcsrr0, u.int.mcsrr1]) rfl⟩
  · have load {i : Instr} {n : Nat} {ea : Word} {layout : List Byte × Mapping → Dword}
        (hi : exec i s = s.vectorLoad true n r ea layout) (h : ea.toNat % 4 ≠ 0) :=
      vectorLoad (hi.trans (State.vectorLoad_misaligned on h))
    have write {i : Instr} {n : Nat} {ea : Word} {elements : List Dword}
        (hi : exec i s = s.vectorStore true n ea elements) (h : ea.toNat % 4 ≠ 0) :=
      vectorStore (hi.trans (State.vectorStore_misaligned on h))
    exact ⟨load rfl, load rfl, load rfl, load rfl, load rfl, load rfl, write rfl, write rfl, write rfl, write rfl,
      write rfl, write rfl⟩

end Sys2Proof.Proofs
end

section
/-! SUPPORT. Products and accumulated sums of the SPE multiply group over the integers: modulo 2^32 or 2^64, or saturated with the
overflow (spec/48_spe_mac.md R1500 to R1507). -/

namespace Sys2Proof.Machine

/-! ## Integers of 32 and of 64 bits -/

theorem toInt_wordOf {z : Int} (low : -2147483648 ≤ z) (high : z ≤ 2147483647) : (wordOf z).toInt = z := by
  by_contra h
  have := (toInt_wordOf_ne_iff z).1 h
  omega

theorem toNat_wordOf {z : Int} (low : 0 ≤ z) (high : z ≤ 4294967295) : ((wordOf z).toNat : Int) = z := by
  rw [wordOf, BitVec.toNat_ofInt]
  omega

theorem toInt_ofInt_64 {z : Int} (low : -9223372036854775808 ≤ z) (high : z ≤ 9223372036854775807) :
    (BitVec.ofInt 64 z).toInt = z := by
  rw [BitVec.toInt_ofInt, Int.bmod_eq_of_le (by omega) (by omega)]

/-- An integer of 32 bits, sign-extended. -/
theorem signExtend_wordOf {z : Int} (low : -2147483648 ≤ z) (high : z ≤ 2147483647) :
    (wordOf z).signExtend 64 = BitVec.ofInt 64 z := by
  apply BitVec.eq_of_toInt_eq
  rw [BitVec.toInt_signExtend_of_le (by decide), toInt_wordOf low high, toInt_ofInt_64 (by omega) (by omega)]

/-- An unsigned integer of 32 bits, zero-extended. -/
theorem setWidth_wordOf {z : Int} (low : 0 ≤ z) (high : z ≤ 4294967295) : (wordOf z).setWidth 64 = BitVec.ofInt 64 z := by
  lift z to ℕ using low
  rw [wordOf, BitVec.ofInt_natCast, BitVec.ofInt_natCast]
  exact BitVec.setWidth_ofNat_of_le_of_lt (by decide) (by omega)

theorem shiftLeft_ofInt (z : Int) : BitVec.ofInt 64 z <<< 1 = BitVec.ofInt 64 (2 * z) := by
  rw [BitVec.shiftLeft_eq_mul_twoPow, BitVec.ofInt_mul, BitVec.mul_comm]
  rfl

/-! ## Bounds of products -/

theorem abs_mul_le_of_abs_le {x y b : Int} (hx : |x| ≤ b) (hy : |y| ≤ b) : -(b * b) ≤ x * y ∧ x * y ≤ b * b := by
  refine abs_le.1 ?_
  rw [abs_mul]
  exact mul_le_mul hx hy (abs_nonneg _) ((abs_nonneg _).trans hx)

theorem wordProduct_bounds (a b : Word) :
    -4611686018427387904 ≤ a.toInt * b.toInt ∧ a.toInt * b.toInt ≤ 4611686018427387904 := by
  have bound (w : Word) : |w.toInt| ≤ 2147483648 := abs_le.2 ⟨BitVec.le_toInt w, (BitVec.toInt_lt (x := w)).le⟩
  exact abs_mul_le_of_abs_le (bound a) (bound b)

theorem halfProduct_bounds (a b : Half) : -1073741824 ≤ a.toInt * b.toInt ∧ a.toInt * b.toInt ≤ 1073741824 := by
  have bound (w : Half) : |w.toInt| ≤ 32768 := abs_le.2 ⟨BitVec.le_toInt w, (BitVec.toInt_lt (x := w)).le⟩
  exact abs_mul_le_of_abs_le (bound a) (bound b)

theorem halfProductUnsigned_bounds (a b : Half) :
    (0 : Int) ≤ (a.toNat : Int) * b.toNat ∧ (a.toNat : Int) * b.toNat ≤ 4294967295 := by
  have bound (w : Half) : w.toNat ≤ 65535 := by omega
  have product : a.toNat * b.toNat ≤ 65535 * 65535 := Nat.mul_le_mul (bound a) (bound b)
  constructor
  · positivity
  · exact_mod_cast product.trans (by decide)

/-! ## Products of words -/

theorem productUnsigned_eq_ofInt (a b : Word) : productUnsigned a b = BitVec.ofInt 64 (a.toNat * b.toNat) := by
  apply BitVec.eq_of_toNat_eq
  rw [productUnsigned, BitVec.toNat_mul, BitVec.toNat_setWidth, BitVec.toNat_setWidth, BitVec.toNat_ofInt,
    Nat.mod_eq_of_lt (by omega : a.toNat < 2 ^ 64), Nat.mod_eq_of_lt (by omega : b.toNat < 2 ^ 64), ← Int.natCast_mul]
  omega

theorem fractionHigh_eq_hi (p : Dword) : fractionHigh p = hi (p <<< 1) := by
  ext i h
  simp only [fractionHigh, hi, BitVec.getElem_extractLsb', BitVec.getLsbD_shiftLeft]
  rw [show 32 + i - 1 = 31 + i by omega, decide_eq_true (show 32 + i < 64 by omega), decide_eq_false (show ¬32 + i < 1 by omega)]
  rfl

/-- The high word of a fractional product (R1600). -/
theorem fractionHigh_ofInt (z : Int) : fractionHigh (BitVec.ofInt 64 z) = wordOf (2 * z / 4294967296) := by
  rw [fractionHigh_eq_hi, shiftLeft_ofInt, hi_ofInt]

/-! ## Fractional products -/

/-- A product with a zero after its last bit is the product doubled. -/
theorem extract_append_zero {n : Nat} (p : BitVec n) : (p ++ 0#1).extractLsb' 0 n = p <<< 1 := by
  ext i hi
  simp only [BitVec.getElem_extractLsb', BitVec.getLsbD_append, BitVec.getElem_shiftLeft]
  by_cases h : i < 1
  · simp [h]
  · simp [h, BitVec.getLsbD_eq_getElem (by omega : i - 1 < n)]

theorem getMsbD_append_zero {n k : Nat} (p : BitVec n) (hk : k < n) : (p ++ 0#1).getMsbD k = p.getMsbD k := by
  rw [BitVec.getMsbD_append, if_neg (by omega)]

/-- The two high-order bits of a number differ exactly when its double overflows. -/
theorem doubling_overflows {n : Nat} (p : BitVec n) :
    (p.getMsbD 0 != p.getMsbD 1) = (decide (p.toInt < 0) != decide ((p <<< 1).toInt < 0)) := by
  rw [← BitVec.msb_eq_toInt, ← BitVec.msb_eq_toInt, BitVec.msb_shiftLeft]
  rfl

/-- A fractional product of words overflows only for two least integers (R1604, R1628). -/
theorem fraction_overflows (a b : Word) :
    ((productSigned a b).getMsbD 0 != (productSigned a b).getMsbD 1) =
      decide (9223372036854775807 < 2 * (a.toInt * b.toInt)) := by
  obtain ⟨low, high⟩ := wordProduct_bounds a b
  rw [doubling_overflows, toInt_productSigned, productSigned_eq_ofInt, shiftLeft_ofInt, BitVec.toInt_ofInt, Int.bmod_def,
    Bool.eq_iff_iff, bne_iff_ne, ne_eq, decide_eq_decide, decide_eq_true_eq]
  omega

/-- The saturated high word of a fractional product (R1604). -/
theorem fractionHighSaturated_eq (a b : Word) :
    fractionHighSaturated (productSigned a b) =
      (wordOf (fracHigh (a.toInt * b.toInt)).1, (fracHigh (a.toInt * b.toInt)).2) := by
  rw [fractionHighSaturated, fraction_overflows, productSigned_eq_ofInt, fractionHigh_ofInt, fracHigh]
  by_cases h : 9223372036854775807 < 2 * (a.toInt * b.toInt)
  · simp only [h, decide_true, if_true]
    rfl
  · simp only [h, decide_false, Bool.false_eq_true, if_false]

/-- A saturated value and whether it was saturated, in 32 and in 64 bits. -/
def saturatedWord (p : Int × Bool) : Word × Bool := (wordOf p.1, p.2)
def saturatedDword (p : Int × Bool) : Dword × Bool := (BitVec.ofInt 64 p.1, p.2)

/-- The saturated fractional product of words (R1628). -/
theorem fractionSaturated_eq (a b : Word) :
    fractionSaturated (productSigned a b) = saturatedDword (satS64 (2 * (a.toInt * b.toInt))) := by
  obtain ⟨low, high⟩ := wordProduct_bounds a b
  simp only [fractionSaturated]
  rw [getMsbD_append_zero _ (by decide), getMsbD_append_zero _ (by decide), fraction_overflows, extract_append_zero,
    productSigned_eq_ofInt, shiftLeft_ofInt, satS64, clamp, if_neg (by omega : ¬2 * (a.toInt * b.toInt) < _)]
  by_cases h : 9223372036854775807 < 2 * (a.toInt * b.toInt)
  · simp only [h, decide_true, if_true]
    rfl
  · simp only [h, decide_false, Bool.false_eq_true, if_false]
    rfl

/-! ## Products of half words -/

theorem mulSI16_eq (a b : Half) : mulSI16 a b = wordOf (a.toInt * b.toInt) := (BitVec.ofInt_mul ..).symm

theorem mulUI16_eq (a b : Half) : mulUI16 a b = wordOf (a.toNat * b.toNat) := by
  apply BitVec.eq_of_toNat_eq
  rw [mulUI16, BitVec.toNat_mul, BitVec.toNat_setWidth, BitVec.toNat_setWidth, wordOf, BitVec.toNat_ofInt,
    Nat.mod_eq_of_lt (by omega : a.toNat < 2 ^ 32), Nat.mod_eq_of_lt (by omega : b.toNat < 2 ^ 32), ← Int.natCast_mul]
  omega

theorem mulSF16_eq (a b : Half) : mulSF16 a b = wordOf (2 * (a.toInt * b.toInt)) := by
  rw [mulSF16, mulSI16_eq, wordOf_shiftLeft, mul_comm]
  rfl

theorem mulSSF16_eq (a b : Half) : mulSSF16 a b = saturatedWord (satS32 (2 * (a.toInt * b.toInt))) := by
  obtain ⟨low, high⟩ := halfProduct_bounds a b
  have mov : ((mulSI16 a b).getMsbD 0 != (mulSI16 a b).getMsbD 1) = decide (2147483647 < 2 * (a.toInt * b.toInt)) := by
    rw [doubling_overflows, ← mulSF16, mulSI16_eq, mulSF16_eq, toInt_wordOf (by omega) (by omega), wordOf, BitVec.toInt_ofInt,
      Int.bmod_def, Bool.eq_iff_iff, bne_iff_ne, ne_eq, decide_eq_decide, decide_eq_true_eq]
    omega
  simp only [mulSSF16]
  rw [getMsbD_append_zero _ (by decide), getMsbD_append_zero _ (by decide), mov, extract_append_zero, ← mulSF16, mulSF16_eq,
    satS32, clamp, if_neg (by omega : ¬2 * (a.toInt * b.toInt) < _)]
  by_cases h : 2147483647 < 2 * (a.toInt * b.toInt)
  · simp only [h, decide_true, if_true]
    rfl
  · simp only [h, decide_false, Bool.false_eq_true, if_false]
    rfl

/-- The guarded products (R1520 to R1524). -/
theorem guardedSigned_eq (a b : Half) : guardedSigned a b = BitVec.ofInt 64 (a.toInt * b.toInt) := by
  obtain ⟨low, high⟩ := halfProduct_bounds a b
  rw [guardedSigned, mulSI16_eq, signExtend_wordOf (by omega) (by omega)]

theorem guardedUnsigned_eq (a b : Half) : guardedUnsigned a b = BitVec.ofInt 64 (a.toNat * b.toNat) := by
  obtain ⟨low, high⟩ := halfProductUnsigned_bounds a b
  rw [guardedUnsigned, mulUI16_eq, setWidth_wordOf low high]

/-! ## Accumulated sums -/

/-- The sign with which an operand enters a sum. -/
def AccSign.factor : AccSign → Int
  | .plus => 1
  | .minus => -1

theorem AccSign.apply_eq (g : AccSign) (acc p : Int) : g.apply acc p = acc + g.factor * p := by
  cases g
  · rw [AccSign.apply, AccSign.factor, one_mul]
  · rw [AccSign.apply, AccSign.factor, neg_one_mul, Int.sub_eq_add_neg]

theorem accModulo_eq (g : AccSign) {acc p : Word} {x y : Int} (hx : acc = wordOf x) (hy : p = wordOf y) :
    (accModulo g acc p).1 = wordOf (g.apply x y) := by
  subst hx hy
  cases g
  · exact (wordOf_add x y).symm
  · exact (wordOf_sub x y).symm

theorem accDouble_eq (g : AccSign) (acc : Dword) (z : Int) :
    accDouble g acc (BitVec.ofInt 64 z) = BitVec.ofInt 64 (g.apply acc.toInt z) := by
  cases g
  · rw [AccSign.apply, BitVec.ofInt_add, BitVec.ofInt_toInt]
    rfl
  · rw [AccSign.apply, Int.sub_eq_add_neg, BitVec.ofInt_add, BitVec.ofInt_neg, BitVec.ofInt_toInt, ← BitVec.sub_eq_add_neg]
    rfl

theorem accSigned_eq (g : AccSign) (acc p : Word) :
    accSigned g acc p = saturatedWord (satS32 (acc.toInt + g.factor * p.toInt)) := by
  simp only [accSigned, AccSign.apply_eq, satS32, clamp]
  split_ifs <;> rfl

theorem accUnsigned_eq (g : AccSign) (acc p : Word) :
    accUnsigned g acc p = saturatedWord (satU32 (acc.toNat + g.factor * p.toNat)) := by
  simp only [accUnsigned, AccSign.apply_eq, satU32, clamp]
  split_ifs <;> rfl

theorem accDoubleSigned_eq (g : AccSign) (acc p : Dword) :
    accDoubleSigned g acc p = saturatedDword (satS64 (acc.toInt + g.factor * p.toInt)) := by
  simp only [accDoubleSigned, AccSign.apply_eq, satS64, clamp]
  split_ifs <;> rfl

/-! ## Values that are brought into range -/

theorem clamp_bounds {low high : Int} (h : low ≤ high) (z : Int) : low ≤ (clamp low high z).1 ∧ (clamp low high z).1 ≤ high := by
  unfold clamp
  split_ifs <;> constructor <;> omega

theorem toInt_satS32 (z : Int) : (wordOf (satS32 z).1).toInt = (satS32 z).1 := by
  obtain ⟨low, high⟩ := clamp_bounds (by decide : (-2147483648 : Int) ≤ 2147483647) z
  exact toInt_wordOf low high

theorem toInt_satS64 (z : Int) : (BitVec.ofInt 64 (satS64 z).1).toInt = (satS64 z).1 := by
  obtain ⟨low, high⟩ := clamp_bounds (by decide : (-9223372036854775808 : Int) ≤ 9223372036854775807) z
  exact toInt_ofInt_64 low high

end Sys2Proof.Machine
end

section
/-! SUPPORT. The shapes of the multiply and accumulate instructions with MSR[SPE] = 1: what rD, ACC and SPEFSCR hold after each
(spec/48_spe_mac.md R1505 to R1507). -/

namespace Sys2Proof.Machine

variable {s : State} {i : Instr} {rd : Reg} {toAcc : Bool} (on : s.speOn = true)
include on

theorem State.runs_macResult {v w : Dword} {ov : Option (Bool × Bool)} (h : exec i s = s.macResult rd toAcc v ov) (hv : v = w) :
    Runs i s fun t => s.MacResult t rd toAcc w ov := by
  subst hv
  rw [State.macResult_on _ _ _ _ _ on] at h
  have written := s.vectorResult_setR64 rd v
  exact ⟨_, h,
    { result := written.result
      others := written.others
      accumulator := rfl
      saturating := fun o ho => State.setsOverflow_of_spefscr (by rw [ho])
      modulo := fun ho => by rw [ho]
      frame := rfl }⟩

/-- Two products modulo 2^32. -/
theorem State.runs_productPair {h l : Word} {p q : Int} (hi : exec i s = s.productPair rd toAcc h l) (hp : h = wordOf p)
    (hq : l = wordOf q) : Runs i s fun t => s.MacResult t rd toAcc (pairOf p q) none :=
  State.runs_macResult on hi (by rw [hp, hq, pairOf])

/-- Two saturated products. -/
theorem State.runs_productPairSaturated {h l : Word × Bool} {p q : Int × Bool}
    (hi : exec i s = s.productPairSaturated rd toAcc h l) (hp : h = saturatedWord p) (hq : l = saturatedWord q) :
    Runs i s fun t => s.MacSaturated t rd toAcc p q := by
  subst hp hq
  exact State.runs_macResult on hi rfl

/-- Two sums modulo 2^32; the words of ACC may be read with a sign or without one. -/
theorem State.runs_accumulatePair {g : AccSign} {h l : Word} {x y p q : Int} (hx : hi s.acc = wordOf x)
    (hy : lo s.acc = wordOf y) (hi' : exec i s = s.accumulatePair rd g h l) (hp : h = wordOf p) (hq : l = wordOf q) :
    Runs i s fun t => s.MacResult t rd true (pairOf (g.apply x p) (g.apply y q)) none :=
  State.runs_macResult on hi' (by rw [accModulo_eq g hx hp, accModulo_eq g hy hq, pairOf])

/-- Two signed saturated sums, of operands that may have been saturated themselves. -/
theorem State.runs_accumulateSigned {g : AccSign} {h l : Word × Bool} {p q : Int × Bool}
    (hi' : exec i s = s.accumulatePairSaturated rd (accSigned g) h l) (hp : (h.1.toInt, h.2) = p) (hq : (l.1.toInt, l.2) = q) :
    Runs i s fun t => s.MacSaturated t rd true (satSum satS32 (sHigh s.acc) g.factor p)
      (satSum satS32 (sLow s.acc) g.factor q) := by
  subst hp hq
  rw [State.accumulatePairSaturated, accSigned_eq, accSigned_eq] at hi'
  exact State.runs_macResult on hi' rfl

/-- Two unsigned saturated sums. -/
theorem State.runs_accumulateUnsigned {g : AccSign} {h l : Word × Bool} {p q : Int × Bool}
    (hi' : exec i s = s.accumulatePairSaturated rd (accUnsigned g) h l) (hp : ((h.1.toNat : Int), h.2) = p)
    (hq : ((l.1.toNat : Int), l.2) = q) :
    Runs i s fun t => s.MacSaturated t rd true (satSum satU32 (uHigh s.acc) g.factor p)
      (satSum satU32 (uLow s.acc) g.factor q) := by
  subst hp hq
  rw [State.accumulatePairSaturated, accUnsigned_eq, accUnsigned_eq] at hi'
  exact State.runs_macResult on hi' rfl

/-- A sum modulo 2^64. -/
theorem State.runs_accumulateDouble {g : AccSign} {v : Dword} {z : Int} (hi' : exec i s = s.accumulateDouble rd g v)
    (hv : v = BitVec.ofInt 64 z) : Runs i s fun t => s.MacResult t rd true (BitVec.ofInt 64 (g.apply s.acc.toInt z)) none :=
  State.runs_macResult on hi' (by rw [hv, accDouble_eq])

/-- A saturated sum of 64 bits of a saturated product. -/
theorem State.runs_accumulateDoubleSaturated {g : AccSign} {v : Dword × Bool} {z : Int}
    (hi' : exec i s = s.accumulateDoubleSaturated rd g v) (hv : v = saturatedDword (satS64 z)) :
    Runs i s fun t => s.MacResult t rd true (BitVec.ofInt 64 (satSum satS64 s.acc.toInt g.factor (satS64 z)).1)
      (some (false, (satSum satS64 s.acc.toInt g.factor (satS64 z)).2)) := by
  subst hv
  rw [State.accumulateDoubleSaturated, accDoubleSigned_eq] at hi'
  simp only [saturatedDword, toInt_satS64] at hi'
  exact State.runs_macResult on hi' rfl

/-- A saturated product of 64 bits. -/
theorem State.runs_productDoubleSaturated {v : Dword × Bool} {z : Int}
    (h : exec i s = s.macResult rd toAcc v.1 (some (false, v.2))) (hv : v = saturatedDword (satS64 z)) :
    Runs i s fun t => s.MacResult t rd toAcc (BitVec.ofInt 64 (satS64 z).1) (some (false, (satS64 z).2)) := by
  subst hv
  exact State.runs_macResult on h rfl

end Sys2Proof.Machine

namespace Sys2Proof.Proofs
open Sys2Proof.Machine

/-- Settles O57: each form is one of the shapes, of the integer its product of words stands for. -/
theorem wordMultiplyAccumulate : Obligations.WordMultiplyAccumulate := by
  unfold Obligations.WordMultiplyAccumulate
  intro s rd ra rb on a b
  have signedHigh : hi s.acc = wordOf (sHigh s.acc) := (wordOf_toInt _).symm
  have signedLow : lo s.acc = wordOf (sLow s.acc) := (wordOf_toInt _).symm
  have unsignedHigh : hi s.acc = wordOf (uHigh s.acc) := (wordOf_toNat _).symm
  have unsignedLow : lo s.acc = wordOf (uLow s.acc) := (wordOf_toNat _).symm
  have fraction (x y : Word) : fractionHigh (productSigned x y) = wordOf (2 * (x.toInt * y.toInt) / 4294967296) := by
    rw [productSigned_eq_ofInt, fractionHigh_ofInt]
  have highUnsigned (x y : Word) : hi (productUnsigned x y) = wordOf (x.toNat * y.toNat / 4294967296) := by
    rw [productUnsigned_eq_ofInt, hi_ofInt]
  have lowUnsigned (x y : Word) : lo (productUnsigned x y) = wordOf (x.toNat * y.toNat) := by
    rw [productUnsigned_eq_ofInt, lo_ofInt]
  have doubled (x y : Word) : productSigned x y <<< 1 = BitVec.ofInt 64 (2 * (x.toInt * y.toInt)) := by
    rw [productSigned_eq_ofInt, shiftLeft_ofInt]
  have truncated (x y : Word) : ((lo (productSigned x y)).toInt, false) = (low32S (x.toInt * y.toInt), false) := by
    rw [lo_productSigned, low32S]
  have truncatedUnsigned (x y : Word) :
      (((lo (productUnsigned x y)).toNat : Int), false) = (low32U (x.toNat * y.toNat), false) := by
    rw [lowUnsigned, low32U]
  have product {i : Instr} {toAcc : Bool} {h l : Word} {p q : Int} (hi' : exec i s = s.productPair rd toAcc h l) :=
    State.runs_productPair (p := p) (q := q) on hi'
  have saturated {i : Instr} {toAcc : Bool} {h l : Word × Bool} {p q : Int × Bool}
      (hi' : exec i s = s.productPairSaturated rd toAcc h l) := State.runs_productPairSaturated (p := p) (q := q) on hi'
  have sumSigned {i : Instr} {g : AccSign} {h l : Word} {p q : Int} (hi' : exec i s = s.accumulatePair rd g h l) :=
    State.runs_accumulatePair (p := p) (q := q) on signedHigh signedLow hi'
  have sumUnsigned {i : Instr} {g : AccSign} {h l : Word} {p q : Int} (hi' : exec i s = s.accumulatePair rd g h l) :=
    State.runs_accumulatePair (p := p) (q := q) on unsignedHigh unsignedLow hi'
  exact ⟨product rfl (fraction _ _) (fraction _ _), product rfl (fraction _ _) (fraction _ _),
    product rfl (hi_productSigned _ _) (hi_productSigned _ _), product rfl (hi_productSigned _ _) (hi_productSigned _ _),
    saturated rfl (fractionHighSaturated_eq _ _) (fractionHighSaturated_eq _ _),
    saturated rfl (fractionHighSaturated_eq _ _) (fractionHighSaturated_eq _ _),
    product rfl (highUnsigned _ _) (highUnsigned _ _), product rfl (highUnsigned _ _) (highUnsigned _ _),
    sumSigned (g := .plus) rfl (lo_productSigned _ _) (lo_productSigned _ _),
    sumSigned (g := .minus) rfl (lo_productSigned _ _) (lo_productSigned _ _),
    State.runs_accumulateSigned (g := .plus) on rfl (truncated _ _) (truncated _ _),
    State.runs_accumulateSigned (g := .minus) on rfl (truncated _ _) (truncated _ _),
    product rfl (lowUnsigned _ _) (lowUnsigned _ _), product rfl (lowUnsigned _ _) (lowUnsigned _ _),
    sumUnsigned (g := .plus) rfl (lowUnsigned _ _) (lowUnsigned _ _),
    sumUnsigned (g := .minus) rfl (lowUnsigned _ _) (lowUnsigned _ _),
    State.runs_accumulateUnsigned (g := .plus) on rfl (truncatedUnsigned _ _) (truncatedUnsigned _ _),
    State.runs_accumulateUnsigned (g := .minus) on rfl (truncatedUnsigned _ _) (truncatedUnsigned _ _),
    State.runs_macResult on rfl (doubled _ _), State.runs_macResult on rfl (doubled _ _),
    State.runs_accumulateDouble (g := .plus) on rfl (doubled _ _),
    State.runs_accumulateDouble (g := .minus) on rfl (doubled _ _),
    State.runs_macResult on rfl (productSigned_eq_ofInt _ _), State.runs_macResult on rfl (productSigned_eq_ofInt _ _),
    State.runs_accumulateDouble (g := .plus) on rfl (productSigned_eq_ofInt _ _),
    State.runs_accumulateDouble (g := .minus) on rfl (productSigned_eq_ofInt _ _),
    State.runs_productDoubleSaturated on rfl (fractionSaturated_eq _ _),
    State.runs_productDoubleSaturated on rfl (fractionSaturated_eq _ _),
    State.runs_accumulateDoubleSaturated (g := .plus) on rfl (fractionSaturated_eq _ _),
    State.runs_accumulateDoubleSaturated (g := .minus) on rfl (fractionSaturated_eq _ _),
    State.runs_macResult on rfl (productUnsigned_eq_ofInt _ _), State.runs_macResult on rfl (productUnsigned_eq_ofInt _ _),
    State.runs_accumulateDouble (g := .plus) on rfl (productUnsigned_eq_ofInt _ _),
    State.runs_accumulateDouble (g := .minus) on rfl (productUnsigned_eq_ofInt _ _),
    sumSigned (g := .plus) rfl (wordOf_toInt _).symm (wordOf_toInt _).symm,
    State.runs_accumulateSigned (g := .plus) on rfl rfl rfl,
    sumUnsigned (g := .plus) rfl (wordOf_toNat _).symm (wordOf_toNat _).symm,
    State.runs_accumulateUnsigned (g := .plus) on rfl rfl rfl,
    sumSigned (g := .minus) rfl (wordOf_toInt _).symm (wordOf_toInt _).symm,
    State.runs_accumulateSigned (g := .minus) on rfl rfl rfl,
    sumUnsigned (g := .minus) rfl (wordOf_toNat _).symm (wordOf_toNat _).symm,
    State.runs_accumulateUnsigned (g := .minus) on rfl rfl rfl,
    State.runs_macResult on rfl rfl⟩

end Sys2Proof.Proofs
end

section
/-! SUPPORT. The half-word multiply forms of one selection of half words (spec/48_spe_mac_halfword.md R1520 to R1575). -/

namespace Sys2Proof.Machine

theorem guardedFraction_eq (a b : Half) : guardedSigned a b <<< 1 = BitVec.ofInt 64 (2 * (a.toInt * b.toInt)) := by
  rw [guardedSigned_eq, shiftLeft_ofInt]

theorem toInt_mulSSF16 (a b : Half) : ((mulSSF16 a b).1.toInt, (mulSSF16 a b).2) = satS32 (2 * (a.toInt * b.toInt)) := by
  rw [mulSSF16_eq]
  exact Prod.ext (toInt_satS32 _) rfl

theorem toInt_exactly_mulSI16 (a b : Half) :
    ((exactly mulSI16 a b).1.toInt, (exactly mulSI16 a b).2) = (a.toInt * b.toInt, false) := by
  obtain ⟨low, high⟩ := halfProduct_bounds a b
  rw [exactly, mulSI16_eq, toInt_wordOf (by omega) (by omega)]

theorem toNat_exactly_mulUI16 (a b : Half) :
    (((exactly mulUI16 a b).1.toNat : Int), (exactly mulUI16 a b).2) = ((a.toNat : Int) * b.toNat, false) := by
  obtain ⟨low, high⟩ := halfProductUnsigned_bounds a b
  rw [exactly, mulUI16_eq, toNat_wordOf low high]

section
variable {s : State} {i : Instr} {rd ra rb : Reg} {sel : Dword → Half × Half} {toAcc : Bool} {g : AccSign} (on : s.speOn = true)
include on

/-- The forms that take a product `f` of both half words modulo 2^32. -/
theorem State.runs_halfProductPair {f : Half → Half → Word} (z : Half → Half → Int) (hf : ∀ x y, f x y = wordOf (z x y))
    (h : exec i s = s.productPair rd toAcc (halfProducts sel f (s.r64 ra) (s.r64 rb)).1
      (halfProducts sel f (s.r64 ra) (s.r64 rb)).2) :
    Runs i s fun t => s.MacResult t rd toAcc (pairOf (z (sel (s.r64 ra)).1 (sel (s.r64 rb)).1)
      (z (sel (s.r64 ra)).2 (sel (s.r64 rb)).2)) none :=
  State.runs_productPair on h (hf _ _) (hf _ _)

/-- The forms that add a signed product of both half words to ACC, or subtract it, modulo 2^32. -/
theorem State.runs_halfSumSigned {f : Half → Half → Word} (z : Half → Half → Int) (hf : ∀ x y, f x y = wordOf (z x y))
    (h : exec i s = s.accumulatePair rd g (halfProducts sel f (s.r64 ra) (s.r64 rb)).1
      (halfProducts sel f (s.r64 ra) (s.r64 rb)).2) :
    Runs i s fun t => s.MacResult t rd true (pairOf (g.apply (sHigh s.acc) (z (sel (s.r64 ra)).1 (sel (s.r64 rb)).1))
      (g.apply (sLow s.acc) (z (sel (s.r64 ra)).2 (sel (s.r64 rb)).2))) none :=
  State.runs_accumulatePair on (wordOf_toInt _).symm (wordOf_toInt _).symm h (hf _ _) (hf _ _)

/-- The same with ACC read without a sign. -/
theorem State.runs_halfSumUnsigned
    (h : exec i s = s.accumulatePair rd g (halfProducts sel mulUI16 (s.r64 ra) (s.r64 rb)).1
      (halfProducts sel mulUI16 (s.r64 ra) (s.r64 rb)).2) :
    Runs i s fun t => s.MacResult t rd true
      (pairOf (g.apply (uHigh s.acc) ((sel (s.r64 ra)).1.toNat * (sel (s.r64 rb)).1.toNat))
        (g.apply (uLow s.acc) ((sel (s.r64 ra)).2.toNat * (sel (s.r64 rb)).2.toNat))) none :=
  State.runs_accumulatePair on (wordOf_toNat _).symm (wordOf_toNat _).symm h (mulUI16_eq _ _) (mulUI16_eq _ _)

/-- The forms that add a signed product to ACC and saturate the sum. -/
theorem State.runs_halfSaturated {f : Half → Half → Word × Bool} (z : Half → Half → Int × Bool)
    (hf : ∀ x y, ((f x y).1.toInt, (f x y).2) = z x y)
    (h : exec i s = s.accumulatePairSaturated rd (accSigned g) (halfProducts sel f (s.r64 ra) (s.r64 rb)).1
      (halfProducts sel f (s.r64 ra) (s.r64 rb)).2) :
    Runs i s fun t => s.MacSaturated t rd true
      (satSum satS32 (sHigh s.acc) g.factor (z (sel (s.r64 ra)).1 (sel (s.r64 rb)).1))
      (satSum satS32 (sLow s.acc) g.factor (z (sel (s.r64 ra)).2 (sel (s.r64 rb)).2)) :=
  State.runs_accumulateSigned on h (hf _ _) (hf _ _)

end

end Sys2Proof.Machine

namespace Sys2Proof.Proofs
open Sys2Proof.Machine

/-- Settles O58: each form is one of the shapes, of the integer its product of half words stands for. -/
theorem halfWordMultiplyAccumulate : Obligations.HalfWordMultiplyAccumulate := by
  unfold Obligations.HalfWordMultiplyAccumulate
  intro s rd ra rb on a b
  have double {i : Instr} {g : AccSign} {v : Dword} {z : Int} (hi' : exec i s = s.accumulateDouble rd g v) :=
    State.runs_accumulateDouble (z := z) on hi'
  have fraction {i : Instr} {sel : Dword → Half × Half} {toAcc : Bool} :=
    State.runs_halfProductPair (i := i) (rd := rd) (ra := ra) (rb := rb) (sel := sel) (toAcc := toAcc) on _ mulSF16_eq
  have signed {i : Instr} {sel : Dword → Half × Half} {toAcc : Bool} :=
    State.runs_halfProductPair (i := i) (rd := rd) (ra := ra) (rb := rb) (sel := sel) (toAcc := toAcc) on _ mulSI16_eq
  have unsigned {i : Instr} {sel : Dword → Half × Half} {toAcc : Bool} :=
    State.runs_halfProductPair (i := i) (rd := rd) (ra := ra) (rb := rb) (sel := sel) (toAcc := toAcc) on _ mulUI16_eq
  have sumFraction {i : Instr} {sel : Dword → Half × Half} {g : AccSign} :=
    State.runs_halfSumSigned (i := i) (rd := rd) (ra := ra) (rb := rb) (sel := sel) (g := g) on _ mulSF16_eq
  have sumSigned {i : Instr} {sel : Dword → Half × Half} {g : AccSign} :=
    State.runs_halfSumSigned (i := i) (rd := rd) (ra := ra) (rb := rb) (sel := sel) (g := g) on _ mulSI16_eq
  have sumSatFraction {i : Instr} {sel : Dword → Half × Half} {g : AccSign} :=
    State.runs_halfSaturated (i := i) (rd := rd) (ra := ra) (rb := rb) (sel := sel) (g := g) on _ toInt_mulSSF16
  have sumSatSigned {i : Instr} {sel : Dword → Half × Half} {g : AccSign} :=
    State.runs_halfSaturated (i := i) (rd := rd) (ra := ra) (rb := rb) (sel := sel) (g := g) on _ toInt_exactly_mulSI16
  have saturated {i : Instr} {toAcc : Bool} {x y x' y' : Half}
      (hi' : exec i s = s.productPairSaturated rd toAcc (mulSSF16 x y) (mulSSF16 x' y')) :=
    State.runs_productPairSaturated on hi' (mulSSF16_eq x y) (mulSSF16_eq x' y')
  exact ⟨double (g := .plus) rfl (guardedFraction_eq _ _), double (g := .minus) rfl (guardedFraction_eq _ _),
    double (g := .plus) rfl (guardedSigned_eq _ _), double (g := .minus) rfl (guardedSigned_eq _ _),
    double (g := .plus) rfl (guardedUnsigned_eq _ _), double (g := .minus) rfl (guardedUnsigned_eq _ _),
    fraction (sel := halfEven) rfl, fraction (sel := halfEven) rfl, sumFraction (sel := halfEven) (g := .plus) rfl,
    sumFraction (sel := halfEven) (g := .minus) rfl, signed (sel := halfEven) rfl, signed (sel := halfEven) rfl,
    sumSigned (sel := halfEven) (g := .plus) rfl, sumSigned (sel := halfEven) (g := .minus) rfl, saturated rfl, saturated rfl,
    sumSatFraction (sel := halfEven) (g := .plus) rfl, sumSatFraction (sel := halfEven) (g := .minus) rfl,
    sumSatSigned (sel := halfEven) (g := .plus) rfl, sumSatSigned (sel := halfEven) (g := .minus) rfl,
    unsigned (sel := halfEven) rfl, unsigned (sel := halfEven) rfl,
    State.runs_halfSumUnsigned (sel := halfEven) (g := .plus) on rfl,
    State.runs_halfSumUnsigned (sel := halfEven) (g := .minus) on rfl,
    State.runs_accumulateUnsigned (g := .plus) on rfl (toNat_exactly_mulUI16 _ _) (toNat_exactly_mulUI16 _ _),
    State.runs_accumulateUnsigned (g := .minus) on rfl (toNat_exactly_mulUI16 _ _) (toNat_exactly_mulUI16 _ _),
    double (g := .plus) rfl (guardedFraction_eq _ _), double (g := .minus) rfl (guardedFraction_eq _ _),
    double (g := .plus) rfl (guardedSigned_eq _ _), double (g := .minus) rfl (guardedSigned_eq _ _),
    double (g := .plus) rfl (guardedUnsigned_eq _ _), double (g := .minus) rfl (guardedUnsigned_eq _ _),
    fraction (sel := halfOdd) rfl, fraction (sel := halfOdd) rfl, sumFraction (sel := halfOdd) (g := .plus) rfl,
    sumFraction (sel := halfOdd) (g := .minus) rfl, signed (sel := halfOdd) rfl, signed (sel := halfOdd) rfl,
    sumSigned (sel := halfOdd) (g := .plus) rfl, sumSigned (sel := halfOdd) (g := .minus) rfl, saturated rfl, saturated rfl,
    sumSatFraction (sel := halfOdd) (g := .plus) rfl, sumSatFraction (sel := halfOdd) (g := .minus) rfl,
    sumSatSigned (sel := halfOdd) (g := .plus) rfl, sumSatSigned (sel := halfOdd) (g := .minus) rfl,
    unsigned (sel := halfOdd) rfl, unsigned (sel := halfOdd) rfl,
    State.runs_halfSumUnsigned (sel := halfOdd) (g := .plus) on rfl,
    State.runs_halfSumUnsigned (sel := halfOdd) (g := .minus) on rfl,
    State.runs_accumulateUnsigned (g := .plus) on rfl (toNat_exactly_mulUI16 _ _) (toNat_exactly_mulUI16 _ _),
    State.runs_accumulateUnsigned (g := .minus) on rfl (toNat_exactly_mulUI16 _ _) (toNat_exactly_mulUI16 _ _)⟩

end Sys2Proof.Proofs
end

section
/-! SUPPORT. Elements and their bytes, in either byte order (spec/49_spe_loadstore.md R1804). -/

namespace Sys2Proof.Machine

/-! ## The elements of a list of bytes -/

theorem ofBytes_append (xs ys : List Byte) : ofBytes (xs ++ ys) = ofBytes xs <<< (8 * ys.length) ||| ofBytes ys := by
  induction ys using List.reverseRecOn with
  | nil => simp [ofBytes]
  | append_singleton ys b ih =>
    have places : 8 * (ys ++ [b]).length = 8 * ys.length + 8 := by simp; omega
    rw [← List.append_assoc, ofBytes_snoc, ofBytes_snoc, ih, BitVec.shiftLeft_or_distrib, BitVec.or_assoc, places,
      BitVec.shiftLeft_add]

/-- The number of two lists of bytes in a row. -/
theorem setWidth_ofBytes_append (xs : List Byte) {ys : List Byte} {m n : Nat} (hy : 8 * ys.length = n) (h : m + n ≤ 64) :
    (ofBytes (xs ++ ys)).setWidth (m + n) = (ofBytes xs).setWidth m ++ (ofBytes ys).setWidth n := by
  refine BitVec.eq_of_getLsbD_eq fun i hi => ?_
  have inside : i < 64 := by omega
  rw [ofBytes_append, hy, BitVec.getLsbD_append, BitVec.getLsbD_setWidth, BitVec.getLsbD_or, BitVec.getLsbD_shiftLeft]
  by_cases low : i < n
  · simp [low, hi]
  · have above : (ofBytes ys).getLsbD i = false := getLsbD_ofBytes_of_le ys (by omega)
    have place : i - n < m := by omega
    simp only [above, low, hi, inside, place, decide_true, decide_false, Bool.true_and, Bool.not_false, Bool.or_false,
      if_false, BitVec.getLsbD_setWidth]

theorem inOrder_append (e : Bool) (xs ys : List Byte) :
    inOrder e (xs ++ ys) = if e then inOrder e ys ++ inOrder e xs else inOrder e xs ++ inOrder e ys := by
  cases e
  · rfl
  · exact List.reverse_append

/-- An element is its two halves, the lower address first in a big-endian page. -/
theorem setWidth_element (bs : List Byte) (m : Mapping) {k n w : Nat} (hl : k + (n + n) ≤ bs.length) (hw : 8 * n = w)
    (h : w + w ≤ 64) :
    (element (bs, m) k (n + n)).setWidth (w + w) =
      if m.entry.e then (element (bs, m) (k + n) n).setWidth w ++ (element (bs, m) k n).setWidth w
      else (element (bs, m) k n).setWidth w ++ (element (bs, m) (k + n) n).setWidth w := by
  have taken (j : Nat) (hj : j + n ≤ bs.length) : 8 * (inOrder m.entry.e ((bs.drop j).take n)).length = w := by
    rw [inOrder_length, List.length_take, List.length_drop, Nat.min_eq_left (by omega), hw]
  simp only [element]
  rw [List.take_add, List.drop_drop, inOrder_append]
  cases he : m.entry.e <;> rw [he] at taken
  · exact setWidth_ofBytes_append _ (taken _ (by omega)) h
  · exact setWidth_ofBytes_append _ (taken _ (by omega)) h

theorem element_byte (bs : List Byte) (m : Mapping) {k : Nat} (hl : k < bs.length) :
    (element (bs, m) k 1).setWidth 8 = bs.getD k 0 := by
  have one : inOrder m.entry.e ((bs.drop k).take 1) = [bs.getD k 0] := by
    rw [List.take_one_drop_eq_of_lt_length hl, List.getD_eq_getElem _ _ hl]
    cases m.entry.e <;> rfl
  simp only [element]
  rw [one]
  simp [ofBytes]

theorem elementHalf_eq (bs : List Byte) (m : Mapping) {k : Nat} (hl : k + 2 ≤ bs.length) :
    elementHalf (bs, m) k = halfAt m.entry.e bs k := by
  rw [halfAt, ← element_byte bs m (by omega : k < bs.length), ← element_byte bs m (by omega : k + 1 < bs.length)]
  exact setWidth_element bs m (n := 1) (w := 8) hl rfl (by decide)

theorem elementWord_eq (bs : List Byte) (m : Mapping) {k : Nat} (hl : k + 4 ≤ bs.length) :
    elementWord (bs, m) k = wordOfBytes m.entry.e bs k := by
  rw [wordOfBytes, ← elementHalf_eq bs m (by omega : k + 2 ≤ bs.length), ← elementHalf_eq bs m (by omega : k + 2 + 2 ≤ bs.length)]
  exact setWidth_element bs m (n := 2) (w := 16) hl rfl (by decide)

theorem element_eq (bs : List Byte) (m : Mapping) (hl : 8 ≤ bs.length) : element (bs, m) 0 8 = dwordOfBytes m.entry.e bs := by
  rw [dwordOfBytes, ← elementWord_eq bs m (by omega : 0 + 4 ≤ bs.length), ← elementWord_eq bs m (by omega : 4 + 4 ≤ bs.length),
    ← BitVec.setWidth_eq (element (bs, m) 0 8)]
  exact setWidth_element bs m (n := 4) (w := 32) (by omega) rfl (by decide)

/-! ## Half words in words -/

theorem zext_append_zext (a b : Half) : zext a ++ zext b = 0#16 ++ a ++ 0#16 ++ b := by
  have extended (x : Half) : zext x = 0#16 ++ x := (BitVec.setWidth_eq_append (by decide)).trans rfl
  rw [extended, extended]
  exact (BitVec.append_assoc (x₁ := 0#16 ++ a) (x₂ := 0#16) (x₃ := b)).symm

theorem sext_append_sext (a b : Half) : sext a ++ sext b = pairOf a.toInt b.toInt := by
  rw [sext_eq_wordOf, sext_eq_wordOf, pairOf]

/-! ## The bytes of an element -/

/-- A byte of a field of a double word. -/
theorem byte_of_field (d : Dword) {at' width k : Nat} (h : k + 8 ≤ width) (h64 : width ≤ 64) :
    ((d.extractLsb' at' width).setWidth 64 >>> k).setWidth 8 = d.extractLsb' (at' + k) 8 := by
  refine BitVec.eq_of_getLsbD_eq fun i hi => ?_
  have inside : k + i < width := by omega
  have inside64 : k + i < 64 := by omega
  simp [hi, inside, inside64, Nat.add_assoc]

/-- The bytes of the field that starts with byte p of a double word. -/
theorem toBytes_field (d : Dword) {at' width n p : Nat} (hw : 8 * n ≤ width) (h64 : width ≤ 64)
    (hp : at' + 8 * n + 8 * p = 64) :
    toBytes n ((d.extractLsb' at' width).setWidth 64) = (List.range n).map fun k => byteOf d (p + k) := by
  induction n generalizing p with
  | zero => rfl
  | succ n ih =>
    have first : at' + 8 * n = 56 - 8 * (p + 0) := by omega
    have rest (k : Nat) : p + 1 + k = p + (k + 1) := by omega
    rw [toBytes, byte_of_field d (by omega) h64, first, ih (by omega) (by omega : at' + 8 * n + 8 * (p + 1) = 64),
      List.range_succ_eq_map, List.map_cons, List.map_map]
    simp only [rest, Function.comp_def, Nat.succ_eq_add_one]
    rfl

theorem toBytes_half (d : Dword) {n : Nat} (h : n < 4) :
    toBytes 2 (asElement (halfOf d n)) = [byteOf d (2 * n), byteOf d (2 * n + 1)] :=
  toBytes_field d (n := 2) (p := 2 * n) (by decide) (by decide) (by omega)

theorem toBytes_hi (d : Dword) : toBytes 4 (asElement (hi d)) = [byteOf d 0, byteOf d 1, byteOf d 2, byteOf d 3] :=
  toBytes_field d (by decide) (by decide) (by decide)

theorem toBytes_lo_dword (d : Dword) : toBytes 4 (asElement (lo d)) = [byteOf d 4, byteOf d 5, byteOf d 6, byteOf d 7] :=
  toBytes_field d (by decide) (by decide) (by decide)

theorem toBytes_dword (d : Dword) : toBytes 8 d = (List.range 8).map fun k => byteOf d k := by
  have whole : (d.extractLsb' 0 64).setWidth 64 = d := by rw [BitVec.setWidth_eq, BitVec.extractLsb'_eq_self]
  have bytes := toBytes_field d (at' := 0) (width := 64) (n := 8) (p := 0) (by decide) (by decide) (by decide)
  rw [whole] at bytes
  simpa only [Nat.zero_add] using bytes

end Sys2Proof.Machine
end

section
/-! SUPPORT. The SPE loads and stores with MSR[SPE] = 1 (spec/49_spe_loadstore.md R1805, R1806). -/

namespace Sys2Proof.Machine

variable {s : State} {i : Instr} {strict : Bool} {n : Nat} {ea : Word}

theorem not_misaligned_of_strict (h : strict = true → ea.toNat % 4 = 0) : (strict && misaligned ea 4) = false := by
  cases strict
  · rfl
  · exact misaligned_of_multiple (h rfl)

theorem State.OnlyLoad.setR64 {t : State} (h : s.OnlyLoad t) (r : Reg) (v : Dword) : s.OnlyLoad (t.setR64 r v) :=
  ⟨congrArg (State.setR64 · r v) h.1, h.2⟩

/-- An instruction of the load shape loads what its layout makes of the bytes. -/
theorem State.vectorLoads {rd : Reg} {layout : List Byte × Mapping → Dword} {f : Bool → List Byte → Dword}
    (hi : exec i s = s.vectorLoad strict n rd ea layout)
    (hf : ∀ bs m, bs.length = n → layout (bs, m) = f m.entry.e bs) : VectorLoads i s strict n rd ea f := by
  intro on aligned m m2 can
  have only : s.OnlyLoad (s.transferred { ea := ea, size := n, store := false, kind := .spe } m m2 (s.bytesAt m m2 ea n)) :=
    ⟨rfl, s.transferred_keepsSignature _ m m2 _⟩
  have run : exec i s = .next (((s.transferred { ea := ea, size := n, store := false, kind := .spe } m m2
      (s.bytesAt m m2 ea n)).setR64 rd (f m.entry.e (s.bytesAt m m2 ea n))).advance 4) := by
    rw [hi, State.vectorLoad, on, not_misaligned_of_strict aligned, State.loadBytes_ok can .spe,
      ← hf _ m (s.bytesAt_length m m2 ea n)]
    rfl
  exact ⟨_, run,
    { result := State.r64_setR64_same _ rd _
      others := fun r hr => State.r64_setR64_other _ rd r _ fun e => hr (List.mem_singleton.2 e)
      next := rfl
      frame := (only.setR64 rd _).advance 4 }⟩

/-! ## The layouts of the loads -/

section
variable {rd : Reg} {j k l o : Nat}

theorem State.vectorLoads_dword (h : exec i s = s.vectorLoad strict 8 rd ea fun m => element m 0 8) :
    VectorLoads i s strict 8 rd ea fun e bs => dwordOfBytes e bs :=
  State.vectorLoads h fun bs m hl => element_eq bs m (by omega)

theorem State.vectorLoads_words (h : exec i s = s.vectorLoad strict n rd ea fun m => elementWord m j ++ elementWord m k)
    (hj : j + 4 ≤ n := by decide) (hk : k + 4 ≤ n := by decide) :
    VectorLoads i s strict n rd ea fun e bs => wordOfBytes e bs j ++ wordOfBytes e bs k :=
  State.vectorLoads h fun bs m hl => by rw [elementWord_eq bs m (by omega), elementWord_eq bs m (by omega)]

theorem State.vectorLoads_halves
    (h : exec i s = s.vectorLoad strict n rd ea fun m =>
      elementHalf m j ++ elementHalf m k ++ elementHalf m l ++ elementHalf m o)
    (hj : j + 2 ≤ n := by decide) (hk : k + 2 ≤ n := by decide) (hl : l + 2 ≤ n := by decide) (ho : o + 2 ≤ n := by decide) :
    VectorLoads i s strict n rd ea fun e bs => halfAt e bs j ++ halfAt e bs k ++ halfAt e bs l ++ halfAt e bs o :=
  State.vectorLoads h fun bs m hn => by
    rw [elementHalf_eq bs m (by omega), elementHalf_eq bs m (by omega), elementHalf_eq bs m (by omega),
      elementHalf_eq bs m (by omega)]

/-- Half words in the high halves of the words. -/
theorem State.vectorLoads_even
    (h : exec i s = s.vectorLoad strict n rd ea fun m => elementHalf m j ++ 0#16 ++ elementHalf m k ++ 0#16)
    (hj : j + 2 ≤ n := by decide) (hk : k + 2 ≤ n := by decide) :
    VectorLoads i s strict n rd ea fun e bs => halfAt e bs j ++ 0#16 ++ halfAt e bs k ++ 0#16 :=
  State.vectorLoads h fun bs m hn => by rw [elementHalf_eq bs m (by omega), elementHalf_eq bs m (by omega)]

/-- Half words in the low halves of the words. -/
theorem State.vectorLoads_odd
    (h : exec i s = s.vectorLoad strict n rd ea fun m => zext (elementHalf m j) ++ zext (elementHalf m k))
    (hj : j + 2 ≤ n := by decide) (hk : k + 2 ≤ n := by decide) :
    VectorLoads i s strict n rd ea fun e bs => 0#16 ++ halfAt e bs j ++ 0#16 ++ halfAt e bs k :=
  State.vectorLoads h fun bs m hn => by
    rw [zext_append_zext, elementHalf_eq bs m (by omega), elementHalf_eq bs m (by omega)]

theorem State.vectorLoads_signed
    (h : exec i s = s.vectorLoad strict n rd ea fun m => sext (elementHalf m j) ++ sext (elementHalf m k))
    (hj : j + 2 ≤ n := by decide) (hk : k + 2 ≤ n := by decide) :
    VectorLoads i s strict n rd ea fun e bs => pairOf (halfAt e bs j).toInt (halfAt e bs k).toInt :=
  State.vectorLoads h fun bs m hn => by
    rw [sext_append_sext, elementHalf_eq bs m (by omega), elementHalf_eq bs m (by omega)]

end

/-! ## Stores -/

/-- An instruction of the store shape stores the bytes of its elements. -/
theorem State.vectorStores {size : Nat} {elements : List Dword} {image : Bool → List Byte}
    (hi : exec i s = s.vectorStore strict size ea elements) (hn : size * elements.length = n)
    (himage : ∀ e, (elements.flatMap fun v => inOrder e (toBytes size v)) = image e) :
    VectorStores i s strict n ea image := by
  subst hn
  intro on aligned m m2 can
  have length : (image m.entry.e).length = size * elements.length := by
    simp [← himage, List.length_flatMap, inOrder_length, toBytes_length, mul_comm]
  have run : exec i s = .next ((s.stored m m2 ea (image m.entry.e) .spe).advance 4) := by
    rw [hi, State.vectorStore, on, not_misaligned_of_strict aligned, funext himage, State.storeImage_ok can length .spe nofun]
    rfl
  have signature := s.transferred_keepsSignature
    { ea := ea, size := (image m.entry.e).length, store := true, kind := .spe } m m2 (image m.entry.e)
  refine ⟨_, run, ?_⟩
  rw [← length]
  exact
    { stores := State.stores_of_memory (realAddresses_length m m2 ea _) rfl
      updated := nofun
      upper := fun _ => rfl
      others := fun _ _ => rfl
      next := rfl
      frame := ⟨rfl, signature⟩ }

end Sys2Proof.Machine

namespace Sys2Proof.Proofs
open Sys2Proof.Machine

/-- Settles O59: each load is one layout of the elements it reads, each store a list of elements of RS. -/
theorem vectorLoadStoreInstructions : Obligations.VectorLoadStoreInstructions := by
  unfold Obligations.VectorLoadStoreInstructions
  intro s rd rs ra rb uimm v
  have storesDword (e : Bool) :
      ([v].flatMap fun x => inOrder e (toBytes 8 x)) = inOrder e ((List.range 8).map fun k => byteOf v k) := by
    rw [List.flatMap_singleton, toBytes_dword]
  have storesHigh (e : Bool) : ([asElement (hi v)].flatMap fun x => inOrder e (toBytes 4 x)) = wordImage e v 0 := by
    rw [List.flatMap_singleton, toBytes_hi, wordImage]
  have storesLow (e : Bool) : ([asElement (lo v)].flatMap fun x => inOrder e (toBytes 4 x)) = wordImage e v 1 := by
    rw [List.flatMap_singleton, toBytes_lo_dword, wordImage]
  have storesWords (e : Bool) : ([asElement (hi v), asElement (lo v)].flatMap fun x => inOrder e (toBytes 4 x)) =
      wordImage e v 0 ++ wordImage e v 1 := by
    rw [List.flatMap_cons, storesLow, toBytes_hi, wordImage]
    rfl
  have half {j : Nat} (hj : j < 4) (e : Bool) : inOrder e (toBytes 2 (asElement (halfOf v j))) = halfImage e v j := by
    rw [toBytes_half v hj, halfImage]
  have storesPair {j k : Nat} (hj : j < 4) (hk : k < 4) (e : Bool) :
      ([asElement (halfOf v j), asElement (halfOf v k)].flatMap fun x => inOrder e (toBytes 2 x)) =
        halfImage e v j ++ halfImage e v k := by
    rw [List.flatMap_cons, List.flatMap_singleton, half hj, half hk]
  have storesEven := storesPair (by decide : 0 < 4) (by decide : 2 < 4)
  have storesOdd := storesPair (by decide : 1 < 4) (by decide : 3 < 4)
  have storesHalves (e : Bool) :
      ([asElement (halfOf v 0), asElement (halfOf v 1), asElement (halfOf v 2), asElement (halfOf v 3)].flatMap
        fun x => inOrder e (toBytes 2 x)) = halfImage e v 0 ++ halfImage e v 1 ++ halfImage e v 2 ++ halfImage e v 3 := by
    simp only [List.flatMap_cons, List.flatMap_nil, half (by decide : 0 < 4), half (by decide : 1 < 4),
      half (by decide : 2 < 4), half (by decide : 3 < 4), List.append_nil, List.append_assoc]
  have scaled (k : Nat) : s.eaScaled ra uimm k = (if ra = 0 then 0 else s.r ra) + wordOf (k * uimm.toNat) := by
    rw [State.eaScaled, mul_comm]
    rfl
  exact ⟨scaled, State.vectorLoads_dword rfl, State.vectorLoads_dword rfl, State.vectorLoads_words rfl,
    State.vectorLoads_words rfl, State.vectorLoads_halves rfl, State.vectorLoads_halves rfl, State.vectorLoads_even rfl,
    State.vectorLoads_even rfl, State.vectorLoads_odd rfl, State.vectorLoads_odd rfl, State.vectorLoads_signed rfl,
    State.vectorLoads_signed rfl, State.vectorLoads_words rfl, State.vectorLoads_words rfl, State.vectorLoads_halves rfl,
    State.vectorLoads_halves rfl, State.vectorLoads_even rfl, State.vectorLoads_even rfl, State.vectorLoads_odd rfl,
    State.vectorLoads_odd rfl, State.vectorLoads_signed rfl, State.vectorLoads_signed rfl,
    State.vectorStores rfl rfl storesDword, State.vectorStores rfl rfl storesDword, State.vectorStores rfl rfl storesWords,
    State.vectorStores rfl rfl storesWords, State.vectorStores rfl rfl storesHalves, State.vectorStores rfl rfl storesHalves,
    State.vectorStores rfl rfl storesEven, State.vectorStores rfl rfl storesEven, State.vectorStores rfl rfl storesOdd,
    State.vectorStores rfl rfl storesOdd, State.vectorStores rfl rfl storesHigh, State.vectorStores rfl rfl storesHigh,
    State.vectorStores rfl rfl storesLow, State.vectorStores rfl rfl storesLow⟩

end Sys2Proof.Proofs
end

section
/-! SUPPORT. One period of a clock of the time base: when the timers count, and what the decrementer and the time base leave
(spec/62_timers_power_platform.md R2140 to R2146). -/

namespace Sys2Proof.Machine

/-! ## When the timers count -/

/-- The timers count at a period of the clock that HID0[SEL_TBCLK] selects. -/
def State.timersCount (s : State) : Bool :=
  bit s.hid.hid0 17 && !s.pins.tbdisable && !s.timersFrozen && (s.timeBaseClock == .tbclk || s.clocked)

/-- EDBCR0[DFT] lets the decrementer count in a debug session (spec/12_state_debug.md R320). -/
def State.decRuns (s : State) : Bool := !(s.debugHalt && (bits 2 2 s.once.edbcr0 == 0 || bits 2 2 s.once.edbcr0 == 2))

/-- The same for the time base. -/
def State.tbRuns (s : State) : Bool := !(s.debugHalt && (bits 2 2 s.once.edbcr0 == 0 || bits 2 2 s.once.edbcr0 == 1))

theorem State.decRuns_iff (s : State) :
    s.decRuns = true ↔ s.debugHalt = false ∨ bits 2 2 s.once.edbcr0 = 1 ∨ bits 2 2 s.once.edbcr0 = 3 := by
  have modes (d : BitVec 2) : (!(d == 0 || d == 2)) = true ↔ d = 1 ∨ d = 3 := by revert d; decide
  unfold State.decRuns
  cases s.debugHalt with
  | false => exact iff_of_true rfl (.inl rfl)
  | true => exact (modes _).trans (or_iff_right nofun).symm

theorem State.tbRuns_iff (s : State) :
    s.tbRuns = true ↔ s.debugHalt = false ∨ bits 2 2 s.once.edbcr0 = 2 ∨ bits 2 2 s.once.edbcr0 = 3 := by
  have modes (d : BitVec 2) : (!(d == 0 || d == 1)) = true ↔ d = 2 ∨ d = 3 := by revert d; decide
  unfold State.tbRuns
  cases s.debugHalt with
  | false => exact iff_of_true rfl (.inl rfl)
  | true => exact (modes _).trans (or_iff_right nofun).symm

/-- The debug freeze: any event of DBSR but MRR and CNT1TRG. -/
theorem State.timersFrozen_iff (s : State) : s.timersFrozen = true ↔
    bit s.dbg.dbcr0 31 = true ∧ ∃ k, k < 31 ∧ k ≠ 2 ∧ k ≠ 3 ∧ bit s.dbg.dbsr k = true := by
  have mask : ∀ k, k < 32 → (bit 0xCFFFFFFE k = true ↔ k < 31 ∧ k ≠ 2 ∧ k ≠ 3) := by decide
  rw [State.timersFrozen, Bool.and_eq_true, bne_iff_ne, ← exists_bit_iff]
  refine and_congr_right fun _ => exists_congr fun k => ?_
  rw [bit_and, Bool.and_eq_true]
  constructor
  · rintro ⟨hk, event, masked⟩
    obtain ⟨h31, h2, h3⟩ := (mask k hk).1 masked
    exact ⟨h31, h2, h3, event⟩
  · rintro ⟨h31, h2, h3, event⟩
    have hk : k < 32 := by omega
    exact ⟨hk, event, (mask k hk).2 ⟨h31, h2, h3⟩⟩

/-- m_clk runs in the active state, and otherwise while jd_mclk_on is asserted. -/
theorem State.clocked_iff (s : State) : s.clocked = true ↔
    s.pins.mclkOn = true ∨ s.waiting = false ∧ s.debugHalt = false ∧ s.pins.halt = false ∧ s.pins.stop = false := by
  simp [State.clocked, State.suspended, and_assoc]

theorem State.timersCount_iff (s : State) : s.timersCount = true ↔
    bit s.hid.hid0 17 = true ∧ s.pins.tbdisable = false ∧ s.timersFrozen = false ∧
      (s.timeBaseClock = .tbclk ∨ s.clocked = true) := by
  simp [State.timersCount, and_assoc]

/-! ## One count -/

/-- The decrementer, if it runs. -/
def TimerRegs.decTick (t : TimerRegs) (runs : Bool) : TimerRegs := if runs then t.stepDec else t

/-- The time base, if it runs. -/
def TimerRegs.tbTick (t : TimerRegs) (runs : Bool) : TimerRegs := if runs then t.setTb (t.tb + 1) else t

theorem State.tick_off {s : State} (h : s.timersCount = false) : s.tick = s := if_neg (Bool.eq_false_iff.1 h)

theorem State.tick_on {s : State} (h : s.timersCount = true) :
    s.tick = { s with tim := (s.tim.decTick s.decRuns).tbTick s.tbRuns } := by
  refine (if_pos h).trans ?_
  simp only [TimerRegs.decTick, TimerRegs.tbTick, State.decRuns, State.tbRuns, Bool.not_eq_true', ← Bool.not_eq_true, ite_not]

/-- What a count of the decrementer leaves: DIS is set when it goes from 1 (R2142). -/
structure TimerRegs.DecTicked (t u : TimerRegs) (runs : Bool) : Prop where
  still : runs = false ∨ t.dec = 0 → u.dec = t.dec
  fires : runs = true → t.dec = 1 → u.dec = if bit t.tcr 9 then t.decar else 0
  counts : runs = true → 1 < t.dec.toNat → u.dec.toNat + 1 = t.dec.toNat
  status : u.tsr = if runs = true ∧ t.dec = 1 then t.tsr ||| oneBit 4 else t.tsr
  others : u.tb = t.tb ∧ u.decar = t.decar ∧ u.tcr = t.tcr

theorem TimerRegs.decTicked (t : TimerRegs) (runs : Bool) : t.DecTicked (t.decTick runs) runs := by
  cases runs with
  | false => exact ⟨fun _ => rfl, nofun, nofun, (if_neg nofun).symm, rfl, rfl, rfl⟩
  | true =>
    show t.DecTicked t.stepDec true
    unfold TimerRegs.stepDec
    split
    · next h0 => exact ⟨fun _ => rfl, fun _ h1 => by simp [h0] at h1, fun _ h1 => by simp [h0] at h1,
        (if_neg fun h => by simp [h0] at h).symm, rfl, rfl, rfl⟩
    · next h0 =>
      split
      · next h1 => exact ⟨fun h => absurd (h.resolve_left nofun) h0, fun _ _ => rfl, fun _ h => by simp [h1] at h,
          (if_pos ⟨rfl, h1⟩).symm, rfl, rfl, rfl⟩
      · next h1 =>
        refine ⟨fun h => absurd (h.resolve_left nofun) h0, fun _ h => absurd h h1, fun _ h => ?_,
          (if_neg fun h => h1 h.2).symm, rfl, rfl, rfl⟩
        show (t.dec - 1).toNat + 1 = t.dec.toNat
        bv_omega

/-- Timers that differ only in TB, DEC and TSR. -/
theorem TimerRegs.eq_of_kept {t u : TimerRegs} (decar : u.decar = t.decar) (tcr : u.tcr = t.tcr) :
    u = { t with tb := u.tb, dec := u.dec, tsr := u.tsr } := by
  show u = ⟨u.tb, u.dec, t.decar, t.tcr, u.tsr⟩
  rw [← decar, ← tcr]

/-- A time base that stays moves nothing. -/
theorem timeBaseMoved_stays (tcr tsr : Word) (tb : Dword) : TimeBaseMoved tcr tsr tsr tb tb where
  fixedInterval := (or_iff_left fun h => absurd (h.1.symm.trans h.2) Bool.false_ne_true).symm
  quiet := fun _ => rfl
  watchdog := fun low high => absurd (low.symm.trans high) Bool.false_ne_true
  others := ⟨rfl, rfl⟩

/-- What a count of the time base leaves. -/
structure TimerRegs.TbTicked (t u : TimerRegs) (runs : Bool) : Prop where
  counts : runs = true → u.tb.toNat = (t.tb.toNat + 1) % 2 ^ 64
  still : runs = false → u.tb = t.tb
  moved : TimeBaseMoved t.tcr t.tsr u.tsr t.tb u.tb
  others : u.dec = t.dec ∧ u.decar = t.decar ∧ u.tcr = t.tcr

theorem TimerRegs.tbTicked (t : TimerRegs) (runs : Bool) : t.TbTicked (t.tbTick runs) runs := by
  cases runs with
  | false => exact ⟨nofun, fun _ => rfl, timeBaseMoved_stays _ _ _, rfl, rfl, rfl⟩
  | true => exact ⟨fun _ => BitVec.toNat_add t.tb 1, nofun, timeBaseMoved _ _ _ _, rfl, rfl, rfl⟩

/-- DIS is the only bit of TSR that the decrementer sets. -/
theorem TimerRegs.DecTicked.bit_other {t u : TimerRegs} {runs : Bool} (h : t.DecTicked u runs) {k : Nat} (hk : k < 32)
    (h4 : 4 ≠ k) : bit u.tsr k = bit t.tsr k := by
  rw [h.status]
  split
  · exact bit_or_oneBit_other _ hk h4
  · rfl

theorem TimerRegs.DecTicked.bits_other {t u : TimerRegs} {runs : Bool} (h : t.DecTicked u runs) {a n : Nat} (hn : a + n ≤ 32)
    (hd : 4 < a ∨ a + n ≤ 4) : bits a n u.tsr = bits a n t.tsr :=
  bits_congr hn fun _ _ => h.bit_other (by omega) (by omega)

/-- The watchdog's part of TSR, as its three stages (R2146). -/
theorem watchdogStages {tcr tsr tsr' : Word} (enw : bit tsr' 0 = true) (wis : bit tsr 0 = true → bit tsr' 1 = true)
    (kept : bit tsr 0 = false → bit tsr' 1 = bit tsr 1)
    (wrs : bits 2 2 tsr' = if bit tsr 0 = true ∧ bit tsr 1 = true ∧ bits 2 2 tcr ≠ 0 then bits 2 2 tcr else bits 2 2 tsr) :
    (bit tsr 0 = false → bit tsr' 0 = true ∧ bits 1 3 tsr' = bits 1 3 tsr) ∧
      (bit tsr 0 = true → bit tsr 1 = false → bits 0 2 tsr' = 3#2 ∧ bits 2 2 tsr' = bits 2 2 tsr) ∧
      (bit tsr 0 = true → bit tsr 1 = true →
        bits 0 2 tsr' = 3#2 ∧ bits 2 2 tsr' = if bits 2 2 tcr = 0 then bits 2 2 tsr else bits 2 2 tcr) := by
  have stages (h0 : bit tsr 0 = true) : bits 0 2 tsr' = 3#2 := by
    refine bits_ext (by decide) fun i hi => ?_
    have set : bit tsr' (0 + i) = true := by
      interval_cases i
      · exact enw
      · exact wis h0
    rw [set]
    interval_cases i <;> rfl
  refine ⟨fun h0 => ⟨enw, ?_⟩, fun h0 h1 => ⟨stages h0, ?_⟩, fun h0 h1 => ⟨stages h0, ?_⟩⟩
  · rw [if_neg fun h => absurd (h0.symm.trans h.1) Bool.false_ne_true] at wrs
    have field {k : Nat} (hk : k < 2) : bit tsr' (2 + k) = bit tsr (2 + k) := by
      rw [← bits_getMsbD 2 2 _ (by decide) k hk, wrs, bits_getMsbD 2 2 _ (by decide) k hk]
    refine bits_congr (by decide) fun i hi => ?_
    interval_cases i
    · exact kept h0
    · exact field (by decide : 0 < 2)
    · exact field (by decide : 1 < 2)
  · rwa [if_neg fun h => absurd (h1.symm.trans h.2.1) Bool.false_ne_true] at wrs
  · rw [wrs]
    by_cases hw : bits 2 2 tcr = 0
    · rw [if_neg fun h => h.2.2 hw, if_pos hw]
    · rw [if_pos ⟨h0, h1, hw⟩, if_neg hw]

end Sys2Proof.Machine

namespace Sys2Proof.Proofs
open Sys2Proof.Machine

/-- Settles O17: a tick is a count of the decrementer and then one of the time base. -/
theorem timerTick : Obligations.TimerTick := by
  unfold Obligations.TimerTick
  intro s c t selected watched rose counts frozen active dft tbRuns decRuns
  have clocked : s.clocked = true ↔ s.pins.mclkOn = true ∨ active := s.clocked_iff
  have freezes : s.timersFrozen = true ↔ frozen := s.timersFrozen_iff
  constructor
  · intro still
    by_cases hc : c = s.timeBaseClock
    case neg => exact if_neg hc
    refine (if_pos hc).trans ?_
    rcases still with other | disabled | pin | freeze | stopped | both
    · exact absurd hc other
    · exact State.tick_off (by rw [State.timersCount, disabled]; rfl)
    · exact State.tick_off (by rw [State.timersCount, pin, Bool.not_true, Bool.and_false]; rfl)
    · exact State.tick_off (by rw [State.timersCount, freezes.2 freeze, Bool.not_true, Bool.and_false]; rfl)
    · obtain ⟨mclk, off, idle⟩ := stopped
      have halted : s.clocked = false := Bool.eq_false_iff.2 fun h => by simp_all
      exact State.tick_off (by rw [State.timersCount, ← hc, mclk, halted, Bool.or_false]; exact Bool.and_false _)
    · obtain ⟨tbStops, decStops⟩ := both
      cases on : s.timersCount with
      | false => exact State.tick_off on
      | true =>
        rw [State.tick_on on, Bool.eq_false_iff.2 (mt s.decRuns_iff.1 decStops), Bool.eq_false_iff.2 (mt s.tbRuns_iff.1 tbStops)]
        rfl
  · intro hc enabled pin thawed runs
    have on : s.timersCount = true := by
      refine s.timersCount_iff.2 ⟨enabled, pin, Bool.eq_false_iff.2 (mt freezes.1 thawed), ?_⟩
      rcases runs with tbclk | hm
      · exact .inl (Eq.trans (Eq.symm hc) tbclk)
      · exact .inr (clocked.2 hm)
    have ticked : t = { s with tim := (s.tim.decTick s.decRuns).tbTick s.tbRuns } :=
      (if_pos hc).trans (State.tick_on on)
    have dec := s.tim.decTicked s.decRuns
    have tb := (s.tim.decTick s.decRuns).tbTicked s.tbRuns
    have after : t.tim = (s.tim.decTick s.decRuns).tbTick s.tbRuns := congrArg State.tim ticked
    rw [← after] at tb
    obtain ⟨tb1, decar1, tcr1⟩ := dec.others
    obtain ⟨dec2, decar2, tcr2⟩ := tb.others
    have moved := tb.moved
    rw [tb1, tcr1] at moved
    have decOn (h : decRuns) : s.decRuns = true := s.decRuns_iff.2 h
    have decOff (h : ¬decRuns) : s.decRuns = false := Bool.eq_false_iff.2 (mt s.decRuns_iff.1 h)
    have status : bit t.tim.tsr 4 = bit (s.tim.decTick s.decRuns).tsr 4 := moved.others.1
    refine ⟨fun h => ?tb, fun h => ?tbStill, fun h => ?decStill, fun h one => ?decFires, fun h more => ?decCounts, fun h => ?dis,
      ?fis, fun quiet => ?quiet, fun ⟨low, high⟩ => ?watchdog, ?others, ?frame⟩
    case tb => rw [tb.counts (s.tbRuns_iff.2 h), tb1]
    case tbStill => rw [tb.still (Bool.eq_false_iff.2 (mt s.tbRuns_iff.1 h)), tb1]
    case decStill => rw [dec2, dec.still (h.imp_left decOff)]
    case decFires =>
      refine ⟨dec2.trans (dec.fires (decOn h) one), ?_⟩
      rw [status, dec.status, if_pos ⟨decOn h, one⟩]
      exact bit_or_oneBit_same _ (by decide)
    case decCounts => rw [dec2, dec.counts (decOn h) more]
    case dis =>
      rw [status, dec.status, if_neg fun fired => h.elim (fun off => off (s.decRuns_iff.1 fired.1)) fun other => other fired.2]
    case fis =>
      rw [← dec.bit_other (by decide : 5 < 32) (by decide)]
      exact moved.fixedInterval
    case quiet => rw [moved.quiet quiet, dec.bits_other (by decide) (.inr (by decide))]
    case watchdog =>
      obtain ⟨enw, wis, kept, wrs⟩ := moved.watchdog low high
      have stages := watchdogStages enw wis kept wrs
      rwa [dec.bit_other (by decide : 0 < 32) (by decide), dec.bit_other (by decide : 1 < 32) (by decide),
        dec.bits_other (by decide : 1 + 3 ≤ 32) (.inr (by decide)),
        dec.bits_other (by decide : 2 + 2 ≤ 32) (.inr (by decide))] at stages
    case others => rw [moved.others.2, dec.bits_other (by decide) (.inl (by decide))]
    case frame =>
      have timers := TimerRegs.eq_of_kept (decar2.trans decar1) (tcr2.trans tcr1)
      exact ticked.trans (congrArg (fun x => { s with tim := x }) (after.symm.trans timers))

end Sys2Proof.Proofs
end

section
/-! SUPPORT. Asynchronous interrupts at the boundary of a step: when each is the pending one, and what a step that takes it
leaves (spec/60_exceptions.md R2020 to R2035, R2061). -/

namespace Sys2Proof.Machine

/-! ## The boundary -/

/-- The end of a step changes the debug registers and the outputs only. -/
theorem State.finish_eq (s before : State) :
    s.finish before = { s with dbg := (s.finish before).dbg, outputs := (s.finish before).outputs } := by
  have post : s.postEvents before = { s with dbg := (s.postEvents before).dbg } := by
    unfold State.postEvents
    extract_lets d done dac icmp ide
    split <;> rfl
  unfold State.finish
  simp only []
  rw [State.countEvents_eq, post]

section
variable {s b : State} (hb : s.begin = b)
include hb

theorem State.step_suspended (h : b.suspended = true) : step s = .next b := by
  rw [step, hb, State.proceed, h]
  rfl

/-- Without m_clk a waiting core does nothing. -/
theorem State.step_unclocked (h : b.clocked = false) : step s = .next b := by
  rw [step, hb, State.proceed, h]
  exact if_pos (Bool.or_true _)

theorem State.step_waits (none : b.pending = none) (wait : b.waiting = true) :
    step s = .next b := by
  rw [step, hb, State.proceed, none, wait]
  split <;> rfl

/-- A core that runs, or waits with m_clk, takes what is pending. -/
theorem State.step_takes {p : Pending} (run : b.suspended = false) (clock : b.pins.mclkOn = true ∨ b.waiting = false)
    (hp : b.pending = some p) : step s = .next ((b.takePending p).finish b) := by
  have clocked : b.clocked = true := by
    rcases clock with on | awake
    · rw [State.clocked, on, Bool.true_or]
    · exact State.clocked_of_active awake run
  rw [step, hb, State.proceed, hp, run, clocked]
  rfl

end

/-! ## Priority -/

/-- The interrupts below machine check and debug in the order of R2061. -/
def firstRequest (critical watchdog external fixed decrementer : Bool) : Option Pending :=
  if critical then some .criticalInput else if watchdog then some .watchdog else if external then some .externalInput
  else if fixed then some .fixedInterval else if decrementer then some .decrementer else none

theorem firstRequest_iff : ∀ c w e f d : Bool,
    (firstRequest c w e f d = some .criticalInput ↔ c = true) ∧
    (firstRequest c w e f d = some .watchdog ↔ ¬c = true ∧ w = true) ∧
    (firstRequest c w e f d = some .externalInput ↔ ¬c = true ∧ ¬w = true ∧ e = true) ∧
    (firstRequest c w e f d = some .fixedInterval ↔ ¬c = true ∧ ¬w = true ∧ ¬e = true ∧ f = true) ∧
    (firstRequest c w e f d = some .decrementer ↔ ¬c = true ∧ ¬w = true ∧ ¬e = true ∧ ¬f = true ∧ d = true) := by
  decide

theorem State.pending_eq_firstRequest {s : State} (machine : s.pending ≠ some .machineCheck)
    (debug : s.pending ≠ some .debug) :
    s.pending = firstRequest (s.pins.critint && bit s.msr 14) (bit s.tim.tsr 1 && bit s.tim.tcr 4 && bit s.msr 14)
      (s.pins.extint && bit s.msr 16) (bit s.tim.tsr 5 && bit s.tim.tcr 8 && bit s.msr 16)
      (bit s.tim.tsr 4 && bit s.tim.tcr 5 && bit s.msr 16) := by
  unfold State.pending at *
  split
  · next h => exact absurd (if_pos h) machine
  · next h =>
    rw [if_neg h] at debug
    split
    · next h' => exact absurd (if_pos h') debug
    · rfl

/-! ## What a step that takes an interrupt leaves -/

/-- An interrupt of class c was taken at the boundary b. -/
structure State.TakenAt (b t : State) (c : IntClass) (vector : Word) : Prop where
  program : b.KeepsProgram t
  awake : t.waiting = false
  saved : t.int = saveContext c b.pc b.msr b.dapuen b.int
  mode : t.msr = newMsr b.hid.hid0 c b.msr
  jump : t.pc = codeAddress vector

/-- Entering the interrupt, and the end of the step after it. -/
theorem State.takenAt_finish (b : State) (c : IntClass) (vector : Word) (outputs : List OutputEvent) :
    b.TakenAt ({ b.takeInterrupt c vector b.pc with outputs := outputs }.finish b) c vector := by
  rw [State.finish_eq]
  exact ⟨b.keepsProgram_takeInterrupt c vector b.pc, State.takeInterrupt_waiting _ _ _ _, State.takeInterrupt_int _ _ _ _,
    State.takeInterrupt_msr _ _ _ _, State.takeInterrupt_pc _ _ _ _⟩

end Sys2Proof.Machine

namespace Sys2Proof.Proofs
open Sys2Proof.Machine

/-- Settles O16: the boundary takes the request that the priority ladder finds, by entering its class at its vector. -/
theorem asynchronousInterrupts : Obligations.AsynchronousInterrupts := by
  unfold Obligations.AsynchronousInterrupts
  intro s b hb ivor input critical watchdog external fixed decrementer before clock
  have takes {p : Pending} (run : b.suspended = false) (on : clock) (hp : b.pending = some p) :=
    State.step_takes hb run on hp
  have own (n : Nat) : codeAddress (vectorOf b n) = ivor n := codeAddress_vectorOf b n
  refine ⟨State.step_suspended hb, fun wait off => ?_, fun _ none wait => State.step_waits hb none wait,
    fun ⟨machine, debug⟩ => ?_, fun run on => ⟨fun hp => ?_, fun hp => ?_, fun hp => ?_, fun hp => ?_, fun hp => ?_⟩⟩
  · have stopped : b.clocked = false := by rw [State.clocked, off, wait]; rfl
    exact State.step_unclocked hb stopped
  · rw [State.pending_eq_firstRequest machine debug]
    have order := firstRequest_iff (b.pins.critint && bit b.msr 14) (bit b.tim.tsr 1 && bit b.tim.tcr 4 && bit b.msr 14)
      (b.pins.extint && bit b.msr 16) (bit b.tim.tsr 5 && bit b.tim.tcr 8 && bit b.msr 16)
      (bit b.tim.tsr 4 && bit b.tim.tcr 5 && bit b.msr 16)
    simpa only [Bool.and_eq_true, and_assoc] using order
  · obtain ⟨program, awake, saved, mode, jump⟩ := b.takenAt_finish .critical (b.inputVector 0) _
    exact ⟨_, takes run on hp, program, awake, saved, mode, jump.trans (codeAddress_inputVector b 0)⟩
  · obtain ⟨program, awake, saved, mode, jump⟩ := b.takenAt_finish .critical (vectorOf b 12) _
    exact ⟨_, takes run on hp, program, awake, saved, mode, jump.trans (own 12)⟩
  · obtain ⟨program, awake, saved, mode, jump⟩ := b.takenAt_finish .nonCritical (b.inputVector 4) _
    exact ⟨_, takes run on hp, program, awake, saved, mode, jump.trans (codeAddress_inputVector b 4)⟩
  · obtain ⟨program, awake, saved, mode, jump⟩ := b.takenAt_finish .nonCritical (vectorOf b 11) _
    exact ⟨_, takes run on hp, program, awake, saved, mode, jump.trans (own 11)⟩
  · obtain ⟨program, awake, saved, mode, jump⟩ := b.takenAt_finish .nonCritical (vectorOf b 10) _
    exact ⟨_, takes run on hp, program, awake, saved, mode, jump.trans (own 10)⟩

end Sys2Proof.Proofs
end

section
/-! SUPPORT. The record of a step that has executed nothing, and the machine check and debug interrupts of a boundary
(spec/60_exceptions.md R2021, R2035, R2061). -/

namespace Sys2Proof.Machine

/-! ## The record at a boundary -/

theorem State.setPins_cur (s : State) (p : Pins) : (s.setPins p).cur = s.cur := by rw [State.setPins_eq]

theorem State.tick_cur (s : State) : s.tick.cur = s.cur := by rw [State.tick_eq]

theorem State.arrive_cur (s : State) (m : MidwayInput) : (s.arrive m).cur = s.cur :=
  (State.setPins_cur _ _).trans <| List.foldlRecOn (List.range m.ticks) (fun (t : State) _ => t.tick)
    (motive := fun t => t.cur = s.cur) rfl fun t ht _ _ => t.tick_cur.trans ht

theorem State.applyEvent_idle {s : State} (h : s.cur = Current.idle) (e : HostEvent) : (s.applyEvent e).cur = Current.idle := by
  cases e with
  | tick c =>
    rw [State.applyEvent]
    split
    · exact s.tick_cur.trans h
    · exact h
  | pins p => exact (s.setPins_cur p).trans h
  | reset | powerOn => rfl
  | write a bs | busErrors rs | cacheLine i l | platform rs | during m => exact h

/-- At a boundary the record of the step is empty. -/
theorem State.begin_cur (s : State) : s.begin.cur = Current.idle := by
  have settled : ({ s with cur := Current.idle, outputs := [] } : State).settle.cur = Current.idle :=
    List.foldlRecOn s.midway State.arrive (motive := fun t => t.cur = Current.idle) rfl
      fun t ht m _ => (t.arrive_cur m).trans ht
  have delivered (t : State) (ht : t.cur = Current.idle) : t.deliver.cur = Current.idle := by
    unfold State.deliver
    split
    · exact ht
    · refine List.foldlRecOn _ State.applyEvent (motive := fun t => t.cur = Current.idle) ?_
        fun _ hu e _ => State.applyEvent_idle hu e
      exact ht
  rw [State.begin, State.pinLevels_eq]
  exact delivered _ settled

/-! ## A step that executes nothing -/

theorem counterStep_idle (dbcr3 dbcnt : Word) (triggered : Bool) :
    counterStep dbcr3 dbcnt triggered noCountEvents = (dbcnt, false, false, false) := by
  have halves : bits 0 16 dbcnt ++ bits 16 16 dbcnt = dbcnt := by
    refine word_ext _ _ fun i hi => ?_
    by_cases h : i < 16
    · have low := bits_getMsbD 0 16 dbcnt (by decide) i h
      rw [Nat.zero_add] at low
      rw [bit, BitVec.getMsbD_append, if_neg (by omega), low]
    · have high := bits_getMsbD 16 16 dbcnt (by decide) (i - 16) (by omega)
      rw [Nat.add_sub_cancel' (by omega)] at high
      rw [bit, BitVec.getMsbD_append, if_pos (by omega), high]
  refine Prod.ext ?_ (counterStep_noCountEvents dbcr3 dbcnt triggered)
  have counts1 : counts1 dbcr3 noCountEvents = false := by simp [Machine.counts1, noCountEvents]
  have counts2 : counts2 dbcr3 noCountEvents = false := by simp [Machine.counts2, noCountEvents]
  simp only [counterStep, counts1, counts2, Bool.false_and, Bool.and_false, Bool.false_eq_true, if_false, halves]
  split <;> rfl

theorem instructionEvents_idle (d : DebugRegs) (msr : Word) : instructionEvents d msr Current.idle = noCountEvents := rfl

/-- A step that records no event of its own leaves the debug registers as they are at its end. -/
theorem State.finish_dbg_idle {s : State} (h : s.cur = Current.idle) (before : State) : (s.finish before).dbg = s.dbg := by
  have post : s.postEvents before = s := by
    unfold State.postEvents
    rw [h]
    exact if_neg (by simp [Current.idle, when])
  have counts : (s.countEvents before.dbg (bit before.msr 22) noCountEvents).dbg = s.dbg := by
    unfold State.countEvents State.countBase
    rw [h]
    split
    · simp [counterStep_idle, Current.idle, when]
    · rfl
  rw [State.finish, post, h, instructionEvents_idle]
  exact counts

/-! ## Machine check and debug -/

theorem firstRequest_ne : ∀ c w e f d : Bool,
    firstRequest c w e f d ≠ some .machineCheck ∧ firstRequest c w e f d ≠ some .debug := by
  decide

/-- The order of R2061 with machine check and debug first. -/
theorem ladder_iff {machine debug : Bool} {rest : Option Pending} (h : rest ≠ some .machineCheck ∧ rest ≠ some .debug) :
    ((if machine then some .machineCheck else if debug then some .debug else rest) = some Pending.machineCheck ↔
      machine = true) ∧
    ((if machine then some .machineCheck else if debug then some .debug else rest) = some Pending.debug ↔
      ¬machine = true ∧ debug = true) := by
  obtain ⟨noMachine, noDebug⟩ := h
  cases machine <;> cases debug <;> simp [noMachine, noDebug]

theorem State.pending_ladder (s : State) :
    (s.pending = some .machineCheck ↔
      (s.nmiPending || ((s.int.mcsr &&& mcsrAsyncMask) != 0 && bit s.msr 19)) = true) ∧
    (s.pending = some .debug ↔
      ¬(s.nmiPending || ((s.int.mcsr &&& mcsrAsyncMask) != 0 && bit s.msr 19)) = true ∧ s.debugPending = true) :=
  ladder_iff (firstRequest_ne _ _ _ _ _)

theorem State.pending_machineCheck_iff (s : State) : s.pending = some .machineCheck ↔
    s.nmiPending = true ∨ (s.int.mcsr &&& 0xCC00001C ≠ 0 ∧ bit s.msr 19 = true) := by
  rw [s.pending_ladder.1, Bool.or_eq_true, Bool.and_eq_true, bne_iff_ne]
  rfl

theorem State.pending_debug_iff (s : State) : s.pending = some .debug ↔
    s.pending ≠ some .machineCheck ∧ bit s.dbg.dbcr0 1 = true ∧ bit s.msr 22 = true ∧ s.dbg.dbsr &&& 0xCFFF87E0 ≠ 0 := by
  obtain ⟨machine, debug⟩ := s.pending_ladder
  rw [debug, ne_eq, machine, State.debugPending, Bool.and_eq_true, Bool.and_eq_true, and_assoc, bne_iff_ne]
  rfl

section
variable {s b : State} (hb : s.begin = b) (run : b.suspended = false) (clock : b.pins.mclkOn = true ∨ b.waiting = false)
include hb run clock

/-- A machine check at a boundary (R2021). -/
theorem State.step_machineCheck (hp : b.pending = some .machineCheck) : ∃ t, step s = .next t ∧ b.KeepsProgram t ∧
    t.waiting = false ∧ t.nmiPending = false ∧ t.dbg = b.dbg ∧
    t.pc = bits 0 16 b.int.ivpr ++ bits 16 12 (b.ivorAt 1) ++ 0#4 ∧
    t.msr = (if bit b.hid.hid0 23 = true ∧ bit b.hid.hid0 22 = false then b.msr &&& 0x200 else 0) ∧
    t.int = { b.int with
      mcsrr0 := b.pc, mcsrr1 := b.msr, mcsr := b.int.mcsr ||| if b.nmiPending then 0x00100000 else 0 } := by
  have idle : (b.takePending .machineCheck).cur = Current.idle := hb ▸ s.begin_cur
  refine ⟨_, State.step_takes hb run clock hp, ?_⟩
  rw [State.finish_eq, State.finish_dbg_idle idle]
  exact ⟨⟨rfl, rfl, rfl, rfl, rfl, rfl, rfl, rfl, rfl⟩, rfl, rfl, rfl, codeAddress_vectorOf b 1, newMsr_machineCheck _ _, rfl⟩

/-- A debug interrupt at a boundary (R2035). -/
theorem State.step_debug (hp : b.pending = some .debug) : ∃ t, step s = .next t ∧ b.KeepsProgram t ∧ t.waiting = false ∧
    t.dbg = b.dbg ∧ t.pc = bits 0 16 b.int.ivpr ++ bits 16 12 (b.ivorAt 15) ++ 0#4 ∧
    (∀ k, k < 32 → bit t.msr k = (keepsMsrBit b.hid.hid0 .debug k && bit b.msr k)) ∧
    t.int = if bit b.hid.hid0 23 then { b.int with dsrr0 := b.pc, dsrr1 := b.msr }
      else { b.int with csrr0 := b.pc, csrr1 := b.msr } := by
  have idle : (b.takePending .debug).cur = Current.idle := hb ▸ s.begin_cur
  refine ⟨_, State.step_takes hb run clock hp, ?_⟩
  rw [State.finish_eq, State.finish_dbg_idle idle]
  exact ⟨⟨rfl, rfl, rfl, rfl, rfl, rfl, rfl, rfl, rfl⟩, rfl, rfl, codeAddress_vectorOf b 15, fun k hk => bit_newMsr _ _ _ hk,
    rfl⟩

end

end Sys2Proof.Machine
end

section
/-! SUPPORT. The edges of p_nmi_b and p_mcp_b (spec/62_timers_power_platform.md R2160). -/

namespace Sys2Proof.Machine

/-- Sampling latches the edges and nothing else of MCSR. -/
theorem State.samplePins_mcsr {s : State} {p : Pins} (h : { s with pins := p }.clocked = true) :
    (s.samplePins p).int.mcsr = s.int.mcsr ||| when (!s.sampled.mcp && p.mcp && bit s.hid.hid0 0) (oneBit 0) := by
  rw [State.samplePins]
  exact congrArg (fun t : State => t.int.mcsr) (if_pos h)

theorem State.samplePins_sampled {s : State} {p : Pins} (h : { s with pins := p }.clocked = true) :
    (s.samplePins p).sampled = { nmi := p.nmi, mcp := p.mcp } := by
  rw [State.samplePins]
  exact congrArg (fun t : State => t.sampled) (if_pos h)

section
variable (s : State) (p : Pins)

theorem State.setPins_nmiPending : (s.setPins p).nmiPending = (s.samplePins p).nmiPending := by rw [State.setPins_eq]

theorem State.setPins_mcsr : (s.setPins p).int.mcsr = (s.samplePins p).int.mcsr := by rw [State.setPins_eq]

theorem State.setPins_sampled : (s.setPins p).sampled = (s.samplePins p).sampled := by rw [State.setPins_eq]

theorem State.setPins_int : (s.setPins p).int = { s.int with mcsr := (s.samplePins p).int.mcsr } := by rw [State.setPins_eq]

end

/-- New pin levels and the machine checks they latch. -/
theorem State.setPins_latches (s : State) (p : Pins) :
    let t := s.setPins p
    let clock : Prop := p.mclkOn = true ∨ (s.waiting = false ∧ s.debugHalt = false ∧ p.halt = false ∧ p.stop = false)
    (clock →
      (t.nmiPending = true ↔ s.nmiPending = true ∨ (s.sampled.nmi = false ∧ p.nmi = true)) ∧
      (bit t.int.mcsr 0 = true ↔
        bit s.int.mcsr 0 = true ∨ (s.sampled.mcp = false ∧ p.mcp = true ∧ bit s.hid.hid0 0 = true)) ∧
      t.sampled = { nmi := p.nmi, mcp := p.mcp }) ∧
    (¬clock → t.nmiPending = s.nmiPending ∧ t.int.mcsr = s.int.mcsr ∧ t.sampled = s.sampled) ∧
    t.int = { s.int with mcsr := t.int.mcsr } ∧ (∀ k, 1 ≤ k → k < 32 → bit t.int.mcsr k = bit s.int.mcsr k) := by
  intro t clock
  have clocked : { s with pins := p }.clocked = true ↔ clock := State.clocked_iff { s with pins := p }
  have nmi : t.nmiPending = (s.samplePins p).nmiPending := s.setPins_nmiPending p
  have mcsr : t.int.mcsr = (s.samplePins p).int.mcsr := s.setPins_mcsr p
  have sampled : t.sampled = (s.samplePins p).sampled := s.setPins_sampled p
  have int : t.int = { s.int with mcsr := t.int.mcsr } := by
    rw [mcsr]
    exact s.setPins_int p
  refine ⟨fun on => ?_, fun off => ?_, int, fun k low hk => ?_⟩
  · rw [← clocked] at on
    rw [nmi, mcsr, sampled, State.samplePins_nmiPending on, State.samplePins_mcsr on, State.samplePins_sampled on]
    refine ⟨by simp, ?_, rfl⟩
    rw [bit_or, bit_when, bit_oneBit 0 0 (by decide)]
    simp [and_assoc]
  · rw [← clocked, Bool.not_eq_true] at off
    rw [nmi, mcsr, sampled, State.samplePins_unclocked off]
    exact ⟨rfl, rfl, rfl⟩
  · rw [mcsr]
    by_cases on : { s with pins := p }.clocked = true
    · rw [State.samplePins_mcsr on, bit_or, bit_when, bit_oneBit _ _ hk, decide_eq_false (by omega : ¬0 = k), Bool.and_false,
        Bool.or_false]
    · rw [State.samplePins_unclocked (Bool.eq_false_iff.2 on)]

end Sys2Proof.Machine
end

section
/-! SUPPORT. Bus errors of data accesses within a double word, and of fetches with the cache off (spec/60_exceptions.md R2050 to
R2055, spec/20_memory.md R412). -/

namespace Sys2Proof.Machine

/-! ## Data accesses -/

/-- An access within a double word is one transfer. -/
theorem firstTransfer_within {ea : Word} {n : Nat} (h : ea.toNat % 8 + n ≤ 8) : firstTransfer ea n = n :=
  Nat.min_eq_left (by omega)

theorem realAddresses_first (m m2 : Mapping) (ea : Word) {n : Nat} (h : 0 < n) :
    (realAddresses m m2 ea n).getD 0 0 = m.real ea := by
  have here : ea + BitVec.ofNat 32 0 = ea := BitVec.add_zero ea
  rw [realAddresses_getD m m2 ea h]
  simp only [here, Mapping.samePage, beq_self_eq_true, if_true]

/-- The state after the only transfer of an access ended in an error: the condition is in MCSR and the address in MCAR. -/
def State.accessFailed (s : State) (q : Request) (m m2 : Mapping) (bs : List Byte) (e : Word) : State :=
  (s.transfer q m m2 (realAddresses m m2 q.ea q.size) bs true false).asyncCheck e (m.real q.ea) false

theorem State.accessFailed_eq (s : State) (q : Request) (m m2 : Mapping) (bs : List Byte) (e : Word) :
    s.accessFailed q m m2 bs e = { s with
      psu := (s.accessFailed q m m2 bs e).psu
      cur := (s.accessFailed q m m2 bs e).cur
      int := { s.int with
        mcsr := (s.accessFailed q m m2 bs e).int.mcsr, mcar := (s.accessFailed q m m2 bs e).int.mcar } } := by
  unfold State.accessFailed
  rw [State.asyncCheck_eq]
  rfl

theorem State.accessFailed_mcsr (s : State) (q : Request) (m m2 : Mapping) (bs : List Byte) {e : Word} (he : bit e 13 = false) :
    (s.accessFailed q m m2 bs e).int.mcsr =
      (if bit s.int.mcsr 12 then s.int.mcsr else (s.int.mcsr ||| 0x00080000) &&& ~~~0x00040000#32) ||| e :=
  State.asyncCheck_mcsr _ _ false he

theorem State.accessFailed_mcar (s : State) (q : Request) (m m2 : Mapping) (bs : List Byte) (e : Word) :
    (s.accessFailed q m m2 bs e).int.mcar = if bit s.int.mcsr 12 then s.int.mcar else m.real q.ea := by
  rw [State.accessFailed, State.asyncCheck_eq]
  rfl

section
variable {s : State} {ea : Word} {n : Nat} {m m2 : Mapping} (hmaps : s.MapsData ea n m m2) (hn : 0 < n)
  (hone : ea.toNat % 8 + n ≤ 8)
include hmaps hn hone

/-- A load whose only transfer ends in an error (R412). -/
theorem State.load_failed (hr : m.mayRead s.userMode = true) (hr2 : m2.mayRead s.userMode = true)
    (herror : s.busError .load (realAddresses m m2 ea n) = true) (kind : AccessKind) :
    let q : Request := { ea := ea, size := n, store := false, kind := kind }
    s.load ea n kind = .raised ((s.accessFailed q m m2 (s.bytesAt m m2 ea n) (oneBit 28)).dataFault q fun w =>
      w.errorReport (oneBit 16 ||| when m.entry.g (oneBit 18))) := by
  have whole : (realAddresses m m2 ea n).take n = realAddresses m m2 ea n :=
    List.take_of_length_le (realAddresses_length m m2 ea n).le
  unfold State.load State.loadBytes State.accessFailed
  simp only []
  rw [State.translateData_ok (q := { ea := ea, size := n, store := false, kind := kind }) hmaps
    (by simpa [Mapping.permits] using hr) (by simpa [Mapping.permits] using hr2)]
  simp only [Access.bind_of_done, firstTransfer_within hone, whole, herror, Bool.not_true, Bool.false_and, Bool.or_false, if_true,
    realAddresses_first m m2 ea hn]
  rfl

/-- A store whose only transfer ends in an error: an error report, or complete with the condition in MCSR (R2050). -/
theorem State.store_failed_of_kind (hw : m.mayWrite s.userMode = true) (hw2 : m2.mayWrite s.userMode = true)
    (herror : s.busError .store (realAddresses m m2 ea n) = true) (v : Dword) (kind : AccessKind) :
    let q : Request := { ea := ea, size := n, store := true, kind := kind }
    let bs := inOrder m.entry.e (toBytes n v)
    s.store ea n v kind =
      if m.entry.g && (kind == .atomic || m.entry.i) then
        .raised ((s.accessFailed q m m2 bs (oneBit 29)).dataFault q fun w =>
          w.errorReport (oneBit 17 ||| when m.entry.g (oneBit 18)))
      else .done true ((s.accessFailed q m m2 bs (oneBit 29)).noteAccess { ea := ea, store := true, bytes := bs }) := by
  have whole : (realAddresses m m2 ea n).take n = realAddresses m m2 ea n :=
    List.take_of_length_le (realAddresses_length m m2 ea n).le
  unfold State.store State.storeImage State.accessFailed
  simp only []
  rw [State.translateData_ok (q := { ea := ea, size := n, store := true, kind := kind }) hmaps
    (by simpa [Mapping.permits] using hw) (by simpa [Mapping.permits] using hw2)]
  simp only [Access.bind_of_done, firstTransfer_within hone, whole, herror, Bool.not_true, Bool.false_and, Bool.or_false,
    Bool.true_or, Bool.true_and, if_true, realAddresses_first m m2 ea hn]
  rfl

end

/-- The error report of an access that failed. -/
theorem State.accessFailed_reported {s : State} (hidm : s.idm = false) (q : Request) (m m2 : Mapping) (bs : List Byte)
    {e r : Word} (he : bit e 13 = false) :
    let t := (s.accessFailed q m m2 bs e).dataFault q fun w => w.errorReport (r ||| when m.entry.g (oneBit 18))
    s.KeepsProgram t ∧ t.pc = bits 0 16 s.int.ivpr ++ bits 16 12 (s.ivorAt 1) ++ 0#4 ∧
      t.int = { s.int with
        mcsrr0 := s.pc
        mcsrr1 := s.msr
        mcsr := (if bit s.int.mcsr 12 then s.int.mcsr else (s.int.mcsr ||| 0x00080000) &&& ~~~0x00040000#32) ||| (e ||| r) |||
          if m.entry.g then 0x2000 else 0
        mcar := if bit s.int.mcsr 12 then s.int.mcar else m.real q.ea } := by
  intro t
  have failed := s.accessFailed_eq q m m2 bs e
  have mcsr := s.accessFailed_mcsr q m m2 bs he
  have mcar := s.accessFailed_mcar q m m2 bs e
  have idm : (s.accessFailed q m m2 bs e).idm = false := by
    rw [failed]
    exact hidm
  have report : t = _ := State.dataFault_off idm q _
  rw [report]
  generalize s.accessFailed q m m2 bs e = u at *
  rw [failed]
  refine ⟨⟨rfl, rfl, rfl, rfl, rfl, rfl, rfl, rfl, rfl⟩, codeAddress_vectorOf s 1, ?_⟩
  rw [State.errorReport_int]
  simp only [State.aside, mcsr, mcar, BitVec.or_assoc]
  rfl

end Sys2Proof.Machine
end

section
/-! SUPPORT. Bus errors of fetches with the cache off, and MachineCheckAndDebugInterrupts (spec/60_exceptions.md R2050 to R2055). -/

namespace Sys2Proof.Machine

variable {s : State} {m : Mapping}

theorem State.fetchBytes_off_error (ic : s.ic.enabled = false) {ea real : Word} {n : Nat} {e : TlbEntry}
    (hb : s.codeError real n = true) :
    s.fetchBytes ea real n e = .check (oneBit 27) real (s.fetchRequest real n e none) := by
  have hb' : (s.fetchRequest real n e none).busError .fetch ((List.range n).map fun k => real + BitVec.ofNat 32 k) = true := hb
  simp only [State.fetchBytes, ic, State.fetchMemory, State.fetchRead, hb', Bool.not_false, if_true]

/-- The machine check of a fetch, whatever the step has remembered before it. -/
theorem State.fetchFailed_aside (s : State) (c : Current) (k : Nat) {async : Word} (a : Word) (he : bit async 13 = false) :
    s.FetchFailed ((s.aside c k).fetchError async a) async a := by
  obtain ⟨checked, cache⟩ := (s.aside c k).fetchFailed_fetchError a he
  exact ⟨⟨checked.program, checked.awake, checked.vector, checked.mode, checked.saved⟩, cache⟩

/-- A bus error on a fetch with the cache off (R2050, R2052). -/
theorem State.fetch_busError (h : s.lookup (bit s.msr 26) s.pc = some m) (hm : m.multi = false)
    (hx : m.mayExecute s.userMode = true) (ic : s.ic.enabled = false)
    (herror : s.codeError (m.real s.pc) (if m.entry.vle then 2 else 4) = true)
    (aligned : m.entry.vle = false → bit s.pc 30 = false) (bigEndian : m.entry.vle = true → m.entry.e = false) :
    ∃ t, s.fetch = .raised t ∧ s.FetchFailed t 0x10 (m.real s.pc) := by
  have failed (c : Current) := s.fetchFailed_aside c s.freeCtr (async := oneBit 27) (m.real s.pc) (by decide)
  cases hv : m.entry.vle with
  | false =>
    rw [hv, if_neg Bool.false_ne_true] at herror
    rw [State.fetch_bookE h hm hx hv (aligned hv), State.fetchBytes_off_error (s := { s with cur.vle := false }) ic herror]
    exact ⟨_, rfl, failed _⟩
  | true =>
    rw [hv, if_pos rfl] at herror
    rw [State.fetch_vle h hm hx hv (bigEndian hv), State.fetchBytes_off_error (s := { s with cur.vle := true }) ic herror]
    exact ⟨_, rfl, failed _⟩

end Sys2Proof.Machine

namespace Sys2Proof.Proofs
open Sys2Proof.Machine

/-- Settles O19: the boundary takes machine check and debug first, edges are latched as they are sampled, and each bus error is
the error report or the condition in MCSR. -/
theorem machineCheckAndDebugInterrupts : Obligations.MachineCheckAndDebugInterrupts := by
  unfold Obligations.MachineCheckAndDebugInterrupts
  refine ⟨fun s b hb => ⟨b.pending_machineCheck_iff, b.pending_debug_iff, fun run clock =>
      ⟨State.step_machineCheck hb run clock, State.step_debug hb run clock⟩⟩,
    fun s p => s.setPins_latches p, ?_, fun s m h hm hx ic => State.fetch_busError h hm hx ic, fun s first h => ?_⟩
  · intro s ea n value kind m m2 hn hone hidm hmaps kept address reported
    refine ⟨fun hr hr2 herror => ⟨_, State.load_failed hmaps hn hone hr hr2 herror kind,
      State.accessFailed_reported hidm _ m m2 _ (by decide)⟩, fun hw hw2 herror => ?_⟩
    have stored := State.store_failed_of_kind hmaps hn hone hw hw2 herror value kind
    have precise : (m.entry.g && (kind == .atomic || m.entry.i)) = true ↔
        m.entry.g = true ∧ (kind = .atomic ∨ m.entry.i = true) := by
      rw [Bool.and_eq_true, Bool.or_eq_true, beq_iff_eq]
    refine ⟨fun hp => ?_, fun hp => ?_⟩
    · exact ⟨_, stored.trans (if_pos (precise.2 hp)), State.accessFailed_reported hidm _ m m2 _ (by decide)⟩
    · refine ⟨_, stored.trans (if_neg (mt precise.1 hp)), ?_⟩
      have mcsr := s.accessFailed_mcsr { ea := ea, size := n, store := true, kind := kind } m m2
        (inOrder m.entry.e (toBytes n value)) (e := oneBit 29) (by decide)
      have mcar := s.accessFailed_mcar { ea := ea, size := n, store := true, kind := kind } m m2
        (inOrder m.entry.e (toBytes n value)) (oneBit 29)
      rw [State.accessFailed_eq, mcsr, mcar]
      exact ⟨⟨rfl, rfl, rfl, rfl, rfl, rfl, rfl, rfl, rfl⟩, rfl, rfl, rfl⟩
  · have lost := State.instrTlbError_first first s.cur s.freeCtr s.pc false
    exact ⟨_, State.fetch_missed h, lost.program, lost.vector, lost.saved⟩

end Sys2Proof.Proofs
end

section
/-! SUPPORT. Lanes, sizes and attributes of a bus request (spec/62_timers_power_platform.md R2181, R2185). -/

namespace Sys2Proof.Machine

/-! ## Lanes and containers -/

theorem getLsbD_laneMask {a n k : Nat} (h : a + n ≤ 8) (hk : k < 8) :
    (laneMask a n).getLsbD k = decide (a ≤ k ∧ k < a + n) := by
  have ones : ∀ n, n ≤ 8 → ∀ j, j < 8 → ((1#8 <<< n) - 1).getLsbD j = decide (j < n) := by decide
  rw [laneMask, BitVec.getLsbD_shiftLeft, ones n (by omega) _ (by omega), Bool.eq_iff_iff]
  simp only [hk, decide_true, Bool.true_and, Bool.and_eq_true, Bool.not_eq_true', decide_eq_false_iff_not, decide_eq_true_eq]
  omega

/-- The size code of the smallest aligned container of two lanes. -/
theorem containerSize_spec : ∀ a, a < 8 → ∀ b, b < 8 →
    containerSize a b < 4 ∧ a / 2 ^ containerSize a b = b / 2 ^ containerSize a b ∧
      ∀ j, j < containerSize a b → a / 2 ^ j ≠ b / 2 ^ j := by
  decide

/-- The size code that the request of a transfer carries. -/
theorem toNat_sizeCode {z : Nat} (h : z < 4) : (BitVec.ofNat 2 z).toNat = z := by
  rw [BitVec.toNat_ofNat, Nat.mod_eq_of_lt h]

theorem two_pow_log2 {n : Nat} (h : n = 1 ∨ n = 2 ∨ n = 4 ∨ n = 8) : n.log2 < 4 ∧ 2 ^ n.log2 = n := by
  rcases h with rfl | rfl | rfl | rfl <;> decide

/-! ## Attributes -/

theorem dataProt_spec (e : TlbEntry) (user exclusive : Bool) :
    (dataProt e user exclusive).getLsbD 0 = true ∧ (dataProt e user exclusive).getLsbD 1 = !user ∧
      (dataProt e user exclusive).getLsbD 5 = exclusive ∧
      (dataProt e user exclusive).extractLsb' 2 3 = if e.i then 0 else if e.g then 1 else if e.w then 6 else 7 := by
  have codes : ∀ (x u : Bool) (c : BitVec 3),
      (BitVec.ofBool x ++ c ++ BitVec.ofBool (!u) ++ 1#1 : BitVec 6).getLsbD 0 = true ∧
        (BitVec.ofBool x ++ c ++ BitVec.ofBool (!u) ++ 1#1 : BitVec 6).getLsbD 1 = !u ∧
        (BitVec.ofBool x ++ c ++ BitVec.ofBool (!u) ++ 1#1 : BitVec 6).getLsbD 5 = x ∧
        (BitVec.ofBool x ++ c ++ BitVec.ofBool (!u) ++ 1#1 : BitVec 6).extractLsb' 2 3 = c := by decide
  exact codes exclusive user _

theorem fetchProt_spec : ∀ inhibited user : Bool,
    (fetchProt inhibited user).getLsbD 0 = false ∧ (fetchProt inhibited user).getLsbD 1 = !user ∧
      (fetchProt inhibited user).extractLsb' 2 3 = (if inhibited then 0 else 6) ∧
      (fetchProt inhibited user).getLsbD 5 = false := by
  decide

end Sys2Proof.Machine
end

section
/-! SUPPORT. The requests of a data access (spec/62_timers_power_platform.md R2180, R2181, R2185). -/

namespace Sys2Proof.Machine

/-- The request of a transfer, as a record (State.dataRequest wraps it as an output). -/
def State.dataTransfer (s : State) (store : Bool) (kind : AccessKind) (e : TlbEntry) (real : Word) (size a n : Nat)
    (data : List Byte) : BusRequest :=
  { port := .data, write := store, address := real, size := BitVec.ofNat 2 size, lanes := laneMask a n,
    unaligned := n != 2 ^ size, burst := false, hprot := dataProt e (bit s.msr 17) (kind == .atomic),
    coherent := e.m, ttype := kind.ttype, master := s.pins.masterid, way := 0, data := if store then data else [] }

section
variable (s : State) (store : Bool) (kind : AccessKind) (e : TlbEntry) (real : Word) (data : List Byte)

/-- The attributes of every data request. -/
theorem State.dataTransfer_attributes (size a n : Nat) :
    let r := s.dataTransfer store kind e real size a n data
    r.port = .data ∧ r.write = store ∧ r.master = s.pins.masterid ∧ r.burst = false ∧ r.hprot.getLsbD 0 = true ∧
      r.hprot.getLsbD 1 = !s.userMode ∧ (r.hprot.getLsbD 5 = true ↔ kind = .atomic) ∧
      r.hprot.extractLsb' 2 3 = (if e.i then 0 else if e.g then 1 else if e.w then 6 else 7) ∧
      r.coherent = e.m ∧ r.ttype = (match kind with | .base => 0 | .spe => 0 | .atomic => 1 | .multiple => 7) := by
  obtain ⟨data, user, exclusive, code⟩ := dataProt_spec e (bit s.msr 17) (kind == .atomic)
  exact ⟨rfl, rfl, rfl, rfl, data, user, (Bool.eq_iff_iff.1 exclusive).trans beq_iff_eq, code, rfl, by cases kind <;> rfl⟩

/-- The lanes and the container of the transfer of lanes a to b. -/
theorem State.dataTransfer_container {a b n : Nat} (ha : a < b) (hb : b ≤ 8) (hn : n = b - a) :
    let r := s.dataTransfer store kind e real (containerSize a (b - 1)) a n data
    (∀ k, k < 8 → r.lanes.getLsbD k = decide (a ≤ k ∧ k < b)) ∧
      a / 2 ^ r.size.toNat = (b - 1) / 2 ^ r.size.toNat ∧
      (∀ j, j < r.size.toNat → a / 2 ^ j ≠ (b - 1) / 2 ^ j) ∧ (r.unaligned = true ↔ b - a ≠ 2 ^ r.size.toNat) := by
  intro r
  obtain ⟨code, fits, smallest⟩ := containerSize_spec a (by omega) (b - 1) (by omega)
  have size : r.size.toNat = containerSize a (b - 1) := toNat_sizeCode code
  have lanes (k : Nat) (hk : k < 8) : r.lanes.getLsbD k = decide (a ≤ k ∧ k < a + n) := getLsbD_laneMask (by omega) hk
  rw [size]
  refine ⟨fun k hk => ?_, fits, smallest, ?_⟩
  · rw [lanes k hk, show a + n = b by omega]
  · rw [← hn]
    exact bne_iff_ne

end

/-! ## Which requests an access drives -/

section
variable {s : State} {ea : Word} {n : Nat} {m m2 : Mapping} (write : Bool) (kind : AccessKind) (bytes : List Byte)

/-- Within a double word: one request. -/
theorem State.dataRequests_within (h0 : 0 < n) (h : ea.toNat % 8 + n ≤ 8) :
    s.dataRequests write kind m.entry m2.entry ea (realAddresses m m2 ea n) bytes false =
      [.request (s.dataTransfer write kind m.entry (m.real ea)
        (containerSize (ea.toNat % 8) (ea.toNat % 8 + n - 1)) (ea.toNat % 8) n bytes)] := by
  simp only [State.dataRequests]
  rw [realAddresses_length, if_pos (firstTransfer_within h), realAddresses_first m m2 ea h0]
  rfl

/-- Across a double word: one for the lanes up to its end, one for the rest. -/
theorem State.dataRequests_across (h0 : n ≤ 8) (h : 8 < ea.toNat % 8 + n) :
    s.dataRequests write kind m.entry m2.entry ea (realAddresses m m2 ea n) bytes false =
      [.request (s.dataTransfer write kind m.entry (m.real ea) n.log2 (ea.toNat % 8) (8 - ea.toNat % 8)
          (bytes.take (8 - ea.toNat % 8))),
        .request (s.dataTransfer write kind m2.entry ((realAddresses m m2 ea n).getD (8 - ea.toNat % 8) 0)
          (containerSize 0 (ea.toNat % 8 + n - 8 - 1)) 0 (ea.toNat % 8 + n - 8) (bytes.drop (8 - ea.toNat % 8)))] := by
  have first : firstTransfer ea n = 8 - ea.toNat % 8 := Nat.min_eq_right (by omega)
  have rest : n - (8 - ea.toNat % 8) = ea.toNat % 8 + n - 8 := by omega
  simp only [State.dataRequests]
  rw [realAddresses_length, first, if_neg (by omega), realAddresses_first m m2 ea (by omega), rest]
  rfl

end

/-- The requests of a load that completes, and the access noted for the debug unit. -/
theorem State.loadBytes_shown {s : State} {ea : Word} {n : Nat} {m m2 : Mapping} (h : s.CanLoad ea n m m2)
    (kind : AccessKind) : ∃ t, s.loadBytes ea n kind = .done (s.bytesAt m m2 ea n, m) t ∧
      t.cur.signals = s.cur.signals ++
        s.dataRequests false kind m.entry m2.entry ea (realAddresses m m2 ea n) (s.bytesAt m m2 ea n) false ∧
      t.cur.accesses = s.cur.accesses ++ [{ ea := ea, store := false, bytes := s.bytesAt m m2 ea n }] :=
  ⟨_, State.loadBytes_ok h kind, rfl, rfl⟩

/-- The same of a store that completes, or that external reservation logic refuses. -/
theorem State.storeImage_shown {s : State} {ea : Word} {n : Nat} {m m2 : Mapping} (h : s.CanStore ea n m m2)
    (image : Bool → List Byte) (kind : AccessKind) : ∃ ok t, s.storeImage ea n image kind = .done ok t ∧
      t.cur.signals = s.cur.signals ++
        s.dataRequests true kind m.entry m2.entry ea (realAddresses m m2 ea n) (image m.entry.e) false ∧
      t.cur.accesses = s.cur.accesses ++ [{ ea := ea, store := true, bytes := image m.entry.e }] := by
  unfold State.storeImage
  simp only []
  rw [State.translateData_ok (q := { ea := ea, size := n, store := true, kind := kind }) h.maps
    (by simpa [Mapping.permits] using h.permitted.1) (by simpa [Mapping.permits] using h.permitted.2)]
  simp only [Access.bind_of_done, State.busError_take _ _ _ _ h.noError, State.busError_drop _ _ _ _ h.noError,
    Bool.not_false, Bool.and_false, Bool.or_self, Bool.false_eq_true, if_false]
  exact ⟨_, _, rfl, rfl, rfl⟩

end Sys2Proof.Machine
end

section
/-! SUPPORT. The requests of an instruction fetch (spec/62_timers_power_platform.md R2185, spec/20_memory.md R470 to R476). -/

namespace Sys2Proof.Machine

/-! ## What leaves the signals alone -/

theorem State.signals_asyncCheck (s : State) (e a : Word) (effective : Bool) :
    (s.asyncCheck e a effective).cur.signals = s.cur.signals := by rw [State.asyncCheck_eq]

theorem State.signals_fillLine (s : State) (ea real : Word) (w : Nat) (lock : Bool) :
    (s.fillLine ea real w lock).cur.signals = s.cur.signals := by
  unfold State.fillLine
  simp only []
  split <;> rfl

theorem State.signals_refuseLine (s : State) (ea real : Word) (w : Nat) :
    (s.refuseLine ea real w).cur.signals = s.cur.signals :=
  State.signals_asyncCheck (s.dropLine ea w) (oneBit 27) real false

/-! ## Requests -/

theorem Fetch.Leaves.mono {x : Fetch} {P Q : State → Prop} (h : x.Leaves P) (hPQ : ∀ t, P t → Q t) : x.Leaves Q := by
  cases x with
  | bytes bs t => exact hPQ t h
  | check async address t => exact hPQ t h
  | stop f => exact h

/-- The read of memory leaves the state it starts from, with the bytes or with the error. -/
theorem State.leaves_fetchRead {s : State} {real : Word} {n : Nat} {P : State → Prop} (h : P s) :
    (s.fetchRead real n).Leaves P := by
  unfold State.fetchRead
  simp only []
  split <;> exact h

section
variable {s : State} {ea real : Word} {n : Nat} {e : TlbEntry}

/-- A fetch that ends in a state with one more request of the instruction port, single or a line fill. -/
theorem State.drivesFetch {x : Fetch} {P : BusRequest → Prop} {fill : Option Nat}
    (hx : x.Leaves fun t => t.cur.signals = (s.fetchRequest real n e fill).cur.signals)
    (hP : ∀ r, (s.fetchRequest real n e fill).cur.signals = s.cur.signals ++ [.request r] → P r) : s.DrivesFetch x e P := by
  obtain ⟨data, user, code, exclusive⟩ := fetchProt_spec e.i (bit s.msr 17)
  have attributes : ∃ r, (s.fetchRequest real n e fill).cur.signals = s.cur.signals ++ [.request r] ∧ P r ∧
      r.port = .instruction ∧ r.write = false ∧ r.unaligned = false ∧ r.data = [] ∧ r.master = s.pins.masterid ∧
      r.hprot.getLsbD 0 = false ∧ r.hprot.getLsbD 1 = !s.userMode ∧ r.hprot.extractLsb' 2 3 = (if e.i then 0 else 6) ∧
      r.hprot.getLsbD 5 = false ∧ r.coherent = e.m := by
    cases fill with
    | none => exact ⟨_, rfl, hP _ rfl, rfl, rfl, rfl, rfl, rfl, data, user, code, exclusive, rfl⟩
    | some w => exact ⟨_, rfl, hP _ rfl, rfl, rfl, rfl, rfl, rfl, data, user, code, exclusive, rfl⟩
  refine hx.mono fun t ht => ?_
  rw [ht]
  exact attributes

theorem State.drivesFetch_memory {P : BusRequest → Prop}
    (hP : ∀ r, (s.fetchRequest real n e none).cur.signals = s.cur.signals ++ [.request r] → P r) :
    s.DrivesFetch (s.fetchMemory real n e) e P :=
  State.drivesFetch (State.leaves_fetchRead rfl) hP

theorem State.drivesFetch_fill {P : BusRequest → Prop} {w : Nat}
    (hP : ∀ r, (s.fetchRequest real 32 e (some w)).cur.signals = s.cur.signals ++ [.request r] → P r) :
    s.DrivesFetch (s.fetchFill ea real n e w) e P := by
  refine State.drivesFetch (n := 32) ?_ hP
  unfold State.fetchFill
  simp only []
  split
  · exact State.leaves_fetchRead (State.signals_refuseLine _ ea real w)
  · exact State.leaves_fetchRead (State.signals_fillLine _ ea real w false)

/-- The request of a single read. -/
theorem State.fetchRequest_single (hn : n = 2 ∨ n = 4) (hword : real.toNat % 8 + n ≤ 8) {r : BusRequest}
    (h : (s.fetchRequest real n e none).cur.signals = s.cur.signals ++ [.request r]) :
    r.burst = false ∧ r.address = real ∧ 2 ^ r.size.toNat = n ∧
      ∀ k, k < 8 → r.lanes.getLsbD k = decide (real.toNat % 8 ≤ k ∧ k < real.toNat % 8 + n) := by
  obtain ⟨code, size⟩ := two_pow_log2 (by omega : n = 1 ∨ n = 2 ∨ n = 4 ∨ n = 8)
  have request := List.append_cancel_left h
  cases request
  refine ⟨rfl, rfl, ?_, fun k hk => getLsbD_laneMask hword hk⟩
  rw [toNat_sizeCode code, size]

/-- The burst of a line fill begins with the double word wanted. -/
theorem State.fetchRequest_fill {w : Nat} (hw : w < 4) {r : BusRequest}
    (h : (s.fetchRequest real 32 e (some w)).cur.signals = s.cur.signals ++ [.request r]) :
    r.burst = true ∧ r.address.toNat = real.toNat / 8 * 8 ∧ r.size = 3 ∧ r.lanes = 0xFF ∧ r.way.toNat = w := by
  have request := List.append_cancel_left h
  cases request
  refine ⟨rfl, ?_, rfl, rfl, toNat_sizeCode hw⟩
  show (clearLow real 3).toNat = _
  rw [clearLow, BitVec.toNat_shiftLeft, BitVec.toNat_ushiftRight, Nat.shiftLeft_eq, Nat.shiftRight_eq_div_pow]
  omega

/-- What the fetch of bytes drives, as the cache answers it (R470, R472). -/
theorem State.fetchBytes_drives (hpage : ea.toNat % 1024 = real.toNat % 1024) (hn : n = 2 ∨ n = 4)
    (hword : ea.toNat % 8 + n ≤ 8) :
    let x := s.fetchBytes ea real n e
    let single (r : BusRequest) : Prop := r.burst = false ∧ r.address = real ∧ 2 ^ r.size.toNat = n ∧
      ∀ k, k < 8 → r.lanes.getLsbD k = decide (real.toNat % 8 ≤ k ∧ k < real.toNat % 8 + n)
    let fill (w : Nat) (r : BusRequest) : Prop := r.burst = true ∧ r.address.toNat = real.toNat / 8 * 8 ∧ r.size = 3 ∧
      r.lanes = 0xFF ∧ r.way.toNat = w
    (s.ic.enabled = false → s.DrivesFetch x e single) ∧
    (s.ic.enabled = true → s.ic.edt < 2 → ¬s.TagError ea →
      (s.ic.hitWay ea real = none →
        (e.i = true → s.DrivesFetch x e single) ∧
        (e.i = false → (∀ k, k < s.ic.ways → ¬s.ic.Available (s.ic.setOf ea) false k) → s.DrivesFetch x e single) ∧
        (∀ w, e.i = false → s.ic.NextWay (s.ic.setOf ea) false w → s.DrivesFetch x e (fill w))) ∧
      ∀ w, s.ic.hitWay ea real = some w → ¬s.DataError (s.ic.line (s.ic.setOf ea) w) ea →
        x.Leaves fun t => t.cur.signals = s.cur.signals) := by
  intro x single fill
  have memory : s.DrivesFetch (s.fetchMemory real n e) e single :=
    State.drivesFetch_memory fun r h => State.fetchRequest_single hn (by omega) h
  refine ⟨fun off => ?_, fun on hedt hno => ?_⟩
  · have uncached : x = s.fetchMemory real n e := by simp [x, State.fetchBytes, off]
    rwa [uncached]
  · have clean : x = s.fetchClean ea real n e := by
      rw [← State.tagError_iff, Bool.not_eq_true] at hno
      have checked : (s.ic.checking && decide (s.ic.edt ≥ 2)) = false := by simp [hedt]
      simp only [x, State.fetchBytes, on, checked, hno, Bool.not_true, Bool.false_eq_true, if_false]
    rw [clean]
    refine ⟨fun miss => ⟨fun hi => ?_, fun hi full => ?_, fun w hi next => ?_⟩, fun w hit good => ?_⟩
    · simpa only [State.fetchClean, miss, hi, if_true] using memory
    · simpa only [State.fetchClean, miss, hi, Bool.false_eq_true, if_false,
        ICache.candidates_nil s.ic.ways_pos full] using memory
    · obtain ⟨rest, hc⟩ := ICache.candidates_of_nextWay next
      have way : w < 4 := Nat.lt_of_lt_of_le (ICache.nextWay_lt next) s.ic.ways_le
      simpa only [State.fetchClean, miss, hi, Bool.false_eq_true, if_false, hc] using
        State.drivesFetch_fill (ea := ea) (n := n) (P := fill w) fun r h => State.fetchRequest_fill way h
    · rw [(s.fetchesClean ea real n e hedt (by omega)).hit w hit good]
      exact rfl

end

end Sys2Proof.Machine
end

section
/-! SUPPORT. The commands of the cache and TLB instructions on the data port (spec/62_timers_power_platform.md R2185). -/

namespace Sys2Proof.Machine

/-! ## What leaves the signals alone -/

theorem State.signals_record (s : State) (e : Word) (v : Bool) : (s.record e v).cur.signals = s.cur.signals := by
  rw [State.record_cur]

theorem State.signals_raise (s : State) (n : Nat) : (s.raise n).cur.signals = s.cur.signals :=
  State.signals_record { s.enter .nonCritical (vectorOf s n) s.pc with cur.irpt := true } _ false

theorem State.signals_dataTlbError (s : State) (store spe : Bool) (ea : Word) :
    (s.dataTlbError store spe ea).cur.signals = s.cur.signals := by
  refine (State.signals_raise _ 13).trans ?_
  rw [State.loadMissMas_eq]
  rfl

theorem State.signals_dataStorage (s : State) (store spe : Bool) (extra ea : Word) :
    (s.dataStorage store spe extra ea).cur.signals = s.cur.signals := State.signals_raise _ 2

theorem State.signals_lockStorage (s : State) : s.lockStorage.cur.signals = s.cur.signals := State.signals_raise _ 2

theorem State.signals_cacheCheck (s : State) (async real : Word) : (s.cacheCheck async real).cur.signals = s.cur.signals :=
  State.signals_asyncCheck s async real false

theorem State.signals_usedMapping (s : State) (m : Mapping) : (s.usedMapping m).cur.signals = s.cur.signals := by
  unfold State.usedMapping
  split <;> rfl

theorem State.signals_tlbSearch (s : State) (ea : Word) : (s.tlbSearch ea).cur.signals = s.cur.signals := by
  unfold State.tlbSearch
  split <;> rfl

/-! ## Signals that begin as given -/

/-- The answer is a stop, or its signals begin with those given. -/
def Answer.Begins (before : List OutputEvent) : Answer → Prop
  | .next t => before <+: t.cur.signals
  | .fault _ => True
  | .refused _ => True

section
variable {before : List OutputEvent}

/-- The way to the next state drives nothing more. -/
theorem Answer.begins_same {s t : State} (h : before <+: s.cur.signals) (ht : t.cur.signals = s.cur.signals) :
    Answer.Begins before (.next t) := by
  rw [Answer.Begins, ht]
  exact h

theorem State.begins_fetchRequest {s : State} (h : before <+: s.cur.signals) (real : Word) (n : Nat) (e : TlbEntry)
    (fill : Option Nat) : before <+: (s.fetchRequest real n e fill).cur.signals :=
  h.trans (List.prefix_append _ _)

theorem State.begins_reportTags {s : State} (h : before <+: s.cur.signals) (ea real : Word) :
    before <+: (s.reportTags ea real).cur.signals := by
  unfold State.reportTags
  split
  · exact h.trans (List.prefix_append _ _)
  · exact h

theorem State.begins_usedMapping {s : State} (h : before <+: s.cur.signals) (m : Mapping) :
    before <+: (s.usedMapping m).cur.signals := by rwa [State.signals_usedMapping]

theorem Answer.Begins.mono {first : List OutputEvent} {o : Answer} (h : Answer.Begins before o) (hf : first <+: before) :
    Answer.Begins first o := by
  cases o with
  | next t => exact hf.trans h
  | fault f => trivial
  | refused r => trivial

end

/-! ## The instructions -/

section
variable (s : State) (ea : Word) (m : Mapping)

theorem State.begins_lockLine : Answer.Begins s.cur.signals (s.lockLine ea m) := by
  have filled (w : Nat) (u : State) (hu : u.cur.signals = s.cur.signals) :
      Answer.Begins s.cur.signals
        (if (u.fetchRequest (m.real ea) 32 m.entry (some w)).lineError (m.real ea) then
          .next (((u.fetchRequest (m.real ea) 32 m.entry (some w)).dropLine ea w).cacheCheck (oneBit 27) (m.real ea))
        else
          (((u.fetchRequest (m.real ea) 32 m.entry (some w)).fillLine ea (m.real ea) w true).stepReplace w).done 4) := by
    have begins : s.cur.signals <+: u.cur.signals := hu ▸ List.prefix_rfl
    have requested := State.begins_fetchRequest begins (m.real ea) 32 m.entry (some w)
    split
    · exact Answer.begins_same requested (State.signals_cacheCheck _ _ _)
    · exact Answer.begins_same requested (State.signals_fillLine _ ea (m.real ea) w true)
  unfold State.lockLine
  simp only []
  split
  · exact List.prefix_rfl
  · split
    · exact List.prefix_rfl
    · split
      · exact filled _ s rfl
      · split
        · exact List.prefix_rfl
        · split
          · exact filled _ s.setIclo rfl
          · exact List.prefix_rfl

theorem State.begins_unlockLine : Answer.Begins s.cur.signals (s.unlockLine ea m) := by
  unfold State.unlockLine
  split <;> exact List.prefix_rfl

/-- icbtls and icblc, whose conditions are the same (R478). -/
theorem State.begins_lockConditions {act : State → Mapping → Answer} {minds : ICache → Bool}
    (hact : ∀ (t : State) m, Answer.Begins t.cur.signals (act t m)) :
    Answer.Begins s.cur.signals (s.lockConditions ea act minds) := by
  unfold State.lockConditions
  split
  · exact Answer.begins_same List.prefix_rfl (State.signals_dataTlbError _ _ _ _)
  · next m _ =>
    have reported := State.begins_reportTags (State.begins_usedMapping (s := s) List.prefix_rfl m) ea (m.real ea)
    generalize (s.usedMapping m).reportTags ea (m.real ea) = t at reported
    simp only []
    split
    · exact Answer.begins_same List.prefix_rfl (State.signals_lockStorage s)
    · split
      · exact Answer.begins_same List.prefix_rfl (State.signals_dataStorage s _ _ _ _)
      · split
        · trivial
        · split
          · split
            · trivial
            · split
              · split
                · exact (hact t m).mono reported
                · exact Answer.begins_same reported (State.signals_cacheCheck _ _ _)
              · split
                · exact Answer.begins_same reported (State.signals_cacheCheck _ _ _)
                · exact (hact _ m).mono reported
          · exact (hact t m).mono reported

theorem State.begins_cacheLock (ct : BitVec 5) : Answer.Begins (s.command 14 ea).cur.signals (s.cacheLock ct ea) := by
  rcases lock_off_or_on s ct with off | ⟨rfl, on⟩
  · rw [State.cacheLock_off ct off]
    exact List.prefix_rfl
  · rw [State.cacheLock_on on]
    exact State.begins_lockConditions _ ea fun t m => t.begins_lockLine ea m

theorem State.begins_cacheUnlock (ct : BitVec 5) : Answer.Begins (s.command 13 ea).cur.signals (s.cacheUnlock ct ea) := by
  rcases lock_off_or_on s ct with off | ⟨rfl, on⟩
  · rw [State.cacheUnlock_off ct off]
    exact List.prefix_rfl
  · rw [State.cacheUnlock_on on]
    exact State.begins_lockConditions _ ea fun t m => t.begins_unlockLine ea m

theorem State.begins_cacheInvalidate : Answer.Begins (s.command 6 ea).cur.signals (s.cacheInvalidate ea) := by
  unfold State.cacheInvalidate
  simp only []
  split
  · exact List.prefix_rfl
  · split
    · exact Answer.begins_same List.prefix_rfl (State.signals_dataTlbError _ _ _ _)
    · next m _ =>
      split
      · exact Answer.begins_same List.prefix_rfl (State.signals_dataStorage _ _ _ _ _)
      · split
        · trivial
        · exact State.begins_reportTags (State.begins_usedMapping List.prefix_rfl m) ea (m.real ea)

theorem State.begins_cacheTouch (ct : BitVec 5) : Answer.Begins (s.command 12 ea).cur.signals (s.cacheTouch ct ea) := by
  unfold State.cacheTouch
  simp only []
  split
  · exact List.prefix_rfl
  · split
    · exact List.prefix_rfl
    · next m _ =>
      have used := State.begins_usedMapping (s := s.command 12 ea) List.prefix_rfl m
      generalize (s.command 12 ea).usedMapping m = t at used
      split
      · exact used
      · split
        · trivial
        · split
          · exact used
          · split
            · exact used
            · split
              · exact used
              · split
                · exact used
                · next w _ _ =>
                  have requested := State.begins_fetchRequest used (m.real ea) 32 m.entry (some w)
                  split
                  · exact requested
                  · exact Answer.begins_same requested (State.signals_fillLine _ ea (m.real ea) w false)

end

/-- The command of an instruction whose signals begin with it (R2185). -/
theorem State.shows_command {s t : State} {i : Instr} {ttype : BitVec 5} {address : Word}
    (h : Answer.Begins (s.command ttype address).cur.signals (exec i s)) (ht : exec i s = .next t) :
    ∃ r rest, t.cur.signals = s.cur.signals ++ .request r :: rest ∧ r.port = .data ∧ r.write = true ∧ r.size = 2 ∧
      r.hprot.getLsbD 0 = true ∧ r.hprot.getLsbD 1 = true ∧ r.burst = false ∧ r.ttype = ttype ∧ r.address = address ∧
      r.master = s.pins.masterid ∧ r.data = [] := by
  rw [ht] at h
  obtain ⟨rest, signals⟩ := h
  have user : (3#6).getLsbD 0 = true ∧ (3#6).getLsbD 1 = true := by decide
  exact ⟨_, rest, signals.symm.trans (List.append_assoc _ _ _), rfl, rfl, rfl, user.1, user.2, rfl, rfl, rfl, rfl, rfl⟩

/-- A TLB instruction in supervisor mode. -/
theorem State.begins_supervisor {s : State} (hs : s.userMode = false) {before : List OutputEvent} {f : State → Answer}
    (h : Answer.Begins before (f s)) : Answer.Begins before (s.supervisor f) := by
  rwa [State.supervisor, hs, if_neg Bool.false_ne_true]

end Sys2Proof.Machine

namespace Sys2Proof.Proofs
open Sys2Proof.Machine

/-- Settles O60: each data access, fetch and command drives what its shape says. -/
theorem busRequests : Obligations.BusRequests := by
  unfold Obligations.BusRequests
  refine ⟨?_, fun s ea real n e hpage hn hword => State.fetchBytes_drives hpage hn hword, fun s t ct ra rb => ?_⟩
  · intro s ea n kind m m2 image hn first real attributes lanes container drives
    have n0 : 0 < n := by omega
    have driven {t : State} {write : Bool} {bytes : List Byte} (hb : write = true → bytes = image m.entry.e)
        (h : t.cur.signals = s.cur.signals ++ s.dataRequests write kind m.entry m2.entry ea real bytes false) :
        drives t write := by
      have stored {f : List Byte → List Byte} :
          (if write then f bytes else []) = if write then f (image m.entry.e) else [] := by
        split
        · next store => rw [hb store]
        · rfl
      refine ⟨fun fits => ?_, fun crosses => ?_⟩
      · rw [State.dataRequests_within write kind bytes n0 fits] at h
        obtain ⟨lanes, container⟩ := s.dataTransfer_container write kind m.entry (m.real ea) bytes
          (a := first) (b := first + n) (n := n) (by omega) fits (by omega)
        exact ⟨_, h, s.dataTransfer_attributes write kind m.entry (m.real ea) bytes _ _ _, rfl, lanes, container,
          stored (f := id)⟩
      · rw [State.dataRequests_across write kind bytes (by omega) crosses] at h
        obtain ⟨code, size⟩ := two_pow_log2 hn
        have below : first < 8 := Nat.mod_lt _ (by decide)
        obtain ⟨lanes, container⟩ := s.dataTransfer_container write kind m2.entry (real.getD (8 - first) 0)
          (bytes.drop (8 - first)) (a := 0) (b := first + n - 8) (n := first + n - 8) (by omega) (by omega) rfl
        refine ⟨_, _, h, s.dataTransfer_attributes write kind m.entry (m.real ea) _ _ _ _,
          s.dataTransfer_attributes write kind m2.entry _ _ _ _ _, rfl, fun k hk => ?_, ?_, ?_,
          stored (f := List.take (8 - first)), rfl, lanes, container, stored (f := List.drop (8 - first))⟩
        · exact (getLsbD_laneMask (by omega) hk).trans (by rw [Nat.add_sub_cancel' below.le])
        · exact (congrArg (2 ^ ·) (toNat_sizeCode code)).trans size
        · show (8 - first != 2 ^ n.log2) = true
          rw [size, bne_iff_ne]
          omega
    refine ⟨fun can => ?_, fun can => ?_⟩
    · obtain ⟨t, loaded, signals, -⟩ := State.loadBytes_shown can kind
      exact ⟨t, loaded, driven nofun signals⟩
    · obtain ⟨ok, t, stored, signals, -⟩ := State.storeImage_shown can image kind
      exact ⟨ok, t, stored, driven (fun _ => rfl) signals⟩
  · intro shows ea
    have tlb {f : State → Answer} {i : Instr} (hi : exec i s = s.supervisor f) (hs : s.userMode = false)
        {before : List OutputEvent} (h : Answer.Begins before (f s)) : Answer.Begins before (exec i s) :=
      hi ▸ State.begins_supervisor hs h
    refine ⟨State.shows_command (s.begins_cacheInvalidate ea), State.shows_command (s.begins_cacheTouch ea ct),
      State.shows_command (s.begins_cacheUnlock ea ct), State.shows_command (s.begins_cacheLock ea ct),
      fun hs => ⟨State.shows_command (tlb (exec_tlbivax ra rb s) hs List.prefix_rfl),
        State.shows_command (tlb (exec_tlbsx ra rb s) hs ?_),
        State.shows_command (tlb (exec_tlbre s) hs List.prefix_rfl),
        State.shows_command (tlb (exec_tlbwe s) hs List.prefix_rfl)⟩⟩
    exact Answer.begins_same List.prefix_rfl (State.signals_tlbSearch _ ea)

end Sys2Proof.Proofs
end

section
/-! SUPPORT. Debug interrupts taken instead of an instruction, and the events that are recorded without one (spec/61_debug.md
R2205, R2213 to R2221). -/

namespace Sys2Proof.Machine

/-! ## Recording -/

/-- Events recorded before others that bring no VLES with them. -/
theorem Recorded.trans {a b c : Word} {P Q R : Nat → Prop} {imprecise v vle : Bool} (first : Recorded a b P imprecise v)
    (second : Recorded b c Q imprecise false) (hR : ∀ k, k < 32 → (R k ↔ P k ∨ Q k))
    (hv : (∃ k, k < 32 ∧ R k) → (vle = true ↔ v = true ∧ ∃ k, k < 32 ∧ P k)) : Recorded a c R imprecise vle := by
  have some_iff : (∃ j, j < 32 ∧ R j) ↔ (∃ j, j < 32 ∧ P j) ∨ ∃ j, j < 32 ∧ Q j := by
    rw [← exists_or]
    exact exists_congr fun j => (and_congr_right fun hj => hR j hj).trans and_or_left
  intro k hk
  rw [second k hk, first k hk, hR k hk, some_iff]
  rw [some_iff] at hv
  generalize (∃ j, j < 32 ∧ P j) = p at *
  generalize (∃ j, j < 32 ∧ Q j) = q at *
  clear first second hR some_iff
  grind

theorem State.record_dbcr0 (s : State) (e : Word) (v : Bool) : (s.record e v).dbg.dbcr0 = s.dbg.dbcr0 := by
  rw [State.record_dbg]

theorem State.record_idm (s : State) (e : Word) (v : Bool) : (s.record e v).idm = s.idm := by
  rw [State.idm, State.record_dbcr0, State.idm]

/-- The event of entering an interrupt, with the mode that entry sets (R2214, R2216). -/
theorem State.recorded_takeInterrupt (s : State) (c : IntClass) (vector address : Word) :
    let t := s.takeInterrupt c vector address
    Recorded s.dbg.dbsr t.dbg.dbsr
      (fun k => s.idm = true ∧ ((k = 6 ∧ c = .nonCritical ∧ bit s.dbg.dbcr0 6 = true) ∨
        (k = 25 ∧ c = .critical ∧ bit s.dbg.dbcr0 25 = true))) (!bit t.msr 22) false := by
  intro t
  rw [State.takeInterrupt_msr]
  cases c with
  | nonCritical =>
    refine (State.recorded_record { s.enter .nonCritical vector address with cur.irpt := true }
      (when (bit s.dbg.dbcr0 6) (oneBit 6)) false).congr fun k hk => and_congr_right fun _ => ?_
    simp [bit_when_oneBit hk]
  | critical =>
    refine (State.recorded_record { s.enter .critical vector address with cur.cirpt := true }
      (when (bit s.dbg.dbcr0 25) (oneBit 25)) false).congr fun k hk => and_congr_right fun _ => ?_
    simp [bit_when_oneBit hk]
  | debug | machineCheck => exact Recorded.none fun k => by simp

theorem State.takeInterrupt_dbg (s : State) (c : IntClass) (vector address : Word) :
    (s.takeInterrupt c vector address).dbg = { s.dbg with dbsr := (s.takeInterrupt c vector address).dbg.dbsr } := by
  cases c with
  | nonCritical | critical => exact State.record_dbg _ _ _
  | debug | machineCheck => rfl

theorem State.takeInterrupt_cur (s : State) (c : IntClass) (vector address : Word) :
    (s.takeInterrupt c vector address).cur = { s.cur with
      irpt := s.cur.irpt || decide (c = .nonCritical), cirpt := s.cur.cirpt || decide (c = .critical) } := by
  cases c with
  | nonCritical | critical => simp [State.takeInterrupt, State.takenEvent, State.enter]
  | debug | machineCheck => simp [State.takeInterrupt, State.takenEvent, State.enter]

/-! ## The debug interrupt -/

/-- Taking the debug interrupt, whatever was recorded before it (spec/60_exceptions.md R2035). -/
theorem State.debugInterrupted_takeDebug {s u : State} {c : Current} {k : Nat} (h : u = { s.aside c k with dbg := u.dbg }) :
    s.DebugInterrupted (u.takeDebug s.pc) := by
  rw [h]
  constructor
  case saved => exact State.takeInterrupt_int _ _ _ _
  case mode => exact fun k hk => (congrArg (bit · k) (State.takeInterrupt_msr _ _ _ _)).trans (bit_newMsr _ .debug _ hk)
  case vector => exact (State.takeInterrupt_pc _ _ _ _).trans (codeAddress_vectorOf s 15)
  case awake => exact State.takeInterrupt_waiting _ _ _ _
  case program => exact ⟨rfl, rfl, rfl, rfl, rfl, rfl, rfl, rfl, rfl⟩
  case translation => exact State.takeInterrupt_mmu _ _ _ _

/-- What the step records and shows after it is not spoken of. -/
theorem State.DebugInterrupted.of_shown {s t u : State} (h : s.DebugInterrupted t)
    (hu : u = { t with cur := u.cur, dbg := u.dbg, outputs := u.outputs }) : s.DebugInterrupted u := by
  rw [hu]
  exact ⟨h.saved, h.mode, h.vector, h.awake, h.program, h.translation⟩

section
variable {s : State} {i : Instr} {k : Nat}

/-- The debug interrupt instead of the instruction, whatever the step noted of it before. -/
theorem State.debugTaken (hk : k < 32) (now : s.debugNow k = true) (c : Current) :
    s.DebugTaken ((s.aside c s.freeCtr).debugInstead (oneBit k)) k := by
  have idm : s.idm = true := by
    simp only [State.debugNow, Bool.and_eq_true] at now
    exact now.1.1
  have taken : s.DebugInterrupted ((s.aside c s.freeCtr).debugInstead (oneBit k)) :=
    (State.debugInterrupted_takeDebug (State.record_eq (s.aside c s.freeCtr) (oneBit k) true)).of_shown
      (u := (s.aside c s.freeCtr).debugInstead (oneBit k)) rfl
  have recorded := (State.recorded_record (s.aside c s.freeCtr) (oneBit k) true k hk).2
    (.inr (.inl ⟨idm, (bit_oneBit _ _ hk).trans (decide_eq_true rfl)⟩))
  obtain ⟨saved, mode, vector, awake, program, translation⟩ := taken
  exact ⟨saved, recorded, mode 17 (by decide), mode 22 (by decide), vector, program⟩

/-- A taken branch (R2213). -/
theorem State.runs_branchEvent (now : s.debugNow 5 = true) {taken link : Bool} {ctr target : Word} (htaken : taken = true)
    (h : exec i s = s.branch taken link ctr target) : Runs i s fun t => s.DebugTaken t 5 := by
  rw [State.branch, htaken, now] at h
  exact ⟨_, h, State.debugTaken (by decide) now s.cur⟩

/-- A trap (R2215). -/
theorem State.runs_trapEvent (now : s.debugNow 7 = true) {met : Bool} (hmet : met = true) (h : exec i s = s.trap met) :
    Runs i s fun t => s.DebugTaken t 7 := by
  rw [State.trap, hmet, now] at h
  exact ⟨_, h, State.debugTaken (by decide) now s.cur⟩

/-- rfi and se_rfi (R2220). -/
theorem State.runs_returnEvent (hs : s.userMode = false) (now : s.debugNow 16 = true) (h : exec i s = s.returnNonCritical) :
    Runs i s fun t => s.DebugTaken t 16 :=
  ⟨_, h.trans ((State.supervisor_of hs _).trans (if_pos now)), State.debugTaken (by decide) now { s.cur with ret := true }⟩

/-- rfci and se_rfci (R2221). -/
theorem State.runs_criticalReturnEvent (hs : s.userMode = false) (now : s.debugNow 26 = true)
    (h : exec i s = s.returnCritical) : Runs i s fun t => s.DebugTaken t 26 :=
  ⟨_, h.trans ((State.supervisor_of hs _).trans (if_pos now)), State.debugTaken (by decide) now { s.cur with cret := true }⟩

end

/-! ## Events recorded while MSR[DE] = 0 -/

/-- The event at DBSR bit `event`, and IRPT if `interrupts`, recorded with IDE (R2205). -/
def State.Delayed (s t : State) (event : Nat) (interrupts : Bool) : Prop :=
  Recorded s.dbg.dbsr t.dbg.dbsr (fun k => s.idm = true ∧ ((k = event ∧ bit s.dbg.dbcr0 event = true) ∨
    (k = 6 ∧ interrupts = true ∧ bit s.dbg.dbcr0 6 = true))) true (bit s.dbg.dbcr0 event && s.cur.vle)

/-- With VLES as the event brings it, and the event of an interrupt or nothing after it. -/
theorem State.delayed_of_recorded {s t : State} {b : Word} {event : Nat} {interrupts : Bool} (he : event < 32)
    (first : Recorded s.dbg.dbsr b (fun k => s.idm = true ∧ k = event ∧ bit s.dbg.dbcr0 event = true) true s.cur.vle)
    (second : Recorded b t.dbg.dbsr (fun k => s.idm = true ∧ k = 6 ∧ interrupts = true ∧ bit s.dbg.dbcr0 6 = true) true false) :
    s.Delayed t event interrupts := by
  refine first.trans second (fun k _ => and_or_left) ?_
  rintro ⟨k, hk, idm, _⟩
  have happens : (∃ k, k < 32 ∧ s.idm = true ∧ k = event ∧ bit s.dbg.dbcr0 event = true) ↔ bit s.dbg.dbcr0 event = true :=
    ⟨fun ⟨_, _, _, _, h⟩ => h, fun h => ⟨event, he, idm, rfl, h⟩⟩
  rw [happens, Bool.and_eq_true, and_comm]

section
variable {s : State} {i : Instr} {event : Nat} (off : bit s.msr 22 = false)
include off

theorem State.debugNow_delayed : s.debugNow event = false := by
  have de : s.de = false := off
  rw [State.debugNow, de, Bool.and_false, Bool.false_and]

/-- The event alone, noted with what the step remembers of the instruction. -/
theorem State.recorded_event (c : Current) (hvle : c.vle = s.cur.vle) :
    Recorded s.dbg.dbsr ((s.aside c s.freeCtr).record (when (bit s.dbg.dbcr0 event) (oneBit event)) true).dbg.dbsr
      (fun k => s.idm = true ∧ k = event ∧ bit s.dbg.dbcr0 event = true) true s.cur.vle := by
  have recorded := State.recorded_record (s.aside c s.freeCtr) (when (bit s.dbg.dbcr0 event) (oneBit event)) true
  have de : (s.aside c s.freeCtr).de = false := off
  have vle : (s.aside c s.freeCtr).cur.vle = s.cur.vle := hvle
  rw [de, Bool.true_and, vle] at recorded
  exact recorded.congr fun k hk => and_congr_right fun _ => bit_when_oneBit hk

theorem State.runs_trapDelayed {met : Bool} (hmet : met = true) (h : exec i s = s.trap met) :
    Runs i s fun t => s.Delayed t 7 true := by
  rw [State.trap, hmet, State.debugNow_delayed off] at h
  have program := ((s.record (when (bit s.dbg.dbcr0 7) (oneBit 7)) true).onlyInterrupted_program (oneBit 6)).events
  rw [State.record_msr, off, State.record_idm, State.record_dbcr0] at program
  refine ⟨_, h, State.delayed_of_recorded (by decide) (State.recorded_event off s.cur rfl) ?_⟩
  exact program.congr fun k _ => by simp only [true_and]

theorem State.delayed_return (he : event < 32) (c : Current) (hvle : c.vle = s.cur.vle) (x0 x1 : Word) (o : OutputEvent) :
    s.Delayed ((((s.aside c s.freeCtr).record (when (bit s.dbg.dbcr0 event) (oneBit event)) true).returnFrom x0 x1).pulse o)
      event false :=
  State.delayed_of_recorded he (State.recorded_event off c hvle) (Recorded.none fun k => by simp)

theorem State.runs_returnDelayed (hs : s.userMode = false) (h : exec i s = s.returnNonCritical) :
    Runs i s fun t => s.Delayed t 16 false ∧ t.cur.ret = true := by
  have now : ¬s.debugNow 16 = true := Bool.not_eq_true _ ▸ State.debugNow_delayed off
  refine ⟨_, h.trans ((State.supervisor_of hs _).trans (if_neg now)),
    State.delayed_return off (by decide) { s.cur with ret := true } rfl _ _ _, ?_⟩
  exact congrArg Current.ret (State.record_cur (s.aside { s.cur with ret := true } s.freeCtr) _ _)

theorem State.runs_criticalReturnDelayed (hs : s.userMode = false) (h : exec i s = s.returnCritical) :
    Runs i s fun t => s.Delayed t 26 false ∧ t.cur.cret = true := by
  have now : ¬s.debugNow 26 = true := Bool.not_eq_true _ ▸ State.debugNow_delayed off
  refine ⟨_, h.trans ((State.supervisor_of hs _).trans (if_neg now)),
    State.delayed_return off (by decide) { s.cur with cret := true } rfl _ _ _, ?_⟩
  exact congrArg Current.cret (State.record_cur (s.aside { s.cur with cret := true } s.freeCtr) _ _)

end

end Sys2Proof.Machine
end

section
/-! SUPPORT. The compares of the debug unit as the claims say them (spec/61_debug.md R2210, R2211, R2217). -/

namespace Sys2Proof.Machine

/-! ## Addresses above their low bits -/

theorem toNat_clearLow (w : Word) (k : Nat) : (clearLow w k).toNat = w.toNat / 2 ^ k * 2 ^ k := by
  have small : w.toNat / 2 ^ k * 2 ^ k < 2 ^ 32 := Nat.lt_of_le_of_lt (Nat.div_mul_le_self _ _) w.isLt
  rw [clearLow, BitVec.toNat_shiftLeft, BitVec.toNat_ushiftRight, Nat.shiftRight_eq_div_pow, Nat.shiftLeft_eq,
    Nat.mod_eq_of_lt small]

theorem clearLow_inj (a b : Word) (k : Nat) : clearLow a k = clearLow b k ↔ sameAbove k a b := by
  rw [← BitVec.toNat_inj, toNat_clearLow, toNat_clearLow, sameAbove, Nat.mul_left_inj (by positivity)]

theorem clearLow_ule (a b : Word) (k : Nat) :
    (clearLow a k).ule (clearLow b k) = true ↔ a.toNat / 2 ^ k ≤ b.toNat / 2 ^ k := by
  rw [BitVec.ule_eq_decide, decide_eq_true_eq, toNat_clearLow, toNat_clearLow, Nat.mul_le_mul_right_iff (by positivity)]

theorem clearLow_ult (a b : Word) (k : Nat) :
    (clearLow a k).ult (clearLow b k) = true ↔ a.toNat / 2 ^ k < b.toNat / 2 ^ k := by
  rw [BitVec.ult_eq_decide, decide_eq_true_eq, toNat_clearLow, toNat_clearLow, Nat.mul_lt_mul_right (by positivity)]

theorem qualifies_iff (us er : BitVec 2) (pr space : Bool) :
    qualifies us er pr space = true ↔ Qualified us er pr space := by
  simp only [qualifies, Qualified, Bool.and_eq_true, Bool.or_eq_true, Bool.not_eq_true', beq_iff_eq, or_assoc]

theorem twoBits_cases : ∀ m : BitVec 2, m = 0 ∨ m = 1 ∨ m = 2 ∨ m = 3 := by decide

/-! ## Instruction address compares -/

theorem iacFields (n : Nat) :
    iacUsPos n = [0, 4, 16, 20].getD (n % 4) 0 ∧ iacUsPos n + 2 = [2, 6, 18, 22].getD (n % 4) 0 := by
  have residue : n % 4 < 4 := Nat.mod_lt _ (by decide)
  unfold iacUsPos
  generalize n % 4 = r at residue
  interval_cases r <;> exact ⟨rfl, rfl⟩

/-- One register hits as R2210 says. -/
theorem iacHit_iff (d : DebugRegs) (msr a : Word) (vlePage : Bool) (n : Nat) :
    iacHit d msr a vlePage n = true ↔ d.IacHit msr a (if vlePage then 1 else 2) n := by
  obtain ⟨us, er⟩ := iacFields n
  have control : (if n < 4 then d.dbcr1 else d.dbcr5) = iacControl d n := rfl
  have mode : bits (if n % 4 < 2 then 8 else 24) 2 (iacControl d n) = iacMode d n := rfl
  have next (even : n % 2 = 0) : n - n % 2 + 1 = n + 1 := by omega
  have inside (g : Nat) (own other : Word) :
      ((clearLow own g).ule (clearLow a g) && (clearLow a g).ult (clearLow other g)) = true ↔
        own.toNat / 2 ^ g ≤ a.toNat / 2 ^ g ∧ a.toNat / 2 ^ g < other.toNat / 2 ^ g := by
    rw [Bool.and_eq_true, clearLow_ule, clearLow_ult]
  have register (k : Nat) : d.iac.toList.getD k 0 = iacReg d k := rfl
  unfold iacHit DebugRegs.IacHit
  simp only [← us, ← er, control, mode, register, ← qualifies_iff]
  generalize (if vlePage then 1 else 2) = g
  generalize iacMode d n = m
  rcases Nat.mod_two_eq_zero_or_one n with even | odd
  · rw [next even, ← inside]
    generalize ((clearLow (iacReg d n) g).ule (clearLow a g) && (clearLow a g).ult (clearLow (iacReg d (n + 1)) g)) = within
    by_cases low : n < 4
    · rcases twoBits_cases m with rfl | rfl | rfl | rfl <;>
        simp [even, low, clearLow_inj, iacMaskBits]
    · rcases twoBits_cases m with rfl | rfl | rfl | rfl <;>
        simp [even, low, Nat.le_of_not_lt low, clearLow_inj, iacMaskBits]
  · rcases twoBits_cases m with rfl | rfl | rfl | rfl <;> simp [odd, clearLow_inj, iacMaskBits]

theorem getLsbD_foldl_set (f : Nat → Bool) {n : Nat} (hn : n < 8) (m : Nat) :
    ((List.range m).foldl (fun h n => if f n then h ||| (1#8 <<< n) else h) 0).getLsbD n = (decide (n < m) && f n) := by
  induction m with
  | zero => simp
  | succ m ih =>
    have single : (1#8 <<< m).getLsbD n = decide (n = m) := by
      rw [BitVec.getLsbD_shiftLeft, BitVec.getLsbD_one, Bool.eq_iff_iff]
      simp [hn]
      omega
    rw [List.range_succ, List.foldl_append, List.foldl_cons, List.foldl_nil]
    have order : decide (n < m + 1) = (decide (n < m) || decide (n = m)) := by
      rw [Bool.eq_iff_iff]
      simp only [Bool.or_eq_true, decide_eq_true_eq]
      omega
    split
    · next set =>
      rw [BitVec.getLsbD_or, ih, single, order]
      by_cases same : n = m <;> simp [same, set]
    · next clear =>
      rw [ih, order]
      by_cases same : n = m
      · simp [same, clear]
      · simp [same]

/-- All hits of an instruction. -/
theorem getLsbD_iacHits (d : DebugRegs) (msr a : Word) (vlePage : Bool) {n : Nat} (hn : n < 8) :
    (iacHits d msr a vlePage).getLsbD n = true ↔ d.IacHit msr a (if vlePage then 1 else 2) n := by
  rw [iacHits, getLsbD_foldl_set (iacHit d msr a vlePage) hn, decide_eq_true hn, Bool.true_and, iacHit_iff]

/-- The DBSR bits of the hits. -/
theorem bit_iacEvents (d : DebugRegs) (hits : BitVec 8) {k : Nat} (hk : k < 32) :
    bit (iacEvents d hits) k = true ↔ d.IacEvent hits k := by
  have shared : (iacEvent d hits 3 || iacEvent d hits 4 || iacEvent d hits 5 || iacEvent d hits 6 || iacEvent d hits 7) = true ↔
      ∃ n, 3 ≤ n ∧ n < 8 ∧ d.OwnIacEvent hits n := by
    simp only [Bool.or_eq_true, iacEvent_iff]
    constructor
    · rintro ((((h | h) | h) | h) | h)
      all_goals exact ⟨_, by decide, by decide, h⟩
    · rintro ⟨n, low, high, h⟩
      interval_cases n <;> simp only [h, true_or, or_true]
  simp only [iacEvents, bit_or, Bool.or_eq_true, bit_when_oneBit hk, shared, iacEvent_iff, DebugRegs.IacEvent, or_assoc]

/-- What is noted of the instruction at pc, and the events recorded for it (R2205, R2210). -/
theorem State.withIacHits_spec (s : State) :
    let w := s.withIacHits
    let v := w.record (iacEvents w.dbg w.cur.iacHits) true
    (∀ n, n < 8 → (w.cur.iacHits.getLsbD n = true ↔ s.dbg.IacHit s.msr s.pc (if w.cur.vle then 1 else 2) n)) ∧
    w.cur.vle = (s.lookup (bit s.msr 26) s.pc).any (fun m => m.entry.vle) ∧
    w = { s with cur.vle := w.cur.vle, cur.iacHits := w.cur.iacHits } ∧
    Recorded s.dbg.dbsr v.dbg.dbsr (fun k => s.idm = true ∧ s.dbg.IacEvent w.cur.iacHits k) (!bit s.msr 22) w.cur.vle ∧
    v = { w with dbg.dbsr := v.dbg.dbsr } := by
  intro w v
  refine ⟨fun n hn => getLsbD_iacHits _ _ _ _ hn, ?_, rfl, ?_, ?_⟩
  · show (match s.lookup (bit s.msr 26) s.pc with | none => false | some m => m.entry.vle) = _
    cases s.lookup (bit s.msr 26) s.pc <;> rfl
  · have recorded := State.recorded_record w (iacEvents w.dbg w.cur.iacHits) true
    rw [Bool.true_and] at recorded
    exact recorded.congr fun k hk => and_congr_right fun _ => bit_iacEvents s.dbg w.cur.iacHits hk
  · have changed : v = { w with dbg := v.dbg } := State.record_eq w _ true
    rw [State.record_dbg w] at changed
    exact changed

/-! ## Data address compares -/

section
variable (d : DebugRegs) (msr : Word) (iac : BitVec 8) {n : Nat}

theorem dacAddressHit_iff (ea : Word) (hn : n < 2) : dacAddressHit d msr ea n = true ↔ d.DacAddress msr ea n := by
  simp only [dacAddressHit, DebugRegs.DacAddress, ← qualifies_iff]
  generalize bits 8 2 d.dbcr2 = mode
  have inside : (d.dac1.ule ea && ea.ult d.dac2) = true ↔ d.dac1.toNat ≤ ea.toNat ∧ ea.toNat < d.dac2.toNat := by
    rw [BitVec.ule_eq_decide, BitVec.ult_eq_decide, Bool.and_eq_true, decide_eq_true_eq, decide_eq_true_eq]
  rw [← inside]
  generalize (d.dac1.ule ea && ea.ult d.dac2) = within
  obtain rfl | rfl : n = 0 ∨ n = 1 := by omega
  · rcases twoBits_cases mode with rfl | rfl | rfl | rfl <;> simp [clearLow_inj]
  · rcases twoBits_cases mode with rfl | rfl | rfl | rfl <;> simp [clearLow_inj]

theorem dacLinked_iff (hn : n < 2) : dacLinked d n = true ↔ d.Linked n := by
  obtain rfl | rfl : n = 0 ∨ n = 1 := by omega
  · simp [dacLinked, DebugRegs.Linked]
  · simp [dacLinked, DebugRegs.Linked]

/-! ### The value part -/

/-- One lane of dvcLanes. -/
def dvcLane (d : DebugRegs) (n : Nat) (x : DataAccess) (k : Nat) : Option Bool :=
  if k < x.ea.toNat % 8 then none
  else match x.bytes[k - x.ea.toNat % 8]? with
    | none => none
    | some b => if bit d.dbcr2 (16 + 8 * n + k) then some (b == byteOf (if n = 0 then d.dvc1 else d.dvc2) k) else none

theorem dvcLanes_eq (x : DataAccess) : dvcLanes d n x = (List.range 8).map (dvcLane d n x) := rfl

/-- A lane takes part in the compare, and matches or does not. -/
theorem dvcLane_eq_some (x : DataAccess) {k : Nat} (hk : k < 8) (b : Bool) :
    dvcLane d n x k = some b ↔ d.TakesPart n x k ∧ (b = true ↔ d.LaneMatches n x k) := by
  unfold dvcLane DebugRegs.TakesPart DebugRegs.LaneMatches
  by_cases before : k < x.ea.toNat % 8
  · simp [before, Nat.not_le.2 before]
  rw [if_neg before]
  by_cases inside : k - x.ea.toNat % 8 < x.bytes.length
  · have upto : k < x.ea.toNat % 8 + x.bytes.length := by omega
    by_cases selected : bit d.dbcr2 (16 + 8 * n + k) = true
    · rw [List.getElem?_eq_getElem inside, List.getD_eq_getElem _ _ inside]
      simp only [selected, if_true, Option.some.injEq, hk, Nat.le_of_not_lt before, upto, and_self, true_and]
      rw [← beq_iff_eq (a := x.bytes[_]), Bool.eq_iff_iff (b := b)]
      exact iff_comm
    · simp [inside, selected]
  · have beyond : ¬k < x.ea.toNat % 8 + x.bytes.length := by omega
    simp [Nat.le_of_not_lt inside, beyond]

/-- What a list of lane results says when the lanes T are in it and M says which match. -/
theorem lanes_iff {part : List Bool} {T M : Nat → Prop} (h : ∀ b, b ∈ part ↔ ∃ k, T k ∧ (b = true ↔ M k)) :
    (part.all id = true ↔ ∀ k, T k → M k) ∧ (part.any id = true ↔ ∃ k, T k ∧ M k) ∧
    ((part.all fun m => !m) = true ↔ ∀ k, T k → ¬M k) ∧ ((part.any fun m => !m) = true ↔ ∃ k, T k ∧ ¬M k) ∧
    ((!part.isEmpty) = true ↔ ∃ k, T k) := by
  have matching : true ∈ part ↔ ∃ k, T k ∧ M k := by simp [h]
  have failing : false ∈ part ↔ ∃ k, T k ∧ ¬M k := by simp [h]
  have all : part.all id = true ↔ false ∉ part := by simp
  have none : (part.all fun m => !m) = true ↔ true ∉ part := by simp
  have some : (part.any id) = true ↔ true ∈ part := by simp
  have other : (part.any fun m => !m) = true ↔ false ∈ part := by simp
  have filled : (!part.isEmpty) = true ↔ true ∈ part ∨ false ∈ part := by
    cases part with
    | nil => simp
    | cons b rest => cases b <;> simp
  rw [all, some, none, other, filled, matching, failing, ← exists_or]
  refine ⟨by push Not; rfl, Iff.rfl, by push Not; rfl, Iff.rfl, exists_congr fun k => ?_⟩
  rw [← and_or_left]
  exact and_iff_left (Classical.em _)

theorem mem_dvcLanes (x : DataAccess) (b : Bool) :
    b ∈ (dvcLanes d n x).filterMap id ↔ ∃ k, d.TakesPart n x k ∧ (b = true ↔ d.LaneMatches n x k) := by
  rw [dvcLanes_eq, List.mem_filterMap]
  constructor
  · rintro ⟨o, mem, rfl⟩
    obtain ⟨k, range, lane⟩ := List.mem_map.1 mem
    exact ⟨k, (dvcLane_eq_some d x (List.mem_range.1 range) b).1 lane⟩
  · rintro ⟨k, part, value⟩
    exact ⟨some b, List.mem_map.2 ⟨k, List.mem_range.2 part.1, (dvcLane_eq_some d x part.1 b).2 ⟨part, value⟩⟩, rfl⟩

/-- The lanes of half word h. -/
theorem mem_dvcPair (x : DataAccess) {h : Nat} (hh : h < 4) (b : Bool) :
    b ∈ [(dvcLanes d n x).getD (2 * h) none, (dvcLanes d n x).getD (2 * h + 1) none].filterMap id ↔
      ∃ k, (k / 2 = h ∧ d.TakesPart n x k) ∧ (b = true ↔ d.LaneMatches n x k) := by
  have lane {k : Nat} (hk : k < 8) : (dvcLanes d n x).getD k none = dvcLane d n x k := by
    rw [dvcLanes_eq, List.getD_eq_getElem?_getD, List.getElem?_map, List.getElem?_range hk]
    rfl
  rw [lane (by omega), lane (by omega), List.mem_filterMap]
  constructor
  · rintro ⟨o, mem, rfl⟩
    rcases List.mem_pair.1 mem with first | second
    · obtain ⟨part, value⟩ := (dvcLane_eq_some d x (by omega) b).1 first.symm
      exact ⟨2 * h, ⟨by omega, part⟩, value⟩
    · obtain ⟨part, value⟩ := (dvcLane_eq_some d x (by omega) b).1 second.symm
      exact ⟨2 * h + 1, ⟨by omega, part⟩, value⟩
  · rintro ⟨k, ⟨pair, part⟩, value⟩
    have found := (dvcLane_eq_some d x part.1 b).2 ⟨part, value⟩
    obtain rfl | rfl : k = 2 * h ∨ k = 2 * h + 1 := by omega
    · exact ⟨some b, List.mem_pair.2 (.inl found.symm), rfl⟩
    · exact ⟨some b, List.mem_pair.2 (.inr found.symm), rfl⟩

/-- A half word all of whose lanes that take part match, one at the least. -/
theorem dvcHalves_iff (x : DataAccess) :
    ((List.range 4).any fun h =>
      let pair := [(dvcLanes d n x).getD (2 * h) none, (dvcLanes d n x).getD (2 * h + 1) none].filterMap id
      !pair.isEmpty && pair.all id) = true ↔
      ∃ h, h < 4 ∧ (∃ k, k < 8 ∧ k / 2 = h ∧ d.TakesPart n x k) ∧
        ∀ k, k < 8 → k / 2 = h → d.TakesPart n x k → d.LaneMatches n x k := by
  rw [List.any_eq_true]
  refine exists_congr fun h => ?_
  rw [List.mem_range]
  refine and_congr_right fun hh => ?_
  obtain ⟨all, -, -, -, filled⟩ := lanes_iff (mem_dvcPair d (n := n) x hh)
  rw [Bool.and_eq_true, filled, all]
  refine and_congr (exists_congr fun k => ⟨fun part => ⟨part.2.1, part⟩, fun part => part.2⟩) (forall_congr' fun k => ?_)
  exact ⟨fun matching _ pair part => matching ⟨pair, part⟩, fun matching part => matching part.2.1 part.1 part.2⟩

theorem dacValueHit_iff (x : DataAccess) (codes : ¬(bit d.dbcr4 (1 + 2 * n) = true ∧ bits (12 + 2 * n) 2 d.dbcr2 = 3)) :
    dacValueHit d n x = true ↔ d.DacValue n x := by
  obtain ⟨all, any, allNot, anyNot, -⟩ := lanes_iff (mem_dvcLanes d (n := n) x)
  have below {P : Nat → Prop} : (∀ k, d.TakesPart n x k → P k) ↔ ∀ k, k < 8 → d.TakesPart n x k → P k :=
    forall_congr' fun k => ⟨fun h _ part => h part, fun h part => h part.1 part⟩
  have among {P : Nat → Prop} : (∃ k, d.TakesPart n x k ∧ P k) ↔ ∃ k, k < 8 ∧ d.TakesPart n x k ∧ P k :=
    exists_congr fun k => ⟨fun h => ⟨h.1.1, h⟩, fun h => h.2⟩
  have mode : bits (12 + 2 * n) 2 d.dbcr2 = dvcMode d n := rfl
  have inverted : bit d.dbcr4 (1 + 2 * n) = dvcInverted d n := rfl
  unfold dacValueHit DebugRegs.DacValue
  simp only [mode, inverted] at codes ⊢
  generalize dvcMode d n = m at codes ⊢
  generalize dvcInverted d n = c at codes ⊢
  clear mode inverted
  by_cases noByte : bits (16 + 8 * n) 8 d.dbcr2 = 0
  · simp [noByte]
  rw [beq_eq_false_iff_ne.2 noByte, eq_false noByte]
  rcases twoBits_cases m with rfl | rfl | rfl | rfl
  · simp
  · cases c
    · exact (all.trans below).trans (by simp)
    · exact (anyNot.trans among).trans (by simp)
  · cases c
    · exact (any.trans among).trans (by simp)
    · exact (allNot.trans below).trans (by simp)
  · cases c
    · exact (dvcHalves_iff d x).trans (by simp)
    · exact absurd ⟨rfl, rfl⟩ codes

/-! ### Hits and events -/

theorem dacCompare_iff (x : DataAccess) (hn : n < 2)
    (codes : ¬(bit d.dbcr4 (1 + 2 * n) = true ∧ bits (12 + 2 * n) 2 d.dbcr2 = 3)) :
    dacCompare d msr iac n true x = true ↔ d.DacHit msr iac n x := by
  rw [dacCompare, DebugRegs.DacHit, Bool.and_eq_true, Bool.and_eq_true, dacAddressHit_iff d msr x.ea hn, if_pos rfl,
    dacValueHit_iff d x codes, Bool.or_eq_true, Bool.not_eq_true', ← Bool.not_eq_true, dacLinked_iff d hn,
    ← imp_iff_not_or, and_assoc, and_comm (b := d.DacValue n x)]

/-- An access that faulted is compared by its address. -/
theorem dacCompare_fault_iff (x : DataAccess) (hn : n < 2) :
    dacCompare d msr iac n false x = true ↔ d.DacFaultHit msr iac n x.ea := by
  rw [dacCompare, DebugRegs.DacFaultHit, Bool.and_eq_true, Bool.and_eq_true, dacAddressHit_iff d msr x.ea hn,
    if_neg Bool.false_ne_true, beq_iff_eq, Bool.or_eq_true, Bool.not_eq_true', ← Bool.not_eq_true, dacLinked_iff d hn,
    ← imp_iff_not_or, and_assoc, and_comm (b := dvcMode d n = 0)]
  rfl

/-- The DBSR bit of DAC n + 1 for stores or loads. -/
def dacBit (n : Nat) (store : Bool) : Nat := (if store then 13 else 12) + 2 * n

/-- The bits of one access. -/
theorem bit_dacEvents (byValue : Bool) (x : DataAccess) {k : Nat} (hk : k < 32) :
    bit (dacEvents d msr iac byValue x) k = true ↔
      ∃ n, n < 2 ∧ k = dacBit n x.store ∧ d.DacEnabled n x.store ∧ dacCompare d msr iac n byValue x = true := by
  have low : ∀ e : BitVec 2, e.getLsbD 0 = true ↔ e = 3 ∨ e = 1 := by decide
  have high : ∀ e : BitVec 2, e.getLsbD 1 = true ↔ e = 3 ∨ e = 2 := by decide
  have one (n : Nat) : bit (if dacCompare d msr iac n byValue x then
        if x.store then when ((dacEnable d n).getLsbD 0) (oneBit (13 + 2 * n))
        else when ((dacEnable d n).getLsbD 1) (oneBit (12 + 2 * n))
      else 0) k = true ↔ k = dacBit n x.store ∧ d.DacEnabled n x.store ∧ dacCompare d msr iac n byValue x = true := by
    by_cases hit : dacCompare d msr iac n byValue x = true
    · rw [if_pos hit, eq_true hit, and_true]
      cases x.store
      · exact (bit_when_oneBit hk).trans (and_congr_right fun _ => high _)
      · exact (bit_when_oneBit hk).trans (and_congr_right fun _ => low _)
    · rw [if_neg hit, eq_false hit, and_false, and_false]
      simp
  simp only [dacEvents, bit_or, Bool.or_eq_true, one]
  constructor
  · rintro (h | h)
    · exact ⟨0, by decide, h⟩
    · exact ⟨1, by decide, h⟩
  · rintro ⟨n, hn, h⟩
    obtain rfl | rfl : n = 0 ∨ n = 1 := by omega
    · exact .inl h
    · exact .inr h

theorem bit_foldl_or_one {α : Type} (f : α → Word) (l : List α) (w : Word) (k : Nat) :
    bit (l.foldl (fun w x => w ||| f x) w) k = true ↔ bit w k = true ∨ ∃ x ∈ l, bit (f x) k = true := by
  induction l generalizing w with
  | nil => simp
  | cons a l ih => simp [ih, or_assoc]

/-- The bits of all accesses. -/
theorem bit_dacEventsAll (codes : d.ValueCodes) (xs : List DataAccess) {k : Nat} (hk : k < 32) :
    bit (dacEventsAll d msr iac xs) k = true ↔
      ∃ n, n < 2 ∧ ∃ store, k = dacBit n store ∧ d.DacRecorded msr iac xs n store := by
  rw [dacEventsAll, bit_foldl_or_one]
  have clear : bit 0 k = false := bit_zero k
  simp only [clear, Bool.false_eq_true, false_or, bit_dacEvents d msr iac true _ hk]
  constructor
  · rintro ⟨x, mem, n, hn, place, enabled, hit⟩
    exact ⟨n, hn, x.store, place, enabled, x, mem, rfl, (dacCompare_iff d msr iac x hn (codes n hn)).1 hit⟩
  · rintro ⟨n, hn, store, place, enabled, x, mem, rfl, hit⟩
    exact ⟨x, mem, n, hn, place, enabled, (dacCompare_iff d msr iac x hn (codes n hn)).2 hit⟩

/-- Different registers and kinds of access have different bits. -/
theorem dacBit_inj {n m : Nat} {a b : Bool} : dacBit n a = dacBit m b ↔ n = m ∧ a = b := by
  unfold dacBit
  cases a <;> cases b <;> simp <;> omega

/-- What the counters and the watchpoint of DAC n + 1 see (R2225, R2240). -/
theorem dacObserved_iff (codes : d.ValueCodes) (c : Current) (hn : n < 2) (store : Bool) :
    dacObserved d msr c n store = true ↔ d.DacSeen msr c n store := by
  have admitted : (dacEnable d n == 0 || dacEnable d n == 3 || dacEnable d n == (if store then 1 else 2)) = true ↔
      d.DacEnabled n store ∨ bits (12 + 2 * n) 2 d.dbcr0 = 0 := by
    simp only [Bool.or_eq_true, beq_iff_eq, or_assoc]
    exact or_rotate.trans or_assoc.symm
  simp only [dacObserved, Bool.or_eq_true (List.any _ _), List.any_eq_true, Bool.and_eq_true, admitted, beq_iff_eq,
    dacCompare_iff d msr c.iacHits _ hn (codes n hn), dacCompare_fault_iff d msr c.iacHits _ hn]
  unfold DebugRegs.DacSeen
  simp only [and_assoc, and_left_comm (b := d.DacEnabled n store ∨ bits (12 + 2 * n) 2 d.dbcr0 = 0)]
  simp only [and_left_comm (a := _ ∈ _), exists_and_left, ← and_or_left]

end

end Sys2Proof.Machine
end

section
/-! SUPPORT. The debug counters as the claims say them (spec/61_debug.md R2225, R2230, spec/12_state_debug.md R284). -/

namespace Sys2Proof.Machine

/-! ## The events of a step of the counters, by number -/

/-- The events in the numbering of CounterStepped. -/
def CountEvents.number (e : CountEvents) : Nat → Bool
  | 0 => e.devt1
  | 1 => e.devt2
  | 2 => e.icmp
  | 3 => e.iac.getLsbD 0
  | 4 => e.iac.getLsbD 1
  | 5 => e.iac.getLsbD 2
  | 6 => e.iac.getLsbD 3
  | 7 => e.dac1r
  | 8 => e.dac1w
  | 9 => e.dac2r
  | 10 => e.dac2w
  | 11 => e.irpt
  | 12 => e.ret
  | _ => false

theorem any_range_iff (p : Nat → Bool) (n : Nat) : (List.range n).any p = true ↔ ∃ k, k < n ∧ p k = true := by
  simp only [List.any_eq_true, List.mem_range]

theorem counts1_iff (c : Word) (e : CountEvents) :
    counts1 c e = true ↔ ∃ k, k < 13 ∧ bit c k = true ∧ e.number k = true := by
  have listed : counts1 c e = (List.range 13).any fun k => bit c k && e.number k := by
    simp only [counts1, Bool.or_assoc]
    rw [← Bool.or_false (bit c 12 && e.ret)]
    rfl
  simp only [listed, any_range_iff, Bool.and_eq_true]

theorem counts2_iff (c : Word) (e : CountEvents) :
    counts2 c e = true ↔ ∃ k, k < 11 ∧ bit c (13 + k) = true ∧ e.number k = true := by
  have listed : counts2 c e = (List.range 11).any fun k => bit c (13 + k) && e.number k := by
    simp only [counts2, Bool.or_assoc]
    rw [← Bool.or_false (bit c 23 && e.dac2w)]
    rfl
  simp only [listed, any_range_iff, Bool.and_eq_true]

/-! ## One counter -/

theorem CountsDown.congr {n : Nat} {old new : BitVec n} {P Q : Prop} {zero : Bool} (h : CountsDown old new P zero)
    (hPQ : P ↔ Q) : CountsDown old new Q zero := by rwa [← propext hPQ]

/-- A counter that counts when c says so. -/
theorem countsDown_step {n : Nat} (old : BitVec n) (c : Bool) :
    CountsDown old (if c && old != 0 then old - 1 else old) (c = true)
      (c && old != 0 && (if c && old != 0 then old - 1 else old) == 0) := by
  by_cases counts : (c && old != 0) = true
  · rw [counts]
    obtain ⟨rfl, nonzero⟩ : c = true ∧ old ≠ 0 := by simpa using counts
    have value : (old - 1).toNat + 1 = old.toNat := by
      have positive : old.toNat ≠ 0 := fun h => nonzero (BitVec.eq_of_toNat_eq h)
      have bound := old.isLt
      have more : 1 < 2 ^ n := by omega
      have one : (1#n).toNat = 1 := Nat.mod_eq_of_lt more
      show (old - 1#n).toNat + 1 = old.toNat
      rw [BitVec.toNat_sub_of_le (BitVec.le_def.2 (by omega)), one]
      omega
    refine ⟨fun _ _ => value, fun h => absurd h (not_or.2 ⟨not_not.2 rfl, nonzero⟩), ?_⟩
    rw [if_pos rfl, Bool.true_and, beq_iff_eq, ← BitVec.toNat_inj]
    show (old - 1).toNat = 0 ↔ _
    simp only [true_and]
    omega
  · rw [if_neg counts, Bool.eq_false_iff.2 counts]
    have stays : c = true → old = 0 := by simpa using counts
    refine ⟨fun hc h => absurd (stays hc) h, fun _ => rfl, ?_⟩
    simp only [Bool.false_and, Bool.false_eq_true, false_iff, not_and]
    intro hc
    rw [stays hc]
    simp

/-! ## One step -/

theorem bits_append_high (a b : BitVec 16) : bits 0 16 (a ++ b) = a := by
  refine bits_ext (by decide) fun i hi => ?_
  rw [bit, BitVec.getMsbD_append, if_neg (by omega), Nat.zero_add]

theorem bits_append_low (a b : BitVec 16) : bits 16 16 (a ++ b) = b := by
  refine bits_ext (by decide) fun i hi => ?_
  rw [bit, BitVec.getMsbD_append, if_pos (by omega), Nat.add_sub_cancel_left]

/-- What one step of the counters does (R2225, R2230). -/
theorem counterStep_stepped (dbcr3 old : Word) (triggered : Bool) (e : CountEvents) {ev : Nat → Prop}
    (numbered : ∀ k, e.number k = true ↔ ev k) :
    let r := counterStep dbcr3 old triggered e
    CounterStepped dbcr3 old r.1 triggered ev r.2.1 r.2.2.1 r.2.2.2 := by
  intro r
  have first : counts1 dbcr3 e = true ↔ ∃ k, k < 13 ∧ bit dbcr3 k = true ∧ ev k := by
    rw [counts1_iff]
    exact exists_congr fun k => and_congr_right fun _ => and_congr_right fun _ => numbered k
  have second : counts2 dbcr3 e = true ↔ ∃ k, k < 11 ∧ bit dbcr3 (13 + k) = true ∧ ev k := by
    rw [counts2_iff]
    exact exists_congr fun k => and_congr_right fun _ => and_congr_right fun _ => numbered k
  have trigger (zero2 : Bool) : triggers1 dbcr3 e zero2 = true ↔
      (bit dbcr3 24 = true ∧ ev 0) ∨ (bit dbcr3 25 = true ∧ ev 1) ∨ (bit dbcr3 26 = true ∧ ev 3) ∨
        (bit dbcr3 27 = true ∧ ev 5) ∨ (bit dbcr3 28 = true ∧ ev 7) ∨ (bit dbcr3 29 = true ∧ ev 8) ∨
        (bit dbcr3 30 = true ∧ zero2 = true) := by
    simp only [triggers1, Bool.or_eq_true, Bool.and_eq_true, or_assoc, ← numbered 0, ← numbered 1,
      ← numbered 3, ← numbered 5, ← numbered 7, ← numbered 8,
      CountEvents.number]
  have free (trig : Bool) : (counts1 dbcr3 e && (!(bits 24 7 dbcr3 != 0) || triggered || trig)) = true ↔
      (∃ k, k < 13 ∧ bit dbcr3 k = true ∧ ev k) ∧ (bits 24 7 dbcr3 = 0 ∨ triggered = true ∨ trig = true) := by
    rw [Bool.and_eq_true, first, Bool.or_eq_true, Bool.or_eq_true, Bool.not_eq_true', bne_eq_false_iff_eq, or_assoc]
  by_cases joined : bit dbcr3 31 = true
  · have result : r = counterStep dbcr3 old triggered e := rfl
    simp only [counterStep, joined, Bool.not_true, Bool.false_and, if_true] at result
    rw [result]
    exact ⟨trigger _, fun h => absurd joined (by simp [h]), fun h => absurd joined (by simp [h]),
      fun _ => ⟨rfl, (countsDown_step old _).congr (free _)⟩⟩
  · have apart : bit dbcr3 31 = false := Bool.eq_false_iff.2 joined
    have result : r = counterStep dbcr3 old triggered e := rfl
    simp only [counterStep, apart, Bool.not_false, Bool.true_and, Bool.false_eq_true, if_false] at result
    rw [result]
    refine ⟨trigger _, fun _ => ?_, fun _ => ?_, fun h => absurd h joined⟩
    · rw [bits_append_low]
      exact (countsDown_step _ _).congr second
    · rw [bits_append_high]
      exact (countsDown_step _ _).congr (free _)

/-! ## The events of an instruction -/

/-- What the counters see of an instruction (R2225 items 2 and 3). -/
theorem instructionEvents_number {d : DebugRegs} (codes : d.ValueCodes) (msr : Word) (c : Current) (k : Nat) :
    (instructionEvents d msr c).number k = true ↔ c.Event d msr k := by
  have hits (n : Nat) : (if c.abandoned then (0 : BitVec 8) else c.iacHits).getLsbD n = true ↔
      c.iacHits.getLsbD n = true ∧ c.abandoned = false := by
    cases c.abandoned <;> simp
  have seen {n : Nat} (hn : n < 2) := dacObserved_iff d msr (n := n) codes c hn
  match k with
  | 2 =>
    show (c.executed && !c.suppressed && bit msr 22) = true ↔ c.Done ∧ bit msr 22 = true
    rw [Bool.and_eq_true, Bool.and_eq_true, Bool.not_eq_true', Current.Done]
  | 3 => exact hits 0
  | 4 => exact hits 1
  | 5 => exact hits 2
  | 6 => exact hits 3
  | 7 => exact seen (by decide) false
  | 8 => exact seen (by decide) true
  | 9 => exact seen (by decide) false
  | 10 => exact seen (by decide) true
  | 11 | 12 => exact Iff.rfl
  | 0 | 1 | k + 13 => exact iff_of_false Bool.false_ne_true id

/-! ## Recording what they reached -/

/-- What one step of the counters answers for the events given. -/
def State.counted (s : State) (old : DebugRegs) (e : CountEvents) : Word × Bool × Bool × Bool :=
  counterStep old.dbcr3 (s.countBase old) (s.countTriggered old) e

/-- The events of the counters that reached 0 in that step, as far as DBCR0 enables them. -/
def counterEvents (old : DebugRegs) (r : Word × Bool × Bool × Bool) : Word :=
  when (r.2.1 && bit old.dbcr0 23) (oneBit 23) ||| when (r.2.2.1 && bit old.dbcr0 24) (oneBit 24)

theorem bit_counterEvents (old : DebugRegs) (r : Word × Bool × Bool × Bool) {k : Nat} (hk : k < 32) :
    bit (counterEvents old r) k = true ↔
      (k = 23 ∧ r.2.1 = true ∧ bit old.dbcr0 23 = true) ∨ (k = 24 ∧ r.2.2.1 = true ∧ bit old.dbcr0 24 = true) := by
  simp only [counterEvents, bit_or, Bool.or_eq_true, bit_when_oneBit hk, Bool.and_eq_true]

theorem counterEvents_ne_zero (old : DebugRegs) (r : Word × Bool × Bool × Bool) :
    counterEvents old r ≠ 0 ↔ (r.2.1 = true ∧ bit old.dbcr0 23 = true) ∨ (r.2.2.1 = true ∧ bit old.dbcr0 24 = true) := by
  rw [← exists_bit_iff]
  constructor
  · rintro ⟨j, hj, h⟩
    exact ((bit_counterEvents old r hj).1 h).imp And.right And.right
  · rintro (h | h)
    · exact ⟨23, by decide, (bit_counterEvents old r (by decide)).2 (.inl ⟨rfl, h⟩)⟩
    · exact ⟨24, by decide, (bit_counterEvents old r (by decide)).2 (.inr ⟨rfl, h⟩)⟩

/-- Of the debug registers the counters change DBSR and DBCNT. -/
theorem State.countEvents_dbg_frame (s : State) (old : DebugRegs) (de : Bool) (e : CountEvents) :
    (s.countEvents old de e).dbg = { s.dbg with
      dbsr := (s.countEvents old de e).dbg.dbsr, dbcnt := (s.countEvents old de e).dbg.dbcnt } := by
  unfold State.countEvents
  extract_lets
  split
  · split <;> rfl
  · rfl

section
variable {s : State} {old : DebugRegs} (on : bit old.dbcr0 1 = true) (de : Bool) (e : CountEvents)
include on

theorem State.countEvents_outputs : (s.countEvents old de e).outputs =
    s.outputs ++ (if (s.counted old e).2.1 then [.watchpoint 6] else []) ++
      (if (s.counted old e).2.2.1 then [.watchpoint 7] else []) := by
  unfold State.countEvents State.counted
  rw [if_pos on]
  extract_lets
  split <;> rfl

theorem State.countEvents_dbcnt : (s.countEvents old de e).dbg.dbcnt =
    if s.cur.wroteDbcnt then s.dbg.dbcnt else (s.counted old e).1 := by
  unfold State.countEvents State.counted
  rw [if_pos on]
  extract_lets
  split <;> rfl

theorem State.countEvents_dbsr : (s.countEvents old de e).dbg.dbsr =
    if counterEvents old (s.counted old e) != 0 then
      s.dbg.dbsr ||| when (s.counted old e).2.2.2 (oneBit 31) ||| counterEvents old (s.counted old e) ||| when (!de) (oneBit 0)
    else s.dbg.dbsr ||| when (s.counted old e).2.2.2 (oneBit 31) := by
  unfold State.countEvents
  rw [if_pos on]
  exact apply_ite (fun t : State => t.dbg.dbsr) _ _ _

/-- The bits of DBSR that a step of the counters sets (R2230). -/
theorem State.bit_countEvents {k : Nat} (hk : k < 32) : bit (s.countEvents old de e).dbg.dbsr k = true ↔
    bit s.dbg.dbsr k = true ∨ (k = 31 ∧ (s.counted old e).2.2.2 = true) ∨
      (k = 23 ∧ (s.counted old e).2.1 = true ∧ bit old.dbcr0 23 = true) ∨
      (k = 24 ∧ (s.counted old e).2.2.1 = true ∧ bit old.dbcr0 24 = true) ∨
      (k = 0 ∧ de = false ∧ (((s.counted old e).2.1 = true ∧ bit old.dbcr0 23 = true) ∨
        ((s.counted old e).2.2.1 = true ∧ bit old.dbcr0 24 = true))) := by
  rw [State.countEvents_dbsr on, ← counterEvents_ne_zero, ← or_assoc (a := k = 23 ∧ _), ← bit_counterEvents old _ hk]
  by_cases some : counterEvents old (s.counted old e) = 0
  · simp [some, bit_when_oneBit hk]
  · rw [if_pos (bne_iff_ne.2 some), ne_eq, eq_true some]
    simp [bit_when_oneBit hk, or_assoc]

end

end Sys2Proof.Machine
end

section
/-! SUPPORT. The debug unit at the end of an instruction (spec/61_debug.md R2205, R2211, R2212, R2225, R2230, R2240). -/

namespace Sys2Proof.Machine

/-! ## Data address compare and instruction complete events -/

theorem dacBit_range {n : Nat} (hn : n < 2) (store : Bool) : 12 ≤ dacBit n store ∧ dacBit n store < 16 := by
  unfold dacBit
  split <;> omega

section
variable (s : State) (d : DebugRegs) (msr : Word)

/-- The data address compare bits of an instruction that completed. -/
def State.dacWord : Word := if s.cur.executed && !s.cur.suppressed then dacEventsAll d msr s.cur.iacHits s.cur.accesses else 0

/-- The instruction complete bit. -/
def State.icmpWord : Word := when (s.cur.executed && !s.cur.suppressed && bit msr 22 && bit d.dbcr0 4) (oneBit 4)

theorem Current.done_iff (c : Current) : (c.executed && !c.suppressed) = true ↔ c.Done := by
  rw [Bool.and_eq_true, Bool.not_eq_true', Current.Done]

theorem State.bit_dacWord (codes : d.ValueCodes) {k : Nat} (hk : k < 32) :
    bit (s.dacWord d msr) k = true ↔ ∃ n, n < 2 ∧ ∃ store, k = dacBit n store ∧ s.DacDone d msr n store := by
  unfold State.dacWord State.DacDone
  by_cases done : s.cur.Done
  · rw [if_pos ((Current.done_iff _).2 done), bit_dacEventsAll d msr s.cur.iacHits codes _ hk]
    simp only [done, true_and]
  · rw [if_neg (mt (Current.done_iff _).1 done)]
    simp [done]

theorem State.dacWord_ne_zero (codes : d.ValueCodes) : s.dacWord d msr ≠ 0 ↔ s.SomeDac d msr := by
  rw [← exists_bit_iff]
  constructor
  · rintro ⟨k, hk, h⟩
    obtain ⟨n, hn, store, -, done⟩ := (s.bit_dacWord d msr codes hk).1 h
    cases store
    · exact ⟨n, hn, .inl done⟩
    · exact ⟨n, hn, .inr done⟩
  · have place (n : Nat) (hn : n < 2) (store : Bool) (done : s.DacDone d msr n store) :
        ∃ k, k < 32 ∧ bit (s.dacWord d msr) k = true := by
      have small : dacBit n store < 32 := (dacBit_range hn store).2.trans (by decide)
      exact ⟨_, small, (s.bit_dacWord d msr codes small).2 ⟨n, hn, store, rfl, done⟩⟩
    rintro ⟨n, hn, done | done⟩
    · exact place n hn false done
    · exact place n hn true done

theorem State.bit_icmpWord {k : Nat} (hk : k < 32) : bit (s.icmpWord d msr) k = true ↔ k = 4 ∧ s.IcmpDone d msr := by
  rw [State.icmpWord, bit_when_oneBit hk, Bool.and_eq_true, Bool.and_eq_true, Current.done_iff, and_assoc, State.IcmpDone]

theorem State.icmpWord_ne_zero : s.icmpWord d msr ≠ 0 ↔ s.IcmpDone d msr := by
  rw [← exists_bit_iff]
  constructor
  · rintro ⟨k, hk, h⟩
    exact ((s.bit_icmpWord d msr hk).1 h).2
  · exact fun h => ⟨4, by decide, (s.bit_icmpWord d msr (by decide)).2 ⟨rfl, h⟩⟩

/-- DBSR bit k is set for the instruction: a compare, the completion, VLES or IDE (R2205, R2211, R2212). -/
def State.Posted (k : Nat) : Prop :=
  (∃ n, n < 2 ∧ ∃ store, k = dacBit n store ∧ s.DacDone d msr n store) ∨ (k = 4 ∧ s.IcmpDone d msr) ∨
    (k = 0 ∧ ((bit msr 22 = false ∧ s.SomeDac d msr) ∨ (s.cur.efpRound = true ∧ s.IcmpDone d msr))) ∨
    (k = 27 ∧ s.cur.vle = true ∧ (s.SomeDac d msr ∨ s.IcmpDone d msr))

end

theorem State.postEvents_eq (s before : State) :
    s.postEvents before = { s with dbg.dbsr := (s.postEvents before).dbg.dbsr } := by
  unfold State.postEvents
  extract_lets d done dac icmp ide
  split <;> rfl

theorem or_ne_zero (a b : Word) : a ||| b ≠ 0 ↔ a ≠ 0 ∨ b ≠ 0 := by
  simp only [← exists_bit_iff, bit_or, Bool.or_eq_true, and_or_left, exists_or]

theorem State.bit_postEvents (s : State) {before : State} (on : before.idm = true) (codes : before.dbg.ValueCodes) {k : Nat}
    (hk : k < 32) :
    bit (s.postEvents before).dbg.dbsr k = true ↔ bit s.dbg.dbsr k = true ∨ s.Posted before.dbg before.msr k := by
  have dbsr : (s.postEvents before).dbg.dbsr =
      if bit before.dbg.dbcr0 1 && (s.dacWord before.dbg before.msr ||| s.icmpWord before.dbg before.msr) != 0 then
        s.dbg.dbsr ||| s.dacWord before.dbg before.msr ||| s.icmpWord before.dbg before.msr |||
          (when (s.dacWord before.dbg before.msr != 0 && !bit before.msr 22) (oneBit 0) |||
            when (s.icmpWord before.dbg before.msr != 0 && s.cur.efpRound) (oneBit 0)) ||| when s.cur.vle (oneBit 27)
      else s.dbg.dbsr := apply_ite (fun t : State => t.dbg.dbsr) _ _ _
  have idm : bit before.dbg.dbcr0 1 = true := on
  rw [dbsr, idm, Bool.true_and, State.Posted, ← s.bit_dacWord before.dbg before.msr codes hk,
    ← s.bit_icmpWord before.dbg before.msr hk, ← s.dacWord_ne_zero before.dbg before.msr codes,
    ← s.icmpWord_ne_zero before.dbg before.msr, ← or_ne_zero]
  generalize s.dacWord before.dbg before.msr = dac
  generalize s.icmpWord before.dbg before.msr = icmp
  by_cases some : dac ||| icmp = 0
  · obtain ⟨rfl, rfl⟩ : dac = 0 ∧ icmp = 0 := by
      have none := mt (or_ne_zero dac icmp).2 (not_not.2 some)
      exact ⟨not_not.1 fun h => none (.inl h), not_not.1 fun h => none (.inr h)⟩
    simp
  · rw [if_pos (bne_iff_ne.2 some), eq_true (show dac ||| icmp ≠ 0 from some)]
    simp only [bit_or, Bool.or_eq_true, bit_when_oneBit hk, Bool.and_eq_true, bne_iff_ne, Bool.not_eq_true', or_assoc,
      and_true, and_or_left, and_comm (a := bit before.msr 22 = false), and_comm (a := s.cur.efpRound = true)]

/-! ## The status bits by their place -/

section
variable {s : State} {d : DebugRegs} {msr : Word}

theorem no_dacBit {k : Nat} (hk : k < 12 ∨ 15 < k) {P : Nat → Bool → Prop} :
    ¬∃ n, n < 2 ∧ ∃ store, k = dacBit n store ∧ P n store := by
  rintro ⟨n, hn, store, rfl, -⟩
  have place := dacBit_range hn store
  omega

theorem State.posted_dac {n : Nat} (hn : n < 2) (store : Bool) : s.Posted d msr (dacBit n store) ↔ s.DacDone d msr n store := by
  have place := dacBit_range hn store
  have others : dacBit n store ≠ 4 ∧ dacBit n store ≠ 0 ∧ dacBit n store ≠ 27 := by omega
  simp only [State.Posted, others.1, others.2.1, others.2.2, false_and, or_false, dacBit_inj]
  constructor
  · rintro ⟨m, -, kind, ⟨rfl, rfl⟩, done⟩
    exact done
  · exact fun done => ⟨n, hn, store, ⟨rfl, rfl⟩, done⟩

theorem State.posted_four : s.Posted d msr 4 ↔ s.IcmpDone d msr := by
  rw [State.Posted, eq_false (no_dacBit (by decide))]
  simp

theorem State.posted_zero : s.Posted d msr 0 ↔
    (bit msr 22 = false ∧ s.SomeDac d msr) ∨ (s.cur.efpRound = true ∧ s.IcmpDone d msr) := by
  rw [State.Posted, eq_false (no_dacBit (by decide))]
  simp

theorem State.posted_twentySeven : s.Posted d msr 27 ↔ s.cur.vle = true ∧ (s.SomeDac d msr ∨ s.IcmpDone d msr) := by
  rw [State.Posted, eq_false (no_dacBit (by decide))]
  simp

theorem State.posted_other {k : Nat} (hk : k ∉ [0, 4, 12, 13, 14, 15, 27]) : ¬s.Posted d msr k := by
  simp only [List.mem_cons, List.not_mem_nil, or_false, not_or] at hk
  have range : k < 12 ∨ 15 < k := by omega
  rw [State.Posted, eq_false (no_dacBit range)]
  simp [hk]

end

/-! ## The watchpoint outputs -/

/-- The watchpoint outputs by number, the two of the counters among them. -/
def Current.pulse (c : Current) (d : DebugRegs) (msr : Word) (zero1 zero2 : Bool) : Nat → Bool
  | 0 => c.iacHits.getLsbD 0
  | 1 => c.iacHits.getLsbD 1
  | 2 => c.iacHits.getLsbD 2
  | 3 => c.iacHits.getLsbD 3
  | 4 => dacObserved d msr c 0 true || dacObserved d msr c 0 false
  | 5 => dacObserved d msr c 1 true || dacObserved d msr c 1 false
  | 6 => zero1
  | 7 => zero2
  | 8 => c.iacHits.getLsbD 4
  | 9 => c.iacHits.getLsbD 5
  | 14 => c.iacHits.getLsbD 6
  | 15 => c.iacHits.getLsbD 7
  | 16 => c.irpt
  | 17 => c.ret
  | 18 => c.cirpt
  | 19 => c.cret
  | _ => false

theorem Current.pulse_iff (c : Current) {d : DebugRegs} (codes : d.ValueCodes) (msr : Word) (zero1 zero2 : Bool) (n : Nat) :
    c.pulse d msr zero1 zero2 n = true ↔ c.Pulses d msr zero1 zero2 n := by
  have seen {n : Nat} (hn : n < 2) : (dacObserved d msr c n true || dacObserved d msr c n false) = true ↔
      d.DacSeen msr c n true ∨ d.DacSeen msr c n false := by
    rw [Bool.or_eq_true, dacObserved_iff d msr codes c hn, dacObserved_iff d msr codes c hn]
  match n with
  | 4 => exact seen (by decide)
  | 5 => exact seen (by decide)
  | 0 | 1 | 2 | 3 | 6 | 7 | 8 | 9 | 14 | 15 | 16 | 17 | 18 | 19 => exact Iff.rfl
  | 10 | 11 | 12 | 13 => exact iff_of_false Bool.false_ne_true id
  | n + 20 => exact iff_of_false Bool.false_ne_true id

/-- The outputs that pulse, taken from a list of numbers. -/
def pulsing (p : Nat → Bool) (numbers : List Nat) : List OutputEvent :=
  (numbers.map fun n => (p n, n)).filterMap fun b => if b.1 then some (.watchpoint b.2) else none

theorem mem_pulsing (p : Nat → Bool) (numbers : List Nat) (o : OutputEvent) :
    o ∈ pulsing p numbers ↔ ∃ n, n ∈ numbers ∧ o = .watchpoint n ∧ p n = true := by
  simp only [pulsing, List.mem_filterMap, List.mem_map]
  constructor
  · rintro ⟨b, ⟨n, mem, rfl⟩, h⟩
    split at h
    · next on => exact ⟨n, mem, (Option.some.inj h).symm, on⟩
    · exact nomatch h
  · rintro ⟨n, mem, rfl, on⟩
    exact ⟨_, ⟨n, mem, rfl⟩, if_pos on⟩

/-- The numbers that State.watchpoints goes through. -/
def instructionWatchpoints : List Nat := [0, 1, 2, 3, 4, 5, 8, 9, 14, 15, 16, 17, 18, 19]

theorem lt_of_mem_instructionWatchpoints : ∀ n ∈ instructionWatchpoints, n < 22 := by decide

theorem watchpoint_cases : ∀ n, n < 22 →
    (n ∈ instructionWatchpoints ∨ n = 6 ∨ n = 7) ∨ n = 10 ∨ n = 11 ∨ n = 12 ∨ n = 13 ∨ n = 20 ∨ n = 21 := by decide

/-- The outputs of an instruction are those that State.watchpoints goes through and those of the counters. -/
theorem Current.exists_pulse (c : Current) (d : DebugRegs) (msr : Word) (zero1 zero2 : Bool) (o : OutputEvent) :
    (∃ n, n < 22 ∧ o = .watchpoint n ∧ c.pulse d msr zero1 zero2 n = true) ↔
      o ∈ pulsing (c.pulse d msr zero1 zero2) instructionWatchpoints ∨ (zero1 = true ∧ o = .watchpoint 6) ∨
        (zero2 = true ∧ o = .watchpoint 7) := by
  rw [mem_pulsing]
  constructor
  · rintro ⟨n, hn, rfl, on⟩
    rcases watchpoint_cases n hn with (listed | rfl | rfl) | rfl | rfl | rfl | rfl | rfl | rfl
    · exact .inl ⟨n, listed, rfl, on⟩
    · exact .inr (.inl ⟨on, rfl⟩)
    · exact .inr (.inr ⟨on, rfl⟩)
    all_goals exact absurd on Bool.false_ne_true
  · rintro (⟨n, listed, rfl, on⟩ | ⟨on, rfl⟩ | ⟨on, rfl⟩)
    · exact ⟨n, lt_of_mem_instructionWatchpoints n listed, rfl, on⟩
    · exact ⟨6, by decide, rfl, on⟩
    · exact ⟨7, by decide, rfl, on⟩

theorem mem_if_single {α : Type} (b : Bool) (x y : α) : x ∈ (if b then [y] else []) ↔ b = true ∧ x = y := by
  cases b <;> simp

/-! ## The end of a step -/

/-- With internal debug mode off nothing is recorded, counted or pulsed (R2202). -/
theorem State.finish_off (s : State) {before : State} (off : before.idm = false) :
    s.finish before = { s with outputs := s.outputs ++ s.cur.signals } := by
  have idm : bit before.dbg.dbcr0 1 = false := off
  have post : s.postEvents before = s := by
    unfold State.postEvents
    exact if_neg (by simp [idm])
  have pulses : s.watchpoints before.dbg before.msr = [] := if_neg (by simp [idm])
  simp only [State.finish, post, State.countEvents_frozen idm, pulses, List.append_nil]

section
variable (s : State) {before : State} (on : before.idm = true)
include on

/-- What the counters answer for the instruction. -/
def State.instructionCounted (s before : State) : Word × Bool × Bool × Bool :=
  counterStep before.dbg.dbcr3 (s.countBase before.dbg) (s.countTriggered before.dbg)
    (instructionEvents before.dbg before.msr s.cur)

theorem State.counted_postEvents (codes : before.dbg.ValueCodes) :
    (s.postEvents before).counted before.dbg (instructionEvents before.dbg before.msr s.cur) = s.instructionCounted before := by
  have base : (s.postEvents before).countBase before.dbg = s.countBase before.dbg := by
    rw [State.postEvents_eq, State.countBase, State.countBase]
  have status : bit (s.postEvents before).dbg.dbsr 31 = bit s.dbg.dbsr 31 := by
    rw [Bool.eq_iff_iff, s.bit_postEvents on codes (by decide), or_iff_left (State.posted_other (by decide))]
  rw [State.counted, base, State.countTriggered, status]
  rfl

/-- The bits of DBSR at the end of an instruction. -/
theorem State.bit_finish (codes : before.dbg.ValueCodes) {k : Nat} (hk : k < 32) :
    bit (s.finish before).dbg.dbsr k = true ↔
      bit s.dbg.dbsr k = true ∨ s.Posted before.dbg before.msr k ∨ (k = 31 ∧ (s.instructionCounted before).2.2.2 = true) ∨
      (k = 23 ∧ (s.instructionCounted before).2.1 = true ∧ bit before.dbg.dbcr0 23 = true) ∨
      (k = 24 ∧ (s.instructionCounted before).2.2.1 = true ∧ bit before.dbg.dbcr0 24 = true) ∨
      (k = 0 ∧ bit before.msr 22 = false ∧ (((s.instructionCounted before).2.1 = true ∧ bit before.dbg.dbcr0 23 = true) ∨
        ((s.instructionCounted before).2.2.1 = true ∧ bit before.dbg.dbcr0 24 = true))) := by
  have counted := State.bit_countEvents (s := s.postEvents before) on (bit before.msr 22)
    (instructionEvents before.dbg before.msr s.cur) hk
  rw [s.counted_postEvents on codes, s.bit_postEvents on codes hk, or_assoc] at counted
  exact counted

theorem State.finish_frame (codes : before.dbg.ValueCodes) : s.finish before = { s with
    dbg := { s.dbg with
      dbsr := (s.finish before).dbg.dbsr
      dbcnt := if s.cur.wroteDbcnt then s.dbg.dbcnt else (s.instructionCounted before).1 }
    outputs := (s.finish before).outputs } := by
  have counted := State.countEvents_dbcnt (s := s.postEvents before) on (bit before.msr 22)
    (instructionEvents before.dbg before.msr s.cur)
  have dbg := State.countEvents_dbg_frame (s.postEvents before) before.dbg (bit before.msr 22)
    (instructionEvents before.dbg before.msr s.cur)
  have post : (s.postEvents before).cur = s.cur ∧
      (s.postEvents before).dbg = { s.dbg with dbsr := (s.postEvents before).dbg.dbsr } := by
    rw [State.postEvents_eq]
    exact ⟨rfl, rfl⟩
  rw [counted, s.counted_postEvents on codes, post.1, post.2] at dbg
  replace dbg : (s.finish before).dbg = { s.dbg with
    dbsr := (s.finish before).dbg.dbsr
    dbcnt := if s.cur.wroteDbcnt then s.dbg.dbcnt else (s.instructionCounted before).1 } := dbg
  rw [State.finish_eq, dbg]

/-- The outputs of an instruction. -/
theorem State.mem_finish_outputs (codes : before.dbg.ValueCodes) (o : OutputEvent) :
    o ∈ (s.finish before).outputs ↔ o ∈ s.outputs ∨ o ∈ s.cur.signals ∨ ∃ n, n < 22 ∧ o = .watchpoint n ∧
      s.cur.Pulses before.dbg before.msr (s.instructionCounted before).2.1 (s.instructionCounted before).2.2.1 n := by
  have counted := State.countEvents_outputs (s := s.postEvents before) on (bit before.msr 22)
    (instructionEvents before.dbg before.msr s.cur)
  rw [s.counted_postEvents on codes] at counted
  have cur : ((s.postEvents before).countEvents before.dbg (bit before.msr 22)
      (instructionEvents before.dbg before.msr s.cur)).cur = s.cur := by
    rw [State.countEvents_eq, State.postEvents_eq]
  have before_outputs : (s.postEvents before).outputs = s.outputs := by rw [State.postEvents_eq]
  generalize State.instructionCounted s before = r at *
  have pulses : s.watchpoints before.dbg before.msr =
      pulsing (s.cur.pulse before.dbg before.msr r.2.1 r.2.2.1) instructionWatchpoints := if_pos on
  have same (t : State) (h : t.cur = s.cur) : t.watchpoints before.dbg before.msr = s.watchpoints before.dbg before.msr := by
    rw [State.watchpoints, h, State.watchpoints]
  simp only [← s.cur.pulse_iff codes, Current.exists_pulse]
  rw [← pulses, State.finish, same _ cur, cur, counted, before_outputs]
  simp only [List.mem_append, mem_if_single]
  exact iff_of_eq (by ac_rfl)

/-- The debug unit has seen the instruction as the claims say. -/
theorem State.finished_finish (codes : before.dbg.ValueCodes) : s.Finished (s.finish before) before.dbg before.msr
    (s.instructionCounted before).1 (s.instructionCounted before).2.1 (s.instructionCounted before).2.2.1
    (s.instructionCounted before).2.2.2 := by
  have status {k : Nat} (hk : k < 32) := s.bit_finish on codes hk
  have frame := s.finish_frame on codes
  have counts : (s.finish before).dbg.dbcnt = if s.cur.wroteDbcnt then s.dbg.dbcnt else (s.instructionCounted before).1 := by
    rw [frame]
  have compare {n : Nat} (hn : n < 2) (store : Bool) : bit (s.finish before).dbg.dbsr (dacBit n store) = true ↔
      bit s.dbg.dbsr (dacBit n store) = true ∨ s.DacDone before.dbg before.msr n store := by
    have place := dacBit_range hn store
    have away : dacBit n store ≠ 31 ∧ dacBit n store ≠ 23 ∧ dacBit n store ≠ 24 ∧ dacBit n store ≠ 0 := by omega
    rw [status (by omega), State.posted_dac hn]
    simp only [away.1, away.2.1, away.2.2.1, away.2.2.2, false_and, or_false]
  constructor
  case loads => exact fun n hn => compare hn false
  case stores => exact fun n hn => compare hn true
  case complete =>
    rw [status (by decide), State.posted_four]
    simp
  case vle =>
    rw [status (by decide), State.posted_twentySeven]
    simp
  case imprecise =>
    rw [status (by decide), State.posted_zero]
    simp [or_assoc]
  case counters =>
    exact counterStep_stepped _ _ _ _ fun k => instructionEvents_number codes before.msr s.cur k
  case counts => exact counts
  case zeros =>
    rw [status (by decide), status (by decide), status (by decide)]
    simp [State.posted_other]
  case status =>
    intro k hk other
    have unposted : ¬s.Posted before.dbg before.msr k := State.posted_other fun mem =>
      other ((by decide : [0, 4, 12, 13, 14, 15, 27] ⊆ [0, 4, 12, 13, 14, 15, 23, 24, 27, 31]) mem)
    simp only [List.mem_cons, List.not_mem_nil, or_false, not_or] at other
    rw [Bool.eq_iff_iff, status hk]
    simp [unposted, other]
  case outputs => exact s.mem_finish_outputs on codes
  case frame =>
    rw [counts]
    exact frame

end

end Sys2Proof.Machine
end

section
/-! SUPPORT. Instruction address compares at a boundary, data accesses that fault, the debug pins and DEVENT (spec/61_debug.md
R2210, R2211, R2230, R2232, R2235, spec/12_state_debug.md R299). -/

namespace Sys2Proof.Machine

/-! ## Instruction address compares at a boundary -/

/-- The end of a suppressed instruction leaves the instruction address compare bits. -/
theorem State.bit_finish_suppressed {s before : State} (suppressed : s.cur.suppressed = true) (on : before.idm = true) {k : Nat}
    (low : 8 ≤ k) (high : k < 12) : bit (s.finish before).dbg.dbsr k = bit s.dbg.dbsr k := by
  have post : s.postEvents before = s := by
    unfold State.postEvents
    exact if_neg (by simp [suppressed, when])
  have counted := State.bit_countEvents (s := s) on (bit before.msr 22) (instructionEvents before.dbg before.msr s.cur)
    (show k < 32 by omega)
  have away : k ≠ 31 ∧ k ≠ 23 ∧ k ≠ 24 ∧ k ≠ 0 := by omega
  simp only [away.1, away.2.1, away.2.2.1, away.2.2.2, false_and, or_false] at counted
  rw [Bool.eq_iff_iff, ← counted, State.finish, post]

theorem State.DebugInterrupted.finish {s t : State} (h : s.DebugInterrupted t) (before : State) :
    s.DebugInterrupted (t.suppress.finish before) := by
  rw [State.finish_eq]
  exact ⟨h.saved, h.mode, h.vector, h.awake, h.program, h.translation⟩

/-- An instruction address compare event with MSR[DE] = 1 takes the debug interrupt instead of the instruction (R2210). -/
theorem State.step_iacEvent {s b : State} (ready : s.Ready b) (on : b.idm = true) (de : bit b.msr 22 = true)
    (event : ∃ k, k < 32 ∧ b.dbg.IacEvent b.withIacHits.cur.iacHits k) :
    ∃ t, step s = .next t ∧ b.DebugInterrupted t ∧ ∀ k, 8 ≤ k → k < 12 →
      (bit t.dbg.dbsr k = true ↔ bit b.dbg.dbsr k = true ∨ b.dbg.IacEvent b.withIacHits.cur.iacHits k) := by
  obtain ⟨-, -, -, recorded, -⟩ := b.withIacHits_spec
  have record := State.record_eq b.withIacHits (iacEvents b.withIacHits.dbg b.withIacHits.cur.iacHits) true
  have some : (iacEvents b.withIacHits.dbg b.withIacHits.cur.iacHits != 0 && b.withIacHits.idm && b.withIacHits.de) = true := by
    obtain ⟨k, hk, h⟩ := event
    have nonzero := (exists_bit_iff _).1 ⟨k, hk, (bit_iacEvents b.withIacHits.dbg _ hk).2 h⟩
    rw [bne_iff_ne.2 nonzero]
    exact Bool.and_eq_true_iff.2 ⟨on, de⟩
  refine ⟨_, (State.step_of_ready ready).trans (if_pos some), (State.debugInterrupted_takeDebug record).finish b, ?_⟩
  intro k low high
  rw [State.bit_finish_suppressed rfl on low high]
  have away : k ≠ 0 ∧ k ≠ 27 := by omega
  refine (recorded k (by omega)).trans ?_
  simp [away, on]

/-! ## Data accesses that fault -/

/-- DBSR given a value. -/
def State.withDbsr (s : State) (w : Word) : State := { s with dbg.dbsr := w }

theorem State.record_withDbsr (s : State) (e : Word) (v : Bool) : s.record e v = s.withDbsr (s.record e v).dbg.dbsr := by
  unfold State.record
  split <;> rfl

section
variable (s : State) (q : Request)

/-- The bits of DBSR that a faulting access sets. -/
def State.faultHits : Word :=
  dacEventsAll s.dbg s.msr s.cur.iacHits s.cur.accesses |||
    dacEvents s.dbg s.msr s.cur.iacHits false { ea := q.ea, store := q.store, bytes := [] }

/-- The access is noted as one that faulted. -/
def State.faultNoted : State :=
  s.aside { s.cur with faulted := [{ ea := q.ea, store := q.store, bytes := [] }] } s.freeCtr

theorem State.bit_faultHits (codes : s.dbg.ValueCodes) {k : Nat} (hk : k < 32) : bit (s.faultHits q) k = true ↔
    ∃ n, n < 2 ∧ ∃ store, k = dacBit n store ∧ s.FaultRecords q.ea q.store n store := by
  rw [State.faultHits, bit_or, Bool.or_eq_true, bit_dacEventsAll _ _ _ codes _ hk, bit_dacEvents _ _ _ _ _ hk]
  unfold State.FaultRecords
  constructor
  · rintro (⟨n, hn, store, place, made⟩ | ⟨n, hn, place, enabled, hit⟩)
    · exact ⟨n, hn, store, place, .inl made⟩
    · exact ⟨n, hn, q.store, place, .inr ⟨rfl, enabled, (dacCompare_fault_iff _ _ _ _ hn).1 hit⟩⟩
  · rintro ⟨n, hn, store, place, made | ⟨rfl, enabled, hit⟩⟩
    · exact .inl ⟨n, hn, store, place, made⟩
    · exact .inr ⟨n, hn, place, enabled, (dacCompare_fault_iff _ _ _ _ hn).2 hit⟩

theorem State.faultHits_ne_zero (codes : s.dbg.ValueCodes) :
    s.faultHits q ≠ 0 ↔ ∃ n, n < 2 ∧ ∃ b, s.FaultRecords q.ea q.store n b := by
  rw [← exists_bit_iff]
  constructor
  · rintro ⟨k, hk, h⟩
    obtain ⟨n, hn, store, -, records⟩ := (s.bit_faultHits q codes hk).1 h
    exact ⟨n, hn, store, records⟩
  · rintro ⟨n, hn, store, records⟩
    have small : dacBit n store < 32 := (dacBit_range hn store).2.trans (by decide)
    exact ⟨_, small, (s.bit_faultHits q codes small).2 ⟨n, hn, store, rfl, records⟩⟩

/-- No counter fires when none counts. -/
theorem counterFires_zero {d : DebugRegs} (h : d.dbcr3 = 0) (msr : Word) (c : Current) : counterFires d msr c = false := by
  have first (e : CountEvents) : counts1 0 e = false := by simp [counts1]
  have second (e : CountEvents) : counts2 0 e = false := by simp [counts2]
  simp only [counterFires, h, first, second, Bool.and_false, Bool.false_and, Bool.or_self]

variable {s q} (fault : State → State)

theorem State.dataFault_missed (quiet : s.dbg.dbcr3 = 0) (none : s.faultHits q = 0) :
    s.dataFault q fault = fault (s.faultNoted q) := by
  have fires := counterFires_zero (d := (s.faultNoted q).dbg) quiet (s.faultNoted q).msr (s.faultNoted q).cur
  refine if_neg ?_
  show ¬(s.idm && (s.faultHits q != 0 || counterFires (s.faultNoted q).dbg (s.faultNoted q).msr (s.faultNoted q).cur)) = true
  rw [none, fires]
  simp

theorem State.dataFault_hit (on : s.idm = true) (some : s.faultHits q ≠ 0) : s.dataFault q fault =
    if s.de then (((s.faultNoted q).record (s.faultHits q ||| oneBit 0) true).takeDebug s.pc).suppress
    else fault ((s.faultNoted q).record (s.faultHits q ||| oneBit 0) true) := by
  have vles : (s.faultHits q != 0) = true := bne_iff_ne.2 some
  have taken : (s.idm && (s.faultHits q != 0 ||
      counterFires (s.faultNoted q).dbg (s.faultNoted q).msr (s.faultNoted q).cur)) = true := by
    rw [on, vles]
    rfl
  refine (if_pos taken).trans ?_
  show (if s.de then (((s.faultNoted q).record (s.faultHits q ||| oneBit 0) (s.faultHits q != 0)).takeDebug s.pc).suppress
    else fault ((s.faultNoted q).record (s.faultHits q ||| oneBit 0) (s.faultHits q != 0))) = _
  rw [vles]

variable {fault}

/-- A fault with the data address compares as the claims say (R2211): `interrupted` says what the fault does, and `recorded`
what it records. -/
theorem State.faultsWithDebug (on : s.idm = true) (quiet : s.dbg.dbcr3 = 0) (codes : s.dbg.ValueCodes) {vector : Nat} {esr : Word}
    (interrupted : ∀ d, s.Interrupted (fault ((s.faultNoted q).withDbsr d)) vector s.pc esr q.ea)
    (recorded : ∀ u : State, ∃ P, Recorded u.dbg.dbsr (fault u).dbg.dbsr (fun k => k = 6 ∧ P) (!bit u.msr 22) false) :
    s.FaultsWithDebug (s.dataFault q fault) q.ea q.store vector esr := by
  have place {n : Nat} (hn : n < 2) (store : Bool) : bit (s.faultHits q) (dacBit n store) = true ↔
      s.FaultRecords q.ea q.store n store := by
    rw [s.bit_faultHits q codes ((dacBit_range hn store).2.trans (by decide))]
    simp only [dacBit_inj]
    exact ⟨fun ⟨_, _, _, ⟨rfl, rfl⟩, h⟩ => h, fun h => ⟨n, hn, store, ⟨rfl, rfl⟩, h⟩⟩
  have later (u : State) {n : Nat} (hn : n < 2) (store : Bool) :
      bit (fault u).dbg.dbsr (dacBit n store) = true ↔ bit u.dbg.dbsr (dacBit n store) = true := by
    obtain ⟨P, events⟩ := recorded u
    have range := dacBit_range hn store
    have away : dacBit n store ≠ 6 ∧ dacBit n store ≠ 0 := by omega
    rw [events _ (by omega)]
    simp [away]
  by_cases none : s.faultHits q = 0
  · have no : ¬∃ n, n < 2 ∧ ∃ b, s.FaultRecords q.ea q.store n b := mt (s.faultHits_ne_zero q codes).2 (not_not.2 none)
    rw [State.dataFault_missed fault quiet none]
    have bits {n : Nat} (hn : n < 2) (store : Bool) : bit (fault (s.faultNoted q)).dbg.dbsr (dacBit n store) = true ↔
        bit s.dbg.dbsr (dacBit n store) = true ∨ s.FaultRecords q.ea q.store n store := by
      rw [later _ hn store, ← place hn store, none]
      simp [State.faultNoted, State.aside]
    exact ⟨⟨fun n hn => bits hn false, fun n hn => bits hn true, fun h => absurd h no⟩, fun h => absurd h no,
      fun _ => interrupted s.dbg.dbsr⟩
  · have some := (s.faultHits_ne_zero q codes).1 none
    rw [State.dataFault_hit fault on none]
    have noted := (s.faultNoted q).recorded_record (s.faultHits q ||| oneBit 0) true
    have frame := (s.faultNoted q).record_withDbsr (s.faultHits q ||| oneBit 0) true
    generalize (s.faultNoted q).record (s.faultHits q ||| oneBit 0) true = u at *
    have bits {n : Nat} (hn : n < 2) (store : Bool) : bit u.dbg.dbsr (dacBit n store) = true ↔
        bit s.dbg.dbsr (dacBit n store) = true ∨ s.FaultRecords q.ea q.store n store := by
      have range := dacBit_range hn store
      have away : dacBit n store ≠ 0 ∧ dacBit n store ≠ 27 ∧ 0 ≠ dacBit n store := by omega
      have hit : bit (s.faultHits q ||| oneBit 0) (dacBit n store) = true ↔ s.FaultRecords q.ea q.store n store := by
        rw [bit_or, Bool.or_eq_true, place hn store, bit_oneBit _ _ (by omega), decide_eq_true_eq]
        exact or_iff_left away.2.2
      refine (noted _ (by omega)).trans ?_
      simp only [hit, away.1, away.2.1, false_and, or_self, and_false, or_false]
      exact or_congr_right (and_iff_right on)
    have imprecise : bit u.dbg.dbsr 0 = true := (noted 0 (by decide)).2 (.inr (.inl ⟨on, by
      rw [bit_or, bit_oneBit _ _ (by decide)]
      exact Bool.or_true _⟩))
    cases de : s.de with
    | true =>
      refine ⟨⟨fun n hn => bits hn false, fun n hn => bits hn true, fun _ => imprecise⟩, fun _ _ => ?_, ?_⟩
      · have taken : s.DebugInterrupted (u.takeDebug s.pc) := by
          rw [frame]
          exact State.debugInterrupted_takeDebug (c := (s.faultNoted q).cur) (k := s.freeCtr) rfl
        exact ⟨taken.saved, taken.mode, taken.vector, taken.awake, taken.program, taken.translation⟩
      · rintro (no | off)
        · exact absurd some no
        · exact absurd (de.symm.trans off) (by decide)
    | false =>
      have final : s.Interrupted (fault u) vector s.pc esr q.ea := by
        rw [frame]
        exact interrupted _
      refine ⟨⟨fun n hn => (later u hn false).trans (bits hn false),
          fun n hn => (later u hn true).trans (bits hn true), fun _ => ?_⟩,
        fun _ on => absurd (de.symm.trans on) (by decide), fun _ => final⟩
      obtain ⟨P, events⟩ := recorded u
      exact (events 0 (by decide)).2 (.inl imprecise)

end

end Sys2Proof.Machine
end

section
/-! SUPPORT. The faults that data address compares turn into debug interrupts, the debug pins and DEVENT (spec/61_debug.md R2211,
R2225, R2232, R2235, spec/12_state_debug.md R299). -/

namespace Sys2Proof.Machine

/-! ## The faults of the data access procedure -/

/-- The value of DBSR before it is not spoken of. -/
theorem State.Interrupted.of_withDbsr {s t : State} {d : Word} {n : Nat} {address esr dear : Word}
    (h : (s.withDbsr d).Interrupted t n address esr dear) : s.Interrupted t n address esr dear :=
  ⟨h.saved, h.mode, h.vector, h.awake, h.program, h.translation, h.frame⟩

section
variable {s : State} {q : Request} {m : Mapping} (on : s.idm = true) (quiet : s.dbg.dbcr3 = 0) (codes : s.dbg.ValueCodes)
include on quiet codes

/-- A miss, with the debug interrupt in its place when a data address compare hits. -/
theorem State.faults_missed (h : s.lookup (bit s.msr 27) q.ea = none) : ∃ t, s.translateData q = .raised t ∧
    s.FaultsWithDebug t q.ea q.store 13 (s.accessEsr q.store (q.kind == .spe)) := by
  refine ⟨_, State.translateData_missed h, State.faultsWithDebug on quiet codes (fun d => ?_) fun u => ?_⟩
  · exact ((s.withDbsr d).dataTlbError_spec (s.faultNoted q).cur s.freeCtr q.store (q.kind == .spe) q.ea).1.of_withDbsr
  · rw [State.dataTlbError, State.loadMissMas_eq]
    exact ⟨_, (State.recorded_raise _ 13).congr fun k _ => and_left_comm⟩

/-- A refused access, likewise. -/
theorem State.faults_denied (h : s.lookup (bit s.msr 27) q.ea = some m) (hp : m.permits q.store s.userMode = false) :
    ∃ t, s.translateData q = .raised t ∧ s.FaultsWithDebug t q.ea q.store 2 (s.accessEsr q.store (q.kind == .spe)) := by
  refine ⟨_, State.translateData_denied h hp, State.faultsWithDebug on quiet codes (fun d => ?_) fun u => ?_⟩
  · have plain (w : Word) : w ||| 0 = w := BitVec.or_zero
    have taken := (s.withDbsr d).interrupted_dataStorage (s.faultNoted q).cur s.freeCtr q.store (q.kind == .spe) 0 q.ea
    rw [plain] at taken
    exact taken.of_withDbsr
  · exact ⟨_, (State.recorded_raise ((u.setEsr _).setDear _) 2).congr fun k _ => and_left_comm⟩

end

/-! ## The debug pins -/

/-- Bits that both words gain are no event. -/
theorem Recorded.or_same {old new : Word} {P : Nat → Prop} {imprecise vle : Bool} (h : Recorded old new P imprecise vle)
    (w : Word) : Recorded (old ||| w) (new ||| w) P imprecise vle := by
  intro k hk
  rw [bit_or, bit_or, Bool.or_eq_true, Bool.or_eq_true, h k hk, or_right_comm]

/-- What a step of the counters records, CNT1TRG apart (R2230). -/
theorem State.recorded_countEvents {s : State} {old : DebugRegs} (on : bit old.dbcr0 1 = true) (de : Bool) (e : CountEvents) :
    Recorded (s.dbg.dbsr ||| if (s.counted old e).2.2.2 then 1 else 0) (s.countEvents old de e).dbg.dbsr
      (fun k => (k = 23 ∧ (s.counted old e).2.1 = true ∧ bit old.dbcr0 23 = true) ∨
        (k = 24 ∧ (s.counted old e).2.2.1 = true ∧ bit old.dbcr0 24 = true)) (!de) false := by
  intro k hk
  have last : (1 : Word) = oneBit 31 := by decide
  have trigger (c : Bool) : bit (if c then 1 else 0) k = true ↔ k = 31 ∧ c = true := by
    rw [last]
    exact bit_when_oneBit hk
  have some (A B : Prop) : (∃ j, j < 32 ∧ ((j = 23 ∧ A) ∨ (j = 24 ∧ B))) ↔ A ∨ B :=
    ⟨fun ⟨_, _, h⟩ => h.imp And.right And.right, fun h => h.elim (fun a => ⟨23, by decide, .inl ⟨rfl, a⟩⟩)
      fun b => ⟨24, by decide, .inr ⟨rfl, b⟩⟩⟩
  rw [State.bit_countEvents on de e hk, bit_or, Bool.or_eq_true, trigger, some]
  simp only [or_assoc, Bool.not_eq_true', Bool.false_eq_true, and_false, or_false, and_comm (a := _ ∨ _), and_assoc]

section
variable (s : State) (p : Pins)

/-- The edges of p_ude, p_devt1 and p_devt2 that DBSR records (R2232, R2235). -/
def State.pinEvents : Word :=
  when (!s.pins.ude && p.ude) (oneBit 1) ||| when (!s.pins.devt1 && p.devt1 && bit s.dbg.dbcr0 21) (oneBit 21) |||
    when (!s.pins.devt2 && p.devt2 && bit s.dbg.dbcr0 22) (oneBit 22)

/-- The edges that the counters see. -/
def State.pinCounts : CountEvents :=
  { noCountEvents with devt1 := !s.pins.devt1 && p.devt1, devt2 := !s.pins.devt2 && p.devt2 }

/-- New pin levels before the counters see their edges. -/
def State.pinsRecorded : State :=
  let t := (s.samplePins p).record (s.pinEvents p) false
  { t with
    outputs := t.outputs ++ (if !s.pins.devt1 && p.devt1 && s.idm then [OutputEvent.watchpoint 10] else []) ++
      (if !s.pins.devt2 && p.devt2 && s.idm then [OutputEvent.watchpoint 11] else []) }

theorem State.setPins_recorded : s.setPins p =
    if s.debugHalt then s.pinsRecorded p else (s.pinsRecorded p).countEvents s.dbg s.de (s.pinCounts p) := rfl

/-- An edge of p_devt1 (0) or p_devt2 (1). -/
def State.Edge (k : Nat) : Prop :=
  (k = 0 ∧ s.pins.devt1 = false ∧ p.devt1 = true) ∨ (k = 1 ∧ s.pins.devt2 = false ∧ p.devt2 = true)

theorem State.bit_pinEvents {k : Nat} (hk : k < 32) : bit (s.pinEvents p) k = true ↔
    (k = 1 ∧ s.pins.ude = false ∧ p.ude = true) ∨ (k = 21 ∧ s.Edge p 0 ∧ bit s.dbg.dbcr0 21 = true) ∨
      (k = 22 ∧ s.Edge p 1 ∧ bit s.dbg.dbcr0 22 = true) := by
  simp [State.pinEvents, State.Edge, bit_when_oneBit hk, or_assoc]

theorem State.pinCounts_number (k : Nat) : (s.pinCounts p).number k = true ↔ s.Edge p k := by
  have other (n : Nat) : ¬s.Edge p (n + 2) := by simp [State.Edge]
  match k with
  | 0 | 1 => simp [State.pinCounts, CountEvents.number, State.Edge]
  | 3 | 4 | 5 | 6 => exact iff_of_false (by simp [CountEvents.number, State.pinCounts, noCountEvents]) (other _)
  | 2 | 7 | 8 | 9 | 10 | 11 | 12 | n + 13 => exact iff_of_false Bool.false_ne_true (other _)

theorem State.pinsRecorded_frame : (s.pinsRecorded p).cur = s.cur ∧
    (s.pinsRecorded p).dbg = { s.dbg with dbsr := (s.pinsRecorded p).dbg.dbsr } := by
  have dbg : (s.pinsRecorded p).dbg = ((s.samplePins p).record (s.pinEvents p) false).dbg := rfl
  refine ⟨(State.record_cur _ _ _).trans (by rw [State.samplePins_eq]), ?_⟩
  rw [dbg, State.record_dbg, State.samplePins_eq]

theorem State.pinsRecorded_off (off : s.idm = false) :
    (s.pinsRecorded p).dbg = s.dbg ∧ (s.pinsRecorded p).outputs = s.outputs := by
  have idm : (s.samplePins p).idm = false := by rwa [State.samplePins_eq]
  rw [State.pinsRecorded, State.record_off _ _ _ idm, State.samplePins_eq]
  simp [off]

theorem State.recorded_pins : Recorded s.dbg.dbsr (s.pinsRecorded p).dbg.dbsr
    (fun k => s.idm = true ∧ bit (s.pinEvents p) k = true) (!bit s.msr 22) false := by
  have recorded := State.recorded_record (s.samplePins p) (s.pinEvents p) false
  have same : (s.samplePins p).dbg = s.dbg ∧ (s.samplePins p).msr = s.msr := by
    rw [State.samplePins_eq]
    exact ⟨rfl, rfl⟩
  rw [State.idm, State.de, same.1, same.2] at recorded
  exact recorded

theorem State.mem_pinsRecorded_outputs (o : OutputEvent) : o ∈ (s.pinsRecorded p).outputs ↔ o ∈ s.outputs ∨
    (s.idm = true ∧ ((o = .watchpoint 10 ∧ s.Edge p 0) ∨ (o = .watchpoint 11 ∧ s.Edge p 1))) := by
  have outputs : ((s.samplePins p).record (s.pinEvents p) false).outputs = s.outputs := by
    rw [State.record_outputs, State.samplePins_eq]
  simp only [State.pinsRecorded, outputs, List.mem_append]
  rw [mem_if_single, mem_if_single]
  simp only [Bool.and_eq_true, Bool.not_eq_true', State.Edge]
  generalize s.idm = on
  cases on <;> simp [or_assoc, and_comm]

/-- New pin levels, as the debug unit sees them. -/
theorem State.setPins_debug (kept : s.cur.wroteDbcnt = false) :
    let t := s.setPins p
    t.dbg = { s.dbg with dbsr := t.dbg.dbsr, dbcnt := t.dbg.dbcnt } ∧
    (s.idm = false → t.dbg = s.dbg ∧ t.outputs = s.outputs) ∧
    (s.idm = true → ∃ zero1 zero2 trig,
      (s.debugHalt = true → t.dbg.dbcnt = s.dbg.dbcnt ∧ zero1 = false ∧ zero2 = false ∧ trig = false) ∧
      (s.debugHalt = false →
        CounterStepped s.dbg.dbcr3 s.dbg.dbcnt t.dbg.dbcnt (bit s.dbg.dbsr 31) (s.Edge p) zero1 zero2 trig) ∧
      Recorded (s.dbg.dbsr ||| if trig then 1 else 0) t.dbg.dbsr
        (fun k => (k = 1 ∧ s.pins.ude = false ∧ p.ude = true) ∨ (k = 21 ∧ s.Edge p 0 ∧ bit s.dbg.dbcr0 21 = true) ∨
          (k = 22 ∧ s.Edge p 1 ∧ bit s.dbg.dbcr0 22 = true) ∨ (k = 23 ∧ zero1 = true ∧ bit s.dbg.dbcr0 23 = true) ∨
          (k = 24 ∧ zero2 = true ∧ bit s.dbg.dbcr0 24 = true)) (!bit s.msr 22) false ∧
      ∀ o, o ∈ t.outputs ↔ o ∈ s.outputs ∨ (o = .watchpoint 10 ∧ s.Edge p 0) ∨ (o = .watchpoint 11 ∧ s.Edge p 1) ∨
        (o = .watchpoint 6 ∧ zero1 = true) ∨ (o = .watchpoint 7 ∧ zero2 = true)) := by
  intro t
  obtain ⟨cur, dbg⟩ := s.pinsRecorded_frame p
  have off := s.pinsRecorded_off p
  have recorded := s.recorded_pins p
  have pulsed := s.mem_pinsRecorded_outputs p
  have moved : t = if s.debugHalt then s.pinsRecorded p else (s.pinsRecorded p).countEvents s.dbg s.de (s.pinCounts p) :=
    s.setPins_recorded p
  generalize s.pinsRecorded p = u at *
  refine ⟨?_, fun idm => ?_, fun on => ?_⟩
  · rw [moved]
    split
    · rw [dbg]
    · have frame := State.countEvents_dbg_frame u s.dbg s.de (s.pinCounts p)
      rw [dbg] at frame
      exact frame
  · obtain ⟨registers, outputs⟩ := off idm
    rw [moved, State.countEvents_frozen idm, ite_self]
    exact ⟨registers, outputs⟩
  cases halt : s.debugHalt with
  | true =>
    rw [halt, if_pos rfl] at moved
    rw [moved]
    refine ⟨false, false, false, fun _ => ⟨by rw [dbg], rfl, rfl, rfl⟩, nofun, ?_, fun o => ?_⟩
    · have same : (s.dbg.dbsr ||| if false then 1 else 0) = s.dbg.dbsr := BitVec.or_zero
      rw [same]
      refine recorded.congr fun k hk => ?_
      rw [s.bit_pinEvents p hk]
      simp [on]
    · rw [pulsed]
      simp [on]
  | false =>
    rw [halt, if_neg Bool.false_ne_true] at moved
    have low : bit u.dbg.dbsr 31 = bit s.dbg.dbsr 31 := by
      have no : ¬bit (s.pinEvents p) 31 = true := by
        rw [s.bit_pinEvents p (by decide)]
        simp
      rw [Bool.eq_iff_iff]
      exact (recorded 31 (by decide)).trans (by simp [no])
    have counted : u.counted s.dbg (s.pinCounts p) = counterStep s.dbg.dbcr3 s.dbg.dbcnt (bit s.dbg.dbsr 31) (s.pinCounts p) := by
      rw [State.counted, State.countBase, cur, kept, State.countTriggered, low, Bool.or_self, dbg]
      rfl
    have stepped := counterStep_stepped s.dbg.dbcr3 s.dbg.dbcnt (bit s.dbg.dbsr 31) (s.pinCounts p)
      (s.pinCounts_number p)
    have dbcnt := State.countEvents_dbcnt (s := u) on s.de (s.pinCounts p)
    have outputs := State.countEvents_outputs (s := u) on s.de (s.pinCounts p)
    have counts := State.recorded_countEvents (s := u) on s.de (s.pinCounts p)
    rw [cur, kept, if_neg Bool.false_ne_true] at dbcnt
    rw [counted] at dbcnt outputs counts
    rw [moved]
    generalize counterStep s.dbg.dbcr3 s.dbg.dbcnt (bit s.dbg.dbsr 31) (s.pinCounts p) = r at *
    refine ⟨r.2.1, r.2.2.1, r.2.2.2, nofun, fun _ => ?_, ?_, fun o => ?_⟩
    · rw [dbcnt]
      exact stepped
    · exact (recorded.or_same _).trans counts (fun k hk => by rw [s.bit_pinEvents p hk]; simp only [on, true_and, or_assoc])
        fun _ => by simp
    · rw [outputs, List.mem_append, List.mem_append, mem_if_single, mem_if_single, pulsed]
      simp only [on, true_and, or_assoc, and_comm (a := o = _)]

end

/-! ## DEVENT -/

theorem getLsbD_low_byte (v : Word) {k : Nat} (hk : k < 8) : (bits 24 8 v).getLsbD k = bit v (31 - k) := by
  have inside : 31 - k < 32 := by omega
  have place : 32 - 1 - (31 - k) = 32 - 24 - 8 + k := by omega
  rw [bits, BitVec.getLsbD_extractLsb', bit, BitVec.getMsbD, place, decide_eq_true hk, decide_eq_true inside]

/-- DEVENT written: the outputs that pulse (R299). -/
theorem State.mem_writeDevent_outputs (s : State) (v : Word) (o : OutputEvent) : o ∈ (s.writeDevent v).outputs ↔
    o ∈ s.outputs ∨ (o = .devnt (bits 24 8 v) ∧ bits 24 8 v ≠ 0) ∨
      ∃ k, k < 4 ∧ bit v (31 - k) = true ∧ o = .watchpoint ([12, 13, 20, 21].getD k 0) := by
  have pulse : o ∈ (if bits 24 8 v = 0 then [] else [OutputEvent.devnt (bits 24 8 v)]) ↔
      o = .devnt (bits 24 8 v) ∧ bits 24 8 v ≠ 0 := by
    split
    · next zero => exact iff_of_false List.not_mem_nil fun h => h.2 zero
    · next nonzero => rw [List.mem_singleton, and_iff_left nonzero]
  have marks : o ∈ ([(0, 12), (1, 13), (2, 20), (3, 21)] : List (Nat × Nat)).filterMap (fun p =>
      if (bits 24 8 v).getLsbD p.1 then some (OutputEvent.watchpoint p.2) else none) ↔
      ∃ k, k < 4 ∧ bit v (31 - k) = true ∧ o = .watchpoint ([12, 13, 20, 21].getD k 0) := by
    have pairs : ∀ p ∈ ([(0, 12), (1, 13), (2, 20), (3, 21)] : List (Nat × Nat)),
        p.1 < 4 ∧ p.2 = [12, 13, 20, 21].getD p.1 0 := by decide
    have listed : ∀ k, k < 4 →
        (k, [12, 13, 20, 21].getD k 0) ∈ ([(0, 12), (1, 13), (2, 20), (3, 21)] : List (Nat × Nat)) := by decide
    rw [List.mem_filterMap]
    constructor
    · rintro ⟨p, mem, h⟩
      obtain ⟨small, place⟩ := pairs p mem
      split at h
      · next on =>
        rw [getLsbD_low_byte v (by omega)] at on
        exact ⟨p.1, small, on, by rw [← place, Option.some.inj h]⟩
      · exact nomatch h
    · rintro ⟨k, small, on, rfl⟩
      exact ⟨_, listed k small, if_pos ((getLsbD_low_byte v (by omega)).trans on)⟩
  rw [State.writeDevent, List.mem_append, List.mem_append, pulse, marks, or_assoc]

end Sys2Proof.Machine

namespace Sys2Proof.Proofs
open Sys2Proof.Machine

/-- Settles O20: what suppresses the instruction, the compares, the end of an instruction, faults, interrupts, pins and DEVENT,
each by its lemma. -/
theorem debugEventsInstead : Obligations.DebugEventsInstead := by
  unfold Obligations.DebugEventsInstead
  refine ⟨fun s li bo bi bd tcond ra rb si => ⟨fun now => ?_, fun now => ⟨fun met => ?_, fun met => ?_⟩,
      fun hs now => ⟨State.runs_returnEvent hs now (exec_rfi s), State.runs_returnEvent hs now (exec_seRfi s)⟩,
      fun hs now => ⟨State.runs_criticalReturnEvent hs now (exec_rfci s), State.runs_criticalReturnEvent hs now (exec_seRfci s)⟩,
      fun off => ⟨fun met => ?_, fun met => ?_, fun hs => ⟨State.runs_returnDelayed off hs (exec_rfi s),
        State.runs_returnDelayed off hs (exec_seRfi s), State.runs_criticalReturnDelayed off hs (exec_rfci s),
        State.runs_criticalReturnDelayed off hs (exec_seRfci s)⟩⟩⟩,
    State.withIacHits_spec, fun s b ready on de event => State.step_iacEvent ready on de event,
    fun s before => ⟨s.finish_off, fun on codes => ⟨_, _, _, _, s.finished_finish on codes⟩⟩, ?_, ?_,
    fun s c vector address => ⟨s.takeInterrupt_cur c vector address, s.recorded_takeInterrupt c vector address,
      s.takeInterrupt_dbg c vector address⟩, fun s p kept => s.setPins_debug p kept, ?_⟩
  · have branch {taken : Bool} (ht : taken = true) {i : Instr} {link : Bool} {ctr target : Word}
        (h : exec i s = s.branch taken link ctr target) := State.runs_branchEvent now ht h
    exact ⟨branch rfl rfl, branch rfl rfl, branch rfl rfl, branch rfl rfl, fun taken =>
      have ht := (s.branchTaken_iff bo bi).2 taken
      ⟨branch ht rfl, branch ht rfl, branch ht rfl, branch ht rfl, branch ht rfl, branch ht rfl, branch ht rfl,
        branch ht rfl⟩⟩
  · exact State.runs_trapEvent now ((trapCondition_iff tcond _ _).2 met) rfl
  · exact State.runs_trapEvent now ((trapCondition_iff tcond _ _).2 met) rfl
  · exact State.runs_trapDelayed off ((trapCondition_iff tcond _ _).2 met) rfl
  · exact State.runs_trapDelayed off ((trapCondition_iff tcond _ _).2 met) rfl
  · intro s ea n kind m m2 image made
    refine ⟨fun can => ?_, fun can => ?_⟩
    · obtain ⟨t, loaded, -, accesses⟩ := State.loadBytes_shown can kind
      exact ⟨t, loaded, accesses⟩
    · obtain ⟨ok, t, stored, -, accesses⟩ := State.storeImage_shown can image kind
      exact ⟨ok, t, stored, accesses⟩
  · intro s ea n value kind on quiet codes esr
    have hesr (store : Bool) : esr store = s.accessEsr store (kind == .spe) := by
      simp only [esr, State.accessEsr_eq, beq_iff_eq]
    rw [hesr, hesr]
    have loads {P : State → Prop} (h : ∃ t, s.translateData ⟨ea, n, false, kind⟩ = .raised t ∧ P t) :
        ∃ t, s.load ea n kind = .raised t ∧ P t :=
      h.imp fun t h => ⟨State.load_raised h.1, h.2⟩
    have stores {P : State → Prop} (h : ∃ t, s.translateData ⟨ea, n, true, kind⟩ = .raised t ∧ P t) :
        ∃ t, s.store ea n value kind = .raised t ∧ P t :=
      h.imp fun t h => ⟨State.store_raised h.1, h.2⟩
    exact ⟨fun h => ⟨loads (State.faults_missed on quiet codes h), stores (State.faults_missed on quiet codes h)⟩,
      fun m h => ⟨fun hp => loads (State.faults_denied on quiet codes h hp),
        fun hp => stores (State.faults_denied on quiet codes h hp)⟩⟩
  · intro s r f hf
    have written : s.writeSpr (numberOf f) (s.r r) = some (s.writeDevent (s.r r)) := by rw [hf]; rfl
    have user : (numberOf f).testBit 4 = true → s.userMode = false := by rw [hf]; exact fun h => absurd h (by decide)
    exact ⟨_, exec_mtspr_of_writeSpr user (by rw [hf]; decide) written, s.mem_writeDevent_outputs (s.r r), rfl⟩

end Sys2Proof.Proofs
end
